-- ==== Sys2Proof/Word.lean ====
section
/-! DEFINITION. The word types of the SWK9632 (R9: registers are 32 or 64 bits) and the plainest
shapes the other files share: owner codes, bytes, sparse tables. -/

namespace Sys2Proof

/-- One byte of a memory. -/
abbrev Byte := BitVec 8

/-- A 32-bit register value (R9). -/
abbrev W32 := BitVec 32

/-- A 64-bit register value, or the home of a 32-bit one (R9). -/
abbrev W64 := BitVec 64

/-- An owner code (R25, R32). -/
abbrev Code := BitVec 8

/-- A table that lists only the keys whose value differs from what an unlisted key holds:
keys strictly rising, no default value listed (the canonical form of `Sparse.wf`). -/
abbrev Sparse (α : Type) := List (Nat × α)

end Sys2Proof
end

