-- ==== Sys2Proof/Syntax.lean ====
section
/-! DEFINITION. The commands and events of the block: one constructor of `Instr` for each row of the
table of operations (opcode_table.json), with the operands the row's rules name. The table gives the
rows no bits, so nothing here is an encoding. -/

namespace Sys2Proof

/-- A register's place (R22, R26): function, page and byte offset within the page. -/
structure RegAddr where
  func : Nat
  page : Nat
  off  : Nat
deriving DecidableEq, Repr

/-- Source operand of a Crook ALU instruction: form R, I8 (sign-extended) or I32 (R354, R357). -/
inductive Opnd where
  | reg (s : Nat)
  | imm8 (v : BitVec 8)
  | imm32 (v : BitVec 32)
deriving DecidableEq, Repr

/-- Displacement of a Crook memory instruction: form M16 or M32 (R354). -/
inductive Disp where
  | d16 (v : BitVec 16)
  | d32 (v : BitVec 32)
deriving DecidableEq, Repr

/-- Branch distance: form B8 or B32 (R354). -/
inductive Rel where
  | r8 (v : BitVec 8)
  | r32 (v : BitVec 32)
deriving DecidableEq, Repr

/-- Access size of LD, ST and STI: SZB, SZH or no size prefix (R355). -/
inductive AccSize where
  | b | h | w
deriving DecidableEq, Repr

/-- The two list classes of the blitter (chapter "Blitter"). -/
inductive BltClass where
  | race | batch
deriving DecidableEq, Repr

/-- What an engine fetched from PASTURE (R116, R124). -/
inductive FetchKind where
  | tile | map | bitmap
deriving DecidableEq, Repr

/-- What a field port's receiver took from the line: an asynchronous character with its line errors
(R246), a byte between flags, or a flag with the number of bits left over since the last whole byte
(R247, R261). -/
inductive RxChar where
  | char (b : BitVec 8) (framing parity : Bool)
  | byte (b : BitVec 8)
  | flag (extraBits : Nat)
deriving DecidableEq, Repr

/-- The kind of one paddock access (R387). -/
inductive PadKind where
  | read | write | set | clear
deriving DecidableEq, Repr

/-- One access presented to a paddock bank in one fc: its port (0 to 7 cores, 8 fabric), its kind, the
byte offset, its length for a read, its bytes with their enables, and on the fabric port the core of another cluster
it comes from, if it does (R387, R390). -/
structure PadReq where
  port : Nat
  kind : PadKind
  off  : Nat
  len  : Nat
  data : List (Option (BitVec 8))
  core : Option Nat := none
deriving DecidableEq, Repr

/-- The configuration-space registers the spec gives a content: a base address register slot (R22), the command
register and the MSI-X control (R449), DVSEC Range 1 (R450), the DVSEC control that holds Cache_Enable (R453); any other register, by its offset. -/
inductive CfgReg where
  | bar (slot : Nat)
  | command
  | msix
  | range1
  | cacheCtl
  | other (off : Nat)
deriving DecidableEq, Repr

/-- The uncorrectable error among the reads of one step of a blitter command: the read of the command itself, or that
for the pixel after `n` others of the step in scan order (R236, R240). -/
inductive BltErr where
  | none
  | list
  | data (n : Nat)
deriving DecidableEq, Repr

/-- One inbound relay entry as read from host memory: its 64 bytes (R458). -/
abbrev RelayLine := List (BitVec 8)

/-- The commands and events: one constructor per row of the table. `wr` is the owner code of a write's
source (R25); `value` is the word written. -/
inductive Instr where
  -- register writes, owners, fences (chapters 02 and 18)
  | registerWrite (a : RegAddr) (size : Nat) (value : BitVec 64) (wr : Code)
  | halfWrite (a : RegAddr) (high : Bool) (value : BitVec 32) (wr : Code)
  | lock (func page : Nat) (value : BitVec 32) (wr : Code)
  | ownerWrite (func page : Nat) (value : BitVec 32) (wr : Code)
  | histClear (func page : Nat) (wr : Code)
  | repeatWindowEnd (func page : Nat) (code : BitVec 16)
  | ownValueWrite (value : BitVec 32)
  | ownFence
  | ownUnfence
  | fenceReq (func page : Nat) (value : BitVec 32) (wr : Code)
  | unfence (func page : Nat) (value : BitVec 32) (wr : Code)
  | fenceComplete (func page : Nat)
  | wdogKick (value : BitVec 32)
  | wdogCfgWrite (value : BitVec 32)
  | wdogExpired
  -- data ports, history window, host memory
  | dataPortWrite (port off : Nat) (bytes : List (Option (BitVec 8))) (wr : Code)
  | dataPortRead (port off len : Nat) (wr : Code)
  | datAddrWrite (port : Nat) (burst : Bool) (value : BitVec 64) (wr : Code)
  | datEnClear (port : Nat) (value : BitVec 32) (wr : Code)
  | datOwnerWrite (port : Nat) (value : BitVec 32) (wr : Code)
  | histWinBaseWrite (value : BitVec 64) (wr : Code)
  | windowMoveDone
  | hdmRead (hostAddr len : Nat) (poison : Bool := false)
  | hdmWrite (hostAddr : Nat) (bytes : List (BitVec 8))
  | patiencePromotion (cls waited : Nat) (chan : Option Nat)
  -- clocks, power, start-up (chapter 03)
  | refOk
  | pllLock
  | refLoss
  | refReturn
  | targetWrite (pd : Nat) (value : BitVec 32) (wr : Code)
  | entryCommit (pd : Nat)
  | entryComplete (pd : Nat)
  | wakePin (k : Nat) (level : Bool)
  | alarmMatch
  | wakeComplete (pd : Nat)
  | plevelWrite (pd : Nat) (value : BitVec 32) (wr : Code)
  | plevelDone (pd : Nat)
  | trainRequest (value : BitVec 32) (wr : Code)
  | trainForce (value : BitVec 32) (wr : Code)
  | driftRetrain (drift : Nat)
  | retrainStart
  | retrainDone
  | coldStart (straps : BitVec 4)
  | trainingComplete
  | warmReset (slowPeriods : Nat)
  | powerOnReset
  | start (value : BitVec 32) (wr : Code)
  | validationDone
  | starting (copyFault : Bool)
  -- pasture engines, line lists, beam (chapters 04 to 07)
  | lineStart (pe : Nat)
  | lineComplete (pe : Nat)
  | pastureFetchDone (pe : Nat) (kind : FetchKind) (addr : Nat) (err : Bool)
  | palDataWrite (pe : Nat) (value : BitVec 64) (wr : Code)
  | layerHoldWrite (pe : Nat) (value : BitVec 32) (wr : Code)
  | flkDataWrite (pe : Nat) (value : BitVec 32) (wr : Code)
  | flkHoldWrite (pe : Nat) (value : BitVec 32) (wr : Code)
  | beamLine (head : Nat)
  | scanDeadline (head : Nat)
  | lookaheadWrite (head : Nat) (value : BitVec 32) (wr : Code)
  | llFetchDone (head : Nat) (err : Bool)
  | lutDataWrite (pe : Nat) (value : BitVec 32) (wr : Code)
  | sapDataWrite (head : Nat) (value : BitVec 32) (wr : Code)
  | sapPaletteWrite (head bank entry : Nat) (value : BitVec 64) (wr : Code)
  | sapFlip (head : Nat) (value : BitVec 32) (wr : Code)
  | sapCopy (head : Nat) (value : BitVec 32) (wr : Code)
  | sapCopyDone (head : Nat)
  | sapLearn (head : Nat) (value : BitVec 32) (wr : Code)
  | signatureCheck (head : Nat)
  | wbDone (head : Nat)
  -- heads, video ports, relief (chapter 08)
  | headEnable (head : Nat) (value : BitVec 32) (wr : Code)
  | headDisable (head : Nat) (value : BitVec 32) (wr : Code)
  | linkTrain (port : Nat) (wr : Code)
  | linkDrop (port : Nat) (wr : Code)
  | linkTrainingDone (port : Nat) (rate : Option Nat)
  | hpdChange (port : Nat) (level : Bool)
  | hpdIrq (port : Nat) (statusLost : Bool)
  | auxGo (port : Nat) (value : BitVec 32) (wr : Code)
  | auxDone (port result : Nat) (data : List (BitVec 8))
  | syncEvent (head : Nat)
  | syncLost (head : Nat)
  | bistReq (pe : Nat) (wr : Code)
  | bistForce (pe : Nat) (wr : Code)
  | bistDone (pe failCode : Nat)
  | relResume (value : BitVec 32) (wr : Code)
  -- blitter (chapter 09)
  | raceSubmit (value : BitVec 64) (wr : Code)
  | batchSubmit (value : BitVec 64) (wr : Code)
  | bltNop (cls : BltClass) (err : Bool)
  | bltCopy (cls : BltClass) (err : BltErr) (rows : Option Nat := none)
  | bltFill (cls : BltClass) (err : BltErr) (rows : Option Nat := none)
  | bltExpand (cls : BltClass) (err : BltErr) (rows : Option Nat := none)
  | bltBlend (cls : BltClass) (err : BltErr) (rows : Option Nat := none)
  | bltConvert (cls : BltClass) (err : BltErr) (rows : Option Nat := none)
  | bltWaitline (cls : BltClass) (err : Bool)
  | bltWaitlineDone (cls : BltClass)
  | bltPalette (cls : BltClass) (err : BltErr)
  | bltSignal (cls : BltClass) (err : Bool)
  | bltLink (cls : BltClass) (err : Bool)
  | bltEnd (cls : BltClass) (err : Bool)
  | raceLate
  | paceDeadtimeEnd (cls : BltClass)
  | raceResume (wr : Code)
  | batchResume (wr : Code)
  | raceFlush (wr : Code)
  | batchFlush (wr : Code)
  -- field ports (chapter 10)
  | fpEnable (fp : Nat) (value : BitVec 32) (wr : Code)
  | fpDisable (fp : Nat) (value : BitVec 32) (wr : Code)
  | rxCharacter (fp : Nat) (ch : RxChar) (idlePc : Nat)
  | rxBreak (fp : Nat)
  | rxGapTimeout (fp : Nat)
  | t35Silence (fp : Nat)
  | cdChange (fp : Nat) (level : Bool)
  | txHeadWrite (fp : Nat) (value : BitVec 32) (wr : Code)
  | rxTailWrite (fp : Nat) (value : BitVec 32) (wr : Code)
  | txDescriptorTake (fp : Nat)
  | txNotBefore (fp : Nat)
  | lbtQuiet (fp : Nat)
  | keyupEnd (fp : Nat)
  | txLastBit (fp : Nat)
  | tailEnd (fp : Nat)
  | txTimeout (fp : Nat)
  -- check-value units
  | cvSrcWrite (cv : Nat) (value : BitVec 32) (wr : Code)
  | feed8 (cv : Nat) (value : BitVec 32) (wr : Code)
  | feed32 (cv : Nat) (value : BitVec 32) (wr : Code)
  | feed64 (cv : Nat) (value : BitVec 64) (wr : Code)
  | finish (cv : Nat) (value : BitVec 32) (wr : Code)
  | ctxSave (cv : Nat) (value : BitVec 32) (wr : Code)
  | ctxLoad (cv : Nat) (value : BitVec 32) (wr : Code)
  | ctxDone (cv : Nat)
  | selfcheck (cv : Nat) (value : BitVec 32) (wr : Code)
  | selfcheckDone (cv defectRow : Nat)
  -- request rings, commits, commands (chapter 11)
  | crEnWrite (ring : Nat) (value : BitVec 32) (wr : Code)
  | crHeadWrite (ring : Nat) (value : BitVec 32) (wr : Code)
  | crResTailWrite (ring : Nat) (value : BitVec 32) (wr : Code)
  | crOwnerWrite (ring : Nat) (value : BitVec 32) (wr : Code)
  | commitTake (err : Bool)
  | commitApply
  | commandRequest (err : Bool)
  | channelGrant (txn : Nat)
  | selectToExpiry (txn : Nat)
  | windowExpiry (txn : Nat)
  | operateToExpiry (txn : Nat)
  | feedbackToExpiry (txn : Nat)
  | cancel (value : BitVec 32) (wr : Code)
  | execute (value : BitVec 32) (wr : Code)
  | authorityLoss
  -- journal and mirror (chapter 12)
  | flushWaitExpiry
  | windowWriteDone (window ok : Bool)
  | gpfPhase1
  | gpfPhase2
  | pwrfail
  | userCmd (value : BitVec 32) (wr : Code)
  | cpMark (wr : Code)
  | cpGo (wr : Code)
  | cpDone (ok : Bool)
  | replaySetseq (wr : Code)
  | replayGo (wr : Code)
  | replayDone (memErr : Bool)
  | claim (value : BitVec 32) (wr : Code)
  | handover (value : BitVec 32) (wr : Code)
  | claimTimeout
  | promotionTimeout
  | roleChange
  | isolateHoldEnd
  | arbInChange (level : Bool)
  | mirrorLinkUp
  | hello (crcOk : Bool) (side compat role : BitVec 8) (authority : Bool) (epoch : BitVec 32) (nextSeq : BitVec 64)
  | heartbeat (crcOk : Bool) (role : BitVec 8) (authority : Bool) (epoch : BitVec 32) (nextSeq appliedNext : BitVec 64)
  | heartbeatSend
  | heartbeatMiss
  | journalFrame (crcOk : Bool) (bytes : List (BitVec 8))
  | ack (crcOk : Bool) (ackedNext : BitVec 64)
  | ackTimeout
  | relinquish (crcOk : Bool) (epoch : BitVec 32) (lastSeq : BitVec 64)
  | take (crcOk : Bool) (epoch : BitVec 32)
  | resyncReq (crcOk : Bool) (lastSeq : BitVec 64) (crc : BitVec 32)
  | cpData (crcOk : Bool) (off : BitVec 64) (bytes : List (BitVec 8))
  | cpEnd (crcOk : Bool) (seq length : BitVec 64) (bodyCrc : BitVec 32)
  | lineSyncMarker (mode : Nat) (frame : BitVec 48)
  | resyncLoaded (wr : Code)
  -- Crook instructions (chapter 13); `c` is the core that issues the instruction
  | nop (c : Nat)
  | halt (c : Nat)
  | iflush (c : Nat)
  | fence (c : Nat)
  | ret (c : Nat)
  | reti (c : Nat)
  | dup (c : Nat)
  | drop (c : Nat)
  | swap (c : Nat)
  | over (c : Nat)
  | ei (c : Nat)
  | di (c : Nat)
  | trap (c : Nat) (imm : BitVec 8)
  | mov (c d : Nat) (b : Opnd)
  | add (c d : Nat) (b : Opnd)
  | sub (c d : Nat) (b : Opnd)
  | adc (c d : Nat) (b : Opnd)
  | sbc (c d : Nat) (b : Opnd)
  | and (c d : Nat) (b : Opnd)
  | or (c d : Nat) (b : Opnd)
  | xor (c d : Nat) (b : Opnd)
  | shl (c d : Nat) (b : Opnd)
  | shr (c d : Nat) (b : Opnd)
  | sar (c d : Nat) (b : Opnd)
  | rol (c d : Nat) (b : Opnd)
  | cmp (c d : Nat) (b : Opnd)
  | tst (c d : Nat) (b : Opnd)
  | not (c d r : Nat)
  | neg (c d r : Nat)
  | mul (c d r : Nat)
  | mulhu (c d r : Nat)
  | mulhs (c d r : Nat)
  | divu (c d r : Nat)
  | divs (c d r : Nat)
  | remu (c d r : Nat)
  | rems (c d r : Nat)
  | par (c d r : Nat)
  | brev (c d r : Nat)
  | brevb (c d r : Nat)
  | clz (c d r : Nat)
  | popc (c d r : Nat)
  | bswap (c d r : Nat)
  | crcb (c ctx r : Nat)
  | crcw (c ctx r : Nat)
  | crcf (c d ctx : Nat)
  | crci (c ctx : Nat)
  | mfs (c d : Nat) (index : BitVec 8)
  | mts (c : Nat) (index : BitVec 8) (r : Nat)
  | waitl (c d r : Nat)
  | waitlWake (c : Nat)
  | ld (c d base : Nat) (disp : Disp) (size : AccSize) (sx ord : Bool)
  | st (c base : Nat) (disp : Disp) (r : Nat) (size : AccSize) (ord : Bool)
  | sti (c base : Nat) (disp imm : BitVec 32) (size : AccSize) (ord : Bool)
  | bcc (c : Nat) (cc : BitVec 4) (rel : Rel)
  | call (c : Nat) (rel : BitVec 32)
  | callr (c r : Nat)
  | jmpr (c r : Nat)
  | push (c r : Nat)
  | pop (c d : Nat)
  | pushi (c : Nat) (imm : BitVec 32)
  | pushm (c : Nat) (mask : BitVec 16)
  | popm (c : Nat) (mask : BitVec 16)
  | interruptEntry (c : Nat)
  | nudge (c : Nat) (value : BitVec 32) (wr : Code)
  | coreEnable (c : Nat) (value : BitVec 32) (wr : Code)
  | loadReturn (c idx : Nat)
  | storeDrain (c idx : Nat)
  | paddockCycle (pk : Nat) (reqs : List PadReq) (ecc : List (Nat × Bool))
  -- annunciation audio (chapter 15)
  | audioEnable (value : BitVec 32) (wr : Code)
  | sampleBoundary (sdi : List (BitVec 32))
  | voiceStart (voice : Nat) (param : BitVec 32) (wr : Code)
  | voiceRelease (voice : Nat) (param : BitVec 32) (wr : Code)
  | voiceStop (voice : Nat) (param : BitVec 32) (wr : Code)
  | voicePreload (voice : Nat) (param : BitVec 32) (wr : Code)
  | pcmFetchDone (voice : Nat) (err : Bool)
  | durationEnd (voice : Nat)
  | cadenceToggle (voice : Nat)
  | prDataWrite (value : BitVec 32)
  -- interrupts, drover, time base (chapter 16)
  | doorbell (value : BitVec 32) (wr : Code)
  | interruptDelivery (group : Nat)
  | holdoffEnd (group : Nat)
  | coalWindowEnd (group : Nat)
  | dvGo (dv : Nat) (wr : Code)
  | dvStop (dv : Nat) (wr : Code)
  | droverBeat (err collided : Bool)
  | dvDone (dv : Nat)
  | compareMatch (cmp : Nat)
  | catchUp (cmp : Nat)
  | calWindowEnd (count : Nat)
  -- host attachment (chapter 17)
  | cxlLinkUp (rate width : Nat) (flit256 cacheMem ideIo ideCm : Bool)
  | cxlReset
  | configRequest (func : Nat := 0) (reg : CfgReg := .command) (data : Option (BitVec 32) := none)
  | hdmCommit (base : BitVec 64) (sizeBytes : Nat)
  | vectorUnmask (vector : Nat)
  | ideFault
  | irHeadWrite (ring : Nat) (value : BitVec 32) (wr : Code)
  | relayInboundFrame (ring : Nat) (lines : List RelayLine) (fail : Bool)
  | relayOutboundFrame (ring : Nat) (fail : Bool)
  | rtxHeadWrite (value : BitVec 32) (wr : Code)
  | orTailWrite (ring : Nat) (value : BitVec 32) (wr : Code)
  -- pins and thermal (chapter 19)
  | pinCfgWrite (pin : Nat) (value : BitVec 32) (wr : Code)
  | gpioOutWrite (bank : Nat) (oe : Bool) (value : BitVec 32) (wr : Code)
  | gpioSet (bank : Nat) (value : BitVec 32) (wr : Code)
  | gpioClr (bank : Nat) (value : BitVec 32) (wr : Code)
  | gpioTog (bank : Nat) (value : BitVec 32) (wr : Code)
  | bankChange (bank : Nat) (level : BitVec 2)
  | i2cGo (port : Nat) (value : BitVec 32) (wr : Code)
  | i2cDone (port : Nat) (nack : Bool) (data : BitVec 32)
  | i2cTimeout (port : Nat)
  | spiGo (port : Nat) (value : BitVec 32) (wr : Code)
  | spiDone (port : Nat) (rx : BitVec 32)
  | hot (temp : BitVec 12)
  | crit (temp : BitVec 12)
  | trip
  -- rows added at the end of the table
  | illegal (c : Nat)
  | fetchFault (c : Nat)
  | hdlcAbort (fp : Nat)
  | mirrorLinkLoss
deriving DecidableEq, Repr

end Sys2Proof
end

