-- ==== Sys2Proof/Decode.lean ====
section
/-! DEFINITION. The block has no instruction decoder; its commands come from outside. The table of
operations gives its rows no bits, so no word spells a command (log entry 6). -/

namespace Sys2Proof

/-- The command a word spells by the table's bits: no row has bits. -/
def decodeTableWord (_nbits _w : Nat) : Option Instr := none

end Sys2Proof
end

