-- ==== Sys2Proof/Config.lean ====
section
/-! DEFINITION. The free values: what the spec leaves open and the machine goes on with. Each is an opaque
constant without a body, applied to the counter `freeCtr` of State or to the operands it depends on, so
nothing can be proved of its value (log entry 3). -/

namespace Sys2Proof

/-- A number the spec does not state, fresh for each use. -/
opaque Config.freeNat : Nat → Nat

/-- A choice the spec does not state, fresh for each use. -/
opaque Config.freeBool : Nat → Bool

/-- The history code under which a refusal of R472 is recorded: R473 records it, no table names it
(log entry 7). -/
opaque Config.refusalCode : BitVec 16

/-- The compressor and limiter's output, given within 0.1 dB only (R410): bus, input sample and count. -/
opaque Config.dynamics : Nat → Int → Nat → Int

/-- The measured gain reduction BSTAT.GR shows (R410). -/
opaque Config.gainReduction : Nat → Int → Nat → BitVec 16

/-- A cost in cc that R13 leaves open: the stall counters of the shepherd cores. -/
opaque Config.stallCc : Nat → Nat

/-- The sign a noise voice gives bit 0 of its shift register (R399 names ± only). -/
opaque Config.noiseInvert : Bool

/-- Whether a line under composition uses the new content of a 64-byte granule that was written meanwhile
(R112 leaves each granule free): the counter and the granule. -/
opaque Config.granuleNew : Nat → Nat → Bool

/-- Where inside its 2 units of tolerance a YUV conversion lands (R107): matrix, range and channel in one
number, then Y, Cb and Cr. -/
opaque Config.yuvRound : Nat → Nat → Nat → Nat → Nat

/-- The colour a transparent tap brings into a bilinear sample (R108 names its alpha only): the counter, the
output position, the tap and channel in one number. -/
opaque Config.clearTap : Nat → Nat → Nat → Nat → Nat

end Sys2Proof
end

