-- ==== Sys2Proof/Machine/Bits.lean ====
section
/-! DEFINITION. Bits, fields and bytes of words, as the register tables of the chapters number them:
[msb:lsb], little-endian (R9). -/

namespace Sys2Proof.Machine

/-- Bit `i` of a natural number. -/
def nbit (v i : Nat) : Bool := v.testBit i

/-- The `w` bits of `v` from bit `lo` up. -/
def nfld (v lo w : Nat) : Nat := (v >>> lo) % 2 ^ w

/-- `v` with its `w` bits from `lo` replaced by the low `w` bits of `x`. -/
def nset (v lo w x : Nat) : Nat := v - (nfld v lo w) * 2 ^ lo + (x % 2 ^ w) * 2 ^ lo

/-- 1 for true, 0 for false. -/
def b2n (b : Bool) : Nat := if b then 1 else 0

/-- A field of a 64-bit register value. -/
def wfld (v : W64) (lo w : Nat) : Nat := nfld v.toNat lo w

/-- A 64-bit register value with one field replaced. -/
def wset (v : W64) (lo w x : Nat) : W64 := BitVec.ofNat 64 (nset v.toNat lo w x)

/-- The value of the low `w` bits of `v` read as two's complement. -/
def signed (w v : Nat) : Int :=
  let u := v % 2 ^ w
  if u < 2 ^ (w - 1) then (u : Int) else (u : Int) - (2 : Int) ^ w

/-- An integer as `w` bits of two's complement. -/
def unsigned (w : Nat) (x : Int) : Nat := (x % (2 : Int) ^ w).toNat

/-- `x` held inside `lo` to `hi`. -/
def clampI (lo hi x : Int) : Int := max lo (min hi x)

/-- The `n` bytes of `v`, least significant first (R9). -/
def leBytes : Nat → Nat → List Byte
  | 0, _ => []
  | n + 1, v => BitVec.ofNat 8 v :: leBytes n (v / 256)

/-- The number whose little-endian bytes are `bs`. -/
def leNat : List Byte → Nat
  | [] => 0
  | b :: bs => b.toNat + 256 * leNat bs

/-- The number whose big-endian bytes are `bs`. -/
def beNat (bs : List Byte) : Nat := bs.foldl (fun a b => a * 256 + b.toNat) 0

/-- Bytes `off` to `off + n − 1` of a byte string as a little-endian number. -/
def fieldLE (bs : List Byte) (off n : Nat) : Nat := leNat ((bs.drop off).take n)

/-- A byte string with the bytes from `off` replaced by `new`. -/
def spliceBytes (bs : List Byte) (off : Nat) (new : List Byte) : List Byte :=
  bs.take off ++ new ++ bs.drop (off + new.length)

/-- Reversal of the low `w` bits of `v`. -/
def bitRev : Nat → Nat → Nat
  | 0, _ => 0
  | w + 1, v => (v % 2) * 2 ^ w + bitRev w (v / 2)

/-- A 16-bit counter held at its top value. -/
def satInc (top v : Nat) : Nat := if v < top then v + 1 else v

/-- The last element, if any. -/
def lastOf {α : Type} (l : List α) (d : α) : α := l.getLast?.getD d

/-- Round `n / d` up. -/
def ceilDiv (n d : Nat) : Nat := (n + d - 1) / d

/-- `a` put before the first element it does not come after. -/
def insertBy {α : Type} (le : α → α → Bool) (a : α) : List α → List α
  | [] => [a]
  | b :: l => if le a b then a :: b :: l else b :: insertBy le a l

/-- A list sorted by `le`; equal elements keep their order. -/
def sortBy {α : Type} (le : α → α → Bool) (l : List α) : List α := l.foldr (insertBy le) []

/-- `f` applied to the element at index `i`. -/
def modAt {α : Type} (f : α → α) : List α → Nat → List α
  | [], _ => []
  | a :: l, 0 => f a :: l
  | a :: l, i + 1 => a :: modAt f l i

end Sys2Proof.Machine
end

