-- ==== Sys2Proof/Machine/State.lean ====
section
/-! DEFINITION. The state of the block as plain data: every register page, every memory and every queue,
counter and mode the spec gives it, and the queue of waiting commands. Registers live in `regs` under the
key of their place (`regKey`); what software cannot see as a register lives in the fields of the block it
belongs to. An unlisted entry of a `Sparse` table holds the value its accessor names (reset value, zero). -/

namespace Sys2Proof.Machine

/-- A byte memory: sparse, canonical, an unlisted byte reads 0x00 (log entries 1 and 2). -/
abbrev Mem := List Host.Cell

/-- The key of a register: function, page and offset (R22, R26) in one number. -/
def regKey (func page off : Nat) : Nat := func * 0x1000000 + page * 0x1000 + off

/-- Family variants (table "Family variants"). -/
inductive Variant where
  | fc9632 | fc9624 | fc9616
deriving DecidableEq, Repr

/-- How far start-up has come (R62, R83, R84, R493, R501). -/
inductive BootPhase where
  | held      -- PORST_N or PWRGOOD low
  | aon       -- AON out of reset, reference detector running
  | locking   -- reference present, root PLL locking
  | training  -- MAIN up, device memory training
  | up        -- training complete
  | factory   -- STRAP1 = 1: stays in BOOT (R492)
  | tripped   -- thermal trip, held until PORST_N is cycled (R501)
deriving DecidableEq, Repr

/-- One history entry (R30). -/
structure HistEntry where
  tb     : W64
  code   : BitVec 16
  seq    : BitVec 16
  detail : W32
deriving DecidableEq, Repr

/-- One repeat slot (R468): the code it watches, the fc at which its window opened, its count. -/
structure RepeatSlot where
  code  : BitVec 16
  since : Nat
  count : Nat
deriving DecidableEq, Repr

/-- A page's history queue, newest first, with its counts and repeat slots (R30, R468). -/
structure PageHist where
  entries  : List HistEntry := []
  overflow : Nat := 0
  seq      : BitVec 16 := 0
  slots    : List RepeatSlot := []
  lastFc   : Nat := 0                    -- fc of the newest entry
  lastN    : Nat := 0                    -- entries recorded in that fc (R469)
deriving DecidableEq, Repr

/-- What the last read or configuration request was answered with: bytes, poison, abort, retry. -/
inductive Response where
  | none
  | data (bytes : List Byte)
  | poison (bytes : List Byte)
  | abort
  | retry
deriving DecidableEq, Repr

/-- A queued flock write (R131); `soft` marks a software write, which FLK_HOLD holds (R132). -/
structure FlkWrite where
  word : Nat
  data : W32
  mask : W32
  soft : Bool
deriving DecidableEq, Repr

/-- A composed line in an engine's line store: its number, its compose frame, its 10-bit pixels. -/
structure LineBuf where
  line  : Nat
  frame : BitVec 48
  pix   : List W32
deriving DecidableEq, Repr

/-- A pasture engine's state beside its registers (chapters "Pastures", "Flocks", "Composition"). -/
structure Engine where
  palQ      : List (Nat × W64) := []     -- palette queue (R115)
  palWait   : List W64 := []             -- entries written while it is full, which wait on the bus (R115)
  flkQ      : List FlkWrite := []        -- flock queue, then writes that wait for room (R131, R133)
  composing : Option Nat := none         -- line whose composition is under way
  lines     : List LineBuf := []         -- line store, newest first
  startMem  : Mem := []                  -- device memory as it stood at the line start (R112)
  bad       : List Nat := []             -- granules that returned an error for this line (R110)
  blinkOff  : BitVec 8 := 0              -- latched off phases of classes 1 to 7 (R159)
  sprites   : List Nat := []             -- flock entries drawn on the latched line, index order (R126)
  invalid   : List Nat := []             -- layers failing a latch check for the line (R109)
  lutBank   : Bool := false              -- bank latched for the line (R170)
  cost      : Nat := 0                   -- cost of the latched line (R117)
  hungry    : Bool := false              -- level at which the line's fetches were issued (R52)
  once      : List Nat := []             -- once-per-frame records already made (R109, R117, R126, R127)
  granules  : Nat := 0                   -- granules read this frame (R116)
  peakCost  : Nat := 0
  dropLines : Nat := 0
  sprPeak   : Nat := 0
  sprPeakLine : Nat := 0
  forced    : Bool := false              -- forced self-test running (R220)
  failedTest : Bool := false             -- fenced after a failed self-test, no later pass (R474)
  sigRun    : W32 := 0xFFFFFFFF          -- compare signature over the lines so far (R214)
  sigCount  : Nat := 0                   -- active lines in it, from line 0 up
  sigFrame  : Option W32 := none         -- that of the last frame, where every line was composed in time
deriving DecidableEq, Repr

/-- The caches of one pasture engine, as 64-byte line numbers, most recently used first: the tile cache, the map
entries of the tile rows being composed, the bitmap granules in hand (R94, R111, R116). -/
structure Cache where
  tiles : List Nat := []
  maps  : List Nat := []
  rows  : List Nat := []
deriving DecidableEq, Repr

/-- One line-list entry in the list buffer: its words and its position in the frame's list (R150). -/
structure LLEntry where
  w0 : W32
  w1 : W32
  w2 : W32
  w3 : W32
  pos : Nat
deriving DecidableEq, Repr

/-- A scan-time entry waiting for dot 0 of its beam line (R152). -/
structure ScanEntry where
  line : Nat
  op   : Nat
  w1   : W32
  w2   : W32
deriving DecidableEq, Repr

/-- The writeback settings latched at a frame start and the capture made under them (R189 to R193). -/
structure Capture where
  active  : Bool := false
  buf     : Bool := false
  base    : W64 := 0
  pitch   : Nat := 0
  x0      : Nat := 0
  x1      : Nat := 0
  y0      : Nat := 0
  y1      : Nat := 0
  src     : Bool := false
  fmt     : Bool := false
  single  : Bool := false               -- latched with EVERY = 0
  dropped : Nat := 0
  frame   : W32 := 0
deriving DecidableEq, Repr

/-- A head's state beside its registers. -/
structure HeadSt where
  frame     : BitVec 48 := 0            -- BEAM_FRAME, 48 bits (R140, BEAM_SNAP)
  dotFc     : Nat := 0                  -- fc at dot 0 of the beam line (R145)
  begun     : Bool := false             -- dot 0 of the first line since the enable has come (R196)
  startNext : Nat := 0                  -- line whose line start comes next (R141)
  deadline  : Bool := false             -- the next line's scan deadline has passed (R143)
  idle      : Bool := true              -- stream carries idle pattern (R196, R471)
  stopping  : Bool := false             -- disabled, idle from the next line boundary (R196)
  -- line list (R149 to R155)
  llActive  : Bool := false             -- the list of a frame is being read
  llAddr    : Nat := 0
  llRead    : Nat := 0
  llLast    : Nat := 0
  llEnded   : Bool := false             -- nothing further is read this frame
  llRefused : Bool := false             -- the read after the buffered entries was refused (R154)
  llBuf     : List LLEntry := []        -- list buffer, at most 64 (R155)
  llDue     : List LLEntry := []        -- entries the waiting line start has taken from it (R155)
  llWaiting : Bool := false             -- the next line start waits for an entry (R155)
  llWaits   : Nat := 0
  scanQ     : List ScanEntry := []
  minLook   : Nat := 7
  llOnce    : Bool := false             -- LL_ERROR recorded for the frame (R154)
  sapOnce   : Bool := false             -- BAD_ENTRY recorded for the frame (R174)
  wbOnce    : Bool := false             -- WB_DROP recorded for the frame (R191)
  -- scan stage
  lastLine  : Option (List W32) := none -- most recently scanned active line of the line store (R209)
  nextPix   : List W32 := []            -- line-store pixels the scan stage reads for the next line
  sent      : List W32 := []            -- pixels of the beam line as sent
  lateFirst : Nat := 0
  lateCount : Nat := 0
  linesThisFrame : Nat := 0
  dark      : Bool := false             -- dark state (R210)
  darkEnd   : Bool := false             -- the dark state ends at the next frame start
  -- sync (R205 to R208)
  evtUsed   : Bool := false
  corr      : Int := 0                  -- E measured in this frame
  left      : Nat := 0                  -- lines left out in this frame
  short     : Nat := 0                  -- lines of the last frame's correction it could not leave out (R206)
  hold      : Option Nat := none        -- further scans of line V_total − 1 still due
  zeroRun   : Nat := 0                  -- consecutive events with E = 0
  jumping   : Bool := false             -- held at the last dot until the first event (R208)
  jumpHeld  : Bool := false             -- it has reached the last dot and holds there
  jumpAt    : Option Nat := none        -- fc at which line 0 starts after that event
  partner   : Option (BitVec 48) := none -- BEAM_FRAME of the next frame start (R337)
  partnerMm : Bool := false             -- the last marker's mode has other ticks per frame (R337)
  syncCfg   : W32 := 0x420              -- SYNC_CFG in force (R221)
  syncMode  : Nat := 10                 -- mode ACQUIRING was judged with (R207)
  outCfg    : Bool := true              -- OUT_CFG.DITHER in force (R193)
  -- Sapphire (R175 to R186)
  show_     : Bool := true
  bank      : Bool := false
  blink     : W32 := 0
  winX      : W32 := 0x0EFF0000
  winY      : W32 := 0x086F0000
  refOn     : W32 := 0
  refOff    : W32 := 0
  phaseOn   : Bool := true              -- phase of the frame's blinking cells (R175)
  sigPhase  : Bool := true              -- phase of the frame's signature (R184)
  armed     : Bool := false             -- the pending FLIP precedes line 0's scan deadline (R181)
  copyFc    : Nat := 0
  learning  : Bool := false             -- comparison suspended, references awaited (R186)
  learnOn   : Bool := false             -- on-phase reference still awaited
  learnOff  : Bool := false
  gotOn     : Bool := false             -- references this learn has captured
  gotOff    : Bool := false
  sigCrc    : W32 := 0xFFFFFFFF
  sigBroken : Bool := true              -- a line of the window went unscanned (R185)
  sigOpen   : Bool := false             -- the window is scanned and its signature not yet written
  cap       : Capture := {}
  capWait   : List Capture := []        -- complete captures whose last write is under way (R191)
  sigFenced : Bool := false             -- scan-out fenced under R184 (R474)
deriving DecidableEq, Repr

/-- A video port beside its registers: its training and its AUX transaction. -/
structure PortSt where
  trainFc : Nat := 0
  cfg     : W32 := 0x323      -- LINK_CFG as it stood when the training began (R222)
  aux     : W32 := 0          -- AUX_CMD of the transaction under way
deriving DecidableEq, Repr

/-- The relief engine's rotation (R212 to R220); the head and the phase are REL_STAT's. -/
structure Relief where
  compares : Nat := 0      -- COMPARE frames matched in this slot
  extra    : Nat := 0      -- repeated frames in this slot (R214)
  queued   : List Nat := []  -- engines with a self-test request, oldest first (R219)
  selfReq  : Bool := false   -- a request on PE32 itself
  skipCompare : Bool := false -- one more WARM, then take over without a compare (R217)
  testFailed : Bool := false  -- parked after a failed self-test (R218)
  last     : Nat := 31       -- head served last in the rotation
  served   : Bool := false   -- a slot of the present rotation has begun
  next     : Option Nat := none -- head of the next slot, awaited at its frame start
deriving DecidableEq, Repr

/-- A submitted blitter list: its address, the command next to run, the latched watermark (R238). -/
structure BltList where
  addr    : Nat
  pc      : Nat
  begun   : Bool := false
  words   : List Nat := []               -- the command in hand as read: a WAITLINE that waits, a rectangle between rows
  rowAt   : Nat := 0                     -- rows of it done, in scan order (R237)
  stop    : Bool := false                -- flushed; ends at its command boundary (R241)
  onLine  : Option (BitVec 48) := none   -- frame in which it began on its watermark's line (R238)
  wmEn    : Bool := false
  wmHead  : Nat := 0
  wmLine  : Nat := 0
  waiting : Bool := false
  late    : Bool := false
deriving DecidableEq, Repr

/-- One class of the blitter: the lists that wait, the list that runs, the requests of the present burst, the
PACE register in force for it, and the pause after it (R226, R239). -/
structure BltCls where
  queue : List BltList := []
  cur   : Option BltList := none
  burst : Nat := 0
  pace  : W32 := 64
  pause : Option Nat := none             -- fc at which the pause after a burst ends
deriving DecidableEq, Repr

/-- The blitter beside its registers (chapter "Blitter"): its two classes and the palette they share (R231,
R233). -/
structure Blitter where
  race  : BltCls := {}
  batch : BltCls := {}
  pal   : Sparse W64 := []
deriving DecidableEq, Repr

/-- Where a field port's transmitter stands in R248. -/
inductive TxPhase where
  | idle | notBefore | quiet | keyup | sending | tail | held
deriving DecidableEq, Repr

/-- Where a receive data ring stands (R252): the position of the next byte, and the lengths of the frames
whose descriptors have been written, newest first. -/
structure RxRing where
  pos  : Nat := 0
  lens : List Nat := []
deriving DecidableEq, Repr

/-- What the line marks on one received character: a framing error, a parity error, a gap before it. -/
structure LineMark where
  framing : Bool := false
  parity  : Bool := false
  gap     : Bool := false
deriving DecidableEq, Repr

/-- A field port beside its registers (chapter "Field ports and check-value units"). -/
structure FieldPort where
  rx       : List Byte := []            -- raw bytes of the frame in progress
  rxT      : List W64 := []             -- time base at the start of each
  rxE      : List LineMark := []        -- what the line marked on each (R246, R259, R260)
  inFrame  : Bool := false
  opened   : Bool := false              -- HDLC-style: an opening flag has been taken
  flagT    : W64 := 0                   -- HDLC-style: time base at the first bit after the last flag (R253)
  format   : Bool := false
  aborted  : Bool := false
  brk      : Bool := false
  cvBad    : Bool := false              -- a check value of the frame did not match
  needIdle : Bool := false              -- FT1.2: 33 bit times of idle before a new start (R260)
  ring     : RxRing := {}
  phase    : TxPhase := .idle
  txFlags  : Nat := 0                   -- FLAGS of the frame in hand
  txTime   : Nat := 0                   -- its NOT_BEFORE
  txIn     : List Byte := []            -- its bytes as supplied
  txTxn    : Option Nat := none         -- the transaction it belongs to (R306), else a queue descriptor
  txBytes  : List Byte := []            -- its bytes as sent on the line
  dispQ    : List (Nat × List Byte) := [] -- frames passed by the dispatcher (R306)
  sentLast : List Byte := []            -- the last frame sent whole
  txLine   : List Bool := []            -- TXD levels of the frame being sent, bit by bit, before TXD_INV (R246, R247)
  lineLast : List Bool := []            -- those of the last frame sent whole
  txd      : Bool := true               -- TXD level between frames, before TXD_INV: mark, or NRZI's last level
  lineFc   : Option Nat := none         -- fabric cycle at which the line last carried a character (R259)
deriving DecidableEq, Repr

/-- A check-value unit beside its registers. -/
structure CvSt where
  midFrame : List Nat := []             -- contexts that are mid-frame (R268)
  ctxCmd   : Option (Nat × Bool) := none -- CTX_MEM running: context, true = SAVE
  self     : Bool := false
deriving DecidableEq, Repr

/-- A commit taken from a ring and waiting for room (R286): its point, operation, value, quality, time. -/
structure Commit where
  point   : Nat
  op      : Nat
  refresh : Bool
  value   : W32
  quality : BitVec 16
  time    : W64
  ring    : Nat
  fc      : Nat := 0                    -- fabric cycle in which it was taken (R305)
deriving DecidableEq, Repr

/-- One brand write in the brand write buffer (R298). -/
inductive BrandWrite where
  | pal (index : Nat) (entry : W64)
  | flk (word : Nat) (data mask : W32)
deriving DecidableEq, Repr

/-- The palette and flock writes of one commit to one engine (R298). -/
structure BrandGroup where
  engine : Nat
  writes : List BrandWrite
deriving DecidableEq, Repr

/-- The commit, brand and command engines beside their registers. -/
structure PointsSt where
  nextRing : Nat := 0                    -- round-robin position over commit rings (R283)
  nextCmd  : Nat := 0                    -- and over command rings
  taken    : Option Commit := none
  stallFc  : Option Nat := none          -- fc at which the wait of the taken commit began (R286)
  buf      : List BrandGroup := []       -- brand write buffer, oldest first
deriving DecidableEq, Repr

/-- An open command transaction (R304). -/
structure Txn where
  state   : Nat := 0                     -- 0 = free
  object  : Nat := 0
  ring    : Nat := 0
  opener  : Code := 0
  tag     : W32 := 0
  tally   : BitVec 16 := 0
  hold    : Bool := false
  channel : Nat := 0
  opened  : Nat := 0                     -- opening order
  start   : W64 := 0                     -- time base at which the running timer started
  window  : W64 := 0                     -- time base at which the select window opened
  lastBit : W64 := 0                     -- time base of the last bit sent
  holds   : Bool := false                -- it holds its channel
  selAddr : Nat := 0
  selLen  : Nat := 0
  opAddr  : Nat := 0
  opLen   : Nat := 0
  sent    : List Byte := []              -- the last frame sent, in stripped form
  rearmed : Option W64 := none           -- expiry carried by a replayed entry (R326)
  mirrored : Bool := false               -- set from a journal entry (R309, R326)
deriving DecidableEq, Repr

/-- One entry of the journal buffer: its sequence number, its 64 bytes, how far it has been written. -/
structure JEntry where
  seq     : W64
  bytes   : List Byte
  staged  : Bool := false
  issued  : Bool := false               -- its window write has been issued (R319)
  retry   : Bool := false               -- its window write failed and waits for FLUSH_WAIT (R320)
  windowed : Bool := false
deriving DecidableEq, Repr

/-- The journal engine beside its registers. -/
structure Journal where
  buf     : List JEntry := []            -- journal buffer, oldest first (2,048 entries)
  user    : Bool := false               -- a USER record is pending (R317)
  userChain : List (List Byte) := []    -- its payloads
  waiting : List (Nat × List Byte) := [] -- kind and payload of entries handed over and not yet appended
  cpBusy  : Option (Nat × Nat × Nat × Nat) := none -- checkpoint being written: slot, source, length, sequence (R324)
  cpGen   : W32 := 0                    -- checkpoints written since reset
  cpOwn   : Bool := false               -- the checkpoint written is the received one (R341)
  cpNext  : Option (Nat × Nat × Nat) := none -- a received checkpoint to be written once that write ends (R341)
  replay  : Bool := false
  replayAt : Nat := 0                   -- entries of the replay under way already taken
deriving DecidableEq, Repr

/-- A frame sent on the mirror link: its TYPE and its body (R334). -/
structure LinkFrame where
  type : Nat
  seq  : W32
  body : List Byte
deriving DecidableEq, Repr

/-- The mirror block beside its registers. -/
structure Mirror where
  trained   : Bool := false              -- all four lanes trained
  helloIn   : Bool := false              -- a HELLO has been received
  sent      : List LinkFrame := []       -- frames sent, oldest first
  linkSeq   : W32 := 0
  lastHbFc  : Nat := 0                   -- fc of the last valid HEARTBEAT
  heardFc   : Nat := 0                   -- fc of the last valid HELLO or HEARTBEAT
  helloFc   : Nat := 0                   -- fc of the last HELLO sent
  lastSendFc : Nat := 0                  -- fc of the last HEARTBEAT sent
  ackFc     : Nat := 0                   -- fc of the last ACK that advanced
  takeFc    : Option Nat := none         -- TAKE sent, waiting for RELINQUISH (R330)
  relFc     : Option Nat := none         -- RELINQUISH received or sent, promotion awaited (R331)
  lastSeq   : W64 := 0                   -- L of the RELINQUISH in hand
  goal      : Option (Nat × Nat) := none -- role change whose conditions hold: role, REASON
  scheduled : Option (Nat × Nat) := none -- role change waiting for the frame start (R332)
  stopAppend : Bool := false             -- handing over: nothing further is appended (R331)
  holdFc    : Nat := 0                   -- ISOLATE_HOLD began (R329)
  arbRaw    : Bool := false
  arbHeld   : Bool := false              -- authority in ISOLATED hangs on ARB_IN (R329)
  hbOut     : Bool := false              -- HEARTBEAT_OUT level (MP113)
  saved     : Sparse Code := []          -- owners of mirrored pages before 0x7E (R34, R333)
  resyncTo  : Option W64 := none         -- entries the partner had appended when it answered (R341)
  cpWait    : Bool := false              -- checkpoint received, LOADED awaited
  cpSeq     : W64 := 0
  cpLen     : W64 := 0
  held      : List (List Byte) := []     -- received entries not yet applied, oldest first
  chain     : List (List Byte) := []     -- entries of a record not yet whole
  marker    : Option (Nat × BitVec 48) := none -- last line-sync marker sent: mode, frame (R337)
  markers   : Nat := 0                   -- markers sent
  resyncing : Bool := false              -- a RESYNC_REQ is out and not yet answered (R340)
  cpSent    : Option (Nat × Nat × Nat) := none -- checkpoint sent and not yet acknowledged: slot, sequence, length (R335)
deriving DecidableEq, Repr

/-- What a core's store or load is aimed at (chapter "Shepherd pipeline and paddocks"). -/
inductive Target where
  | pad (cluster off : Nat)
  | padSet (cluster off : Nat)
  | padClr (cluster off : Nat)
  | iram (off : Nat)
  | page (func page off : Nat)
  | port (nn off : Nat)
  | mem (addr : Nat)
  | bad
deriving DecidableEq, Repr

/-- One entry of a core's store buffer (R377). -/
structure StoreEnt where
  target : Target
  size   : Nat
  data   : W32
deriving DecidableEq, Repr

/-- A load whose data has not returned (R375): destination, target, size, sign, forwarded data. -/
structure LoadEnt where
  d      : Nat
  target : Target
  size   : Nat
  sx     : Bool
  data   : Option W32
deriving DecidableEq, Repr

/-- A CRC context of a core (R345, R361). -/
structure CrcCtx where
  cfg   : W32 := 0x20
  poly  : W32 := 0
  init  : W32 := 0
  state : W32 := 0
deriving DecidableEq, Repr

/-- A shepherd core (R345 to R369). -/
structure Core where
  g      : Sparse W32 := []
  pc     : Nat := 0
  n      : Bool := false
  z      : Bool := false
  c      : Bool := false
  v      : Bool := false
  k      : Bool := false
  ie     : Bool := false
  rprio  : Nat := 0
  ds     : List W32 := []               -- in-core data stack, top first (DSD = length)
  dsp    : W32 := 0
  dsLo   : W32 := 0
  dsHi   : W32 := 0
  rs     : List W32 := []               -- in-core return stack, top first (RSD = length)
  rsp    : W32 := 0
  rsLo   : W32 := 0
  rsHi   : W32 := 0
  evec   : W32 := 0
  ivec   : W32 := 0
  ecause : W32 := 0
  eaddr  : W32 := 0
  isrc   : W32 := 0
  dmw0   : W32 := 0
  dmw1   : W32 := 0
  cycles : W32 := 0
  crc0   : CrcCtx := {}
  crc1   : CrcCtx := {}
  crc2   : CrcCtx := {}
  crc3   : CrcCtx := {}
  stores : List StoreEnt := []          -- store buffer, oldest first
  loads  : List LoadEnt := []           -- outstanding loads, oldest first
  halted : Bool := false
  waiting : Option (Nat × Nat × Nat) := none -- WAITL: head, L0, L1
  lockup : Bool := false
  irq    : Option (Nat × Nat) := none   -- delivered source and its priority, not yet entered (R366)
  running : Bool := false               -- STATUS.RUN
deriving DecidableEq, Repr

/-- What a voice is doing (VSTAT.STATE). -/
inductive VState where
  | idle | fetch | preloaded | attack | sustain | release | stopping
deriving DecidableEq, Repr

/-- A linear ramp from `src` to `dst` over `len` samples, of which `pos` have passed. -/
structure Ramp where
  src : Int := 0
  dst : Int := 0
  len : Nat := 0
  pos : Nat := 0
deriving DecidableEq, Repr

/-- One voice of the annunciation subsystem (R399 to R407). -/
structure Voice where
  state    : VState := .idle
  phase    : W32 := 0
  noise    : BitVec 23 := 0x7FFFFF
  env      : Ramp := {}
  level    : Nat := 0
  dur      : Nat := 0                  -- samples left of DURATION, 0 = none
  gateOpen : Bool := true
  gate     : Ramp := { src := 64, dst := 64 }
  cadLeft  : Nat := 0                  -- samples left of the present ON or OFF period
  pos      : Nat := 0                  -- PCM samples played since the start or the wrap
  fetched  : Nat := 0                  -- byte offset of the next PCM fetch
  buf      : List Byte := []           -- PCM bytes that have arrived and are not played
  owed     : Nat := 0                  -- bytes of samples played late, discarded on arrival
  startOn  : Bool := false             -- START accepted while in FETCH
  sample   : Int := 0                  -- sample of this period
deriving DecidableEq, Repr

/-- A voice action in the queue (R404, R406). -/
structure VAction where
  voice : Nat
  act   : Nat
  param : W32
  wr    : Code
  rank  : Nat                          -- source order within one fc
  fc    : Nat
deriving DecidableEq, Repr

/-- A route as it sounds now: the source and destination in force, its present gain, and what fades out
beside it (R409). -/
structure RouteSt where
  src  : Nat := 0
  dst  : Nat := 0
  gain : Ramp := {}
  old  : List (Nat × Nat × Ramp) := []
deriving DecidableEq, Repr

/-- An output as it sounds now: its bus, its fade, the busses fading out, and the setting latched at the
last boundary, which the output stage reaches one sample later (R409, R411, R412). -/
structure OutSt where
  bus     : Nat := 0
  fade    : Ramp := {}
  old     : List (Nat × Ramp) := []
  nextBus : Nat := 0
  nextEn  : Bool := false
deriving DecidableEq, Repr

/-- A bus as it sounds now: its gain ramp, its last sample, its detector (R409, R410). -/
structure BusSt where
  gain   : Ramp := { src := 0x8000, dst := 0x8000 }
  sample : Int := 0
  det    : Nat := 0                    -- the compressor's peak detector, 16 fraction bits (R410)
  lim    : Nat := 0x1000000000000      -- the limiter's gain, 48 fraction bits (R410)
deriving DecidableEq, Repr

/-- The annunciation subsystem beside its registers (chapter "Annunciation audio"). -/
structure Audio where
  voices  : Sparse Voice := []
  queue   : List VAction := []
  routes  : Sparse RouteSt := []
  busses  : Sparse BusSt := []
  outs    : Sparse OutSt := []
  stage   : List W32 := []             -- slots loaded for the frame after this one
  frame   : List W32 := []             -- 32 TDM slots of the frame being sent
  waitAlign : Bool := false            -- first boundary waits for the bellwether (R396)
  dueFc   : Nat := 0                   -- fc of the next sample boundary (R19, R396)
  running : Bool := false
deriving DecidableEq, Repr

/-- An interrupt group beside its registers (R422 to R426). -/
structure Group where
  seen    : W64 := 0                    -- sources delivered or waiting since they asserted
  waiting : List (Nat × Nat × Nat) := [] -- source index, fc since which it waits, fc waited under past hold-offs
  timerFc : Nat := 0                    -- fc at which the hold-off timer started
  promoted : List Nat := []             -- promoted sources, oldest first
  freeFc  : Nat := 0                    -- fc at which the hold-off timer expires
  slotFc  : Nat := 0                    -- first fc in which the group may deliver again (R425, R426)
  window  : Option Nat := none          -- fc at which the coalescing window opened
  draining : Bool := false              -- the window has closed; its sources are being delivered
  lastCore : Nat := 63
deriving DecidableEq, Repr

/-- A drover channel beside its registers (R430 to R434). -/
structure DvSt where
  readPos  : Nat := 0                   -- bytes read so far, in element order
  writePos : Nat := 0                   -- bytes written so far
  staging  : List Byte := []            -- read and not yet written, at most 256 bytes
  moved    : Nat := 0                   -- bytes moved since it was chosen
  servedFc : Nat := 0                   -- fc it was last served; kept while it is starved
  starved  : Bool := false
deriving DecidableEq, Repr

/-- The host attachment beside its registers (chapter "Host attachment"). -/
structure HostSt where
  committed : Bool := false             -- HDM decoder committed (R450), from HDM_BASE
  decSize   : Nat := 0                  -- its bytes
  commitErr : Bool := false             -- Error Not Committed
  memInfo   : Bool := false             -- Memory_Info_Valid
  memActive : Bool := false
  tracked   : List Nat := []            -- lines the snoop filter tracks, oldest first
  open_     : List Nat := []            -- vectors whose own mask bit is clear (R449)
  msix      : Sparse W32 := []          -- address and data words of the MSI-X tables: vector × 4 + word (R448)
  bars      : Sparse W32 := []          -- base address registers: function × 8 + slot (R22)
  cfg       : Sparse W32 := []          -- command and MSI-X control: function × 2, function × 2 + 1 (R449)
  cacheEn   : Bool := false             -- DVSEC Cache_Enable (R453)
  sentMsi   : List Nat := []            -- vectors whose message has been sent, oldest first
  pba       : List Nat := []            -- vectors with the PBA bit set
  winOld    : Nat := 0                  -- HIST_WIN_BASE the window shows while MOVING (R48)
  brokenFc  : Option Nat := none        -- fc of the last RELAY_BROKEN entry (R459)
  wake      : Bool := false             -- WAKE# driven low
  orQ       : Sparse (List (Nat × Nat × List Byte)) := [] -- dispatcher frames per outbound ring: transaction, channel, bytes
deriving DecidableEq, Repr

/-- The instruction the test access port has selected (R503, IEEE 1149.1). -/
inductive JtagInstr where
  | idcode | bypass | sample | extest | clamp | highz
deriving DecidableEq, Repr

/-- The multiplexed pins and the serial controllers beside their registers (chapter 19). -/
structure Pins where
  bankV   : Sparse (BitVec 2) := []     -- sensed VDD_IO (R489)
  i2cOpen : List Nat := []              -- ports whose next CMD begins with a repeated start
  spiHeld : List Nat := []              -- ports whose chip select is held
  hpd     : List Nat := []              -- video ports whose HPD input is high
  jtag    : JtagInstr := .idcode        -- instruction in the JTAG instruction register (R503)
deriving DecidableEq, Repr

/-- A power domain beside its registers (R69 to R77). -/
structure Dom where
  commitFc : Nat := 0
  toOff    : Bool := false              -- entering OFF
  latched  : Bool := false              -- edge wake latched during entry (R70)
  onReq    : Bool := false              -- TARGET = ON written during entry (R70)
  fromOff  : Bool := false
  wakeFc   : Nat := 0
deriving DecidableEq, Repr

/-- The time base's clock (R437, R439). -/
structure Clocks where
  tbStopped : Bool := false
deriving DecidableEq, Repr

/-- The whole block. -/
structure State where
  /-- commands that wait, first in first out -/
  pending  : List Instr := []
  /-- the model's own counter behind the free values (log entry 3) -/
  freeCtr  : Nat := 0
  /-- the part: variant, highest level, stepping (R2, R5) -/
  variant  : Variant := .fc9632
  compatMax : BitVec 8 := 1
  stepping : BitVec 8 := 1
  /-- where reset and start-up stand (R62, R83, R492) -/
  phase    : BootPhase := .held
  /-- STRAP[3:0] as latched (R492) -/
  straps   : BitVec 4 := 0
  /-- MAIN and the domains are out of reset (R62) -/
  mainUp   : Bool := false
  /-- fabric cycles since the root PLL locked -/
  fc       : Nat := 0
  /-- the time base (R437) and the fabric cycles of the present tick (1 tick = 12 fc) -/
  tb       : W64 := 0
  tbFrac   : Nat := 0
  /-- registers that differ from their reset value -/
  regs     : Sparse W64 := []
  /-- pending copies of registers that transfer at a line start (R113, R149) -/
  pend     : Sparse W64 := []
  /-- held low halves: key × 256 + writer code (R505, R404) -/
  held     : Sparse W32 := []
  /-- owner codes that differ from their reset value, by page (R26, R32) -/
  owners   : Sparse Code := []
  /-- locked pages (R29) -/
  locks    : Sparse Bool := []
  /-- DEVICE.BEHAVIOUR_LOCK (R8) -/
  behaviour : BitVec 8 := 0
  /-- history queue of each page (R30, R468) -/
  hist     : Sparse PageHist := []
  /-- what the last command answered its sender -/
  resp     : Response := .none
  /-- device memory (R42), host memory as the block reaches it (R45, R457), the eight paddocks (R386) -/
  mem      : Mem := []
  hostMem  : Mem := []
  pad      : Mem := []
  /-- paddock words in error: 1 = one bit, 2 = two bits (R392) -/
  padErr   : Sparse (BitVec 2) := []
  msSeen   : Sparse Nat := []           -- per event code limited to once per 1 ms: one more than the fc last recorded (R468)
  /-- instruction RAMs (R383) and Sapphire RAMs (R173) -/
  iram     : Mem := []
  windows  : Sparse (List Byte) := []   -- the fetch window of each core: what it holds from PC on (R384)
  sapRam   : Mem := []
  /-- palettes (chapter 4), flock RAMs (R136), colour tables (R167) of the engines -/
  palette  : Sparse W64 := []
  flock    : Sparse W32 := []
  lut      : Sparse (BitVec 12) := []
  /-- pasture engines, heads, video ports beside their registers -/
  engines  : Sparse Engine := []
  caches   : Sparse Cache := []
  heads    : Sparse HeadSt := []
  ports    : Sparse PortSt := []
  relief   : Relief := {}
  /-- blitter, field ports -/
  blt      : Blitter := {}
  fps      : Sparse FieldPort := []
  /-- FIELD relay receive rings (R274) -/
  relayRx  : Sparse RxRing := []
  /-- check-value units, commit and command engines, transactions and how many were opened -/
  cvs      : Sparse CvSt := []
  points   : PointsSt := {}
  txns     : Sparse Txn := []
  txnCount : Nat := 0
  /-- journal, mirror pair, Crook cores -/
  journal  : Journal := {}
  mirror   : Mirror := {}
  cores    : Sparse Core := []
  /-- port each paddock bank served last (R388) -/
  bankLast : Sparse Nat := []
  /-- voices and busses, interrupt groups -/
  audio    : Audio := {}
  groups   : Sparse Group := []
  /-- drover channels (R430 to R435), and the one that moved last -/
  dv       : Sparse DvSt := []
  dvNext   : Nat := 0                   -- first fc in which the drover engine may issue its next beat (R432)
  dvLast   : Nat := 0
  /-- host attachment, pins, domains, clocks -/
  host     : HostSt := {}
  pins     : Pins := {}
  doms     : Sparse Dom := []
  clocks   : Clocks := {}
  /-- watchdog count in fc (R39) -/
  wdog     : Nat := 0
  /-- fc at which the retrain in progress began (R81) -/
  trainFc  : Nat := 0
deriving DecidableEq, Repr

/-- Reasons to stop. No meaning of this model stops: every row of the table has an effect the spec gives,
and an event that cannot occur in a state changes nothing there (log entry 5). The type has one reason for
the host's interface; it is safe, since nothing raises it. -/
inductive Fault where
  /-- raised by no meaning; safe -/
  | unreachable
deriving DecidableEq, Repr

/-- Reasons to refuse. -/
inductive Refusal where
  /-- raised by an arm of `exec` whose command has no meaning yet, under its mnemonic; safe -/
  | notModelled (mnemonic : String)
deriving DecidableEq, Repr

/-- The block while PORST_N is held low: every register at its reset value, every SRAM zero, nothing
waiting (R83, R493). The values the spec does not state are named in the log entries of INVENTORY.md. -/
def State.reset : State := {}

end Sys2Proof.Machine
end

