-- ==== Sys2Proof/Machine/Fields.lean ====
section
/-! DEFINITION. The names of the register fields: for each field its offset in the page, its lowest bit and
its width, as the register tables of the chapters give them. A field of a repeated register stands at its
first copy; `Fld.at` moves it to another. -/

namespace Sys2Proof.Machine

/-- A field of a register: offset, lowest bit, width. -/
structure Fld where
  off : Nat
  lo : Nat
  w : Nat
deriving DecidableEq, Repr

/-- The same field `d` bytes further on. -/
def Fld.at (f : Fld) (d : Nat) : Fld := { f with off := f.off + d }

abbrev DEVICE.ID : Fld := ⟨0x100, 0, 32⟩
abbrev DEVICE.VARIANT_HEADS : Fld := ⟨0x104, 0, 8⟩
abbrev DEVICE.VARIANT_PORTS : Fld := ⟨0x104, 8, 4⟩
abbrev DEVICE.VARIANT_CLUSTERS : Fld := ⟨0x104, 12, 4⟩
abbrev DEVICE.VARIANT_MEM : Fld := ⟨0x104, 16, 8⟩
abbrev DEVICE.VARIANT_STEPPING : Fld := ⟨0x104, 24, 8⟩
abbrev DEVICE.VARIANT : Fld := ⟨0x104, 0, 32⟩
abbrev DEVICE.BEHAVIOUR_LOCK : Fld := ⟨0x108, 0, 8⟩
abbrev DEVICE.STATE : Fld := ⟨0x10C, 0, 3⟩
abbrev DEVICE.REJECT_REASON_CODE : Fld := ⟨0x110, 0, 16⟩
abbrev DEVICE.REJECT_REASON_SECTION : Fld := ⟨0x110, 16, 8⟩
abbrev DEVICE.REJECT_REASON : Fld := ⟨0x110, 0, 32⟩
abbrev DEVICE.REJECT_DETAIL : Fld := ⟨0x114, 0, 32⟩
abbrev DEVICE.START : Fld := ⟨0x118, 0, 32⟩
abbrev DEVICE.COMPAT_MAX : Fld := ⟨0x11C, 0, 8⟩

abbrev CLOCKS.STATUS_RUN : Fld := ⟨0x00C, 0, 1⟩
abbrev CLOCKS.STATUS_DEGRADED : Fld := ⟨0x00C, 2, 1⟩
abbrev CLOCKS.STATUS_REF_OK : Fld := ⟨0x00C, 16, 1⟩
abbrev CLOCKS.STATUS_PLL_LOCK : Fld := ⟨0x00C, 17, 1⟩
abbrev CLOCKS.STATUS_HOLDOVER : Fld := ⟨0x00C, 18, 1⟩
abbrev CLOCKS.STATUS_SLOW_OK : Fld := ⟨0x00C, 19, 1⟩

abbrev POWER.INT_PEND_HOT : Fld := ⟨0x014, 0, 1⟩
abbrev POWER.INT_PEND_CRIT : Fld := ⟨0x014, 1, 1⟩
abbrev POWER.PD_CTRL_TARGET : Fld := ⟨0x100, 0, 2⟩
abbrev POWER.PD_CTRL_PLEVEL : Fld := ⟨0x100, 4, 2⟩
abbrev POWER.PD_CTRL : Fld := ⟨0x100, 0, 32⟩
abbrev POWER.PD_STATUS_STATE : Fld := ⟨0x104, 0, 3⟩
abbrev POWER.PD_STATUS_PLEVEL_NOW : Fld := ⟨0x104, 4, 2⟩
abbrev POWER.PD_STATUS_PLEVEL_BUSY : Fld := ⟨0x104, 6, 1⟩
abbrev POWER.PD_STATUS_ENTRY_PENDING : Fld := ⟨0x104, 7, 1⟩
abbrev POWER.PD_STATUS_REFUSED : Fld := ⟨0x104, 8, 1⟩
abbrev POWER.PD_STATUS_LAST_WAKE : Fld := ⟨0x104, 12, 4⟩
abbrev POWER.PD_STATUS : Fld := ⟨0x104, 0, 32⟩
abbrev POWER.PD_WAKE_PINS : Fld := ⟨0x108, 0, 16⟩
abbrev POWER.PD_WAKE_ALARM : Fld := ⟨0x108, 16, 1⟩
abbrev POWER.PD_WAKE_INTC : Fld := ⟨0x108, 17, 1⟩
abbrev POWER.PD_WAKE : Fld := ⟨0x108, 0, 32⟩
abbrev POWER.PD_OWNER : Fld := ⟨0x10C, 0, 8⟩
abbrev POWER.WAKE_PIN_CFG : Fld := ⟨0x500, 0, 32⟩
abbrev POWER.WAKE_PIN_STATE : Fld := ⟨0x504, 0, 16⟩
abbrev POWER.ALARM_NOW : Fld := ⟨0x508, 0, 32⟩
abbrev POWER.ALARM_AT : Fld := ⟨0x50C, 0, 32⟩
abbrev POWER.ALARM_CTRL_EN : Fld := ⟨0x510, 0, 1⟩
abbrev POWER.ALARM_CTRL_FIRED : Fld := ⟨0x510, 1, 1⟩
abbrev POWER.ALARM_CTRL : Fld := ⟨0x510, 0, 32⟩
abbrev POWER.THERM_TEMP : Fld := ⟨0x600, 0, 12⟩
abbrev POWER.THERM_HOT : Fld := ⟨0x600, 16, 1⟩
abbrev POWER.THERM_CRIT : Fld := ⟨0x600, 17, 1⟩
abbrev POWER.THERM : Fld := ⟨0x600, 0, 32⟩

abbrev PINS.STATUS_CONFLICT : Fld := ⟨0x00C, 3, 1⟩
abbrev PINS.STATUS_I2C_ERROR : Fld := ⟨0x00C, 4, 1⟩
abbrev PINS.STATUS_BANK_CHANGE : Fld := ⟨0x00C, 5, 1⟩
abbrev PINS.INT_PEND_CONFLICT : Fld := ⟨0x014, 0, 1⟩
abbrev PINS.INT_PEND_I2C_DONE : Fld := ⟨0x014, 1, 1⟩
abbrev PINS.INT_PEND_SPI_DONE : Fld := ⟨0x014, 2, 1⟩
abbrev PINS.INT_PEND_BANK_CHANGE : Fld := ⟨0x014, 3, 1⟩
abbrev PINS.MP_CFG_ALLOW : Fld := ⟨0x100, 0, 1⟩
abbrev PINS.MP_CFG_PULL : Fld := ⟨0x100, 4, 2⟩
abbrev PINS.MP_CFG_DRIVE : Fld := ⟨0x100, 6, 2⟩
abbrev PINS.MP_CFG_SLOW : Fld := ⟨0x100, 8, 1⟩
abbrev PINS.MP_CFG_FUNC : Fld := ⟨0x100, 12, 1⟩
abbrev PINS.MP_CFG_OWNER : Fld := ⟨0x100, 24, 8⟩
abbrev PINS.MP_CFG : Fld := ⟨0x100, 0, 32⟩
abbrev PINS.GPIO_OUT : Fld := ⟨0x300, 0, 32⟩
abbrev PINS.GPIO_SET : Fld := ⟨0x304, 0, 32⟩
abbrev PINS.GPIO_CLR : Fld := ⟨0x308, 0, 32⟩
abbrev PINS.GPIO_TOG : Fld := ⟨0x30C, 0, 32⟩
abbrev PINS.GPIO_OE : Fld := ⟨0x310, 0, 32⟩
abbrev PINS.GPIO_IN : Fld := ⟨0x314, 0, 32⟩
abbrev PINS.BANK_STAT : Fld := ⟨0x380, 0, 8⟩
abbrev PINS.STRAPS : Fld := ⟨0x384, 0, 4⟩
abbrev PINS.CONFLICT : Fld := ⟨0x388, 0, 4⟩
abbrev PINS.I2C_CFG_EN : Fld := ⟨0x400, 0, 1⟩
abbrev PINS.I2C_CFG_FAST : Fld := ⟨0x400, 1, 1⟩
abbrev PINS.I2C_CFG : Fld := ⟨0x400, 0, 32⟩
abbrev PINS.I2C_CMD_ADDR : Fld := ⟨0x404, 0, 7⟩
abbrev PINS.I2C_CMD_READ : Fld := ⟨0x404, 7, 1⟩
abbrev PINS.I2C_CMD_LEN : Fld := ⟨0x404, 8, 2⟩
abbrev PINS.I2C_CMD_STOP : Fld := ⟨0x404, 11, 1⟩
abbrev PINS.I2C_CMD_GO : Fld := ⟨0x404, 31, 1⟩
abbrev PINS.I2C_CMD : Fld := ⟨0x404, 0, 32⟩
abbrev PINS.I2C_DATA : Fld := ⟨0x408, 0, 32⟩
abbrev PINS.I2C_STAT_BUSY : Fld := ⟨0x40C, 0, 1⟩
abbrev PINS.I2C_STAT_NACK : Fld := ⟨0x40C, 1, 1⟩
abbrev PINS.I2C_STAT_TIMEOUT : Fld := ⟨0x40C, 2, 1⟩
abbrev PINS.I2C_STAT : Fld := ⟨0x40C, 0, 32⟩
abbrev PINS.SPI_CFG_EN : Fld := ⟨0x500, 0, 1⟩
abbrev PINS.SPI_CFG_MODE : Fld := ⟨0x500, 1, 2⟩
abbrev PINS.SPI_CFG_DIV : Fld := ⟨0x500, 8, 8⟩
abbrev PINS.SPI_CFG_CS_EN : Fld := ⟨0x500, 17, 3⟩
abbrev PINS.SPI_CFG : Fld := ⟨0x500, 0, 32⟩
abbrev PINS.SPI_CMD_LEN : Fld := ⟨0x504, 0, 2⟩
abbrev PINS.SPI_CMD_HOLD_CS : Fld := ⟨0x504, 2, 1⟩
abbrev PINS.SPI_CMD_CS : Fld := ⟨0x504, 4, 2⟩
abbrev PINS.SPI_CMD_GO : Fld := ⟨0x504, 31, 1⟩
abbrev PINS.SPI_CMD : Fld := ⟨0x504, 0, 32⟩
abbrev PINS.SPI_TX : Fld := ⟨0x508, 0, 32⟩
abbrev PINS.SPI_RX : Fld := ⟨0x50C, 0, 32⟩
abbrev PINS.SPI_STAT : Fld := ⟨0x510, 0, 1⟩

abbrev MEMCTL.CLASS_CTRL_WEIGHT : Fld := ⟨0x100, 0, 8⟩
abbrev MEMCTL.CLASS_CTRL_PATIENCE : Fld := ⟨0x100, 8, 16⟩
abbrev MEMCTL.CLASS_CTRL : Fld := ⟨0x100, 0, 32⟩
abbrev MEMCTL.CLASS_INFLIGHT : Fld := ⟨0x120, 0, 14⟩
abbrev MEMCTL.CLASS_URGENT : Fld := ⟨0x140, 0, 32⟩
abbrev MEMCTL.HUNGRY : Fld := ⟨0x160, 0, 32⟩
abbrev MEMCTL.TRAIN_CTRL_REQUEST : Fld := ⟨0x200, 0, 1⟩
abbrev MEMCTL.TRAIN_CTRL_FORCE : Fld := ⟨0x200, 1, 1⟩
abbrev MEMCTL.TRAIN_CTRL_DRIFT_LIMIT : Fld := ⟨0x200, 8, 8⟩
abbrev MEMCTL.TRAIN_CTRL_DEFER_LIMIT : Fld := ⟨0x200, 16, 8⟩
abbrev MEMCTL.TRAIN_CTRL : Fld := ⟨0x200, 0, 32⟩
abbrev MEMCTL.TRAIN_STAT_PENDING : Fld := ⟨0x204, 0, 1⟩
abbrev MEMCTL.TRAIN_STAT_RUNNING : Fld := ⟨0x204, 1, 1⟩
abbrev MEMCTL.TRAIN_STAT_LAST_FORCED : Fld := ⟨0x204, 2, 1⟩
abbrev MEMCTL.TRAIN_STAT_LAST_LIMITED : Fld := ⟨0x204, 3, 1⟩
abbrev MEMCTL.TRAIN_STAT_DEFERRED_FRAMES : Fld := ⟨0x204, 8, 8⟩
abbrev MEMCTL.TRAIN_STAT_TRAIN_COUNT : Fld := ⟨0x204, 16, 16⟩
abbrev MEMCTL.TRAIN_STAT : Fld := ⟨0x204, 0, 32⟩

abbrev PARTITIONS.PART_BASE : Fld := ⟨0x100, 0, 64⟩
abbrev PARTITIONS.PART_SIZE : Fld := ⟨0x108, 0, 8⟩
abbrev PARTITIONS.HIST_WIN_SIZE : Fld := ⟨0x180, 0, 5⟩
abbrev PARTITIONS.HIST_WIN_BASE : Fld := ⟨0x188, 0, 64⟩
abbrev PARTITIONS.HIST_WIN_STATUS : Fld := ⟨0x190, 0, 1⟩

abbrev TIMEBASE.INT_PEND_LOW : Fld := ⟨0x014, 0, 1⟩
abbrev TIMEBASE.INT_PEND_HIGH : Fld := ⟨0x014, 1, 1⟩
abbrev TIMEBASE.TB : Fld := ⟨0x100, 0, 64⟩
abbrev TIMEBASE.RATIO : Fld := ⟨0x108, 0, 64⟩
abbrev TIMEBASE.MAKEUP_FRAC : Fld := ⟨0x110, 0, 32⟩
abbrev TIMEBASE.LAST_MAKEUP : Fld := ⟨0x118, 0, 64⟩
abbrev TIMEBASE.CAL_COUNT : Fld := ⟨0x120, 0, 32⟩
abbrev TIMEBASE.CMP_COMPARE : Fld := ⟨0x200, 0, 64⟩
abbrev TIMEBASE.CMP_INTERVAL : Fld := ⟨0x208, 0, 32⟩
abbrev TIMEBASE.CMP_CTRL_EN : Fld := ⟨0x20C, 0, 1⟩
abbrev TIMEBASE.CMP_CTRL_IE : Fld := ⟨0x20C, 1, 1⟩
abbrev TIMEBASE.CMP_CTRL : Fld := ⟨0x20C, 0, 32⟩
abbrev TIMEBASE.CMP_OWNER : Fld := ⟨0x210, 0, 8⟩
abbrev TIMEBASE.CMP_STATUS_MATCH : Fld := ⟨0x214, 0, 1⟩
abbrev TIMEBASE.CMP_STATUS_LATE : Fld := ⟨0x214, 1, 1⟩
abbrev TIMEBASE.CMP_STATUS_MISSED : Fld := ⟨0x214, 8, 8⟩
abbrev TIMEBASE.CMP_STATUS_CATCHING : Fld := ⟨0x214, 16, 1⟩
abbrev TIMEBASE.CMP_STATUS : Fld := ⟨0x214, 0, 32⟩

abbrev DATAPORTS.DAT_ADDR : Fld := ⟨0x100, 0, 64⟩
abbrev DATAPORTS.DAT_STEP : Fld := ⟨0x108, 0, 32⟩
abbrev DATAPORTS.DAT_BURST : Fld := ⟨0x10C, 0, 17⟩
abbrev DATAPORTS.DAT_CTRL_EN : Fld := ⟨0x110, 0, 1⟩
abbrev DATAPORTS.DAT_CTRL_PART : Fld := ⟨0x110, 1, 3⟩
abbrev DATAPORTS.DAT_CTRL : Fld := ⟨0x110, 0, 32⟩
abbrev DATAPORTS.DAT_STATUS_COUNT : Fld := ⟨0x114, 0, 16⟩
abbrev DATAPORTS.DAT_STATUS_RANGE : Fld := ⟨0x114, 16, 1⟩
abbrev DATAPORTS.DAT_STATUS_DENY : Fld := ⟨0x114, 17, 1⟩
abbrev DATAPORTS.DAT_STATUS_ALIGN : Fld := ⟨0x114, 18, 1⟩
abbrev DATAPORTS.DAT_STATUS_BUSY : Fld := ⟨0x114, 19, 1⟩
abbrev DATAPORTS.DAT_STATUS : Fld := ⟨0x114, 0, 32⟩
abbrev DATAPORTS.DAT_OWNER : Fld := ⟨0x118, 0, 8⟩
abbrev DATAPORTS.DAT_ADVANCES : Fld := ⟨0x11C, 0, 32⟩

abbrev INTC.DOORBELL : Fld := ⟨0x100, 0, 12⟩
abbrev INTC.SERVICE : Fld := ⟨0x104, 0, 1⟩
abbrev INTC.DELIVERIES : Fld := ⟨0x108, 0, 32⟩

abbrev INTCG.GCFG_HOLDOFF : Fld := ⟨0x100, 0, 10⟩
abbrev INTCG.GCFG_COAL_COUNT : Fld := ⟨0x100, 16, 7⟩
abbrev INTCG.GCFG : Fld := ⟨0x100, 0, 32⟩
abbrev INTCG.COAL_TIME : Fld := ⟨0x104, 0, 16⟩
abbrev INTCG.ASSERTED : Fld := ⟨0x108, 0, 64⟩
abbrev INTCG.WAITING : Fld := ⟨0x110, 0, 64⟩
abbrev INTCG.DB_PEND : Fld := ⟨0x118, 0, 64⟩
abbrev INTCG.DELIVERED : Fld := ⟨0x120, 0, 32⟩
abbrev INTCG.PROMOTED : Fld := ⟨0x124, 0, 32⟩
abbrev INTCG.DB_MERGED : Fld := ⟨0x128, 0, 32⟩
abbrev INTCG.SCFG_PRIO : Fld := ⟨0x400, 0, 3⟩
abbrev INTCG.SCFG_HOST : Fld := ⟨0x400, 3, 1⟩
abbrev INTCG.SCFG_VECTOR : Fld := ⟨0x400, 4, 11⟩
abbrev INTCG.SCFG_PATIENCE : Fld := ⟨0x400, 16, 16⟩
abbrev INTCG.SCFG : Fld := ⟨0x400, 0, 32⟩
abbrev INTCG.SCFG_RINGER : Fld := ⟨0x404, 0, 8⟩
abbrev INTCG.TARGET : Fld := ⟨0x408, 0, 64⟩

abbrev DROVER.ENGINE_CHANNEL : Fld := ⟨0x100, 0, 5⟩
abbrev DROVER.ENGINE_BUSY : Fld := ⟨0x100, 8, 1⟩
abbrev DROVER.ENGINE : Fld := ⟨0x100, 0, 32⟩
abbrev DROVER.BEATS : Fld := ⟨0x104, 0, 32⟩
abbrev DROVER.PREEMPTIONS : Fld := ⟨0x108, 0, 32⟩

abbrev DV.STATUS_FAULT : Fld := ⟨0x00C, 3, 1⟩
abbrev DV.STATUS_COLLIDED : Fld := ⟨0x00C, 4, 1⟩
abbrev DV.STATUS_RUNNING : Fld := ⟨0x00C, 16, 1⟩
abbrev DV.STATUS_STARVED : Fld := ⟨0x00C, 17, 1⟩
abbrev DV.INT_PEND_DONE : Fld := ⟨0x014, 0, 1⟩
abbrev DV.INT_PEND_FAULT : Fld := ⟨0x014, 1, 1⟩
abbrev DV.SRC : Fld := ⟨0x100, 0, 64⟩
abbrev DV.DST : Fld := ⟨0x108, 0, 64⟩
abbrev DV.CFG_SSPACE : Fld := ⟨0x110, 0, 2⟩
abbrev DV.CFG_DSPACE : Fld := ⟨0x110, 4, 2⟩
abbrev DV.CFG_PRIO : Fld := ⟨0x110, 8, 3⟩
abbrev DV.CFG : Fld := ⟨0x110, 0, 32⟩
abbrev DV.PATIENCE : Fld := ⟨0x114, 0, 16⟩
abbrev DV.ELEM : Fld := ⟨0x118, 0, 17⟩
abbrev DV.C : Fld := ⟨0x11C, 0, 17⟩
abbrev DV.SS : Fld := ⟨0x128, 0, 32⟩
abbrev DV.DS : Fld := ⟨0x134, 0, 32⟩
abbrev DV.CMD_GO : Fld := ⟨0x140, 0, 1⟩
abbrev DV.CMD_STOP : Fld := ⟨0x140, 1, 1⟩
abbrev DV.CMD : Fld := ⟨0x140, 0, 32⟩
abbrev DV.STATE : Fld := ⟨0x144, 0, 3⟩
abbrev DV.REMAIN : Fld := ⟨0x148, 0, 64⟩
abbrev DV.FAULT_INFO : Fld := ⟨0x150, 0, 8⟩
abbrev DV.FAULT_ADDR : Fld := ⟨0x158, 0, 64⟩
abbrev DV.COLLISIONS : Fld := ⟨0x160, 0, 32⟩

abbrev BLITTER.STATUS_FAULT : Fld := ⟨0x00C, 3, 1⟩
abbrev BLITTER.STATUS_RACE_LATE : Fld := ⟨0x00C, 4, 1⟩
abbrev BLITTER.STATUS_QUEUE_FULL : Fld := ⟨0x00C, 5, 1⟩
abbrev BLITTER.STATUS_RACE_HALT : Fld := ⟨0x00C, 16, 1⟩
abbrev BLITTER.STATUS_BATCH_HALT : Fld := ⟨0x00C, 17, 1⟩
abbrev BLITTER.STATUS_BUSY : Fld := ⟨0x00C, 18, 1⟩
abbrev BLITTER.RACE_WMARK_HEAD : Fld := ⟨0x100, 0, 5⟩
abbrev BLITTER.RACE_WMARK_LINE : Fld := ⟨0x100, 8, 12⟩
abbrev BLITTER.RACE_WMARK_EN : Fld := ⟨0x100, 31, 1⟩
abbrev BLITTER.RACE_WMARK : Fld := ⟨0x100, 0, 32⟩
abbrev BLITTER.RACE_SUBMIT : Fld := ⟨0x108, 0, 64⟩
abbrev BLITTER.BATCH_SUBMIT : Fld := ⟨0x110, 0, 64⟩
abbrev BLITTER.QUEUE_STAT_RACE_LEVEL : Fld := ⟨0x118, 0, 5⟩
abbrev BLITTER.QUEUE_STAT_BATCH_LEVEL : Fld := ⟨0x118, 8, 5⟩
abbrev BLITTER.QUEUE_STAT : Fld := ⟨0x118, 0, 32⟩
abbrev BLITTER.QCTRL : Fld := ⟨0x11C, 0, 4⟩
abbrev BLITTER.PACE_RACE_BURST : Fld := ⟨0x120, 0, 7⟩
abbrev BLITTER.PACE_RACE_DEADTIME : Fld := ⟨0x120, 16, 16⟩
abbrev BLITTER.PACE_RACE : Fld := ⟨0x120, 0, 32⟩
abbrev BLITTER.PACE_BATCH_BURST : Fld := ⟨0x124, 0, 7⟩
abbrev BLITTER.PACE_BATCH_DEADTIME : Fld := ⟨0x124, 16, 16⟩
abbrev BLITTER.PACE_BATCH : Fld := ⟨0x124, 0, 32⟩
abbrev BLITTER.FAULT_ADDR : Fld := ⟨0x128, 0, 64⟩
abbrev BLITTER.FAULT_INFO_CODE : Fld := ⟨0x130, 0, 8⟩
abbrev BLITTER.FAULT_INFO_CLASS : Fld := ⟨0x130, 8, 1⟩
abbrev BLITTER.FAULT_INFO : Fld := ⟨0x130, 0, 32⟩
abbrev BLITTER.RACE_LAST : Fld := ⟨0x138, 0, 64⟩
abbrev BLITTER.BATCH_LAST : Fld := ⟨0x140, 0, 64⟩
abbrev BLITTER.RACE_STAT : Fld := ⟨0x148, 0, 1⟩
abbrev BLITTER.SIG_TAG : Fld := ⟨0x14C, 0, 32⟩
abbrev BLITTER.LISTS_DONE_RACE : Fld := ⟨0x150, 0, 16⟩
abbrev BLITTER.LISTS_DONE_BATCH : Fld := ⟨0x150, 16, 16⟩
abbrev BLITTER.LISTS_DONE : Fld := ⟨0x150, 0, 32⟩
abbrev BLITTER.RACE_LATE_COUNT : Fld := ⟨0x154, 0, 32⟩

abbrev AUDIO.STATUS_ACTION_LOST : Fld := ⟨0x00C, 3, 1⟩
abbrev AUDIO.STATUS_PCM_FAULT : Fld := ⟨0x00C, 4, 1⟩
abbrev AUDIO.STATUS_PCM_LATE : Fld := ⟨0x00C, 5, 1⟩
abbrev AUDIO.STATUS_PROTECTED : Fld := ⟨0x00C, 16, 1⟩
abbrev AUDIO.CFG : Fld := ⟨0x100, 0, 1⟩
abbrev AUDIO.SAMPLE_COUNT : Fld := ⟨0x104, 0, 32⟩
abbrev AUDIO.ACTION_PARAM : Fld := ⟨0x108, 0, 32⟩
abbrev AUDIO.ACTION_VOX : Fld := ⟨0x108, 32, 6⟩
abbrev AUDIO.ACTION_ACT : Fld := ⟨0x108, 40, 2⟩
abbrev AUDIO.ACTION : Fld := ⟨0x108, 0, 64⟩
abbrev AUDIO.VEND : Fld := ⟨0x110, 0, 32⟩
abbrev AUDIO.ACTIONS_LOST : Fld := ⟨0x118, 0, 32⟩
abbrev AUDIO.PCM_LATE : Fld := ⟨0x11C, 0, 32⟩
abbrev AUDIO.VCTRL_KIND : Fld := ⟨0x200, 0, 2⟩
abbrev AUDIO.VCTRL_LOOP : Fld := ⟨0x200, 2, 1⟩
abbrev AUDIO.VCTRL_PCM24 : Fld := ⟨0x200, 3, 1⟩
abbrev AUDIO.VCTRL_DUTY : Fld := ⟨0x200, 8, 8⟩
abbrev AUDIO.VCTRL : Fld := ⟨0x200, 0, 32⟩
abbrev AUDIO.INC : Fld := ⟨0x204, 0, 32⟩
abbrev AUDIO.LEVEL : Fld := ⟨0x208, 0, 16⟩
abbrev AUDIO.ENV_ATTACK : Fld := ⟨0x20C, 0, 16⟩
abbrev AUDIO.ENV_RELEASE : Fld := ⟨0x20C, 16, 16⟩
abbrev AUDIO.ENV : Fld := ⟨0x20C, 0, 32⟩
abbrev AUDIO.CADENCE_ON : Fld := ⟨0x210, 0, 16⟩
abbrev AUDIO.CADENCE_OFF : Fld := ⟨0x210, 16, 16⟩
abbrev AUDIO.CADENCE : Fld := ⟨0x210, 0, 32⟩
abbrev AUDIO.PCM_LEN : Fld := ⟨0x214, 0, 24⟩
abbrev AUDIO.PCM_BASE : Fld := ⟨0x218, 0, 64⟩
abbrev AUDIO.VSTAT_STATE : Fld := ⟨0xA00, 0, 3⟩
abbrev AUDIO.VSTAT_PROTECTED : Fld := ⟨0xA00, 7, 1⟩
abbrev AUDIO.VSTAT : Fld := ⟨0xA00, 0, 32⟩
abbrev AUDIO.VOWNER_OWNER : Fld := ⟨0xB00, 0, 8⟩
abbrev AUDIO.VOWNER_ACT : Fld := ⟨0xB00, 8, 8⟩
abbrev AUDIO.VOWNER : Fld := ⟨0xB00, 0, 32⟩
abbrev AUDIO.BUS : Fld := ⟨0xC00, 0, 16⟩
abbrev AUDIO.COMP_THRESH : Fld := ⟨0xC04, 0, 8⟩
abbrev AUDIO.COMP_RATIO : Fld := ⟨0xC04, 8, 4⟩
abbrev AUDIO.COMP_ATTACK : Fld := ⟨0xC04, 12, 4⟩
abbrev AUDIO.COMP_RELEASE : Fld := ⟨0xC04, 16, 4⟩
abbrev AUDIO.COMP_MAKEUP : Fld := ⟨0xC04, 20, 8⟩
abbrev AUDIO.COMP_EN : Fld := ⟨0xC04, 31, 1⟩
abbrev AUDIO.COMP : Fld := ⟨0xC04, 0, 32⟩
abbrev AUDIO.LIMIT_CEIL : Fld := ⟨0xC08, 0, 16⟩
abbrev AUDIO.LIMIT_REL : Fld := ⟨0xC08, 16, 4⟩
abbrev AUDIO.LIMIT_EN : Fld := ⟨0xC08, 31, 1⟩
abbrev AUDIO.LIMIT : Fld := ⟨0xC08, 0, 32⟩
abbrev AUDIO.BSTAT : Fld := ⟨0xC0C, 0, 16⟩
abbrev AUDIO.PEAK : Fld := ⟨0xC10, 0, 24⟩
abbrev AUDIO.OUT_BUS : Fld := ⟨0xE00, 0, 4⟩
abbrev AUDIO.OUT_EN : Fld := ⟨0xE00, 8, 1⟩
abbrev AUDIO.OUT_SLOTS : Fld := ⟨0xE00, 16, 8⟩
abbrev AUDIO.OUT : Fld := ⟨0xE00, 0, 32⟩
abbrev AUDIO.TCTRL_EN : Fld := ⟨0xF00, 0, 1⟩
abbrev AUDIO.TCTRL_FS_POL : Fld := ⟨0xF00, 1, 1⟩
abbrev AUDIO.TCTRL_DELAY : Fld := ⟨0xF00, 2, 1⟩
abbrev AUDIO.TCTRL_EDGE : Fld := ⟨0xF00, 3, 1⟩
abbrev AUDIO.TCTRL : Fld := ⟨0xF00, 0, 32⟩
abbrev AUDIO.RX_SLOT : Fld := ⟨0xF80, 0, 32⟩

abbrev AUDIOR.STATUS_PROT_DENY : Fld := ⟨0x00C, 3, 1⟩
abbrev AUDIOR.ROUTE_SRC : Fld := ⟨0x100, 0, 7⟩
abbrev AUDIOR.ROUTE_DST : Fld := ⟨0x100, 8, 4⟩
abbrev AUDIOR.ROUTE_EN : Fld := ⟨0x100, 15, 1⟩
abbrev AUDIOR.ROUTE_GAIN : Fld := ⟨0x100, 16, 16⟩
abbrev AUDIOR.ROUTE : Fld := ⟨0x100, 0, 32⟩
abbrev AUDIOR.ROUTE_STAT_GAIN_NOW : Fld := ⟨0x104, 0, 16⟩
abbrev AUDIOR.ROUTE_STAT_RAMPING : Fld := ⟨0x104, 16, 1⟩
abbrev AUDIOR.ROUTE_STAT_PROT : Fld := ⟨0x104, 17, 1⟩
abbrev AUDIOR.ROUTE_STAT : Fld := ⟨0x104, 0, 32⟩

abbrev FIELD.STATUS_CHAN_INVALID : Fld := ⟨0x00C, 3, 1⟩
abbrev FIELD.STATUS_RELAY_OVERRUN : Fld := ⟨0x00C, 4, 1⟩
abbrev FIELD.CHAN_BASE : Fld := ⟨0x100, 0, 64⟩
abbrev FIELD.CHAN_COUNT : Fld := ⟨0x108, 0, 12⟩
abbrev FIELD.RING : Fld := ⟨0x200, 0, 3⟩
abbrev FIELD.DATA_BASE : Fld := ⟨0x204, 0, 20⟩
abbrev FIELD.DATA_SIZE : Fld := ⟨0x204, 24, 5⟩
abbrev FIELD.DATA : Fld := ⟨0x204, 0, 32⟩
abbrev FIELD.DESC_BASE : Fld := ⟨0x208, 0, 20⟩
abbrev FIELD.DESC_COUNT : Fld := ⟨0x208, 24, 5⟩
abbrev FIELD.DESC : Fld := ⟨0x208, 0, 32⟩
abbrev FIELD.HEAD : Fld := ⟨0x20C, 0, 16⟩
abbrev FIELD.TAIL : Fld := ⟨0x210, 0, 16⟩
abbrev FIELD.DROPPED : Fld := ⟨0x214, 0, 32⟩

abbrev FP.STATUS_RX_ERROR : Fld := ⟨0x00C, 3, 1⟩
abbrev FP.STATUS_RX_OVERRUN : Fld := ⟨0x00C, 4, 1⟩
abbrev FP.STATUS_TX_TIMEOUT : Fld := ⟨0x00C, 5, 1⟩
abbrev FP.STATUS_TX_BAD : Fld := ⟨0x00C, 6, 1⟩
abbrev FP.STATUS_CV_FAULT : Fld := ⟨0x00C, 7, 1⟩
abbrev FP.STATUS_CD : Fld := ⟨0x00C, 16, 1⟩
abbrev FP.STATUS_PTT : Fld := ⟨0x00C, 17, 1⟩
abbrev FP.STATUS_TX_ACTIVE : Fld := ⟨0x00C, 18, 1⟩
abbrev FP.STATUS_RX_ACTIVE : Fld := ⟨0x00C, 19, 1⟩
abbrev FP.LINE_CFG_MODE : Fld := ⟨0x100, 0, 2⟩
abbrev FP.LINE_CFG_DATA : Fld := ⟨0x100, 2, 2⟩
abbrev FP.LINE_CFG_PARITY : Fld := ⟨0x100, 4, 3⟩
abbrev FP.LINE_CFG_STOP : Fld := ⟨0x100, 7, 1⟩
abbrev FP.LINE_CFG_DUPLEX : Fld := ⟨0x100, 8, 1⟩
abbrev FP.LINE_CFG_TXD_INV : Fld := ⟨0x100, 9, 1⟩
abbrev FP.LINE_CFG_RXD_INV : Fld := ⟨0x100, 10, 1⟩
abbrev FP.LINE_CFG_PTT_INV : Fld := ⟨0x100, 11, 1⟩
abbrev FP.LINE_CFG_CD_INV : Fld := ⟨0x100, 12, 1⟩
abbrev FP.LINE_CFG_CD_GATE : Fld := ⟨0x100, 13, 1⟩
abbrev FP.LINE_CFG_LBT : Fld := ⟨0x100, 14, 1⟩
abbrev FP.LINE_CFG_IDLE_FLAGS : Fld := ⟨0x100, 15, 1⟩
abbrev FP.LINE_CFG : Fld := ⟨0x100, 0, 32⟩
abbrev FP.BAUD_INC : Fld := ⟨0x104, 0, 32⟩
abbrev FP.KEY_TIMING_KEYUP : Fld := ⟨0x108, 0, 16⟩
abbrev FP.KEY_TIMING_TAIL : Fld := ⟨0x108, 16, 16⟩
abbrev FP.KEY_TIMING : Fld := ⟨0x108, 0, 32⟩
abbrev FP.TX_LIMITS_TX_MAX : Fld := ⟨0x10C, 0, 16⟩
abbrev FP.TX_LIMITS_LBT_QUIET : Fld := ⟨0x10C, 16, 8⟩
abbrev FP.TX_LIMITS_CD_FILTER : Fld := ⟨0x10C, 24, 8⟩
abbrev FP.TX_LIMITS : Fld := ⟨0x10C, 0, 32⟩
abbrev FP.ASSIST_KIND : Fld := ⟨0x110, 0, 3⟩
abbrev FP.ASSIST_STRIP : Fld := ⟨0x110, 3, 1⟩
abbrev FP.ASSIST_KEEP_BAD : Fld := ⟨0x110, 4, 1⟩
abbrev FP.ASSIST_ADDR_LEN : Fld := ⟨0x110, 5, 2⟩
abbrev FP.ASSIST_CV_EN : Fld := ⟨0x110, 7, 1⟩
abbrev FP.ASSIST_CV_UNIT : Fld := ⟨0x110, 8, 4⟩
abbrev FP.ASSIST_CTX_RX : Fld := ⟨0x110, 12, 2⟩
abbrev FP.ASSIST_CTX_TX : Fld := ⟨0x110, 14, 2⟩
abbrev FP.ASSIST_GAP_BITS : Fld := ⟨0x110, 16, 8⟩
abbrev FP.ASSIST_PREAMBLE : Fld := ⟨0x110, 24, 8⟩
abbrev FP.ASSIST : Fld := ⟨0x110, 0, 32⟩
abbrev FP.RX_MAX : Fld := ⟨0x114, 0, 13⟩
abbrev FP.RING : Fld := ⟨0x118, 0, 3⟩
abbrev FP.RX_DATA_BASE : Fld := ⟨0x120, 0, 20⟩
abbrev FP.RX_DATA_SIZE : Fld := ⟨0x120, 24, 5⟩
abbrev FP.RX_DATA : Fld := ⟨0x120, 0, 32⟩
abbrev FP.RX_DESC_BASE : Fld := ⟨0x124, 0, 20⟩
abbrev FP.RX_DESC_COUNT : Fld := ⟨0x124, 24, 5⟩
abbrev FP.RX_DESC : Fld := ⟨0x124, 0, 32⟩
abbrev FP.TX_DATA_BASE : Fld := ⟨0x128, 0, 20⟩
abbrev FP.TX_DATA_SIZE : Fld := ⟨0x128, 24, 5⟩
abbrev FP.TX_DATA : Fld := ⟨0x128, 0, 32⟩
abbrev FP.TX_DESC_BASE : Fld := ⟨0x12C, 0, 20⟩
abbrev FP.TX_DESC_COUNT : Fld := ⟨0x12C, 24, 5⟩
abbrev FP.TX_DESC : Fld := ⟨0x12C, 0, 32⟩
abbrev FP.RX_HEAD : Fld := ⟨0x130, 0, 16⟩
abbrev FP.RX_TAIL : Fld := ⟨0x134, 0, 16⟩
abbrev FP.TX_HEAD : Fld := ⟨0x138, 0, 16⟩
abbrev FP.TX_TAIL : Fld := ⟨0x13C, 0, 16⟩
abbrev FP.RX_FRAMES : Fld := ⟨0x140, 0, 32⟩
abbrev FP.RX_BAD : Fld := ⟨0x144, 0, 32⟩
abbrev FP.RX_DROPPED : Fld := ⟨0x148, 0, 32⟩
abbrev FP.TX_FRAMES : Fld := ⟨0x14C, 0, 32⟩

abbrev CV.STATUS_CTX_FAULT : Fld := ⟨0x00C, 4, 1⟩
abbrev CV.STATUS_BUSY : Fld := ⟨0x00C, 16, 1⟩
abbrev CV.SRC_KIND : Fld := ⟨0x100, 0, 2⟩
abbrev CV.SRC_PORT : Fld := ⟨0x100, 4, 4⟩
abbrev CV.SRC : Fld := ⟨0x100, 0, 32⟩
abbrev CV.CTX_SEL : Fld := ⟨0x104, 0, 2⟩
abbrev CV.FEED8 : Fld := ⟨0x180, 0, 8⟩
abbrev CV.FEED32 : Fld := ⟨0x184, 0, 32⟩
abbrev CV.FEED64 : Fld := ⟨0x188, 0, 64⟩
abbrev CV.FINISH : Fld := ⟨0x190, 0, 1⟩
abbrev CV.CTX_MEM_CTX : Fld := ⟨0x1A0, 0, 2⟩
abbrev CV.CTX_MEM_SAVE : Fld := ⟨0x1A0, 4, 1⟩
abbrev CV.CTX_MEM_LOAD : Fld := ⟨0x1A0, 5, 1⟩
abbrev CV.CTX_MEM : Fld := ⟨0x1A0, 0, 32⟩
abbrev CV.CTX_ADDR_OFFSET : Fld := ⟨0x1A4, 0, 20⟩
abbrev CV.CTX_ADDR_CLUSTER : Fld := ⟨0x1A4, 24, 3⟩
abbrev CV.CTX_ADDR : Fld := ⟨0x1A4, 0, 32⟩
abbrev CV.SELFCHECK : Fld := ⟨0x1B0, 0, 1⟩
abbrev CV.SELFCHECK_STAT_RESULT : Fld := ⟨0x1B4, 0, 2⟩
abbrev CV.SELFCHECK_STAT_FAILED : Fld := ⟨0x1B4, 8, 8⟩
abbrev CV.SELFCHECK_STAT : Fld := ⟨0x1B4, 0, 32⟩
abbrev CV.POLY : Fld := ⟨0x200, 0, 64⟩
abbrev CV.INIT : Fld := ⟨0x208, 0, 64⟩
abbrev CV.STATE : Fld := ⟨0x210, 0, 64⟩
abbrev CV.CFG_WIDTH : Fld := ⟨0x218, 0, 7⟩
abbrev CV.CFG_SUM : Fld := ⟨0x218, 8, 2⟩
abbrev CV.CFG_REFIN : Fld := ⟨0x218, 10, 1⟩
abbrev CV.CFG_REFOUT : Fld := ⟨0x218, 11, 1⟩
abbrev CV.CFG_INVERT : Fld := ⟨0x218, 12, 1⟩
abbrev CV.CFG_ORDER : Fld := ⟨0x218, 13, 1⟩
abbrev CV.CFG : Fld := ⟨0x218, 0, 32⟩
abbrev CV.COUNT : Fld := ⟨0x21C, 0, 32⟩
abbrev CV.TALLY_CFG_OFFSET : Fld := ⟨0x220, 0, 16⟩
abbrev CV.TALLY_CFG_SHIFT : Fld := ⟨0x220, 16, 4⟩
abbrev CV.TALLY_CFG_WIDTH : Fld := ⟨0x220, 20, 5⟩
abbrev CV.TALLY_CFG_EN : Fld := ⟨0x220, 25, 1⟩
abbrev CV.TALLY_CFG_REJ_REPEAT : Fld := ⟨0x220, 26, 1⟩
abbrev CV.TALLY_CFG_REJ_JUMP : Fld := ⟨0x220, 27, 1⟩
abbrev CV.TALLY_CFG_TX_INSERT : Fld := ⟨0x220, 28, 1⟩
abbrev CV.TALLY_CFG : Fld := ⟨0x220, 0, 32⟩
abbrev CV.TALLY_LAST : Fld := ⟨0x224, 0, 16⟩
abbrev CV.TALLY_VALID : Fld := ⟨0x224, 16, 1⟩
abbrev CV.TALLY_RESULT : Fld := ⟨0x224, 17, 3⟩
abbrev CV.TALLY : Fld := ⟨0x224, 0, 32⟩
abbrev CV.RESULT : Fld := ⟨0x228, 0, 64⟩
abbrev CV.CHECKS : Fld := ⟨0x230, 0, 32⟩
abbrev CV.FAILS : Fld := ⟨0x234, 0, 32⟩

abbrev POINTS.STATUS_COMMIT_REFUSED : Fld := ⟨0x00C, 3, 1⟩
abbrev POINTS.STATUS_RING_FAULT : Fld := ⟨0x00C, 4, 1⟩
abbrev POINTS.STATUS_ALARM_OVERRUN : Fld := ⟨0x00C, 5, 1⟩
abbrev POINTS.STATUS_STALLED : Fld := ⟨0x00C, 16, 1⟩
abbrev POINTS.REC_BASE : Fld := ⟨0x100, 0, 64⟩
abbrev POINTS.REC_COUNT : Fld := ⟨0x108, 0, 21⟩
abbrev POINTS.ALARM_BASE : Fld := ⟨0x110, 0, 64⟩
abbrev POINTS.ALARM_SIZE : Fld := ⟨0x118, 0, 5⟩
abbrev POINTS.ALARM_HEAD : Fld := ⟨0x11C, 0, 32⟩
abbrev POINTS.ALARM_TAIL : Fld := ⟨0x120, 0, 32⟩
abbrev POINTS.COMMITS : Fld := ⟨0x130, 0, 32⟩
abbrev POINTS.ALARMS : Fld := ⟨0x134, 0, 32⟩
abbrev POINTS.REFUSED : Fld := ⟨0x138, 0, 32⟩
abbrev POINTS.STALL_FC : Fld := ⟨0x13C, 0, 32⟩
abbrev POINTS.ALARMS_LOST : Fld := ⟨0x140, 0, 32⟩
abbrev POINTS.CR_CFG_EN : Fld := ⟨0x400, 0, 1⟩
abbrev POINTS.CR_CFG_KIND : Fld := ⟨0x400, 1, 1⟩
abbrev POINTS.CR_CFG_LOC : Fld := ⟨0x400, 2, 4⟩
abbrev POINTS.CR_CFG_SIZE : Fld := ⟨0x400, 8, 4⟩
abbrev POINTS.CR_CFG : Fld := ⟨0x400, 0, 32⟩
abbrev POINTS.CR_OWNER : Fld := ⟨0x404, 0, 8⟩
abbrev POINTS.CR_REQ_BASE : Fld := ⟨0x408, 0, 64⟩
abbrev POINTS.CR_RES_BASE : Fld := ⟨0x410, 0, 64⟩
abbrev POINTS.CR_HEAD : Fld := ⟨0x418, 0, 16⟩
abbrev POINTS.CR_TAIL : Fld := ⟨0x41C, 0, 16⟩
abbrev POINTS.CR_RES_HEAD : Fld := ⟨0x420, 0, 16⟩
abbrev POINTS.CR_RES_TAIL : Fld := ⟨0x424, 0, 16⟩

abbrev BRANDS.STATUS_BRAND_INVALID : Fld := ⟨0x00C, 3, 1⟩
abbrev BRANDS.STATUS_TARGET_DENY : Fld := ⟨0x00C, 4, 1⟩
abbrev BRANDS.STATUS_WAITING : Fld := ⟨0x00C, 16, 1⟩
abbrev BRANDS.INT_PEND_BRAND_INVALID : Fld := ⟨0x014, 0, 1⟩
abbrev BRANDS.INT_PEND_TARGET_DENY : Fld := ⟨0x014, 1, 1⟩
abbrev BRANDS.BRAND_BASE : Fld := ⟨0x100, 0, 64⟩
abbrev BRANDS.BRAND_COUNT : Fld := ⟨0x108, 0, 23⟩
abbrev BRANDS.WRITES : Fld := ⟨0x110, 0, 32⟩
abbrev BRANDS.DROPPED : Fld := ⟨0x114, 0, 32⟩
abbrev BRANDS.BUF_LEVEL : Fld := ⟨0x118, 0, 13⟩

abbrev COMMANDS.STATUS_REFUSED : Fld := ⟨0x00C, 3, 1⟩
abbrev COMMANDS.STATUS_TIMEOUT : Fld := ⟨0x00C, 4, 1⟩
abbrev COMMANDS.STATUS_SEND_FAULT : Fld := ⟨0x00C, 5, 1⟩
abbrev COMMANDS.STATUS_DISPATCH_OPEN : Fld := ⟨0x00C, 16, 1⟩
abbrev COMMANDS.OBJ_BASE : Fld := ⟨0x100, 0, 64⟩
abbrev COMMANDS.OBJ_COUNT : Fld := ⟨0x108, 0, 17⟩
abbrev COMMANDS.IL_BASE : Fld := ⟨0x110, 0, 64⟩
abbrev COMMANDS.IL_COUNT : Fld := ⟨0x118, 0, 16⟩
abbrev COMMANDS.CANCEL : Fld := ⟨0x120, 0, 12⟩
abbrev COMMANDS.EXECUTE : Fld := ⟨0x124, 0, 12⟩
abbrev COMMANDS.IN_FLIGHT : Fld := ⟨0x128, 0, 13⟩
abbrev COMMANDS.TXN_SEL : Fld := ⟨0x130, 0, 12⟩
abbrev COMMANDS.TXN_STAT_STATE : Fld := ⟨0x134, 0, 4⟩
abbrev COMMANDS.TXN_STAT_OBJECT : Fld := ⟨0x134, 4, 16⟩
abbrev COMMANDS.TXN_STAT_RING : Fld := ⟨0x134, 20, 4⟩
abbrev COMMANDS.TXN_STAT : Fld := ⟨0x134, 0, 32⟩
abbrev COMMANDS.TXN_TAG : Fld := ⟨0x138, 0, 32⟩
abbrev COMMANDS.OPENED : Fld := ⟨0x140, 0, 32⟩
abbrev COMMANDS.COMPLETED : Fld := ⟨0x144, 0, 32⟩
abbrev COMMANDS.FAILED : Fld := ⟨0x148, 0, 32⟩

abbrev HISTORY.STATUS_HIST_FAULT : Fld := ⟨0x00C, 3, 1⟩
abbrev HISTORY.RING_TABLE : Fld := ⟨0x100, 0, 64⟩
abbrev HISTORY.RING_COUNT : Fld := ⟨0x108, 0, 21⟩
abbrev HISTORY.SAMPLES : Fld := ⟨0x110, 0, 32⟩

abbrev JOURNAL.STATUS_FLUSH_FAULT : Fld := ⟨0x00C, 3, 1⟩
abbrev JOURNAL.STATUS_STAGE_FAULT : Fld := ⟨0x00C, 4, 1⟩
abbrev JOURNAL.STATUS_REPLAY_ERROR : Fld := ⟨0x00C, 5, 1⟩
abbrev JOURNAL.STATUS_CP_FAULT : Fld := ⟨0x00C, 6, 1⟩
abbrev JOURNAL.STATUS_STALLED : Fld := ⟨0x00C, 16, 1⟩
abbrev JOURNAL.STATUS_GPF : Fld := ⟨0x00C, 17, 1⟩
abbrev JOURNAL.STATUS_REPLAYING : Fld := ⟨0x00C, 18, 1⟩
abbrev JOURNAL.NEXT_SEQ : Fld := ⟨0x100, 0, 64⟩
abbrev JOURNAL.DURABLE_NEXT : Fld := ⟨0x108, 0, 64⟩
abbrev JOURNAL.STAGE_BASE : Fld := ⟨0x110, 0, 64⟩
abbrev JOURNAL.STAGE_SIZE : Fld := ⟨0x118, 0, 5⟩
abbrev JOURNAL.PW_BASE : Fld := ⟨0x120, 0, 64⟩
abbrev JOURNAL.PW_SIZE : Fld := ⟨0x128, 0, 5⟩
abbrev JOURNAL.CP_HOST0 : Fld := ⟨0x130, 0, 64⟩
abbrev JOURNAL.CP_HOST1 : Fld := ⟨0x138, 0, 64⟩
abbrev JOURNAL.CP_SLOT_MIB : Fld := ⟨0x140, 0, 16⟩
abbrev JOURNAL.CFG_FLUSH_BATCH : Fld := ⟨0x148, 0, 7⟩
abbrev JOURNAL.CFG_PW_EN : Fld := ⟨0x148, 8, 1⟩
abbrev JOURNAL.CFG_PWRFAIL_FLUSH : Fld := ⟨0x148, 9, 1⟩
abbrev JOURNAL.CFG_FLUSH_WAIT : Fld := ⟨0x148, 16, 16⟩
abbrev JOURNAL.CFG : Fld := ⟨0x148, 0, 32⟩
abbrev JOURNAL.CP_SRC : Fld := ⟨0x150, 0, 64⟩
abbrev JOURNAL.CP_LEN : Fld := ⟨0x158, 0, 32⟩
abbrev JOURNAL.CP_SEQ : Fld := ⟨0x160, 0, 64⟩
abbrev JOURNAL.CP_CMD_MARK : Fld := ⟨0x168, 0, 1⟩
abbrev JOURNAL.CP_CMD_GO : Fld := ⟨0x168, 1, 1⟩
abbrev JOURNAL.CP_CMD : Fld := ⟨0x168, 0, 32⟩
abbrev JOURNAL.CP_MARK_SEQ : Fld := ⟨0x170, 0, 64⟩
abbrev JOURNAL.CP_LAST_SEQ : Fld := ⟨0x178, 0, 64⟩
abbrev JOURNAL.CP_LAST_SLOT : Fld := ⟨0x180, 0, 1⟩
abbrev JOURNAL.REPLAY_SRC : Fld := ⟨0x188, 0, 64⟩
abbrev JOURNAL.REPLAY_COUNT : Fld := ⟨0x190, 0, 25⟩
abbrev JOURNAL.REPLAY_FROM : Fld := ⟨0x198, 0, 64⟩
abbrev JOURNAL.REPLAY_CMD_SETSEQ : Fld := ⟨0x1A0, 0, 1⟩
abbrev JOURNAL.REPLAY_CMD_GO : Fld := ⟨0x1A0, 1, 1⟩
abbrev JOURNAL.REPLAY_CMD : Fld := ⟨0x1A0, 0, 32⟩
abbrev JOURNAL.REPLAY_STAT_APPLIED : Fld := ⟨0x1A4, 0, 25⟩
abbrev JOURNAL.REPLAY_STAT_REASON : Fld := ⟨0x1A4, 25, 3⟩
abbrev JOURNAL.REPLAY_STAT : Fld := ⟨0x1A4, 0, 32⟩
abbrev JOURNAL.REPLAY_UNKNOWN : Fld := ⟨0x1A8, 0, 16⟩
abbrev JOURNAL.USER_BUF : Fld := ⟨0x200, 0, 32⟩
abbrev JOURNAL.USER_CMD_COUNT : Fld := ⟨0x320, 0, 3⟩
abbrev JOURNAL.USER_CMD_PENDING : Fld := ⟨0x320, 30, 1⟩
abbrev JOURNAL.USER_CMD_GO : Fld := ⟨0x320, 31, 1⟩
abbrev JOURNAL.USER_CMD : Fld := ⟨0x320, 0, 32⟩
abbrev JOURNAL.USER_STAT : Fld := ⟨0x328, 0, 64⟩

abbrev MIRROR.STATUS_SPLIT : Fld := ⟨0x00C, 3, 1⟩
abbrev MIRROR.STATUS_PAIR_MISMATCH : Fld := ⟨0x00C, 4, 1⟩
abbrev MIRROR.STATUS_RESYNC_FAIL : Fld := ⟨0x00C, 5, 1⟩
abbrev MIRROR.STATUS_CLAIM_FAIL : Fld := ⟨0x00C, 6, 1⟩
abbrev MIRROR.STATUS_LINK_UP : Fld := ⟨0x00C, 16, 1⟩
abbrev MIRROR.STATUS_AUTHORITY : Fld := ⟨0x00C, 17, 1⟩
abbrev MIRROR.STATUS_ARB_IN : Fld := ⟨0x00C, 18, 1⟩
abbrev MIRROR.STATUS_HOLDING : Fld := ⟨0x00C, 19, 1⟩
abbrev MIRROR.ROLE : Fld := ⟨0x100, 0, 2⟩
abbrev MIRROR.ROLE_SCHEDULED : Fld := ⟨0x100, 2, 1⟩
abbrev MIRROR.EPOCH : Fld := ⟨0x104, 0, 32⟩
abbrev MIRROR.AUTHORITY : Fld := ⟨0x108, 0, 32⟩
abbrev MIRROR.CFG_PAIRED : Fld := ⟨0x10C, 0, 1⟩
abbrev MIRROR.CFG_SIDE : Fld := ⟨0x10C, 1, 1⟩
abbrev MIRROR.CFG_ARB_EN : Fld := ⟨0x10C, 2, 1⟩
abbrev MIRROR.CFG_ARB_INV : Fld := ⟨0x10C, 3, 1⟩
abbrev MIRROR.CFG_HB_MODE : Fld := ⟨0x10C, 4, 1⟩
abbrev MIRROR.CFG_PF_RELINQUISH : Fld := ⟨0x10C, 5, 1⟩
abbrev MIRROR.CFG : Fld := ⟨0x10C, 0, 32⟩
abbrev MIRROR.HB_PERIOD : Fld := ⟨0x110, 0, 10⟩
abbrev MIRROR.HB_MISS : Fld := ⟨0x110, 16, 4⟩
abbrev MIRROR.HB : Fld := ⟨0x110, 0, 32⟩
abbrev MIRROR.ISOLATE_HOLD : Fld := ⟨0x114, 0, 16⟩
abbrev MIRROR.MIR_HEADS : Fld := ⟨0x118, 0, 32⟩
abbrev MIRROR.MIR_AUDIO : Fld := ⟨0x11C, 0, 1⟩
abbrev MIRROR.APPLIED_NEXT : Fld := ⟨0x120, 0, 64⟩
abbrev MIRROR.ACKED_NEXT : Fld := ⟨0x128, 0, 64⟩
abbrev MIRROR.PARTNER_ROLE : Fld := ⟨0x130, 0, 2⟩
abbrev MIRROR.PARTNER_VALID : Fld := ⟨0x130, 2, 1⟩
abbrev MIRROR.PARTNER_AUTHORITY : Fld := ⟨0x130, 3, 1⟩
abbrev MIRROR.PARTNER : Fld := ⟨0x130, 0, 32⟩
abbrev MIRROR.PARTNER_EPOCH : Fld := ⟨0x134, 0, 32⟩
abbrev MIRROR.RX_CP_BASE : Fld := ⟨0x138, 0, 64⟩
abbrev MIRROR.RESYNC_CMD : Fld := ⟨0x140, 0, 1⟩
abbrev MIRROR.CRC_ERRORS : Fld := ⟨0x144, 0, 32⟩
abbrev MIRROR.RETRANSMITS : Fld := ⟨0x148, 0, 32⟩
abbrev MIRROR.HB_MISSED : Fld := ⟨0x14C, 0, 16⟩

abbrev SC.STATUS_LOCKUP : Fld := ⟨0x00C, 3, 1⟩
abbrev SC.STATUS_PART_DENY : Fld := ⟨0x00C, 4, 1⟩
abbrev SC.STATUS_HALTED : Fld := ⟨0x00C, 16, 1⟩
abbrev SC.STATUS_WAITING : Fld := ⟨0x00C, 17, 1⟩
abbrev SC.PC : Fld := ⟨0x100, 0, 17⟩
abbrev SC.CORE_STAT_IE : Fld := ⟨0x104, 0, 1⟩
abbrev SC.CORE_STAT_RPRIO : Fld := ⟨0x104, 1, 3⟩
abbrev SC.CORE_STAT_DSD : Fld := ⟨0x104, 4, 4⟩
abbrev SC.CORE_STAT_RSD : Fld := ⟨0x104, 8, 5⟩
abbrev SC.CORE_STAT : Fld := ⟨0x104, 0, 32⟩
abbrev SC.ECAUSE : Fld := ⟨0x108, 0, 16⟩
abbrev SC.EADDR : Fld := ⟨0x10C, 0, 32⟩
abbrev SC.CYCLES : Fld := ⟨0x110, 0, 32⟩
abbrev SC.RETIRED : Fld := ⟨0x114, 0, 32⟩
abbrev SC.NUDGE : Fld := ⟨0x118, 0, 1⟩
abbrev SC.PARTIAL_STALLS : Fld := ⟨0x120, 0, 32⟩
abbrev SC.PARTIAL_STALL_CC : Fld := ⟨0x124, 0, 32⟩
abbrev SC.LOAD_WAIT_CC : Fld := ⟨0x128, 0, 32⟩
abbrev SC.SB_FULL_CC : Fld := ⟨0x12C, 0, 32⟩
abbrev SC.FETCH_CONFLICT_CC : Fld := ⟨0x130, 0, 32⟩
abbrev SC.COLLIDED : Fld := ⟨0x134, 0, 32⟩
abbrev SC.SB_LEVEL : Fld := ⟨0x138, 0, 4⟩

abbrev PK.STATUS_ECC_UNCORR : Fld := ⟨0x00C, 3, 1⟩
abbrev PK.STATUS_COLLISION : Fld := ⟨0x00C, 4, 1⟩
abbrev PK.COLL_CFG_MODE : Fld := ⟨0x100, 0, 1⟩
abbrev PK.COLL_CFG_LOG : Fld := ⟨0x100, 8, 1⟩
abbrev PK.COLL_CFG : Fld := ⟨0x100, 0, 32⟩
abbrev PK.COLLISIONS : Fld := ⟨0x104, 0, 32⟩
abbrev PK.BANK_WAITS : Fld := ⟨0x108, 0, 32⟩
abbrev PK.ECC_CORRECTED : Fld := ⟨0x10C, 0, 32⟩
abbrev PK.ECC_LAST : Fld := ⟨0x110, 0, 20⟩
abbrev PK.SPARES : Fld := ⟨0x120, 0, 32⟩

abbrev HEAD.STATUS_LL_ERROR : Fld := ⟨0x00C, 3, 1⟩
abbrev HEAD.STATUS_LL_WAIT : Fld := ⟨0x00C, 4, 1⟩
abbrev HEAD.STATUS_WB_DROP : Fld := ⟨0x00C, 5, 1⟩
abbrev HEAD.STATUS_WB_FAULT : Fld := ⟨0x00C, 6, 1⟩
abbrev HEAD.STATUS_UNDERRUN : Fld := ⟨0x00C, 7, 1⟩
abbrev HEAD.STATUS_SYNC_LOST : Fld := ⟨0x00C, 8, 1⟩
abbrev HEAD.MODE : Fld := ⟨0x100, 0, 4⟩
abbrev HEAD.MODE_BPC : Fld := ⟨0x100, 4, 1⟩
abbrev HEAD.HEAD_STAT_SERVED_BY : Fld := ⟨0x104, 0, 6⟩
abbrev HEAD.HEAD_STAT_DARK : Fld := ⟨0x104, 8, 1⟩
abbrev HEAD.HEAD_STAT_CARRIED : Fld := ⟨0x104, 9, 1⟩
abbrev HEAD.HEAD_STAT : Fld := ⟨0x104, 0, 32⟩
abbrev HEAD.LATE_LINES : Fld := ⟨0x108, 0, 32⟩
abbrev HEAD.BEAM_LINE : Fld := ⟨0x200, 0, 12⟩
abbrev HEAD.BEAM_FRAME : Fld := ⟨0x204, 0, 32⟩
abbrev HEAD.BEAM_SNAP : Fld := ⟨0x208, 0, 64⟩
abbrev HEAD.BEAM_DOT : Fld := ⟨0x210, 0, 13⟩
abbrev HEAD.COMPOSE_LINE : Fld := ⟨0x214, 0, 12⟩
abbrev HEAD.LOOKAHEAD : Fld := ⟨0x218, 0, 3⟩
abbrev HEAD.LOOK_NOW_NOW : Fld := ⟨0x21C, 0, 3⟩
abbrev HEAD.LOOK_NOW_MIN : Fld := ⟨0x21C, 8, 3⟩
abbrev HEAD.LOOK_NOW : Fld := ⟨0x21C, 0, 32⟩
abbrev HEAD.LL_BASE : Fld := ⟨0x220, 0, 64⟩
abbrev HEAD.LL_CTRL : Fld := ⟨0x228, 0, 1⟩
abbrev HEAD.CEV_TAG : Fld := ⟨0x230, 0, 32⟩
abbrev HEAD.SEV_TAG : Fld := ⟨0x234, 0, 32⟩
abbrev HEAD.LL_STAT_ENTRIES : Fld := ⟨0x238, 0, 17⟩
abbrev HEAD.LL_STAT_STOPPED : Fld := ⟨0x238, 24, 1⟩
abbrev HEAD.LL_STAT : Fld := ⟨0x238, 0, 32⟩
abbrev HEAD.LL_WAIT_LINES : Fld := ⟨0x23C, 0, 12⟩
abbrev HEAD.BLINK_CFG_ON : Fld := ⟨0x240, 0, 16⟩
abbrev HEAD.BLINK_CFG_OFF : Fld := ⟨0x240, 16, 16⟩
abbrev HEAD.BLINK_CFG : Fld := ⟨0x240, 0, 32⟩
abbrev HEAD.WB_CTRL_EN : Fld := ⟨0x300, 0, 1⟩
abbrev HEAD.WB_CTRL_SRC : Fld := ⟨0x300, 1, 1⟩
abbrev HEAD.WB_CTRL_FORMAT : Fld := ⟨0x300, 2, 1⟩
abbrev HEAD.WB_CTRL_ALTERNATE : Fld := ⟨0x300, 3, 1⟩
abbrev HEAD.WB_CTRL_EVERY : Fld := ⟨0x300, 8, 8⟩
abbrev HEAD.WB_CTRL : Fld := ⟨0x300, 0, 32⟩
abbrev HEAD.WB_BASE : Fld := ⟨0x308, 0, 64⟩
abbrev HEAD.WB_PITCH : Fld := ⟨0x318, 0, 20⟩
abbrev HEAD.WB_WIN_X_X0 : Fld := ⟨0x31C, 0, 12⟩
abbrev HEAD.WB_WIN_X_X1 : Fld := ⟨0x31C, 16, 12⟩
abbrev HEAD.WB_WIN_X : Fld := ⟨0x31C, 0, 32⟩
abbrev HEAD.WB_WIN_Y_Y0 : Fld := ⟨0x320, 0, 12⟩
abbrev HEAD.WB_WIN_Y_Y1 : Fld := ⟨0x320, 16, 12⟩
abbrev HEAD.WB_WIN_Y : Fld := ⟨0x320, 0, 32⟩
abbrev HEAD.WB_STAT_LAST : Fld := ⟨0x324, 0, 1⟩
abbrev HEAD.WB_STAT_BUSY : Fld := ⟨0x324, 1, 1⟩
abbrev HEAD.WB_STAT_LINES_DROPPED : Fld := ⟨0x324, 16, 12⟩
abbrev HEAD.WB_STAT : Fld := ⟨0x324, 0, 32⟩
abbrev HEAD.WB_LAST_FRAME : Fld := ⟨0x328, 0, 32⟩
abbrev HEAD.WB_CAPTURES : Fld := ⟨0x32C, 0, 32⟩
abbrev HEAD.OUT_CFG : Fld := ⟨0x340, 0, 1⟩
abbrev HEAD.SYNC_CFG_SOURCE : Fld := ⟨0x400, 0, 3⟩
abbrev HEAD.SYNC_CFG_EDGE : Fld := ⟨0x400, 4, 1⟩
abbrev HEAD.SYNC_CFG_JUMP : Fld := ⟨0x400, 5, 1⟩
abbrev HEAD.SYNC_CFG_BELL : Fld := ⟨0x400, 6, 1⟩
abbrev HEAD.SYNC_CFG_SLEW : Fld := ⟨0x400, 8, 4⟩
abbrev HEAD.SYNC_CFG_OFFSET : Fld := ⟨0x400, 16, 12⟩
abbrev HEAD.SYNC_CFG : Fld := ⟨0x400, 0, 32⟩
abbrev HEAD.SYNC_STAT_STATE : Fld := ⟨0x404, 0, 2⟩
abbrev HEAD.SYNC_STAT_IS_BELL : Fld := ⟨0x404, 2, 1⟩
abbrev HEAD.SYNC_STAT_RATE_MISMATCH : Fld := ⟨0x404, 3, 1⟩
abbrev HEAD.SYNC_STAT_ERROR : Fld := ⟨0x404, 16, 12⟩
abbrev HEAD.SYNC_STAT : Fld := ⟨0x404, 0, 32⟩
abbrev HEAD.SYNC_COUNT_MISSED : Fld := ⟨0x408, 0, 16⟩
abbrev HEAD.SYNC_COUNT_EXTRA : Fld := ⟨0x408, 16, 16⟩
abbrev HEAD.SYNC_COUNT : Fld := ⟨0x408, 0, 32⟩
abbrev HEAD.FRAME_LINES : Fld := ⟨0x40C, 0, 12⟩

abbrev PE.STATUS_DEGRADED : Fld := ⟨0x00C, 2, 1⟩
abbrev PE.STATUS_FETCH_DENY : Fld := ⟨0x00C, 3, 1⟩
abbrev PE.STATUS_FETCH_ERROR : Fld := ⟨0x00C, 4, 1⟩
abbrev PE.STATUS_LAYER_INVALID : Fld := ⟨0x00C, 5, 1⟩
abbrev PE.STATUS_OVER_BUDGET : Fld := ⟨0x00C, 6, 1⟩
abbrev PE.STATUS_SPRITE_OVERFLOW : Fld := ⟨0x00C, 7, 1⟩
abbrev PE.STATUS_SPRITE_INVALID : Fld := ⟨0x00C, 8, 1⟩
abbrev PE.STATUS_FLOCK_FULL : Fld := ⟨0x00C, 9, 1⟩
abbrev PE.PE_CFG : Fld := ⟨0x100, 0, 4⟩
abbrev PE.LAYER_HOLD : Fld := ⟨0x104, 0, 8⟩
abbrev PE.PAL_ADDR_INDEX : Fld := ⟨0x108, 0, 12⟩
abbrev PE.PAL_ADDR_AUTOINC : Fld := ⟨0x108, 16, 1⟩
abbrev PE.PAL_ADDR : Fld := ⟨0x108, 0, 32⟩
abbrev PE.PAL_DATA : Fld := ⟨0x110, 0, 64⟩
abbrev PE.TILE_MISSES : Fld := ⟨0x120, 0, 32⟩
abbrev PE.MAP_MISSES : Fld := ⟨0x124, 0, 32⟩
abbrev PE.FRAME_GRANULES : Fld := ⟨0x128, 0, 32⟩
abbrev PE.PEAK_COST : Fld := ⟨0x12C, 0, 20⟩
abbrev PE.LCTRL_EN : Fld := ⟨0x200, 0, 1⟩
abbrev PE.LCTRL_KIND : Fld := ⟨0x200, 1, 1⟩
abbrev PE.LCTRL_FORMAT : Fld := ⟨0x200, 2, 4⟩
abbrev PE.LCTRL_TSIZE : Fld := ⟨0x200, 6, 2⟩
abbrev PE.LCTRL_WRAP_X : Fld := ⟨0x200, 8, 2⟩
abbrev PE.LCTRL_WRAP_Y : Fld := ⟨0x200, 10, 2⟩
abbrev PE.LCTRL_KEY0 : Fld := ⟨0x200, 12, 1⟩
abbrev PE.LCTRL_BLINK_MODE : Fld := ⟨0x200, 13, 1⟩
abbrev PE.LCTRL_PRIO : Fld := ⟨0x200, 14, 1⟩
abbrev PE.LCTRL_SCALE : Fld := ⟨0x200, 15, 1⟩
abbrev PE.LCTRL_MATRIX : Fld := ⟨0x200, 16, 2⟩
abbrev PE.LCTRL_RANGE : Fld := ⟨0x200, 18, 1⟩
abbrev PE.LCTRL : Fld := ⟨0x200, 0, 32⟩
abbrev PE.LALPHA_ALPHA : Fld := ⟨0x204, 0, 8⟩
abbrev PE.LALPHA_PAL_BASE : Fld := ⟨0x204, 8, 4⟩
abbrev PE.LALPHA : Fld := ⟨0x204, 0, 32⟩
abbrev PE.BASE0 : Fld := ⟨0x208, 0, 64⟩
abbrev PE.BASE1 : Fld := ⟨0x210, 0, 64⟩
abbrev PE.PITCH : Fld := ⟨0x218, 0, 20⟩
abbrev PE.SIZE_W : Fld := ⟨0x21C, 0, 14⟩
abbrev PE.SIZE_H : Fld := ⟨0x21C, 16, 14⟩
abbrev PE.SIZE : Fld := ⟨0x21C, 0, 32⟩
abbrev PE.SCROLL_X : Fld := ⟨0x220, 0, 17⟩
abbrev PE.SCROLL_Y : Fld := ⟨0x224, 0, 17⟩
abbrev PE.WIN_X_X0 : Fld := ⟨0x228, 0, 12⟩
abbrev PE.WIN_X_X1 : Fld := ⟨0x228, 16, 12⟩
abbrev PE.WIN_X : Fld := ⟨0x228, 0, 32⟩
abbrev PE.WIN_Y_Y0 : Fld := ⟨0x22C, 0, 12⟩
abbrev PE.WIN_Y_Y1 : Fld := ⟨0x22C, 16, 12⟩
abbrev PE.WIN_Y : Fld := ⟨0x22C, 0, 32⟩
abbrev PE.ZOOM_X : Fld := ⟨0x230, 0, 4⟩
abbrev PE.ZOOM_Y : Fld := ⟨0x230, 8, 4⟩
abbrev PE.ZOOM : Fld := ⟨0x230, 0, 32⟩
abbrev PE.STEP_X : Fld := ⟨0x234, 0, 20⟩
abbrev PE.STEP_Y : Fld := ⟨0x238, 0, 20⟩
abbrev PE.PHASE_X : Fld := ⟨0x23C, 0, 16⟩
abbrev PE.PHASE_Y : Fld := ⟨0x23C, 16, 16⟩
abbrev PE.PHASE : Fld := ⟨0x23C, 0, 32⟩
abbrev PE.FLK_CFG_EN : Fld := ⟨0x600, 0, 1⟩
abbrev PE.FLK_CFG_FRAME_SYNC : Fld := ⟨0x600, 1, 1⟩
abbrev PE.FLK_CFG_COUNT : Fld := ⟨0x600, 16, 11⟩
abbrev PE.FLK_CFG : Fld := ⟨0x600, 0, 32⟩
abbrev PE.FLK_HOLD : Fld := ⟨0x604, 0, 1⟩
abbrev PE.FLK_ADDR_WORD : Fld := ⟨0x608, 0, 12⟩
abbrev PE.FLK_ADDR_AUTOINC : Fld := ⟨0x608, 16, 1⟩
abbrev PE.FLK_ADDR : Fld := ⟨0x608, 0, 32⟩
abbrev PE.FLK_MASK : Fld := ⟨0x60C, 0, 32⟩
abbrev PE.FLK_DATA : Fld := ⟨0x610, 0, 32⟩
abbrev PE.FLK_QUEUE : Fld := ⟨0x614, 0, 9⟩
abbrev PE.SPR_BASE : Fld := ⟨0x618, 0, 64⟩
abbrev PE.SPR_DROP_LINES : Fld := ⟨0x620, 0, 16⟩
abbrev PE.SPR_PEAK_COUNT : Fld := ⟨0x624, 0, 11⟩
abbrev PE.SPR_PEAK_LINE : Fld := ⟨0x624, 16, 12⟩
abbrev PE.SPR_PEAK : Fld := ⟨0x624, 0, 32⟩
abbrev PE.COMP_CFG_LINEAR : Fld := ⟨0x700, 0, 1⟩
abbrev PE.COMP_CFG_CMAT_EN : Fld := ⟨0x700, 1, 1⟩
abbrev PE.COMP_CFG_GAM_EN : Fld := ⟨0x700, 2, 1⟩
abbrev PE.COMP_CFG_LUT_BANK : Fld := ⟨0x700, 3, 1⟩
abbrev PE.COMP_CFG : Fld := ⟨0x700, 0, 32⟩
abbrev PE.BG_COLOUR : Fld := ⟨0x704, 0, 30⟩
abbrev PE.BLEND_L : Fld := ⟨0x708, 0, 16⟩
abbrev PE.BLEND_SPR_N : Fld := ⟨0x708, 16, 2⟩
abbrev PE.BLEND_SPR_P : Fld := ⟨0x708, 18, 2⟩
abbrev PE.BLEND : Fld := ⟨0x708, 0, 32⟩
abbrev PE.CMAT0_C00 : Fld := ⟨0x710, 0, 16⟩
abbrev PE.CMAT0_C01 : Fld := ⟨0x710, 16, 16⟩
abbrev PE.CMAT0 : Fld := ⟨0x710, 0, 32⟩
abbrev PE.CMAT1_C02 : Fld := ⟨0x714, 0, 16⟩
abbrev PE.CMAT1_C10 : Fld := ⟨0x714, 16, 16⟩
abbrev PE.CMAT1 : Fld := ⟨0x714, 0, 32⟩
abbrev PE.CMAT2_C11 : Fld := ⟨0x718, 0, 16⟩
abbrev PE.CMAT2_C12 : Fld := ⟨0x718, 16, 16⟩
abbrev PE.CMAT2 : Fld := ⟨0x718, 0, 32⟩
abbrev PE.CMAT3_C20 : Fld := ⟨0x71C, 0, 16⟩
abbrev PE.CMAT3_C21 : Fld := ⟨0x71C, 16, 16⟩
abbrev PE.CMAT3 : Fld := ⟨0x71C, 0, 32⟩
abbrev PE.CMAT4 : Fld := ⟨0x720, 0, 16⟩
abbrev PE.COFF0_O0 : Fld := ⟨0x724, 0, 13⟩
abbrev PE.COFF0_O1 : Fld := ⟨0x724, 16, 13⟩
abbrev PE.COFF0 : Fld := ⟨0x724, 0, 32⟩
abbrev PE.COFF1 : Fld := ⟨0x728, 0, 13⟩
abbrev PE.COMP_STAT : Fld := ⟨0x72C, 0, 1⟩
abbrev PE.LUT_ADDR_INDEX : Fld := ⟨0x800, 0, 12⟩
abbrev PE.LUT_ADDR_TABLE : Fld := ⟨0x800, 12, 2⟩
abbrev PE.LUT_ADDR_BANK : Fld := ⟨0x800, 16, 1⟩
abbrev PE.LUT_ADDR_AUTOINC : Fld := ⟨0x800, 17, 1⟩
abbrev PE.LUT_ADDR : Fld := ⟨0x800, 0, 32⟩
abbrev PE.LUT_DATA : Fld := ⟨0x804, 0, 12⟩
abbrev PE.BIST_CTRL_REQ : Fld := ⟨0x900, 0, 1⟩
abbrev PE.BIST_CTRL_FORCE : Fld := ⟨0x900, 1, 1⟩
abbrev PE.BIST_CTRL : Fld := ⟨0x900, 0, 32⟩
abbrev PE.BIST_STAT_QUEUED : Fld := ⟨0x904, 0, 1⟩
abbrev PE.BIST_STAT_RUNNING : Fld := ⟨0x904, 1, 1⟩
abbrev PE.BIST_STAT_RESULT : Fld := ⟨0x904, 2, 2⟩
abbrev PE.BIST_STAT_CODE : Fld := ⟨0x904, 8, 8⟩
abbrev PE.BIST_STAT : Fld := ⟨0x904, 0, 32⟩
abbrev PE.BIST_FRAME : Fld := ⟨0x908, 0, 32⟩
abbrev PE.REL_CTRL_EN : Fld := ⟨0x980, 0, 1⟩
abbrev PE.REL_CTRL_RESUME : Fld := ⟨0x980, 1, 1⟩
abbrev PE.REL_CTRL : Fld := ⟨0x980, 0, 32⟩
abbrev PE.REL_SKIP : Fld := ⟨0x984, 0, 32⟩
abbrev PE.REL_STAT_HEAD : Fld := ⟨0x988, 0, 5⟩
abbrev PE.REL_STAT_PHASE : Fld := ⟨0x988, 8, 3⟩
abbrev PE.REL_STAT : Fld := ⟨0x988, 0, 32⟩
abbrev PE.REL_ROTATIONS : Fld := ⟨0x98C, 0, 32⟩
abbrev PE.REL_MISMATCH : Fld := ⟨0x990, 0, 32⟩

abbrev VP.STATUS_LINK_FAIL : Fld := ⟨0x00C, 3, 1⟩
abbrev VP.STATUS_BW_SHORT : Fld := ⟨0x00C, 4, 1⟩
abbrev VP.STATUS_LINK_LOST : Fld := ⟨0x00C, 5, 1⟩
abbrev VP.STATUS_AUX_ERROR : Fld := ⟨0x00C, 6, 1⟩
abbrev VP.LINK_CFG_MAX_RATE : Fld := ⟨0x100, 0, 3⟩
abbrev VP.LINK_CFG_LANES : Fld := ⟨0x100, 4, 2⟩
abbrev VP.LINK_CFG_AUTO : Fld := ⟨0x100, 8, 1⟩
abbrev VP.LINK_CFG_MST : Fld := ⟨0x100, 9, 1⟩
abbrev VP.LINK_CFG : Fld := ⟨0x100, 0, 32⟩
abbrev VP.LINK_CMD_TRAIN : Fld := ⟨0x104, 0, 1⟩
abbrev VP.LINK_CMD_DROP : Fld := ⟨0x104, 1, 1⟩
abbrev VP.LINK_CMD : Fld := ⟨0x104, 0, 32⟩
abbrev VP.LINK_STAT_STATE : Fld := ⟨0x108, 0, 3⟩
abbrev VP.LINK_STAT_RATE : Fld := ⟨0x108, 4, 3⟩
abbrev VP.LINK_STAT_LANES : Fld := ⟨0x108, 8, 2⟩
abbrev VP.LINK_STAT_HPD : Fld := ⟨0x108, 12, 1⟩
abbrev VP.LINK_STAT : Fld := ⟨0x108, 0, 32⟩
abbrev VP.STREAMS_CARRIED : Fld := ⟨0x10C, 0, 4⟩
abbrev VP.STREAMS_REQUESTED : Fld := ⟨0x10C, 4, 4⟩
abbrev VP.STREAMS : Fld := ⟨0x10C, 0, 32⟩
abbrev VP.PAYLOAD_USED : Fld := ⟨0x110, 0, 17⟩
abbrev VP.PAYLOAD_CAP : Fld := ⟨0x114, 0, 17⟩
abbrev VP.AUX_CMD_OP : Fld := ⟨0x120, 0, 2⟩
abbrev VP.AUX_CMD_LEN : Fld := ⟨0x120, 4, 4⟩
abbrev VP.AUX_CMD_ADDR : Fld := ⟨0x120, 8, 20⟩
abbrev VP.AUX_CMD_GO : Fld := ⟨0x120, 31, 1⟩
abbrev VP.AUX_CMD : Fld := ⟨0x120, 0, 32⟩
abbrev VP.AUX_STAT_BUSY : Fld := ⟨0x124, 0, 1⟩
abbrev VP.AUX_STAT_RESULT : Fld := ⟨0x124, 1, 3⟩
abbrev VP.AUX_STAT : Fld := ⟨0x124, 0, 32⟩
abbrev VP.AUX_DATA : Fld := ⟨0x130, 0, 32⟩


abbrev HOST.STATUS_HDM_DENY : Fld := ⟨0x00C, 3, 1⟩
abbrev HOST.STATUS_RELAY_FAULT : Fld := ⟨0x00C, 4, 1⟩
abbrev HOST.STATUS_LINK_DOWN : Fld := ⟨0x00C, 5, 1⟩
abbrev HOST.STATUS_IDE_FAULT : Fld := ⟨0x00C, 6, 1⟩
abbrev HOST.STATUS_CXL_UP : Fld := ⟨0x00C, 16, 1⟩
abbrev HOST.STATUS_HDM_ON : Fld := ⟨0x00C, 17, 1⟩
abbrev HOST.LINK_STAT_RATE : Fld := ⟨0x100, 0, 2⟩
abbrev HOST.LINK_STAT_WIDTH : Fld := ⟨0x100, 4, 2⟩
abbrev HOST.LINK_STAT_FLIT256 : Fld := ⟨0x100, 8, 1⟩
abbrev HOST.LINK_STAT_CACHE : Fld := ⟨0x100, 9, 1⟩
abbrev HOST.LINK_STAT_MEM : Fld := ⟨0x100, 10, 1⟩
abbrev HOST.LINK_STAT_IDE_IO : Fld := ⟨0x100, 11, 1⟩
abbrev HOST.LINK_STAT_IDE_CM : Fld := ⟨0x100, 12, 1⟩
abbrev HOST.LINK_STAT : Fld := ⟨0x100, 0, 32⟩
abbrev HOST.HDM_SIZE : Fld := ⟨0x104, 0, 8⟩
abbrev HOST.HDM_BASE : Fld := ⟨0x108, 0, 64⟩
abbrev HOST.BISNP : Fld := ⟨0x110, 0, 32⟩
abbrev HOST.SF_LINES : Fld := ⟨0x114, 0, 22⟩
abbrev HOST.IR_BASE : Fld := ⟨0x200, 0, 64⟩
abbrev HOST.IR_CFG_SIZE : Fld := ⟨0x208, 0, 5⟩
abbrev HOST.IR_CFG_EN : Fld := ⟨0x208, 8, 1⟩
abbrev HOST.IR_CFG : Fld := ⟨0x208, 0, 32⟩
abbrev HOST.IR_HEAD : Fld := ⟨0x20C, 0, 16⟩
abbrev HOST.IR_TAIL : Fld := ⟨0x210, 0, 16⟩
abbrev HOST.IR_TAIL_ADDR : Fld := ⟨0x218, 0, 64⟩
abbrev HOST.OR_BASE : Fld := ⟨0x300, 0, 64⟩
abbrev HOST.OR_CFG_SIZE : Fld := ⟨0x308, 0, 5⟩
abbrev HOST.OR_CFG_EN : Fld := ⟨0x308, 8, 1⟩
abbrev HOST.OR_CFG_INT : Fld := ⟨0x308, 9, 1⟩
abbrev HOST.OR_CFG : Fld := ⟨0x308, 0, 32⟩
abbrev HOST.OR_HEAD : Fld := ⟨0x30C, 0, 16⟩
abbrev HOST.OR_TAIL : Fld := ⟨0x310, 0, 16⟩
abbrev HOST.OR_HEAD_ADDR : Fld := ⟨0x318, 0, 64⟩
abbrev HOST.RTX_CFG_CLUSTER : Fld := ⟨0x400, 0, 3⟩
abbrev HOST.RTX_CFG_EN : Fld := ⟨0x400, 8, 1⟩
abbrev HOST.RTX_CFG : Fld := ⟨0x400, 0, 32⟩
abbrev HOST.RTX_DATA_BASE : Fld := ⟨0x404, 0, 20⟩
abbrev HOST.RTX_DATA_SIZE : Fld := ⟨0x404, 24, 5⟩
abbrev HOST.RTX_DATA : Fld := ⟨0x404, 0, 32⟩
abbrev HOST.RTX_DESC_BASE : Fld := ⟨0x408, 0, 20⟩
abbrev HOST.RTX_DESC_COUNT : Fld := ⟨0x408, 24, 5⟩
abbrev HOST.RTX_DESC : Fld := ⟨0x408, 0, 32⟩
abbrev HOST.RTX_HEAD : Fld := ⟨0x40C, 0, 16⟩
abbrev HOST.RTX_TAIL : Fld := ⟨0x410, 0, 16⟩
abbrev HOST.RTX_OWNER : Fld := ⟨0x414, 0, 8⟩
abbrev HOST.IN_FRAMES : Fld := ⟨0x418, 0, 32⟩
abbrev HOST.OUT_FRAMES : Fld := ⟨0x41C, 0, 32⟩
abbrev HOST.BROKEN : Fld := ⟨0x420, 0, 32⟩

abbrev SAFETY.STATUS_WDOG_EXPIRED : Fld := ⟨0x00C, 3, 1⟩
abbrev SAFETY.INT_PEND_WDOG : Fld := ⟨0x014, 0, 1⟩
abbrev SAFETY.WDOG_CFG_PERIOD : Fld := ⟨0x100, 0, 16⟩
abbrev SAFETY.WDOG_CFG_VOX : Fld := ⟨0x100, 16, 6⟩
abbrev SAFETY.WDOG_CFG_VOX_EN : Fld := ⟨0x100, 24, 1⟩
abbrev SAFETY.WDOG_CFG : Fld := ⟨0x100, 0, 32⟩
abbrev SAFETY.WDOG_PARAM : Fld := ⟨0x104, 0, 32⟩
abbrev SAFETY.WDOG_KICK : Fld := ⟨0x108, 0, 32⟩
abbrev SAFETY.WDOG_REMAIN : Fld := ⟨0x10C, 0, 16⟩
abbrev SAFETY.WDOG_EXPIRIES : Fld := ⟨0x110, 0, 32⟩

abbrev OWNERSHIP.OWN_SEL_INDEX : Fld := ⟨0x100, 0, 16⟩
abbrev OWNERSHIP.OWN_SEL_CLASS : Fld := ⟨0x100, 16, 4⟩
abbrev OWNERSHIP.OWN_SEL : Fld := ⟨0x100, 0, 32⟩
abbrev OWNERSHIP.OWN_VALUE : Fld := ⟨0x104, 0, 8⟩
abbrev OWNERSHIP.OWN_FENCE_FENCE : Fld := ⟨0x108, 0, 1⟩
abbrev OWNERSHIP.OWN_FENCE_UNFENCE : Fld := ⟨0x108, 1, 1⟩
abbrev OWNERSHIP.OWN_FENCE : Fld := ⟨0x108, 0, 32⟩
abbrev OWNERSHIP.OWN_STATUS : Fld := ⟨0x10C, 0, 1⟩

abbrev PROTR.PROT : Fld := ⟨0x100, 0, 32⟩
abbrev PROTR.FLOOR : Fld := ⟨0x200, 0, 16⟩
abbrev PROTR.PR_ADDR_OFFSET : Fld := ⟨0x600, 0, 12⟩
abbrev PROTR.PR_ADDR_PAGE : Fld := ⟨0x600, 16, 1⟩
abbrev PROTR.PR_ADDR : Fld := ⟨0x600, 0, 32⟩
abbrev PROTR.PR_DATA : Fld := ⟨0x604, 0, 32⟩

abbrev SAPPHIRE.STATUS_SIG_MISMATCH : Fld := ⟨0x00C, 3, 1⟩
abbrev SAPPHIRE.STATUS_BAD_ENTRY : Fld := ⟨0x00C, 4, 1⟩
abbrev SAPPHIRE.STATUS_ACTIVE_WRITE : Fld := ⟨0x00C, 5, 1⟩
abbrev SAPPHIRE.SAP_CTRL_SHOW : Fld := ⟨0x100, 0, 1⟩
abbrev SAPPHIRE.SAP_CTRL_FLIP : Fld := ⟨0x100, 1, 1⟩
abbrev SAPPHIRE.SAP_CTRL_COPY : Fld := ⟨0x100, 2, 1⟩
abbrev SAPPHIRE.SAP_CTRL_LEARN : Fld := ⟨0x100, 3, 1⟩
abbrev SAPPHIRE.SAP_CTRL_CHECK : Fld := ⟨0x100, 4, 1⟩
abbrev SAPPHIRE.SAP_CTRL_ACTION : Fld := ⟨0x100, 5, 1⟩
abbrev SAPPHIRE.SAP_CTRL_LIMIT : Fld := ⟨0x100, 8, 4⟩
abbrev SAPPHIRE.SAP_CTRL : Fld := ⟨0x100, 0, 32⟩
abbrev SAPPHIRE.SAP_BANK_ACTIVE : Fld := ⟨0x104, 0, 1⟩
abbrev SAPPHIRE.SAP_BANK_FLIP_PENDING : Fld := ⟨0x104, 1, 1⟩
abbrev SAPPHIRE.SAP_BANK_COPYING : Fld := ⟨0x104, 2, 1⟩
abbrev SAPPHIRE.SAP_BANK : Fld := ⟨0x104, 0, 32⟩
abbrev SAPPHIRE.SAP_BLINK_ON : Fld := ⟨0x108, 0, 16⟩
abbrev SAPPHIRE.SAP_BLINK_OFF : Fld := ⟨0x108, 16, 16⟩
abbrev SAPPHIRE.SAP_BLINK : Fld := ⟨0x108, 0, 32⟩
abbrev SAPPHIRE.SAP_ADDR_OFFSET : Fld := ⟨0x10C, 0, 19⟩
abbrev SAPPHIRE.SAP_ADDR_AUTOINC : Fld := ⟨0x10C, 20, 1⟩
abbrev SAPPHIRE.SAP_ADDR : Fld := ⟨0x10C, 0, 32⟩
abbrev SAPPHIRE.SAP_DATA : Fld := ⟨0x110, 0, 32⟩
abbrev SAPPHIRE.SIG_WIN_X_X0 : Fld := ⟨0x120, 0, 12⟩
abbrev SAPPHIRE.SIG_WIN_X_X1 : Fld := ⟨0x120, 16, 12⟩
abbrev SAPPHIRE.SIG_WIN_X : Fld := ⟨0x120, 0, 32⟩
abbrev SAPPHIRE.SIG_WIN_Y_Y0 : Fld := ⟨0x124, 0, 12⟩
abbrev SAPPHIRE.SIG_WIN_Y_Y1 : Fld := ⟨0x124, 16, 12⟩
abbrev SAPPHIRE.SIG_WIN_Y : Fld := ⟨0x124, 0, 32⟩
abbrev SAPPHIRE.SIG_REF_ON : Fld := ⟨0x128, 0, 32⟩
abbrev SAPPHIRE.SIG_REF_OFF : Fld := ⟨0x12C, 0, 32⟩
abbrev SAPPHIRE.SIG_NEXT_ON : Fld := ⟨0x130, 0, 32⟩
abbrev SAPPHIRE.SIG_NEXT_OFF : Fld := ⟨0x134, 0, 32⟩
abbrev SAPPHIRE.SIG_LAST : Fld := ⟨0x138, 0, 32⟩
abbrev SAPPHIRE.SIG_INFO_FRAME : Fld := ⟨0x13C, 0, 16⟩
abbrev SAPPHIRE.SIG_INFO_PHASE : Fld := ⟨0x13C, 16, 1⟩
abbrev SAPPHIRE.SIG_INFO_CHECKED : Fld := ⟨0x13C, 17, 1⟩
abbrev SAPPHIRE.SIG_INFO_MATCH : Fld := ⟨0x13C, 18, 1⟩
abbrev SAPPHIRE.SIG_INFO : Fld := ⟨0x13C, 0, 32⟩
abbrev SAPPHIRE.SIG_FAILS : Fld := ⟨0x140, 0, 32⟩
abbrev SAPPHIRE.SIG_RUN : Fld := ⟨0x144, 0, 8⟩
abbrev SAPPHIRE.SPAL : Fld := ⟨0x400, 0, 64⟩

end Sys2Proof.Machine
end

