-- ==== Sys2Proof/Machine/RegTable.lean ====
section
/-! DEFINITION. The register tables of the chapters: for each kind of page the block-specific registers
and the common registers that carry block-specific bits, with their offset, repetition, writable and
write-1-to-clear bits and reset value (R9, R10, R26, R28). `free` marks what LOCK does not freeze (R29). -/

namespace Sys2Proof.Machine

/-- The kinds of page (table "Page kinds"); `hostMem` and `hostVec` stand for the pages of HOST and of
Function 1 that are no block pages (R28, R448). -/
inductive Kind where
  | kDEVICE | kCLOCKS | kPOWER | kPINS | kMEMCTL | kPARTITIONS | kTIMEBASE | kDATAPORTS | kINTC | kINTCG | kDROVER | kDV | kBLITTER | kAUDIO | kAUDIOR | kFIELD | kFP | kCV | kPOINTS | kBRANDS | kCOMMANDS | kHISTORY | kJOURNAL | kMIRROR | kSC | kPK | kHEAD | kPE | kVP | kSAPV | kHOST | kSAFETY | kOWNERSHIP | kPROTR | kSAPPHIRE | hostMem | hostVec
deriving DecidableEq, Repr

/-- The kind code PAGE_ID[31:24] reads (R28). -/
def Kind.code : Kind → Nat
  | .kDEVICE => 1
  | .kCLOCKS => 2
  | .kPOWER => 3
  | .kPINS => 4
  | .kMEMCTL => 5
  | .kPARTITIONS => 6
  | .kTIMEBASE => 7
  | .kDATAPORTS => 8
  | .kINTC => 9
  | .kINTCG => 10
  | .kDROVER => 11
  | .kDV => 12
  | .kBLITTER => 13
  | .kAUDIO => 14
  | .kAUDIOR => 15
  | .kFIELD => 16
  | .kFP => 17
  | .kCV => 18
  | .kPOINTS => 19
  | .kBRANDS => 20
  | .kCOMMANDS => 21
  | .kHISTORY => 22
  | .kJOURNAL => 23
  | .kMIRROR => 24
  | .kSC => 25
  | .kPK => 26
  | .kHEAD => 27
  | .kPE => 28
  | .kVP => 29
  | .kSAPV => 30
  | .kHOST => 31
  | .kSAFETY => 32
  | .kOWNERSHIP => 33
  | .kPROTR => 34
  | .kSAPPHIRE => 35
  | .hostMem => 0
  | .hostVec => 0

/-- One row of a register table: offset, stride and count of its copies, 64-bit or not, the bits a write
sets, the bits a written 1 clears, the reset value, and whether LOCK leaves it open (R29),
whether Function 1 always writes it (RWK) and whether it has write-only bits (WO). -/
structure RegSpec where
  off : Nat
  stride : Nat
  count : Nat
  wide : Bool
  rw : Nat
  w1c : Nat
  reset : Nat
  free : Bool
  rwk : Bool
  wo : Bool
deriving DecidableEq, Repr

/-- Registers of DEVICE pages. -/
def specsDEVICE : List RegSpec := [
  ⟨0x100, 0x0, 1, false, 0x0, 0x0, 0x53579632, true, false, false⟩,
  ⟨0x104, 0x0, 1, false, 0x0, 0x0, 0x0, true, false, false⟩,
  ⟨0x108, 0x0, 1, false, 0x0, 0x0, 0x0, true, false, false⟩,
  ⟨0x10C, 0x0, 1, false, 0x0, 0x0, 0x0, true, false, false⟩,
  ⟨0x110, 0x0, 1, false, 0x0, 0x0, 0xFF0000, true, false, false⟩,
  ⟨0x114, 0x0, 1, false, 0x0, 0x0, 0x0, true, false, false⟩,
  ⟨0x118, 0x0, 1, false, 0x0, 0x0, 0x0, true, false, true⟩,
  ⟨0x11C, 0x0, 1, false, 0x0, 0x0, 0x0, true, false, false⟩]

/-- Registers of CLOCKS pages. -/
def specsCLOCKS : List RegSpec := [
  ⟨0x00C, 0x0, 1, false, 0x0, 0x4, 0x0, false, false, false⟩]

/-- Registers of POWER pages. -/
def specsPOWER : List RegSpec := [
  ⟨0x014, 0x0, 1, false, 0x0, 0x3, 0x0, false, false, false⟩,
  ⟨0x100, 0x10, 50, false, 0x33, 0x0, 0x0, false, false, false⟩,
  ⟨0x104, 0x10, 50, false, 0x0, 0x100, 0x0, true, false, false⟩,
  ⟨0x108, 0x10, 50, false, 0x3FFFF, 0x0, 0x0, false, false, false⟩,
  ⟨0x10C, 0x10, 50, false, 0xFF, 0x0, 0x1, false, true, false⟩,
  ⟨0x500, 0x0, 1, false, 0xFFFFFFFF, 0x0, 0x0, false, false, false⟩,
  ⟨0x504, 0x0, 1, false, 0x0, 0x0, 0x0, true, false, false⟩,
  ⟨0x508, 0x0, 1, false, 0x0, 0x0, 0x0, true, false, false⟩,
  ⟨0x50C, 0x0, 1, false, 0xFFFFFFFF, 0x0, 0xFFFFFFFF, false, false, false⟩,
  ⟨0x510, 0x0, 1, false, 0x1, 0x2, 0x0, false, false, false⟩,
  ⟨0x600, 0x0, 1, false, 0x0, 0x0, 0x0, true, false, false⟩]

/-- Registers of PINS pages. -/
def specsPINS : List RegSpec := [
  ⟨0x00C, 0x0, 1, false, 0x0, 0x38, 0x0, false, false, false⟩,
  ⟨0x014, 0x0, 1, false, 0x0, 0xF, 0x0, false, false, false⟩,
  ⟨0x100, 0x4, 128, false, 0xFF0001F1, 0x0, 0x1000050, false, true, false⟩,
  ⟨0x300, 0x20, 4, false, 0xFFFFFFFF, 0x0, 0x0, false, false, false⟩,
  ⟨0x304, 0x20, 4, false, 0x0, 0x0, 0x0, false, false, true⟩,
  ⟨0x308, 0x20, 4, false, 0x0, 0x0, 0x0, false, false, true⟩,
  ⟨0x30C, 0x20, 4, false, 0x0, 0x0, 0x0, false, false, true⟩,
  ⟨0x310, 0x20, 4, false, 0xFFFFFFFF, 0x0, 0x0, false, false, false⟩,
  ⟨0x314, 0x20, 4, false, 0x0, 0x0, 0x0, true, false, false⟩,
  ⟨0x380, 0x0, 1, false, 0x0, 0x0, 0x0, true, false, false⟩,
  ⟨0x384, 0x0, 1, false, 0x0, 0x0, 0x0, true, false, false⟩,
  ⟨0x388, 0x0, 1, false, 0x0, 0xF, 0x0, true, false, false⟩,
  ⟨0x400, 0x20, 4, false, 0x3, 0x0, 0x0, false, false, false⟩,
  ⟨0x404, 0x20, 4, false, 0xBFF, 0x0, 0x0, false, false, true⟩,
  ⟨0x408, 0x20, 4, false, 0xFFFFFFFF, 0x0, 0x0, false, false, false⟩,
  ⟨0x40C, 0x20, 4, false, 0x0, 0x0, 0x0, true, false, false⟩,
  ⟨0x500, 0x20, 2, false, 0xEFF07, 0x0, 0x100, false, false, false⟩,
  ⟨0x504, 0x20, 2, false, 0x37, 0x0, 0x0, false, false, true⟩,
  ⟨0x508, 0x20, 2, false, 0xFFFFFFFF, 0x0, 0x0, false, false, false⟩,
  ⟨0x50C, 0x20, 2, false, 0x0, 0x0, 0x0, true, false, false⟩,
  ⟨0x510, 0x20, 2, false, 0x0, 0x0, 0x0, true, false, false⟩]

/-- Registers of MEMCTL pages. -/
def specsMEMCTL : List RegSpec := [
  ⟨0x100, 0x4, 7, false, 0xFFFFFF, 0x0, 0x0, false, false, false⟩,
  ⟨0x120, 0x4, 7, false, 0x3FFF, 0x0, 0x0, false, false, false⟩,
  ⟨0x140, 0x4, 7, false, 0x0, 0x0, 0x0, true, false, false⟩,
  ⟨0x160, 0x0, 1, false, 0x0, 0x0, 0x0, true, false, false⟩,
  ⟨0x200, 0x0, 1, false, 0xFFFF00, 0x0, 0x780A00, false, false, true⟩,
  ⟨0x204, 0x0, 1, false, 0x0, 0x0, 0x0, true, false, false⟩]

/-- Registers of PARTITIONS pages. -/
def specsPARTITIONS : List RegSpec := [
  ⟨0x100, 0x10, 5, true, 0x0, 0x0, 0x0, true, false, false⟩,
  ⟨0x108, 0x10, 5, false, 0x0, 0x0, 0x0, true, false, false⟩,
  ⟨0x180, 0x0, 1, false, 0x0, 0x0, 0x0, true, false, false⟩,
  ⟨0x188, 0x0, 1, true, 0xFFFFFFFFFFFFFFFF, 0x0, 0x0, false, false, false⟩,
  ⟨0x190, 0x0, 1, false, 0x0, 0x0, 0x0, true, false, false⟩]

/-- Registers of TIMEBASE pages. -/
def specsTIMEBASE : List RegSpec := [
  ⟨0x014, 0x0, 1, false, 0x0, 0x3, 0x0, false, false, false⟩,
  ⟨0x100, 0x0, 1, true, 0x0, 0x0, 0x0, true, false, false⟩,
  ⟨0x108, 0x0, 1, true, 0x0, 0x0, 0x11B3DC400000, true, false, false⟩,
  ⟨0x110, 0x0, 1, false, 0x0, 0x0, 0x0, true, false, false⟩,
  ⟨0x118, 0x0, 1, true, 0x0, 0x0, 0x0, true, false, false⟩,
  ⟨0x120, 0x0, 1, false, 0x0, 0x0, 0x0, true, false, false⟩,
  ⟨0x200, 0x20, 64, true, 0xFFFFFFFFFFFFFFFF, 0x0, 0x0, false, false, false⟩,
  ⟨0x208, 0x20, 64, false, 0xFFFFFFFF, 0x0, 0x0, false, false, false⟩,
  ⟨0x20C, 0x20, 64, false, 0x3, 0x0, 0x0, false, false, false⟩,
  ⟨0x210, 0x20, 64, false, 0xFF, 0x0, 0x1, false, true, false⟩,
  ⟨0x214, 0x20, 64, false, 0x0, 0x3, 0x0, true, false, false⟩]

/-- Registers of DATAPORTS pages. -/
def specsDATAPORTS : List RegSpec := [
  ⟨0x100, 0x40, 16, true, 0xFFFFFFFFFFFFFFFF, 0x0, 0x0, false, false, false⟩,
  ⟨0x108, 0x40, 16, false, 0xFFFFFFFF, 0x0, 0x0, false, false, false⟩,
  ⟨0x10C, 0x40, 16, false, 0x1FFFF, 0x0, 0x10000, false, false, false⟩,
  ⟨0x110, 0x40, 16, false, 0xF, 0x0, 0x4, false, false, false⟩,
  ⟨0x114, 0x40, 16, false, 0x0, 0x70000, 0x0, true, false, false⟩,
  ⟨0x118, 0x40, 16, false, 0xFF, 0x0, 0x1, false, true, false⟩,
  ⟨0x11C, 0x40, 16, false, 0x0, 0x0, 0x0, true, false, false⟩]

/-- Registers of INTC pages. -/
def specsINTC : List RegSpec := [
  ⟨0x100, 0x0, 1, false, 0x0, 0x0, 0x0, true, false, true⟩,
  ⟨0x104, 0x0, 1, false, 0x1, 0x0, 0x1, false, false, false⟩,
  ⟨0x108, 0x0, 1, false, 0x0, 0x0, 0x0, true, false, false⟩]

/-- Registers of INTCG pages. -/
def specsINTCG : List RegSpec := [
  ⟨0x100, 0x0, 1, false, 0x7F03FF, 0x0, 0x100000, false, false, false⟩,
  ⟨0x104, 0x0, 1, false, 0xFFFF, 0x0, 0x64, false, false, false⟩,
  ⟨0x108, 0x0, 1, true, 0x0, 0x0, 0x0, true, false, false⟩,
  ⟨0x110, 0x0, 1, true, 0x0, 0x0, 0x0, true, false, false⟩,
  ⟨0x118, 0x0, 1, true, 0x0, 0xFFFFFFFFFFFFFFFF, 0x0, true, false, false⟩,
  ⟨0x120, 0x0, 1, false, 0x0, 0x0, 0x0, true, false, false⟩,
  ⟨0x124, 0x0, 1, false, 0x0, 0x0, 0x0, true, false, false⟩,
  ⟨0x128, 0x0, 1, false, 0x0, 0x0, 0x0, true, false, false⟩,
  ⟨0x400, 0x10, 64, false, 0xFFFF7FFF, 0x0, 0x0, false, false, false⟩,
  ⟨0x404, 0x10, 64, false, 0xFF, 0x0, 0x0, false, false, false⟩,
  ⟨0x408, 0x10, 64, true, 0xFFFFFFFFFFFFFFFF, 0x0, 0x0, false, false, false⟩]

/-- Registers of DROVER pages. -/
def specsDROVER : List RegSpec := [
  ⟨0x100, 0x0, 1, false, 0x0, 0x0, 0x0, true, false, false⟩,
  ⟨0x104, 0x0, 1, false, 0x0, 0x0, 0x0, true, false, false⟩,
  ⟨0x108, 0x0, 1, false, 0x0, 0x0, 0x0, true, false, false⟩]

/-- Registers of DV pages. -/
def specsDV : List RegSpec := [
  ⟨0x00C, 0x0, 1, false, 0x0, 0x18, 0x0, false, false, false⟩,
  ⟨0x014, 0x0, 1, false, 0x0, 0x3, 0x0, false, false, false⟩,
  ⟨0x100, 0x0, 1, true, 0xFFFFFFFFFFFFFFFF, 0x0, 0x0, false, false, false⟩,
  ⟨0x108, 0x0, 1, true, 0xFFFFFFFFFFFFFFFF, 0x0, 0x0, false, false, false⟩,
  ⟨0x110, 0x0, 1, false, 0x733, 0x0, 0x0, false, false, false⟩,
  ⟨0x114, 0x0, 1, false, 0xFFFF, 0x0, 0x2000, false, false, false⟩,
  ⟨0x118, 0x0, 1, false, 0x1FFFF, 0x0, 0x1, false, false, false⟩,
  ⟨0x11C, 0x4, 3, false, 0x1FFFF, 0x0, 0x1, false, false, false⟩,
  ⟨0x128, 0x4, 3, false, 0xFFFFFFFF, 0x0, 0x0, false, false, false⟩,
  ⟨0x134, 0x4, 3, false, 0xFFFFFFFF, 0x0, 0x0, false, false, false⟩,
  ⟨0x140, 0x0, 1, false, 0x0, 0x0, 0x0, true, false, true⟩,
  ⟨0x144, 0x0, 1, false, 0x0, 0x0, 0x0, true, false, false⟩,
  ⟨0x148, 0x0, 1, true, 0x0, 0x0, 0x0, true, false, false⟩,
  ⟨0x150, 0x0, 1, false, 0x0, 0x0, 0x0, true, false, false⟩,
  ⟨0x158, 0x0, 1, true, 0x0, 0x0, 0x0, true, false, false⟩,
  ⟨0x160, 0x0, 1, false, 0x0, 0x0, 0x0, true, false, false⟩]

/-- Registers of BLITTER pages. -/
def specsBLITTER : List RegSpec := [
  ⟨0x00C, 0x0, 1, false, 0x0, 0x38, 0x0, false, false, false⟩,
  ⟨0x014, 0x0, 1, false, 0x0, 0x1F, 0x0, false, false, false⟩,
  ⟨0x100, 0x0, 1, false, 0x800FFF1F, 0x0, 0x0, false, false, false⟩,
  ⟨0x108, 0x0, 1, true, 0x0, 0x0, 0x0, true, false, true⟩,
  ⟨0x110, 0x0, 1, true, 0x0, 0x0, 0x0, true, false, true⟩,
  ⟨0x118, 0x0, 1, false, 0x0, 0x0, 0x0, true, false, false⟩,
  ⟨0x11C, 0x0, 1, false, 0x0, 0x0, 0x0, true, false, true⟩,
  ⟨0x120, 0x0, 1, false, 0xFFFF007F, 0x0, 0x40, false, false, false⟩,
  ⟨0x124, 0x0, 1, false, 0xFFFF007F, 0x0, 0x40, false, false, false⟩,
  ⟨0x128, 0x0, 1, true, 0x0, 0x0, 0x0, true, false, false⟩,
  ⟨0x130, 0x0, 1, false, 0x0, 0x0, 0x0, true, false, false⟩,
  ⟨0x138, 0x0, 1, true, 0x0, 0x0, 0x0, true, false, false⟩,
  ⟨0x140, 0x0, 1, true, 0x0, 0x0, 0x0, true, false, false⟩,
  ⟨0x148, 0x0, 1, false, 0x0, 0x0, 0x0, true, false, false⟩,
  ⟨0x14C, 0x0, 1, false, 0x0, 0x0, 0x0, true, false, false⟩,
  ⟨0x150, 0x0, 1, false, 0x0, 0x0, 0x0, true, false, false⟩,
  ⟨0x154, 0x0, 1, false, 0x0, 0x0, 0x0, true, false, false⟩]

/-- Registers of AUDIO pages. -/
def specsAUDIO : List RegSpec := [
  ⟨0x00C, 0x0, 1, false, 0x0, 0x38, 0x0, false, false, false⟩,
  ⟨0x014, 0x0, 1, false, 0x0, 0xF, 0x0, false, false, false⟩,
  ⟨0x100, 0x0, 1, false, 0x1, 0x0, 0x0, false, false, false⟩,
  ⟨0x104, 0x0, 1, false, 0x0, 0x0, 0x0, true, false, false⟩,
  ⟨0x108, 0x0, 1, true, 0x0, 0x0, 0x0, true, false, true⟩,
  ⟨0x110, 0x4, 2, false, 0x0, 0xFFFFFFFF, 0x0, true, false, false⟩,
  ⟨0x118, 0x0, 1, false, 0x0, 0x0, 0x0, true, false, false⟩,
  ⟨0x11C, 0x0, 1, false, 0x0, 0x0, 0x0, true, false, false⟩,
  ⟨0x200, 0x20, 64, false, 0xFF0F, 0x0, 0x8000, false, false, false⟩,
  ⟨0x204, 0x20, 64, false, 0xFFFFFFFF, 0x0, 0x0, false, false, false⟩,
  ⟨0x208, 0x20, 64, false, 0xFFFF, 0x0, 0x0, false, false, false⟩,
  ⟨0x20C, 0x20, 64, false, 0xFFFFFFFF, 0x0, 0x0, false, false, false⟩,
  ⟨0x210, 0x20, 64, false, 0xFFFFFFFF, 0x0, 0x0, false, false, false⟩,
  ⟨0x214, 0x20, 64, false, 0xFFFFFF, 0x0, 0x0, false, false, false⟩,
  ⟨0x218, 0x20, 64, true, 0xFFFFFFFFFFFFFFFF, 0x0, 0x0, false, false, false⟩,
  ⟨0xA00, 0x4, 64, false, 0x0, 0x0, 0x0, true, false, false⟩,
  ⟨0xB00, 0x4, 64, false, 0xFFFF, 0x0, 0x1, false, true, false⟩,
  ⟨0xC00, 0x20, 16, false, 0xFFFF, 0x0, 0x8000, false, false, false⟩,
  ⟨0xC04, 0x20, 16, false, 0x8FFFFFFF, 0x0, 0x100, false, false, false⟩,
  ⟨0xC08, 0x20, 16, false, 0x800FFFFF, 0x0, 0x87FFF, false, false, false⟩,
  ⟨0xC0C, 0x20, 16, false, 0x0, 0x0, 0x0, true, false, false⟩,
  ⟨0xC10, 0x20, 16, false, 0xFFFFFF, 0x0, 0x0, false, false, false⟩,
  ⟨0xE00, 0x4, 16, false, 0xFF010F, 0x0, 0x0, false, false, false⟩,
  ⟨0xF00, 0x10, 4, false, 0xF, 0x0, 0x1, false, false, false⟩,
  ⟨0xF80, 0x4, 32, false, 0x0, 0x0, 0x0, true, false, false⟩]

/-- Registers of AUDIOR pages. -/
def specsAUDIOR : List RegSpec := [
  ⟨0x00C, 0x0, 1, false, 0x0, 0x8, 0x0, false, false, false⟩,
  ⟨0x100, 0x8, 256, false, 0xFFFF8F7F, 0x0, 0x0, false, false, false⟩,
  ⟨0x104, 0x8, 256, false, 0x0, 0x0, 0x0, true, false, false⟩]

/-- Registers of FIELD pages. -/
def specsFIELD : List RegSpec := [
  ⟨0x00C, 0x0, 1, false, 0x0, 0x18, 0x0, false, false, false⟩,
  ⟨0x100, 0x0, 1, true, 0xFFFFFFFFFFFFFFFF, 0x0, 0x0, false, false, false⟩,
  ⟨0x108, 0x0, 1, false, 0xFFF, 0x0, 0x0, false, false, false⟩,
  ⟨0x200, 0x20, 16, false, 0x7, 0x0, 0x0, false, false, false⟩,
  ⟨0x204, 0x20, 16, false, 0x1F0FFFFF, 0x0, 0xC000000, false, false, false⟩,
  ⟨0x208, 0x20, 16, false, 0x1F0FFFFF, 0x0, 0x4000000, false, false, false⟩,
  ⟨0x20C, 0x20, 16, false, 0x0, 0x0, 0x0, true, false, false⟩,
  ⟨0x210, 0x20, 16, false, 0xFFFF, 0x0, 0x0, true, false, false⟩,
  ⟨0x214, 0x20, 16, false, 0x0, 0x0, 0x0, true, false, false⟩]

/-- Registers of FP pages. -/
def specsFP : List RegSpec := [
  ⟨0x00C, 0x0, 1, false, 0x0, 0xF8, 0x0, false, false, false⟩,
  ⟨0x014, 0x0, 1, false, 0x0, 0x1F, 0x0, false, false, false⟩,
  ⟨0x100, 0x0, 1, false, 0xFFFF, 0x0, 0x800C, false, false, false⟩,
  ⟨0x104, 0x0, 1, false, 0xFFFFFFFF, 0x0, 0x43C96, false, false, false⟩,
  ⟨0x108, 0x0, 1, false, 0xFFFFFFFF, 0x0, 0x0, false, false, false⟩,
  ⟨0x10C, 0x0, 1, false, 0xFFFFFFFF, 0x0, 0x1000000, false, false, false⟩,
  ⟨0x110, 0x0, 1, false, 0xFFFFFFFF, 0x0, 0x1004020, false, false, false⟩,
  ⟨0x114, 0x0, 1, false, 0x1FFF, 0x0, 0x124, false, false, false⟩,
  ⟨0x118, 0x0, 1, false, 0x7, 0x0, 0x0, false, false, false⟩,
  ⟨0x120, 0x0, 1, false, 0x1F0FFFFF, 0x0, 0xC000000, false, false, false⟩,
  ⟨0x124, 0x0, 1, false, 0x1F0FFFFF, 0x0, 0x4000000, false, false, false⟩,
  ⟨0x128, 0x0, 1, false, 0x1F0FFFFF, 0x0, 0xC000000, false, false, false⟩,
  ⟨0x12C, 0x0, 1, false, 0x1F0FFFFF, 0x0, 0x4000000, false, false, false⟩,
  ⟨0x130, 0x0, 1, false, 0x0, 0x0, 0x0, true, false, false⟩,
  ⟨0x134, 0x0, 1, false, 0xFFFF, 0x0, 0x0, true, false, false⟩,
  ⟨0x138, 0x0, 1, false, 0xFFFF, 0x0, 0x0, true, false, false⟩,
  ⟨0x13C, 0x0, 1, false, 0x0, 0x0, 0x0, true, false, false⟩,
  ⟨0x140, 0x0, 1, false, 0x0, 0x0, 0x0, true, false, false⟩,
  ⟨0x144, 0x0, 1, false, 0x0, 0x0, 0x0, true, false, false⟩,
  ⟨0x148, 0x0, 1, false, 0x0, 0x0, 0x0, true, false, false⟩,
  ⟨0x14C, 0x0, 1, false, 0x0, 0x0, 0x0, true, false, false⟩]

/-- Registers of CV pages. -/
def specsCV : List RegSpec := [
  ⟨0x00C, 0x0, 1, false, 0x0, 0x10, 0x0, false, false, false⟩,
  ⟨0x014, 0x0, 1, false, 0x0, 0x3, 0x0, false, false, false⟩,
  ⟨0x100, 0x0, 1, false, 0xF3, 0x0, 0x0, false, false, false⟩,
  ⟨0x104, 0x0, 1, false, 0x3, 0x0, 0x0, true, false, false⟩,
  ⟨0x180, 0x0, 1, false, 0x0, 0x0, 0x0, true, false, true⟩,
  ⟨0x184, 0x0, 1, false, 0x0, 0x0, 0x0, true, false, true⟩,
  ⟨0x188, 0x0, 1, true, 0x0, 0x0, 0x0, true, false, true⟩,
  ⟨0x190, 0x0, 1, false, 0x0, 0x0, 0x0, true, false, true⟩,
  ⟨0x1A0, 0x0, 1, false, 0x3, 0x0, 0x0, false, false, true⟩,
  ⟨0x1A4, 0x0, 1, false, 0x70FFFFF, 0x0, 0x0, false, false, false⟩,
  ⟨0x1B0, 0x0, 1, false, 0x0, 0x0, 0x0, true, false, true⟩,
  ⟨0x1B4, 0x0, 1, false, 0x0, 0x0, 0x0, true, false, false⟩,
  ⟨0x200, 0x40, 4, true, 0xFFFFFFFFFFFFFFFF, 0x0, 0x0, false, false, false⟩,
  ⟨0x208, 0x40, 4, true, 0xFFFFFFFFFFFFFFFF, 0x0, 0x0, false, false, false⟩,
  ⟨0x210, 0x40, 4, true, 0xFFFFFFFFFFFFFFFF, 0x0, 0x0, false, false, false⟩,
  ⟨0x218, 0x40, 4, false, 0x3F7F, 0x0, 0x20, false, false, false⟩,
  ⟨0x21C, 0x40, 4, false, 0xFFFFFFFF, 0x0, 0x0, false, false, false⟩,
  ⟨0x220, 0x40, 4, false, 0x1FFFFFFF, 0x0, 0x100000, false, false, false⟩,
  ⟨0x224, 0x40, 4, false, 0x1FFFF, 0x0, 0x0, false, false, false⟩,
  ⟨0x228, 0x40, 4, true, 0x0, 0x0, 0x0, true, false, false⟩,
  ⟨0x230, 0x40, 4, false, 0x0, 0x0, 0x0, true, false, false⟩,
  ⟨0x234, 0x40, 4, false, 0x0, 0x0, 0x0, true, false, false⟩]

/-- Registers of POINTS pages. -/
def specsPOINTS : List RegSpec := [
  ⟨0x00C, 0x0, 1, false, 0x0, 0x38, 0x0, false, false, false⟩,
  ⟨0x014, 0x0, 1, false, 0x0, 0xF, 0x0, false, false, false⟩,
  ⟨0x100, 0x0, 1, true, 0xFFFFFFFFFFFFFFFF, 0x0, 0x0, false, false, false⟩,
  ⟨0x108, 0x0, 1, false, 0x1FFFFF, 0x0, 0x0, false, false, false⟩,
  ⟨0x110, 0x0, 1, true, 0xFFFFFFFFFFFFFFFF, 0x0, 0x0, false, false, false⟩,
  ⟨0x118, 0x0, 1, false, 0x1F, 0x0, 0x8, false, false, false⟩,
  ⟨0x11C, 0x0, 1, false, 0x0, 0x0, 0x0, true, false, false⟩,
  ⟨0x120, 0x0, 1, false, 0xFFFFFFFF, 0x0, 0x0, true, false, false⟩,
  ⟨0x130, 0x0, 1, false, 0x0, 0x0, 0x0, true, false, false⟩,
  ⟨0x134, 0x0, 1, false, 0x0, 0x0, 0x0, true, false, false⟩,
  ⟨0x138, 0x0, 1, false, 0x0, 0x0, 0x0, true, false, false⟩,
  ⟨0x13C, 0x0, 1, false, 0x0, 0x0, 0x0, true, false, false⟩,
  ⟨0x140, 0x0, 1, false, 0x0, 0x0, 0x0, true, false, false⟩,
  ⟨0x400, 0x40, 16, false, 0xF3F, 0x0, 0x600, false, false, false⟩,
  ⟨0x404, 0x40, 16, false, 0xFF, 0x0, 0x1, false, true, false⟩,
  ⟨0x408, 0x40, 16, true, 0xFFFFFFFFFFFFFFFF, 0x0, 0x0, false, false, false⟩,
  ⟨0x410, 0x40, 16, true, 0xFFFFFFFFFFFFFFFF, 0x0, 0x0, false, false, false⟩,
  ⟨0x418, 0x40, 16, false, 0xFFFF, 0x0, 0x0, true, false, false⟩,
  ⟨0x41C, 0x40, 16, false, 0x0, 0x0, 0x0, true, false, false⟩,
  ⟨0x420, 0x40, 16, false, 0x0, 0x0, 0x0, true, false, false⟩,
  ⟨0x424, 0x40, 16, false, 0xFFFF, 0x0, 0x0, true, false, false⟩]

/-- Registers of BRANDS pages. -/
def specsBRANDS : List RegSpec := [
  ⟨0x00C, 0x0, 1, false, 0x0, 0x18, 0x0, false, false, false⟩,
  ⟨0x014, 0x0, 1, false, 0x0, 0x3, 0x0, false, false, false⟩,
  ⟨0x100, 0x0, 1, true, 0xFFFFFFFFFFFFFFFF, 0x0, 0x0, false, false, false⟩,
  ⟨0x108, 0x0, 1, false, 0x7FFFFF, 0x0, 0x0, false, false, false⟩,
  ⟨0x110, 0x0, 1, false, 0x0, 0x0, 0x0, true, false, false⟩,
  ⟨0x114, 0x0, 1, false, 0x0, 0x0, 0x0, true, false, false⟩,
  ⟨0x118, 0x0, 1, false, 0x0, 0x0, 0x0, true, false, false⟩]

/-- Registers of COMMANDS pages. -/
def specsCOMMANDS : List RegSpec := [
  ⟨0x00C, 0x0, 1, false, 0x0, 0x38, 0x0, false, false, false⟩,
  ⟨0x014, 0x0, 1, false, 0x0, 0x7, 0x0, false, false, false⟩,
  ⟨0x100, 0x0, 1, true, 0xFFFFFFFFFFFFFFFF, 0x0, 0x0, false, false, false⟩,
  ⟨0x108, 0x0, 1, false, 0x1FFFF, 0x0, 0x0, false, false, false⟩,
  ⟨0x110, 0x0, 1, true, 0xFFFFFFFFFFFFFFFF, 0x0, 0x0, false, false, false⟩,
  ⟨0x118, 0x0, 1, false, 0xFFFF, 0x0, 0x0, false, false, false⟩,
  ⟨0x120, 0x0, 1, false, 0x0, 0x0, 0x0, true, false, true⟩,
  ⟨0x124, 0x0, 1, false, 0x0, 0x0, 0x0, true, false, true⟩,
  ⟨0x128, 0x0, 1, false, 0x0, 0x0, 0x0, true, false, false⟩,
  ⟨0x130, 0x0, 1, false, 0xFFF, 0x0, 0x0, false, false, false⟩,
  ⟨0x134, 0x0, 1, false, 0x0, 0x0, 0x0, true, false, false⟩,
  ⟨0x138, 0x0, 1, false, 0x0, 0x0, 0x0, true, false, false⟩,
  ⟨0x140, 0x0, 1, false, 0x0, 0x0, 0x0, true, false, false⟩,
  ⟨0x144, 0x0, 1, false, 0x0, 0x0, 0x0, true, false, false⟩,
  ⟨0x148, 0x0, 1, false, 0x0, 0x0, 0x0, true, false, false⟩]

/-- Registers of HISTORY pages. -/
def specsHISTORY : List RegSpec := [
  ⟨0x00C, 0x0, 1, false, 0x0, 0x8, 0x0, false, false, false⟩,
  ⟨0x100, 0x0, 1, true, 0xFFFFFFFFFFFFFFFF, 0x0, 0x0, false, false, false⟩,
  ⟨0x108, 0x0, 1, false, 0x1FFFFF, 0x0, 0x0, false, false, false⟩,
  ⟨0x110, 0x0, 1, false, 0x0, 0x0, 0x0, true, false, false⟩]

/-- Registers of JOURNAL pages. -/
def specsJOURNAL : List RegSpec := [
  ⟨0x00C, 0x0, 1, false, 0x0, 0x78, 0x0, false, false, false⟩,
  ⟨0x014, 0x0, 1, false, 0x0, 0xF, 0x0, false, false, false⟩,
  ⟨0x100, 0x0, 1, true, 0x0, 0x0, 0x1, true, false, false⟩,
  ⟨0x108, 0x0, 1, true, 0x0, 0x0, 0x1, true, false, false⟩,
  ⟨0x110, 0x0, 1, true, 0xFFFFFFFFFFFFFFFF, 0x0, 0x0, false, false, false⟩,
  ⟨0x118, 0x0, 1, false, 0x1F, 0x0, 0x14, false, false, false⟩,
  ⟨0x120, 0x0, 1, true, 0xFFFFFFFFFFFFFFFF, 0x0, 0x0, false, false, false⟩,
  ⟨0x128, 0x0, 1, false, 0x1F, 0x0, 0x14, false, false, false⟩,
  ⟨0x130, 0x0, 1, true, 0xFFFFFFFFFFFFFFFF, 0x0, 0x0, false, false, false⟩,
  ⟨0x138, 0x0, 1, true, 0xFFFFFFFFFFFFFFFF, 0x0, 0x0, false, false, false⟩,
  ⟨0x140, 0x0, 1, false, 0xFFFF, 0x0, 0x80, false, false, false⟩,
  ⟨0x148, 0x0, 1, false, 0xFFFF037F, 0x0, 0x140310, false, false, false⟩,
  ⟨0x150, 0x0, 1, true, 0xFFFFFFFFFFFFFFFF, 0x0, 0x0, false, false, false⟩,
  ⟨0x158, 0x0, 1, false, 0xFFFFFFFF, 0x0, 0x0, false, false, false⟩,
  ⟨0x160, 0x0, 1, true, 0xFFFFFFFFFFFFFFFF, 0x0, 0x0, false, false, false⟩,
  ⟨0x168, 0x0, 1, false, 0x0, 0x0, 0x0, true, false, true⟩,
  ⟨0x170, 0x0, 1, true, 0x0, 0x0, 0x0, true, false, false⟩,
  ⟨0x178, 0x0, 1, true, 0x0, 0x0, 0x0, true, false, false⟩,
  ⟨0x180, 0x0, 1, false, 0x0, 0x0, 0x1, true, false, false⟩,
  ⟨0x188, 0x0, 1, true, 0xFFFFFFFFFFFFFFFF, 0x0, 0x0, false, false, false⟩,
  ⟨0x190, 0x0, 1, false, 0x1FFFFFF, 0x0, 0x0, false, false, false⟩,
  ⟨0x198, 0x0, 1, true, 0xFFFFFFFFFFFFFFFF, 0x0, 0x1, false, false, false⟩,
  ⟨0x1A0, 0x0, 1, false, 0x0, 0x0, 0x0, true, false, true⟩,
  ⟨0x1A4, 0x0, 1, false, 0x0, 0x0, 0x0, true, false, false⟩,
  ⟨0x1A8, 0x0, 1, false, 0x0, 0x0, 0x0, true, false, false⟩,
  ⟨0x200, 0x4, 72, false, 0xFFFFFFFF, 0x0, 0x0, false, false, false⟩,
  ⟨0x320, 0x0, 1, false, 0x7, 0x0, 0x0, false, false, true⟩,
  ⟨0x328, 0x0, 1, true, 0x0, 0x0, 0x0, true, false, false⟩]

/-- Registers of MIRROR pages. -/
def specsMIRROR : List RegSpec := [
  ⟨0x00C, 0x0, 1, false, 0x0, 0x78, 0x0, false, false, false⟩,
  ⟨0x014, 0x0, 1, false, 0x0, 0x3F, 0x0, false, false, false⟩,
  ⟨0x100, 0x0, 1, false, 0x0, 0x0, 0x3, true, false, false⟩,
  ⟨0x104, 0x0, 1, false, 0x0, 0x0, 0x0, true, false, false⟩,
  ⟨0x108, 0x0, 1, false, 0x0, 0x0, 0x0, true, false, true⟩,
  ⟨0x10C, 0x0, 1, false, 0x3F, 0x0, 0x20, false, false, false⟩,
  ⟨0x110, 0x0, 1, false, 0xF03FF, 0x0, 0x3000A, false, false, false⟩,
  ⟨0x114, 0x0, 1, false, 0xFFFF, 0x0, 0x7D0, false, false, false⟩,
  ⟨0x118, 0x0, 1, false, 0xFFFFFFFF, 0x0, 0x0, false, false, false⟩,
  ⟨0x11C, 0x0, 1, false, 0x1, 0x0, 0x0, false, false, false⟩,
  ⟨0x120, 0x0, 1, true, 0x0, 0x0, 0x1, true, false, false⟩,
  ⟨0x128, 0x0, 1, true, 0x0, 0x0, 0x1, true, false, false⟩,
  ⟨0x130, 0x0, 1, false, 0x0, 0x0, 0x0, true, false, false⟩,
  ⟨0x134, 0x0, 1, false, 0x0, 0x0, 0x0, true, false, false⟩,
  ⟨0x138, 0x0, 1, true, 0xFFFFFFFFFFFFFFFF, 0x0, 0x0, false, false, false⟩,
  ⟨0x140, 0x0, 1, false, 0x0, 0x0, 0x0, true, false, true⟩,
  ⟨0x144, 0x0, 1, false, 0x0, 0x0, 0x0, true, false, false⟩,
  ⟨0x148, 0x0, 1, false, 0x0, 0x0, 0x0, true, false, false⟩,
  ⟨0x14C, 0x0, 1, false, 0x0, 0x0, 0x0, true, false, false⟩]

/-- Registers of SC pages. -/
def specsSC : List RegSpec := [
  ⟨0x00C, 0x0, 1, false, 0x0, 0x18, 0x0, false, false, false⟩,
  ⟨0x014, 0x0, 1, false, 0x0, 0x3, 0x0, false, false, false⟩,
  ⟨0x100, 0x0, 1, false, 0x1FFFF, 0x0, 0x0, false, false, false⟩,
  ⟨0x104, 0x0, 1, false, 0x0, 0x0, 0x0, true, false, false⟩,
  ⟨0x108, 0x0, 1, false, 0x0, 0x0, 0x0, true, false, false⟩,
  ⟨0x10C, 0x0, 1, false, 0x0, 0x0, 0x0, true, false, false⟩,
  ⟨0x110, 0x0, 1, false, 0x0, 0x0, 0x0, true, false, false⟩,
  ⟨0x114, 0x0, 1, false, 0x0, 0x0, 0x0, true, false, false⟩,
  ⟨0x118, 0x0, 1, false, 0x0, 0x0, 0x0, true, false, true⟩,
  ⟨0x120, 0x0, 1, false, 0x0, 0x0, 0x0, true, false, false⟩,
  ⟨0x124, 0x0, 1, false, 0x0, 0x0, 0x0, true, false, false⟩,
  ⟨0x128, 0x0, 1, false, 0x0, 0x0, 0x0, true, false, false⟩,
  ⟨0x12C, 0x0, 1, false, 0x0, 0x0, 0x0, true, false, false⟩,
  ⟨0x130, 0x0, 1, false, 0x0, 0x0, 0x0, true, false, false⟩,
  ⟨0x134, 0x0, 1, false, 0x0, 0x0, 0x0, true, false, false⟩,
  ⟨0x138, 0x0, 1, false, 0x0, 0x0, 0x0, true, false, false⟩]

/-- Registers of PK pages. -/
def specsPK : List RegSpec := [
  ⟨0x00C, 0x0, 1, false, 0x0, 0x18, 0x0, false, false, false⟩,
  ⟨0x014, 0x0, 1, false, 0x0, 0x3, 0x0, false, false, false⟩,
  ⟨0x100, 0x0, 1, false, 0x101, 0x0, 0x0, false, false, false⟩,
  ⟨0x104, 0x0, 1, false, 0x0, 0x0, 0x0, true, false, false⟩,
  ⟨0x108, 0x0, 1, false, 0x0, 0x0, 0x0, true, false, false⟩,
  ⟨0x10C, 0x0, 1, false, 0x0, 0x0, 0x0, true, false, false⟩,
  ⟨0x110, 0x0, 1, false, 0x0, 0x0, 0x0, true, false, false⟩,
  ⟨0x120, 0x4, 2, false, 0x0, 0x0, 0x0, true, false, false⟩]

/-- Registers of HEAD pages. -/
def specsHEAD : List RegSpec := ([
  ⟨0x00C, 0x0, 1, false, 0x0, 0x1F8, 0x0, false, false, false⟩,
  ⟨0x014, 0x0, 1, false, 0x0, 0x7FFFFF, 0x0, false, false, false⟩,
  ⟨0x100, 0x0, 1, false, 0x1F, 0x0, 0x1A, false, false, false⟩,
  ⟨0x104, 0x0, 1, false, 0x0, 0x0, 0x0, true, false, false⟩,
  ⟨0x108, 0x0, 1, false, 0x0, 0x0, 0x0, true, false, false⟩,
  ⟨0x200, 0x0, 1, false, 0x0, 0x0, 0x0, true, false, false⟩,
  ⟨0x204, 0x0, 1, false, 0x0, 0x0, 0x0, true, false, false⟩,
  ⟨0x208, 0x0, 1, true, 0x0, 0x0, 0x0, true, false, false⟩,
  ⟨0x210, 0x0, 1, false, 0x0, 0x0, 0x0, true, false, false⟩,
  ⟨0x214, 0x0, 1, false, 0x0, 0x0, 0x0, true, false, false⟩,
  ⟨0x218, 0x0, 1, false, 0x7, 0x0, 0x3, false, false, false⟩,
  ⟨0x21C, 0x0, 1, false, 0x0, 0x0, 0x0, true, false, false⟩,
  ⟨0x220, 0x0, 1, true, 0xFFFFFFFFFFFFFFFF, 0x0, 0x0, false, false, false⟩,
  ⟨0x228, 0x0, 1, false, 0x1, 0x0, 0x0, false, false, false⟩,
  ⟨0x230, 0x0, 1, false, 0x0, 0x0, 0x0, true, false, false⟩,
  ⟨0x234, 0x0, 1, false, 0x0, 0x0, 0x0, true, false, false⟩,
  ⟨0x238, 0x0, 1, false, 0x0, 0x0, 0x0, true, false, false⟩,
  ⟨0x23C, 0x0, 1, false, 0x0, 0x0, 0x0, true, false, false⟩,
  ⟨0x240, 0x4, 7, false, 0x0, 0x0, 0x0, true, false, false⟩,
  ⟨0x300, 0x0, 1, false, 0xFF0F, 0x0, 0x100, false, false, false⟩,
  ⟨0x308, 0x8, 2, true, 0xFFFFFFFFFFFFFFFF, 0x0, 0x0, false, false, false⟩,
  ⟨0x318, 0x0, 1, false, 0xFFFFF, 0x0, 0x0, false, false, false⟩,
  ⟨0x31C, 0x0, 1, false, 0xFFF0FFF, 0x0, 0xEFF0000, false, false, false⟩,
  ⟨0x320, 0x0, 1, false, 0xFFF0FFF, 0x0, 0x86F0000, false, false, false⟩,
  ⟨0x324, 0x0, 1, false, 0x0, 0x0, 0x0, true, false, false⟩,
  ⟨0x328, 0x0, 1, false, 0x0, 0x0, 0x0, true, false, false⟩,
  ⟨0x32C, 0x0, 1, false, 0x0, 0x0, 0x0, true, false, false⟩,
  ⟨0x340, 0x0, 1, false, 0x1, 0x0, 0x1, false, false, false⟩,
  ⟨0x400, 0x0, 1, false, 0xFFF0F77, 0x0, 0x420, false, false, false⟩,
  ⟨0x404, 0x0, 1, false, 0x0, 0x0, 0x0, true, false, false⟩] ++ [
  ⟨0x408, 0x0, 1, false, 0x0, 0x0, 0x0, true, false, false⟩,
  ⟨0x40C, 0x0, 1, false, 0x0, 0x0, 0x0, true, false, false⟩])

/-- Registers of PE pages. -/
def specsPE : List RegSpec := ([
  ⟨0x00C, 0x0, 1, false, 0x0, 0x3FC, 0x0, false, false, false⟩,
  ⟨0x014, 0x0, 1, false, 0x0, 0x7F, 0x0, false, false, false⟩,
  ⟨0x100, 0x0, 1, false, 0xF, 0x0, 0x2, false, false, false⟩,
  ⟨0x104, 0x0, 1, false, 0xFF, 0x0, 0x0, false, false, false⟩,
  ⟨0x108, 0x0, 1, false, 0x10FFF, 0x0, 0x10000, true, false, false⟩,
  ⟨0x110, 0x0, 1, true, 0xFFFFFFFFFFFFFFFF, 0x0, 0x0, true, false, false⟩,
  ⟨0x120, 0x0, 1, false, 0x0, 0x0, 0x0, true, false, false⟩,
  ⟨0x124, 0x0, 1, false, 0x0, 0x0, 0x0, true, false, false⟩,
  ⟨0x128, 0x0, 1, false, 0x0, 0x0, 0x0, true, false, false⟩,
  ⟨0x12C, 0x0, 1, false, 0x0, 0x0, 0x0, true, false, false⟩,
  ⟨0x200, 0x80, 8, false, 0x7FFFF, 0x0, 0x11000, false, false, false⟩,
  ⟨0x204, 0x80, 8, false, 0xFFF, 0x0, 0xFF, false, false, false⟩,
  ⟨0x208, 0x80, 8, true, 0xFFFFFFFFFFFFFFFF, 0x0, 0x0, false, false, false⟩,
  ⟨0x210, 0x80, 8, true, 0xFFFFFFFFFFFFFFFF, 0x0, 0x0, false, false, false⟩,
  ⟨0x218, 0x80, 8, false, 0xFFFFF, 0x0, 0x0, false, false, false⟩,
  ⟨0x21C, 0x80, 8, false, 0x3FFF3FFF, 0x0, 0x10001, false, false, false⟩,
  ⟨0x220, 0x80, 8, false, 0x1FFFF, 0x0, 0x0, false, false, false⟩,
  ⟨0x224, 0x80, 8, false, 0x1FFFF, 0x0, 0x0, false, false, false⟩,
  ⟨0x228, 0x80, 8, false, 0xFFF0FFF, 0x0, 0xEFF0000, false, false, false⟩,
  ⟨0x22C, 0x80, 8, false, 0xFFF0FFF, 0x0, 0x86F0000, false, false, false⟩,
  ⟨0x230, 0x80, 8, false, 0xF0F, 0x0, 0x101, false, false, false⟩,
  ⟨0x234, 0x80, 8, false, 0xFFFFF, 0x0, 0x10000, false, false, false⟩,
  ⟨0x238, 0x80, 8, false, 0xFFFFF, 0x0, 0x10000, false, false, false⟩,
  ⟨0x23C, 0x80, 8, false, 0xFFFFFFFF, 0x0, 0x0, false, false, false⟩,
  ⟨0x600, 0x0, 1, false, 0x7FF0003, 0x0, 0x4000000, false, false, false⟩,
  ⟨0x604, 0x0, 1, false, 0x1, 0x0, 0x0, true, false, false⟩,
  ⟨0x608, 0x0, 1, false, 0x10FFF, 0x0, 0x10000, true, false, false⟩,
  ⟨0x60C, 0x0, 1, false, 0xFFFFFFFF, 0x0, 0xFFFFFFFF, true, false, false⟩,
  ⟨0x610, 0x0, 1, false, 0xFFFFFFFF, 0x0, 0x0, true, false, false⟩,
  ⟨0x614, 0x0, 1, false, 0x0, 0x0, 0x0, true, false, false⟩] ++ [
  ⟨0x618, 0x0, 1, true, 0xFFFFFFFFFFFFFFFF, 0x0, 0x0, false, false, false⟩,
  ⟨0x620, 0x0, 1, false, 0x0, 0x0, 0x0, true, false, false⟩,
  ⟨0x624, 0x0, 1, false, 0x0, 0x0, 0x0, true, false, false⟩,
  ⟨0x700, 0x0, 1, false, 0xF, 0x0, 0x0, false, false, false⟩,
  ⟨0x704, 0x0, 1, false, 0x3FFFFFFF, 0x0, 0x0, false, false, false⟩,
  ⟨0x708, 0x0, 1, false, 0xFFFFF, 0x0, 0x0, false, false, false⟩,
  ⟨0x710, 0x0, 1, false, 0xFFFFFFFF, 0x0, 0x1000, false, false, false⟩,
  ⟨0x714, 0x0, 1, false, 0xFFFFFFFF, 0x0, 0x0, false, false, false⟩,
  ⟨0x718, 0x0, 1, false, 0xFFFFFFFF, 0x0, 0x1000, false, false, false⟩,
  ⟨0x71C, 0x0, 1, false, 0xFFFFFFFF, 0x0, 0x0, false, false, false⟩,
  ⟨0x720, 0x0, 1, false, 0xFFFF, 0x0, 0x1000, false, false, false⟩,
  ⟨0x724, 0x0, 1, false, 0x1FFF1FFF, 0x0, 0x0, false, false, false⟩,
  ⟨0x728, 0x0, 1, false, 0x1FFF, 0x0, 0x0, false, false, false⟩,
  ⟨0x72C, 0x0, 1, false, 0x0, 0x0, 0x0, true, false, false⟩,
  ⟨0x800, 0x0, 1, false, 0x33FFF, 0x0, 0x20000, true, false, false⟩,
  ⟨0x804, 0x0, 1, false, 0xFFF, 0x0, 0x0, true, false, false⟩,
  ⟨0x900, 0x0, 1, false, 0x0, 0x0, 0x0, true, false, true⟩,
  ⟨0x904, 0x0, 1, false, 0x0, 0x0, 0x0, true, false, false⟩,
  ⟨0x908, 0x0, 1, false, 0x0, 0x0, 0x0, true, false, false⟩,
  ⟨0x980, 0x0, 1, false, 0x1, 0x0, 0x1, false, false, true⟩,
  ⟨0x984, 0x0, 1, false, 0xFFFFFFFF, 0x0, 0x0, false, false, false⟩,
  ⟨0x988, 0x0, 1, false, 0x0, 0x0, 0x0, true, false, false⟩,
  ⟨0x98C, 0x0, 1, false, 0x0, 0x0, 0x0, true, false, false⟩,
  ⟨0x990, 0x0, 1, false, 0x0, 0x0, 0x0, true, false, false⟩])

/-- Registers of VP pages. -/
def specsVP : List RegSpec := [
  ⟨0x00C, 0x0, 1, false, 0x0, 0x78, 0x0, false, false, false⟩,
  ⟨0x014, 0x0, 1, false, 0x0, 0x1F, 0x0, false, false, false⟩,
  ⟨0x100, 0x0, 1, false, 0x337, 0x0, 0x323, false, false, false⟩,
  ⟨0x104, 0x0, 1, false, 0x0, 0x0, 0x0, true, false, true⟩,
  ⟨0x108, 0x0, 1, false, 0x0, 0x0, 0x0, true, false, false⟩,
  ⟨0x10C, 0x0, 1, false, 0x0, 0x0, 0x0, true, false, false⟩,
  ⟨0x110, 0x0, 1, false, 0x0, 0x0, 0x0, true, false, false⟩,
  ⟨0x114, 0x0, 1, false, 0x0, 0x0, 0x0, true, false, false⟩,
  ⟨0x120, 0x0, 1, false, 0xFFFFFF3, 0x0, 0x0, true, false, true⟩,
  ⟨0x124, 0x0, 1, false, 0x0, 0x0, 0x0, true, false, false⟩,
  ⟨0x130, 0x4, 4, false, 0xFFFFFFFF, 0x0, 0x0, true, false, false⟩]

/-- Registers of SAPV pages. -/
def specsSAPV : List RegSpec := [
]

/-- Registers of HOST pages. -/
def specsHOST : List RegSpec := [
  ⟨0x00C, 0x0, 1, false, 0x0, 0x78, 0x0, false, false, false⟩,
  ⟨0x014, 0x0, 1, false, 0x0, 0xF, 0x0, false, false, false⟩,
  ⟨0x100, 0x0, 1, false, 0x0, 0x0, 0x0, true, false, false⟩,
  ⟨0x104, 0x0, 1, false, 0x0, 0x0, 0x18, true, false, false⟩,
  ⟨0x108, 0x0, 1, true, 0x0, 0x0, 0x0, true, false, false⟩,
  ⟨0x110, 0x0, 1, false, 0x0, 0x0, 0x0, true, false, false⟩,
  ⟨0x114, 0x0, 1, false, 0x0, 0x0, 0x0, true, false, false⟩,
  ⟨0x200, 0x20, 8, true, 0xFFFFFFFFFFFFFFFF, 0x0, 0x0, false, false, false⟩,
  ⟨0x208, 0x20, 8, false, 0x11F, 0x0, 0x8, false, false, false⟩,
  ⟨0x20C, 0x20, 8, false, 0xFFFF, 0x0, 0x0, true, false, false⟩,
  ⟨0x210, 0x20, 8, false, 0x0, 0x0, 0x0, true, false, false⟩,
  ⟨0x218, 0x20, 8, true, 0xFFFFFFFFFFFFFFFF, 0x0, 0x0, false, false, false⟩,
  ⟨0x300, 0x20, 8, true, 0xFFFFFFFFFFFFFFFF, 0x0, 0x0, false, false, false⟩,
  ⟨0x308, 0x20, 8, false, 0x31F, 0x0, 0x8, false, false, false⟩,
  ⟨0x30C, 0x20, 8, false, 0x0, 0x0, 0x0, true, false, false⟩,
  ⟨0x310, 0x20, 8, false, 0xFFFF, 0x0, 0x0, true, false, false⟩,
  ⟨0x318, 0x20, 8, true, 0xFFFFFFFFFFFFFFFF, 0x0, 0x0, false, false, false⟩,
  ⟨0x400, 0x0, 1, false, 0x107, 0x0, 0x0, false, false, false⟩,
  ⟨0x404, 0x0, 1, false, 0x1F0FFFFF, 0x0, 0xC000000, false, false, false⟩,
  ⟨0x408, 0x0, 1, false, 0x1F0FFFFF, 0x0, 0x4000000, false, false, false⟩,
  ⟨0x40C, 0x0, 1, false, 0xFFFF, 0x0, 0x0, true, false, false⟩,
  ⟨0x410, 0x0, 1, false, 0x0, 0x0, 0x0, true, false, false⟩,
  ⟨0x414, 0x0, 1, false, 0xFF, 0x0, 0x1, false, true, false⟩,
  ⟨0x418, 0x0, 1, false, 0x0, 0x0, 0x0, true, false, false⟩,
  ⟨0x41C, 0x0, 1, false, 0x0, 0x0, 0x0, true, false, false⟩,
  ⟨0x420, 0x0, 1, false, 0x0, 0x0, 0x0, true, false, false⟩]

/-- Registers of SAFETY pages. -/
def specsSAFETY : List RegSpec := [
  ⟨0x00C, 0x0, 1, false, 0x0, 0x8, 0x0, false, false, false⟩,
  ⟨0x014, 0x0, 1, false, 0x0, 0x1, 0x0, false, false, false⟩,
  ⟨0x100, 0x0, 1, false, 0x13FFFFF, 0x0, 0x0, false, true, false⟩,
  ⟨0x104, 0x0, 1, false, 0xFFFFFFFF, 0x0, 0x0, false, true, false⟩,
  ⟨0x108, 0x0, 1, false, 0x0, 0x0, 0x0, true, true, true⟩,
  ⟨0x10C, 0x0, 1, false, 0x0, 0x0, 0x0, true, false, false⟩,
  ⟨0x110, 0x0, 1, false, 0x0, 0x0, 0x0, true, false, false⟩]

/-- Registers of OWNERSHIP pages. -/
def specsOWNERSHIP : List RegSpec := [
  ⟨0x100, 0x0, 1, false, 0xFFFFF, 0x0, 0x0, false, false, false⟩,
  ⟨0x104, 0x0, 1, false, 0xFF, 0x0, 0x0, false, false, false⟩,
  ⟨0x108, 0x0, 1, false, 0x0, 0x0, 0x0, true, false, true⟩,
  ⟨0x10C, 0x0, 1, false, 0x0, 0x1, 0x0, true, false, false⟩]

/-- Registers of PROTR pages. -/
def specsPROTR : List RegSpec := [
  ⟨0x100, 0x4, 8, false, 0xFFFFFFFF, 0x0, 0x0, false, true, false⟩,
  ⟨0x200, 0x4, 256, false, 0xFFFF, 0x0, 0x0, false, true, false⟩,
  ⟨0x600, 0x0, 1, false, 0x10FFF, 0x0, 0x0, false, true, false⟩,
  ⟨0x604, 0x0, 1, false, 0x0, 0x0, 0x0, true, false, true⟩]

/-- Registers of SAPPHIRE pages. -/
def specsSAPPHIRE : List RegSpec := [
  ⟨0x00C, 0x0, 1, false, 0x0, 0x38, 0x0, false, false, false⟩,
  ⟨0x014, 0x0, 1, false, 0x0, 0x1F, 0x0, false, false, false⟩,
  ⟨0x100, 0x0, 1, false, 0xF3F, 0x0, 0x201, false, true, false⟩,
  ⟨0x104, 0x0, 1, false, 0x0, 0x0, 0x0, true, false, false⟩,
  ⟨0x108, 0x0, 1, false, 0xFFFFFFFF, 0x0, 0x0, false, true, false⟩,
  ⟨0x10C, 0x0, 1, false, 0x17FFFF, 0x0, 0x100000, true, true, false⟩,
  ⟨0x110, 0x0, 1, false, 0xFFFFFFFF, 0x0, 0x0, true, true, false⟩,
  ⟨0x120, 0x0, 1, false, 0xFFF0FFF, 0x0, 0xEFF0000, false, true, false⟩,
  ⟨0x124, 0x0, 1, false, 0xFFF0FFF, 0x0, 0x86F0000, false, true, false⟩,
  ⟨0x128, 0x0, 1, false, 0xFFFFFFFF, 0x0, 0x0, false, true, false⟩,
  ⟨0x12C, 0x0, 1, false, 0xFFFFFFFF, 0x0, 0x0, false, true, false⟩,
  ⟨0x130, 0x0, 1, false, 0xFFFFFFFF, 0x0, 0x0, false, true, false⟩,
  ⟨0x134, 0x0, 1, false, 0xFFFFFFFF, 0x0, 0x0, false, true, false⟩,
  ⟨0x138, 0x0, 1, false, 0x0, 0x0, 0x0, true, false, false⟩,
  ⟨0x13C, 0x0, 1, false, 0x0, 0x0, 0x0, true, false, false⟩,
  ⟨0x140, 0x0, 1, false, 0x0, 0x0, 0x0, true, false, false⟩,
  ⟨0x144, 0x0, 1, false, 0x0, 0x0, 0x0, true, false, false⟩,
  ⟨0x400, 0x8, 128, true, 0xFFFFFFFFFFFFFFFF, 0x0, 0x0, true, true, false⟩]

/-- The table of a page kind. -/
def specs : Kind → List RegSpec
  | .kDEVICE => specsDEVICE
  | .kCLOCKS => specsCLOCKS
  | .kPOWER => specsPOWER
  | .kPINS => specsPINS
  | .kMEMCTL => specsMEMCTL
  | .kPARTITIONS => specsPARTITIONS
  | .kTIMEBASE => specsTIMEBASE
  | .kDATAPORTS => specsDATAPORTS
  | .kINTC => specsINTC
  | .kINTCG => specsINTCG
  | .kDROVER => specsDROVER
  | .kDV => specsDV
  | .kBLITTER => specsBLITTER
  | .kAUDIO => specsAUDIO
  | .kAUDIOR => specsAUDIOR
  | .kFIELD => specsFIELD
  | .kFP => specsFP
  | .kCV => specsCV
  | .kPOINTS => specsPOINTS
  | .kBRANDS => specsBRANDS
  | .kCOMMANDS => specsCOMMANDS
  | .kHISTORY => specsHISTORY
  | .kJOURNAL => specsJOURNAL
  | .kMIRROR => specsMIRROR
  | .kSC => specsSC
  | .kPK => specsPK
  | .kHEAD => specsHEAD
  | .kPE => specsPE
  | .kVP => specsVP
  | .kSAPV => specsSAPV
  | .kHOST => specsHOST
  | .kSAFETY => specsSAFETY
  | .kOWNERSHIP => specsOWNERSHIP
  | .kPROTR => specsPROTR
  | .kSAPPHIRE => specsSAPPHIRE
  | .hostMem => []
  | .hostVec => []

end Sys2Proof.Machine
end

