-- ==== Sys2Proof/Machine/Sparse.lean ====
section
/-! DEFINITION. Sparse tables and byte memories in one canonical form: keys strictly rising, no entry equal
to what an unlisted key holds. -/

namespace Sys2Proof.Machine

/-- The value a table holds under key `k`; `d` is what an unlisted key holds. -/
def sget {α : Type} (d : α) : List (Nat × α) → Nat → α
  | [], _ => d
  | (k', v) :: m, k => if k = k' then v else sget d m k

/-- The table without key `k`. -/
def serase {α : Type} : List (Nat × α) → Nat → List (Nat × α)
  | [], _ => []
  | (k', v) :: m, k => if k = k' then serase m k else (k', v) :: serase m k

/-- The table with an entry put before the first larger key. -/
def sinsert {α : Type} : List (Nat × α) → Nat → α → List (Nat × α)
  | [], k, v => [(k, v)]
  | (k', v') :: m, k, v => if k < k' then (k, v) :: (k', v') :: m else (k', v') :: sinsert m k v

/-- The table with key `k` holding `v`; the default is not listed. -/
def sset {α : Type} [DecidableEq α] (d : α) (m : List (Nat × α)) (k : Nat) (v : α) : List (Nat × α) :=
  if v = d then serase m k else sinsert (serase m k) k v

/-- The keys of a table rise strictly. -/
def skeys {α : Type} : List (Nat × α) → Bool
  | [] => true
  | (k, _) :: m => m.all (fun e => decide (k < e.1)) && skeys m

/-- The canonical form: keys strictly rising, the default not listed. -/
def swf {α : Type} [DecidableEq α] (d : α) (m : List (Nat × α)) : Bool :=
  skeys m && m.all (fun e => decide (e.2 ≠ d))

/-- One byte of a memory; an unlisted byte reads 0x00 (log entry 2). -/
def memByte (m : List Host.Cell) (a : Nat) : BitVec 8 := sget 0 m a

/-- A memory with one byte written. -/
def memSetByte (m : List Host.Cell) (a : Nat) (b : BitVec 8) : List Host.Cell := sset 0 m a b

/-- `n` bytes from address `a` up. -/
def memRead (m : List Host.Cell) (a : Nat) : Nat → List (BitVec 8)
  | 0 => []
  | n + 1 => memByte m a :: memRead m (a + 1) n

/-- Bytes written from address `a` up. -/
def memWrite (m : List Host.Cell) (a : Nat) : List (BitVec 8) → List Host.Cell
  | [] => m
  | b :: bs => memWrite (memSetByte m a b) (a + 1) bs

/-- Bytes written where their enable is present (`some`). -/
def memWriteEn (m : List Host.Cell) (a : Nat) : List (Option (BitVec 8)) → List Host.Cell
  | [] => m
  | some b :: bs => memWriteEn (memSetByte m a b) (a + 1) bs
  | none :: bs => memWriteEn m (a + 1) bs

/-- The canonical form of a byte memory: addresses strictly rising, no byte 0x00 listed. -/
def Memory.wf (m : List Host.Cell) : Bool := swf (0 : BitVec 8) m

end Sys2Proof.Machine
end

