-- ==== Sys2Proof/Machine/Regs.lean ====
section
/-! DEFINITION. The page maps, the units a variant has, the domains pages lie in, and reading and writing
register fields as the blocks themselves do (no owner or state check). -/

namespace Sys2Proof.Machine

/-- Heads, ports, clusters, memory channels and GiB of memory of a variant (table "Family variants"). -/
def Variant.heads : Variant → Nat
  | .fc9632 => 32 | .fc9624 => 24 | .fc9616 => 16
def Variant.ports : Variant → Nat
  | .fc9632 => 8 | .fc9624 => 6 | .fc9616 => 4
def Variant.clusters : Variant → Nat
  | .fc9632 => 8 | .fc9624 => 6 | .fc9616 => 4
def Variant.channels : Variant → Nat
  | .fc9632 => 16 | .fc9624 => 12 | .fc9616 => 8
def Variant.memGiB : Variant → Nat
  | .fc9632 => 128 | .fc9624 => 96 | .fc9616 => 64

/-- One gibibyte. -/
def GiB : Nat := 0x40000000

/-- The kind and unit index of a Function 0 page (R40); `none` = reserved. -/
def pageKind0 (p : Nat) : Option (Kind × Nat) :=
  if p < 0x400 then
    if p = 0x000 then some (.kDEVICE, 0) else if p = 0x001 then some (.kCLOCKS, 0)
    else if p = 0x002 then some (.kPOWER, 0) else if p = 0x003 then some (.kPINS, 0)
    else if p = 0x005 then some (.kMEMCTL, 0) else if p = 0x006 then some (.kPARTITIONS, 0)
    else if p = 0x008 then some (.kTIMEBASE, 0) else if p = 0x00C then some (.kDATAPORTS, 0)
    else if p = 0x010 then some (.kINTC, 0) else if p = 0x020 then some (.kDROVER, 0)
    else if p = 0x030 then some (.kBLITTER, 0) else if p = 0x038 then some (.kAUDIO, 0)
    else if p = 0x039 then some (.kAUDIOR, 0) else if p = 0x040 then some (.kFIELD, 0)
    else if p = 0x048 then some (.kPOINTS, 0) else if p = 0x049 then some (.kBRANDS, 0)
    else if p = 0x04A then some (.kCOMMANDS, 0) else if p = 0x04B then some (.kHISTORY, 0)
    else if p = 0x050 then some (.kJOURNAL, 0) else if p = 0x058 then some (.kMIRROR, 0)
    else none
  else if p < 0x440 then some (.kINTCG, p - 0x400)
  else if p < 0x460 then some (.kDV, p - 0x440)
  else if p < 0x470 then some (.kFP, p - 0x460)
  else if p < 0x480 then some (.kCV, p - 0x470)
  else if p < 0x4C0 then some (.kSC, p - 0x480)
  else if p < 0x4C8 then some (.kPK, p - 0x4C0)
  else if p < 0x500 then none
  else if p < 0x520 then some (.kHEAD, p - 0x500)
  else if p < 0x541 then some (.kPE, p - 0x520)
  else if p < 0x580 then none
  else if p < 0x588 then some (.kVP, p - 0x580)
  else if p < 0x5A0 then none
  else if p < 0x5C0 then some (.kSAPV, p - 0x5A0)
  else if p = 0x5F0 then some (.kHOST, 0)
  else if p < 0x5F1 then none
  else if p < 0x600 then some (.hostMem, p - 0x5F0)
  else none

/-- The kind and unit index of a Function 1 page (R41). -/
def pageKind1 (p : Nat) : Option (Kind × Nat) :=
  if p = 0x00 then some (.kSAFETY, 0) else if p = 0x01 then some (.kOWNERSHIP, 0)
  else if p = 0x02 then some (.kPROTR, 0)
  else if p = 0x1E then some (.hostVec, 0) else if p = 0x1F then some (.hostVec, 1)
  else if 0x20 ≤ p ∧ p < 0x40 then some (.kSAPPHIRE, p - 0x20)
  else none

def pageKind (func p : Nat) : Option (Kind × Nat) :=
  if func = 0 then pageKind0 p else if func = 1 then pageKind1 p else none

/-- Whether the variant has the unit (table "Family variants"). -/
def unitPresent (v : Variant) : Kind → Nat → Bool
  | .kHEAD, n => n < v.heads
  | .kPE, n => n < v.heads || n == 32
  | .kVP, n => n < v.ports
  | .kSAPV, n => n < v.heads
  | .kSAPPHIRE, n => n < v.heads
  | .kSC, n => n < v.clusters * 8
  | .kPK, n => n < v.clusters
  | _, _ => true

/-- Whether a page of the maps is present on the part (R1, R2, R40, R41). -/
def State.present (s : State) (func page : Nat) : Bool :=
  match pageKind func page with
  | some (k, n) => unitPresent s.variant k n
  | none => false

/-- Whether a page carries the common layout (R28). -/
def Kind.isBlock : Kind → Bool
  | .hostMem => false
  | .hostVec => false
  | _ => true

/-- A power domain of an absent unit (R3). -/
def pdPresent (v : Variant) (d : Nat) : Bool :=
  if d < 32 then decide (d < v.heads)
  else if d = 32 then true
  else if d < 41 then decide (d - 33 < v.clusters)
  else if d = 47 then decide (4 < v.ports)
  else decide (d < 50)

/-- The power domain a block page lies in; `none` = MAIN or AON (table "Subsystems"; log entry 11). -/
def pageDomain (func page : Nat) : Option Nat :=
  match pageKind func page with
  | some (.kHEAD, n) => some n
  | some (.kPE, n) => some n
  | some (.kSAPV, n) => some n
  | some (.kSAPPHIRE, n) => some n
  | some (.kSC, n) => some (33 + n / 8)
  | some (.kPK, n) => some (33 + n)
  | some (.kBLITTER, _) => some 41
  | some (.kDROVER, _) => some 42
  | some (.kDV, _) => some 42
  | some (.kAUDIO, _) => some 43
  | some (.kAUDIOR, _) => some 43
  | some (.kPROTR, _) => some 43
  | some (.kFIELD, _) => some 44
  | some (.kFP, _) => some 44
  | some (.kCV, _) => some 44
  | some (.kPOINTS, _) => some 44
  | some (.kBRANDS, _) => some 44
  | some (.kCOMMANDS, _) => some 44
  | some (.kHISTORY, _) => some 44
  | some (.kJOURNAL, _) => some 45
  | some (.kMIRROR, _) => some 45
  | some (.kVP, n) => some (if n < 4 then 46 else 47)
  | some (.kTIMEBASE, _) => some 48
  | _ => none

/-- The start of the register copy that covers offset `off`, if the row has one there. -/
def RegSpec.hit (sp : RegSpec) (off : Nat) : Option Nat :=
  let size := if sp.wide then 8 else 4
  if off < sp.off then none
  else
    let d := off - sp.off
    if sp.stride = 0 then (if d < size then some sp.off else none)
    else if d / sp.stride < sp.count ∧ d % sp.stride < size
      then some (sp.off + d / sp.stride * sp.stride) else none

/-- The row and register start that cover an offset. -/
def specFind : List RegSpec → Nat → Option (RegSpec × Nat)
  | [], _ => none
  | sp :: l, off => match sp.hit off with
    | some b => some (sp, b)
    | none => specFind l off

def specAt (k : Kind) (off : Nat) : Option (RegSpec × Nat) := specFind (specs k) off

/-- Reset values of the request classes (table "Request classes and reset values"): weight + patience. -/
def classReset (c : Nat) : Nat :=
  [52 + 2048 * 256, 14 + 8192 * 256, 10 + 8192 * 256, 10 + 4096 * 256, 6 + 4096 * 256,
   5 + 16384 * 256, 3 + 2048 * 256].getD c 0

/-- Reset values of the class caps (table "Request classes and reset values"). -/
def capReset (c : Nat) : Nat := [3072, 1024, 1024, 1536, 512, 512, 512].getD c 0

/-- Boot sizes in GiB of partition k on a variant (R44, table "Memory partitions"). -/
def bootSize (v : Variant) (k : Nat) : Nat :=
  if k = 3 then (match v with | .fc9632 => 82 | .fc9624 => 50 | .fc9616 => 18)
  else [24, 16, 4, 0, 2].getD k 0

/-- Boot base of partition k: the partitions are contiguous from address 0 (R43, R44). -/
def bootBase (v : Variant) (k : Nat) : Nat :=
  ((List.range k).map (bootSize v)).foldl (· + ·) 0 * GiB

/-- Reset values that differ between copies of a register (R44, R54, R60, R482, table "HEADnn head and
sync registers"). The rest is the table's own value. -/
def resetSpecial (k : Kind) (n off dflt : Nat) : Nat :=
  match k with
  | .kMEMCTL => if 0x100 ≤ off ∧ off < 0x11C then classReset ((off - 0x100) / 4)
      else if 0x120 ≤ off ∧ off < 0x13C then capReset ((off - 0x120) / 4) else dflt
  | .kDATAPORTS => if off = 0x100 then 0xA00000000 else if off = 0x108 then 65536
      else if off = 0x110 then 5 else dflt
  | .kPARTITIONS => if off < 0x150 then
      (if (off - 0x100) % 16 = 0 then bootBase .fc9632 ((off - 0x100) / 16)
       else if (off - 0x100) % 16 = 8 then bootSize .fc9632 ((off - 0x100) / 16) else dflt) else dflt
  | .kHEAD => if off = 0x104 then n else dflt
  | .kPINS => if off < 0x300 then
      (let p := (off - 0x100) / 4
       if 80 ≤ p ∧ p < 88 then 0x01000041
       else if p < 96 ∨ (112 ≤ p ∧ p < 120) then 0x01000051 else dflt) else dflt
  | _ => dflt

/-- The reset value of a register (R26 and the register tables). -/
def resetVal (func page off : Nat) : W64 :=
  match pageKind func page with
  | none => 0
  | some (k, n) => match specAt k off with
    | some (sp, b) => if b = off then BitVec.ofNat 64 (resetSpecial k n off sp.reset) else 0
    | none => 0

/-- The register at an offset as it stands. -/
def State.reg (s : State) (func page off : Nat) : W64 :=
  sget (resetVal func page off) s.regs (regKey func page off)

/-- The same register set. -/
def State.setReg (s : State) (func page off : Nat) (v : W64) : State :=
  { s with regs := sset (resetVal func page off) s.regs (regKey func page off) v }

/-- A field of a Function 0 register. -/
def State.r (s : State) (page : Nat) (f : Fld) : Nat := wfld (s.reg 0 page f.off) f.lo f.w

/-- A field of a Function 0 register set; the register's other bits stay. -/
def State.w (s : State) (page : Nat) (f : Fld) (x : Nat) : State :=
  s.setReg 0 page f.off (wset (s.reg 0 page f.off) f.lo f.w x)

/-- A one-bit field of a Function 0 register. -/
def State.b (s : State) (page : Nat) (f : Fld) : Bool := s.r page f != 0

/-- A field of a Function 1 register. -/
def State.r1 (s : State) (page : Nat) (f : Fld) : Nat := wfld (s.reg 1 page f.off) f.lo f.w

def State.w1 (s : State) (page : Nat) (f : Fld) (x : Nat) : State :=
  s.setReg 1 page f.off (wset (s.reg 1 page f.off) f.lo f.w x)

def State.b1 (s : State) (page : Nat) (f : Fld) : Bool := s.r1 page f != 0

/-- A wrapping counter field one up (or `n` up). -/
def State.inc (s : State) (page : Nat) (f : Fld) (n : Nat := 1) : State := s.w page f (s.r page f + n)

/-- A saturating counter field one up. -/
def State.incSat (s : State) (page : Nat) (f : Fld) : State :=
  s.w page f (satInc (2 ^ f.w - 1) (s.r page f))

def State.inc1 (s : State) (page : Nat) (f : Fld) (n : Nat := 1) : State := s.w1 page f (s.r1 page f + n)

/-- Page numbers of repeated blocks (R40, R41). -/
def pgINTCG (g : Nat) : Nat := 0x400 + g
def pgDV (n : Nat) : Nat := 0x440 + n
def pgFP (n : Nat) : Nat := 0x460 + n
def pgCV (n : Nat) : Nat := 0x470 + n
def pgSC (n : Nat) : Nat := 0x480 + n
def pgPK (n : Nat) : Nat := 0x4C0 + n
def pgHEAD (n : Nat) : Nat := 0x500 + n
def pgPE (n : Nat) : Nat := 0x520 + n
def pgVP (n : Nat) : Nat := 0x580 + n
def pgSAP (n : Nat) : Nat := 0x20 + n

/-- Page numbers of single blocks (R40, R41). -/
abbrev pDEVICE : Nat := 0x000
abbrev pCLOCKS : Nat := 0x001
abbrev pPOWER : Nat := 0x002
abbrev pPINS : Nat := 0x003
abbrev pMEMCTL : Nat := 0x005
abbrev pPARTITIONS : Nat := 0x006
abbrev pTIMEBASE : Nat := 0x008
abbrev pDATAPORTS : Nat := 0x00C
abbrev pINTC : Nat := 0x010
abbrev pDROVER : Nat := 0x020
abbrev pBLITTER : Nat := 0x030
abbrev pAUDIO : Nat := 0x038
abbrev pAUDIOR : Nat := 0x039
abbrev pFIELD : Nat := 0x040
abbrev pPOINTS : Nat := 0x048
abbrev pBRANDS : Nat := 0x049
abbrev pCOMMANDS : Nat := 0x04A
abbrev pHISTORY : Nat := 0x04B
abbrev pJOURNAL : Nat := 0x050
abbrev pMIRROR : Nat := 0x058
abbrev pHOST : Nat := 0x5F0
abbrev pSAFETY : Nat := 0x00
abbrev pOWNERSHIP : Nat := 0x01
abbrev pPROTR : Nat := 0x02

/-- Fields of the common layout (R26). -/
abbrev CTRL_ENABLE : Fld := ⟨0x008, 0, 1⟩
abbrev CTRL_FENCE_REQ : Fld := ⟨0x008, 1, 1⟩
abbrev STATUS_RUN : Fld := ⟨0x00C, 0, 1⟩
abbrev STATUS_FENCED : Fld := ⟨0x00C, 1, 1⟩
abbrev STATUS_DEGRADED : Fld := ⟨0x00C, 2, 1⟩
abbrev STATUS_ALL : Fld := ⟨0x00C, 0, 32⟩
abbrev INT_EN_ALL : Fld := ⟨0x010, 0, 32⟩
abbrev INT_PEND_ALL : Fld := ⟨0x014, 0, 32⟩

/-- Bit `i` of STATUS, INT_EN and INT_PEND. -/
def STATUS_BIT (i : Nat) : Fld := ⟨0x00C, i, 1⟩
def INT_EN_BIT (i : Nat) : Fld := ⟨0x010, i, 1⟩
def INT_PEND_BIT (i : Nat) : Fld := ⟨0x014, i, 1⟩

/-- CTRL.ENABLE of a Function 0 page. -/
def State.enabled (s : State) (page : Nat) : Bool := s.b page CTRL_ENABLE

/-- CTRL.FENCE_REQ of a page: it reads 1 from the request until the unfence (R471), and from the request
on the block issues nothing and its data paths refuse. -/
def State.fenced (s : State) (func page : Nat) : Bool := wfld (s.reg func page 0x008) 1 1 != 0

/-- The state code of a domain (PDnn_STATUS.STATE): 0 = ON. -/
def State.pdState (s : State) (d : Nat) : Nat := s.r pPOWER (POWER.PD_STATUS_STATE.at (0x10 * d))

/-- A domain is ON: it is present, MAIN runs and STATE is 0 (R62, R66). -/
def State.pdOn (s : State) (d : Nat) : Bool :=
  s.mainUp && pdPresent s.variant d && s.pdState d == 0

/-- The domain of a block page is ON. -/
def State.domainOn (s : State) (func page : Nat) : Bool :=
  match pageDomain func page with
  | none => s.mainUp
  | some d => s.pdOn d

/-- A block acts: present, enabled, not fenced, its domain ON. -/
def State.active (s : State) (page : Nat) : Bool :=
  s.present 0 page && s.enabled page && !s.fenced 0 page && s.domainOn 0 page

/-- The owner of a page (R26, R32, R35). A Sapphire view page shows the owner of its Function 1 page
(R187). -/
def ownerDefault (func : Nat) : Code := if func = 0 then 0x01 else 0x02

def State.owner (s : State) (func page : Nat) : Code :=
  if func = 0 ∧ 0x5A0 ≤ page ∧ page < 0x5C0
  then sget 0x02 s.owners (regKey 1 (page - 0x5A0 + 0x20) 0)
  else sget (ownerDefault func) s.owners (regKey func page 0)

def State.setOwner (s : State) (func page : Nat) (c : Code) : State :=
  { s with owners := sset (ownerDefault func) s.owners (regKey func page 0) c }

def State.locked (s : State) (func page : Nat) : Bool := sget false s.locks (regKey func page 0)

/-- DEVICE.STATE. -/
def State.devState (s : State) : Nat := s.r pDEVICE DEVICE.STATE

def stBOOT : Nat := 0
def stWAIT_IMAGE : Nat := 1
def stVALIDATING : Nat := 2
def stIMAGE_REJECTED : Nat := 3
def stSTARTING : Nat := 4
def stRUNNING : Nat := 5

/-- The next free value: the counter read and advanced. -/
def State.fresh (s : State) : State := { s with freeCtr := s.freeCtr + 1 }

/-- Engine, head and unit state under their index. -/
def State.eng (s : State) (n : Nat) : Engine := sget {} s.engines n
def State.setEng (s : State) (n : Nat) (e : Engine) : State := { s with engines := sset {} s.engines n e }
def State.cache (s : State) (n : Nat) : Cache := sget {} s.caches n
def State.setCache (s : State) (n : Nat) (x : Cache) : State := { s with caches := sset {} s.caches n x }
def State.hd (s : State) (n : Nat) : HeadSt := sget {} s.heads n
def State.setHd (s : State) (n : Nat) (h : HeadSt) : State := { s with heads := sset {} s.heads n h }
def State.port (s : State) (n : Nat) : PortSt := sget {} s.ports n
def State.setPort (s : State) (n : Nat) (x : PortSt) : State := { s with ports := sset {} s.ports n x }
def State.fp (s : State) (n : Nat) : FieldPort := sget {} s.fps n
def State.setFp (s : State) (n : Nat) (x : FieldPort) : State := { s with fps := sset {} s.fps n x }
def State.cv (s : State) (n : Nat) : CvSt := sget {} s.cvs n
def State.setCv (s : State) (n : Nat) (x : CvSt) : State := { s with cvs := sset {} s.cvs n x }
def State.txn (s : State) (n : Nat) : Txn := sget {} s.txns n
def State.setTxn (s : State) (n : Nat) (x : Txn) : State := { s with txns := sset {} s.txns n x }
def State.core (s : State) (n : Nat) : Core := sget {} s.cores n
def State.setCore (s : State) (n : Nat) (x : Core) : State := { s with cores := sset {} s.cores n x }
def State.group (s : State) (n : Nat) : Group := sget {} s.groups n
def State.setGroup (s : State) (n : Nat) (x : Group) : State := { s with groups := sset {} s.groups n x }
def State.dvst (s : State) (n : Nat) : DvSt := sget {} s.dv n
def State.setDv (s : State) (n : Nat) (x : DvSt) : State := { s with dv := sset {} s.dv n x }
def State.dom (s : State) (n : Nat) : Dom := sget {} s.doms n
def State.setDom (s : State) (n : Nat) (x : Dom) : State := { s with doms := sset {} s.doms n x }
def State.voice (s : State) (n : Nat) : Voice := sget {} s.audio.voices n
def State.setVoice (s : State) (n : Nat) (x : Voice) : State :=
  { s with audio := { s.audio with voices := sset {} s.audio.voices n x } }

/-- 1 µs and 1 ms in fabric cycles (R39, R77). -/
def usFc : Nat := 1782
def msFc : Nat := 1782000

end Sys2Proof.Machine
end

