-- ==== Sys2Proof/Machine/Events.lean ====
section
/-! DEFINITION. Event codes, the history queue and the repeat rule, STATUS and INT_PEND (R26, R30, R464 to
R469, R473). -/

namespace Sys2Proof.Machine

/-- Event codes (R467). -/
abbrev Ev.REPEAT : Nat := 0x0001
abbrev Ev.OWNER_DENY : Nat := 0x0002
abbrev Ev.BAD_ACCESS : Nat := 0x0003
abbrev Ev.BAD_VALUE : Nat := 0x0004
abbrev Ev.BAD_STATE : Nat := 0x0005
abbrev Ev.LOCKED_WRITE : Nat := 0x0006
abbrev Ev.DOMAIN_DOWN : Nat := 0x0007
abbrev Ev.PART_DENY : Nat := 0x0008
abbrev Ev.FETCH_ERROR : Nat := 0x0009
abbrev Ev.RO_WRITE : Nat := 0x000A
abbrev Ev.FENCED : Nat := 0x000B
abbrev Ev.UNFENCED : Nat := 0x000C
abbrev Ev.PROT_DENY : Nat := 0x000D
abbrev Ev.LAYER_INVALID : Nat := 0x0101
abbrev Ev.OVER_BUDGET : Nat := 0x0102
abbrev Ev.SPRITE_OVERFLOW : Nat := 0x0103
abbrev Ev.SPRITE_INVALID : Nat := 0x0104
abbrev Ev.FLOCK_FULL : Nat := 0x0105
abbrev Ev.RELIEF_MISMATCH : Nat := 0x0106
abbrev Ev.RELIEF_BUSY : Nat := 0x0107
abbrev Ev.LL_ERROR : Nat := 0x0111
abbrev Ev.LATE_LINE : Nat := 0x0112
abbrev Ev.SYNC_LOST : Nat := 0x0113
abbrev Ev.WB_DROP : Nat := 0x0114
abbrev Ev.SIG_MISMATCH : Nat := 0x0121
abbrev Ev.BAD_ENTRY : Nat := 0x0122
abbrev Ev.ACTIVE_WRITE : Nat := 0x0123
abbrev Ev.LINK_FAIL : Nat := 0x0131
abbrev Ev.LINK_LOST : Nat := 0x0132
abbrev Ev.BW_SHORT : Nat := 0x0133
abbrev Ev.REF_LOSS : Nat := 0x0141
abbrev Ev.BLT_FAULT : Nat := 0x0151
abbrev Ev.RACE_LATE : Nat := 0x0152
abbrev Ev.QUEUE_FULL : Nat := 0x0153
abbrev Ev.TX_TIMEOUT : Nat := 0x0161
abbrev Ev.RX_OVERRUN : Nat := 0x0162
abbrev Ev.CTX_FAULT : Nat := 0x0171
abbrev Ev.SELFCHECK_REFUSED : Nat := 0x0172
abbrev Ev.CHAN_INVALID : Nat := 0x0181
abbrev Ev.COMMIT_REFUSED : Nat := 0x0191
abbrev Ev.RING_FAULT : Nat := 0x0192
abbrev Ev.BRAND_INVALID : Nat := 0x01A1
abbrev Ev.HIST_FAULT : Nat := 0x01B1
abbrev Ev.FLUSH_FAULT : Nat := 0x01C1
abbrev Ev.CP_FAULT : Nat := 0x01C2
abbrev Ev.EXCEPTION : Nat := 0x01D1
abbrev Ev.LOCKUP : Nat := 0x01D2
abbrev Ev.COLLIDED : Nat := 0x01E1
abbrev Ev.PADDOCK_ECC : Nat := 0x01E2
abbrev Ev.ACTION_LOST : Nat := 0x01F1
abbrev Ev.DV_FAULT : Nat := 0x0201
abbrev Ev.HDM_DENY : Nat := 0x0211
abbrev Ev.RELAY_BROKEN : Nat := 0x0212
abbrev Ev.RELAY_FAULT : Nat := 0x0213
abbrev Ev.IDE_FAULT : Nat := 0x0214
abbrev Ev.WDOG_EXPIRED : Nat := 0x0221

/-- The time an entry or record is stamped with: the time base, or all ones while PD48 is not ON
(R437, R469). -/
def State.stamp (s : State) : W64 := if s.pdOn 48 then s.tb else BitVec.allOnes 64

/-- Entries, newest first, numbered down from `q`. -/
def renumber (q : BitVec 16) (l : List HistEntry) : List HistEntry :=
  (l.zip (List.range l.length)).map (fun e => { e.1 with seq := q - BitVec.ofNat 16 e.2 })

/-- One entry shifted into a page's queue (R30): the sequence number goes up by 1 and is carried; an entry
that does not fit drops the oldest and counts. Entries of one fc stand in ascending order of code (R469). -/
def PageHist.push (h : PageHist) (fc : Nat) (tb : W64) (code : Nat) (detail : W32) : PageHist :=
  let q := h.seq + 1
  let n := if h.lastFc = fc then h.lastN else 0
  let e : HistEntry := { tb := tb, code := BitVec.ofNat 16 code, seq := q, detail := detail }
  let same := insertBy (fun a b => decide (b.code.toNat ≤ a.code.toNat)) e (h.entries.take n)
  { h with
    seq := q
    entries := (renumber q same ++ h.entries.drop n).take 8
    overflow := if h.entries.length < 8 then h.overflow else satInc 255 h.overflow
    lastFc := fc
    lastN := n + 1 }

/-- The length of a repeat window in fc: 148,500 ticks (R468). -/
def repeatFc : Nat := 1782000

/-- A slot whose window has ended by `fc`: with a count it records REPEAT at the window's end and opens a
new window there; without one it is freed (R468). -/
def PageHist.endWindow (h : PageHist) (fc : Nat) (tb : W64) (c : BitVec 16) : PageHist :=
  match h.slots.find? (fun x => x.code == c) with
  | none => h
  | some sl =>
    let e := sl.since + repeatFc
    if fc < e then h
    else if sl.count = 0 then { h with slots := h.slots.filter (fun x => x.code != c) }
    else
      let t := tb - BitVec.ofNat 64 ((fc - e) / 12)
      let h' := h.push e t Ev.REPEAT (BitVec.ofNat 32 (c.toNat + min sl.count 65535 * 0x10000))
      { h' with slots := h'.slots.map (fun x => if x.code == c then { code := c, since := e, count := 0 } else x) }

/-- Every window that has ended, codes ascending (R469); a window opened by the first pass may have ended
too. -/
def PageHist.settle (h : PageHist) (fc : Nat) (tb : W64) : PageHist :=
  let cs := sortBy (fun a b => decide (a.toNat ≤ b.toNat)) (h.slots.map (·.code))
  let h1 := cs.foldl (fun h c => h.endWindow fc tb c) h
  cs.foldl (fun h c => h.endWindow fc tb c) h1

/-- One occurrence of a code under the repeat rule (R468). -/
def PageHist.occur (h : PageHist) (fc : Nat) (tb : W64) (code : Nat) (detail : W32) : PageHist :=
  let h := h.settle fc tb
  let c := BitVec.ofNat 16 code
  if h.slots.any (fun x => x.code == c) then
    { h with slots := h.slots.map (fun x => if x.code == c then { x with count := x.count + 1 } else x) }
  else
    let h' := h.push fc tb code detail
    if h'.slots.length < 8 then { h' with slots := h'.slots ++ [{ code := c, since := fc, count := 0 }] } else h'

def State.histOf (s : State) (func page : Nat) : PageHist := sget {} s.hist (regKey func page 0)

def State.setHist (s : State) (func page : Nat) (h : PageHist) : State :=
  { s with hist := sset {} s.hist (regKey func page 0) h }

/-- An event that arises from an access to a page, recorded whether or not the block is fenced (R473). -/
def State.accEvent (s : State) (func page code : Nat) (detail : W32) : State :=
  if s.mainUp && s.present func page then
    s.setHist func page ((s.histOf func page).occur s.fc s.stamp code detail)
  else s

/-- The same with a detail the spec does not state (log entry 8). -/
def State.accEventOpen (s : State) (func page code : Nat) : State :=
  (s.accEvent func page code (BitVec.ofNat 32 (Config.freeNat s.freeCtr))).fresh

/-- An event of the block's own: a fenced block records none (R473). -/
def State.event (s : State) (page code : Nat) (detail : W32) : State :=
  if s.fenced 0 page then s else s.accEvent 0 page code detail

def State.event1 (s : State) (page code : Nat) (detail : W32) : State :=
  if s.fenced 1 page then s else s.accEvent 1 page code detail

/-- The block's own event with a detail the spec does not state (log entry 8). -/
def State.eventOpen (s : State) (page code : Nat) : State :=
  if s.fenced 0 page then s else s.accEventOpen 0 page code

/-- A code limited to once per 1 ms: `rec` records the occurrence unless one was passed to the repeat rule less than 1 ms
ago (R468). -/
def State.perMs (s : State) (code : Nat) (rec : State → State) : State :=
  let seen := sget 0 s.msSeen code
  if seen = 0 ∨ seen - 1 + msFc ≤ s.fc then rec { s with msSeen := sset 0 s.msSeen code (s.fc + 1) } else s

/-- INT_PEND bit `i` of a page set. -/
def State.pendInt (s : State) (page i : Nat) : State := s.w page (INT_PEND_BIT i) 1
def State.pendInt1 (s : State) (page i : Nat) : State := s.w1 page (INT_PEND_BIT i) 1

/-- STATUS bit `i` of a page set. -/
def State.statusBit (s : State) (page i : Nat) : State := s.w page (STATUS_BIT i) 1
def State.statusBit1 (s : State) (page i : Nat) : State := s.w1 page (STATUS_BIT i) 1

/-- Detail built from fields: pairs of value and lowest bit. -/
def mkDetail (l : List (Nat × Nat)) : W32 :=
  BitVec.ofNat 32 (l.foldl (fun a p => a + p.1 * 2 ^ p.2) 0)

end Sys2Proof.Machine
end

