-- ==== Sys2Proof/Machine/Access.lean ====
section
/-! DEFINITION. One register write on the bus and the checks it passes before it takes effect: present page,
size and alignment, owner, LOCK, domain, fenced data path (R2, R23 to R25, R29, R32 to R35, R67, R472). -/

namespace Sys2Proof.Machine

/-- One write: its place, its size in bytes, its value and the owner code of its source (R25). -/
structure Wr where
  func : Nat
  page : Nat
  off : Nat
  size : Nat
  value : W64
  code : Code
deriving DecidableEq, Repr

/-- What a write did: the state after it, and whether it was accepted. -/
abbrev Eff := State × Bool

/-- The write of `n` as a 32-bit register's value. -/
def Wr.v (w : Wr) : Nat := w.value.toNat

/-- A field of the value written. -/
def Wr.f (w : Wr) (f : Fld) : Nat := nfld w.value.toNat f.lo f.w

/-- The detail of OWNER_DENY and PROT_DENY: [7:0] writer code, [19:8] register offset (R33, R414). -/
def denyDetail (code : Code) (off : Nat) : W32 := mkDetail [(code.toNat, 0), (off, 8)]

/-- The page whose history a dropped write is recorded in: a view page shares the Function 1 page's (R187). -/
def histPage (func page : Nat) : Nat × Nat :=
  if func = 0 ∧ 0x5A0 ≤ page ∧ page < 0x5C0 then (1, page - 0x5A0 + 0x20) else (func, page)

/-- A dropped write is recorded in the page's history (R23, R29, R33, R67); the detail of codes other than
OWNER_DENY and PROT_DENY is open (log entry 8). -/
def State.logDrop (s : State) (w : Wr) (ev : Nat) : State :=
  let hp := histPage w.func w.page
  if ev = Ev.OWNER_DENY ∨ ev = Ev.PROT_DENY then s.accEvent hp.1 hp.2 ev (denyDetail w.code w.off)
  else s.accEventOpen hp.1 hp.2 ev

/-- A write a rule drops whole, recorded under `ev` (R504). -/
def Wr.drop (w : Wr) (s : State) (ev : Nat) : Eff := (s.logDrop w ev, false)

/-- Who may write a register: under the page's owner (R33), under an item's owner with further codes (R35,
R61, R68, R281, R442, R461), anybody (its own rule decides), nobody (R187). -/
inductive OwnRule where
  | page
  | item (owner : Code) (also : List Code)
  | any
  | nobody
deriving DecidableEq, Repr

/-- The owner field of an item that is a register of a Function 0 page. -/
def State.itemOwner (s : State) (page : Nat) (f : Fld) : Code := BitVec.ofNat 8 (s.r page f)

/-- The rule that governs writes to an offset. -/
def State.ownRule (s : State) (func page off : Nat) : OwnRule :=
  match pageKind func page with
  | some (.kPOWER, _) =>
    if 0x100 ≤ off ∧ off < 0x420 then
      let d := (off - 0x100) / 16
      let rel := (off - 0x100) % 16
      let o := s.itemOwner pPOWER (POWER.PD_OWNER.at (0x10 * d))
      if rel = 0 ∨ rel = 8 then .item o [0x02]
      else if rel = 12 then .item o [0x02, s.owner 0 pPOWER] else .page
    else .page
  | some (.kDATAPORTS, _) =>
    if 0x100 ≤ off ∧ off < 0x500 ∧ (off - 0x100) % 0x40 = 0x18 then
      .item (s.itemOwner pDATAPORTS ⟨off, 0, 8⟩) [0x02, s.owner 0 pDATAPORTS] else .page
  | some (.kTIMEBASE, _) =>
    if 0x200 ≤ off ∧ off < 0xA00 then
      let o := s.itemOwner pTIMEBASE (TIMEBASE.CMP_OWNER.at (0x20 * ((off - 0x200) / 0x20)))
      if (off - 0x200) % 0x20 = 0x10 then .item o [0x02, s.owner 0 pTIMEBASE] else .item o []
    else .page
  | some (.kPOINTS, _) =>
    if 0x400 ≤ off ∧ off < 0x800 then
      let o := s.itemOwner pPOINTS (POINTS.CR_OWNER.at (0x40 * ((off - 0x400) / 0x40)))
      let rel := (off - 0x400) % 0x40
      if rel = 0x18 ∨ rel = 0x24 then .item o []
      else if rel = 0x04 then .item o [0x02, s.owner 0 pPOINTS] else .page
    else .page
  | some (.kHOST, _) =>
    let o := s.itemOwner pHOST HOST.RTX_OWNER
    if off = 0x40C then .item o [] else if off = 0x414 then .item o [0x02, s.owner 0 pHOST] else .page
  | some (.kPINS, _) => if 0x100 ≤ off ∧ off < 0x380 then .any else .page
  | some (.kINTC, _) => if off = 0x100 then .any else .page
  | some (.kINTCG, g) =>
    let n := 64 * g + (off - 0x400) / 16
    if 0x400 ≤ off ∧ ((1408 ≤ n ∧ n < 1664) ∨ (2152 ≤ n ∧ n < 2176)) then .item 0x02 [] else .page
  | some (.kMIRROR, _) => if off = 0x108 then .item 0xFF [0x01, 0x02] else .page
  | some (.kCOMMANDS, _) => if off = 0x120 ∨ off = 0x124 then .any else .page
  | some (.kAUDIO, _) => if off = 0x108 ∨ off = 0x10C then .any else .page
  | some (.kSAPV, _) => .nobody
  | _ => .page

/-- Whether a register accepts Function 1 whoever owns the page (RWK, R33): on a SAPPHIRE page every writable one
does, LOCK apart, which takes its owner alone (R29, R178; log entry 129). -/
def isRwk (k : Kind) (off : Nat) : Bool :=
  off == 0x018 || (k == .kSAPPHIRE && off != 0x01C) || (match specAt k off with | some (sp, _) => sp.rwk | none => false)

/-- Whether a source reaches a page at all: of the Function 1 pages the fabric shows SAPPHIRE alone (R24). -/
def reaches (func page : Nat) (code : Code) : Bool := func != 1 || code == 0x02 || decide (0x20 ≤ page)

/-- Whether the owner rules accept a write (R24, R33, R35). -/
def State.ownerAllows (s : State) (func page off : Nat) (code : Code) : Bool :=
  match s.ownRule func page off with
  | .any => true
  | .nobody => false
  | .item o also => o == 0 || code == o || also.contains code
  | .page =>
    let o := s.owner func page
    if func = 1 ∧ code ≠ 0x02 then code == o
    else o == 0 || code == o
      || (code == 0x02 && (match pageKind func page with | some (k, _) => isRwk k off | none => false))
      || (code == 0x02 && func == 1 && off == 0x008)

/-- The kind whose registers a page shows: a Sapphire view page has those of its Function 1 page (R187). -/
def Kind.layout : Kind → Kind
  | .kSAPV => .kSAPPHIRE
  | k => k

/-- Size and alignment: 4 bytes, or 8 bytes to a 64-bit register, naturally aligned (R23). -/
def sizeOk (k : Kind) (off size : Nat) : Bool :=
  if size = 4 then off % 4 == 0
  else if size = 8 then (match specAt k.layout off with | some (sp, b) => sp.wide && b == off | none => false)
  else false

/-- What LOCK freezes: CTRL and block configuration (R29). Which command registers count as configuration is the
model's choice: one that holds settings beside its command bit does, and so do an item's owner field and the writes
that change GPIO_OUT; one of write-only bits alone does not (log entry 130). -/
def lockFreezes (k : Kind) (off : Nat) : Bool :=
  off == 0x008 || (decide (0x100 ≤ off) && (match specAt k off with | some (sp, _) => !sp.free | none => false))

/-- The data-path registers of R472. -/
def isDataPath (k : Kind) (off : Nat) : Bool :=
  match k with
  | .kPE => off == 0x110 || off == 0x114 || off == 0x610 || off == 0x804
  | .kSAPPHIRE => off == 0x110
  | .kCV => decide (0x180 ≤ off ∧ off ≤ 0x190)
  | .kVP => decide (0x130 ≤ off ∧ off < 0x140)
  | .kAUDIO => off == 0x108 || off == 0x10C
  | .kCOMMANDS => off == 0x120 || off == 0x124
  | .kBLITTER => decide (0x108 ≤ off ∧ off < 0x118)
  | _ => false

/-- Why a write does not reach its register. -/
inductive Bar where
  | silent            -- no such page for the source, or MAIN in reset: ignored without an entry (R2, R24, R40, R62)
  | log (ev : Nat)    -- dropped and recorded
  | refused           -- a fenced data path (R472, R473)
deriving DecidableEq, Repr

/-- The checks, in the order the steps of a write name them: size, owner, LOCK, domain, fence. -/
def State.bar (s : State) (w : Wr) : Option Bar :=
  if !s.mainUp || !reaches w.func w.page w.code then some .silent
  else match pageKind w.func w.page with
    | none => some .silent
    | some (k, n) =>
      if !unitPresent s.variant k n || !k.isBlock then some .silent
      else if !sizeOk k w.off w.size then some (.log Ev.BAD_ACCESS)
      else if !s.ownerAllows w.func w.page w.off w.code then some (.log Ev.OWNER_DENY)
      else if s.locked w.func w.page && lockFreezes k w.off then some (.log Ev.LOCKED_WRITE)
      else if decide (0x100 ≤ w.off) && !s.domainOn w.func w.page then some (.log Ev.DOMAIN_DOWN)
      else if isDataPath k w.off && s.fenced w.func w.page then some .refused
      else none

/-- A barred write leaves its register as it stands and is recorded where a rule says so. -/
def State.barred (s : State) (w : Wr) : Bar → State
  | .silent => s
  | .log ev => s.logDrop w ev
  | .refused => s.accEventOpen w.func w.page Config.refusalCode.toNat

/-- A write through the checks: where nothing bars it, its effect. -/
def State.guarded (s : State) (w : Wr) (eff : State → Eff) : Eff :=
  match s.bar w with
  | some b => (s.barred w b, false)
  | none => eff s

/-- Owner codes valid on the part; 0x7E is set by the mirror hardware alone (R32, R34). -/
def State.validOwner (s : State) (c : Code) : Bool :=
  c == 0x00 || c == 0x01 || c == 0x02 || c == 0xFF
    || (decide (0x10 ≤ c.toNat ∧ c.toNat < 0x50) && unitPresent s.variant .kSC (c.toNat - 0x10))

/-- Owner codes a Sapphire page takes (R178). -/
def State.validSapOwner (s : State) (c : Code) : Bool :=
  c == 0x02 || c == 0xFF
    || (decide (0x10 ≤ c.toNat ∧ c.toNat < 0x50) && unitPresent s.variant .kSC (c.toNat - 0x10))

/-- A page's owner field changed under R34: an invalid code, or any code once 0xFF stands there, is dropped
and logged as OWNER_DENY on page `(lf, lp)`. -/
def State.changeOwner (s : State) (func page : Nat) (c : Code) (w : Wr) : Eff :=
  let good := if func = 1 ∧ 0x20 ≤ page then s.validSapOwner c else s.validOwner c
  if s.owner func page == 0xFF || !good then w.drop s Ev.OWNER_DENY
  else (s.setOwner func page c, true)

/-- An item's owner field (a register of a Function 0 page) changed under R34 and R35. -/
def State.changeItemOwner (s : State) (page : Nat) (f : Fld) (c : Code) (w : Wr) : Eff :=
  if s.itemOwner page f == 0xFF || !s.validOwner c then w.drop s Ev.OWNER_DENY
  else (s.w page f c.toNat, true)

/-- The plain effect of a write on a register: its RW bits take the value written, its W1C bits clear where
1 is written, the others stay (R26, table "Access codes"). -/
def mergeWrite (old value : Nat) (rw w1c : Nat) : Nat :=
  let kept := old &&& (0xFFFFFFFFFFFFFFFF ^^^ rw)
  (kept ||| (value &&& rw)) &&& (0xFFFFFFFFFFFFFFFF ^^^ (value &&& w1c))

def State.plainWrite (s : State) (w : Wr) (sp : RegSpec) : State :=
  s.setReg w.func w.page w.off
    (BitVec.ofNat 64 (mergeWrite (s.reg w.func w.page w.off).toNat w.value.toNat sp.rw sp.w1c))

/-- The plain effect on the register at the write's offset; reserved offsets ignore writes (R10). -/
def State.plain (s : State) (w : Wr) : Eff :=
  match pageKind w.func w.page with
  | none => (s, false)
  | some (k, _) => match specAt k w.off with
    | some (sp, b) => if b = w.off then (s.plainWrite w sp, true) else (s, false)
    | none => (s, false)

/-- Accepted, with the state after. -/
def done (s : State) : Eff := (s, true)

/-- A write that a condition lets through, or drops under `ev`. -/
def Wr.require (w : Wr) (s : State) (cond : Bool) (ev : Nat) (eff : State → Eff) : Eff :=
  if cond then eff s else w.drop s ev

end Sys2Proof.Machine
end

