-- ==== Sys2Proof/Machine/Memory.lean ====
section
/-! DEFINITION. Device memory and its partitions, the rights of the masters, host memory, paddocks and
instruction RAM (R42 to R46). -/

namespace Sys2Proof.Machine

/-- The masters of the table "Partition access by master". -/
inductive Master where
  | host | ports | engine | blitter | writeback | drover | core | points | field | journal | audio
deriving DecidableEq, Repr

/-- Read and write rights of a master in partition k (R45): 0 OPEN, 1 PASTURE, 2 SHEPHERD, 3 HISTORY,
4 JOURNAL. -/
def mayRead : Master → Nat → Bool
  | .host, k => k == 0
  | .ports, k => decide (1 ≤ k ∧ k ≤ 4)
  | .engine, k => k == 1
  | .blitter, k => k == 0 || k == 1
  | .writeback, _ => false
  | .drover, k => decide (k ≤ 4)
  | .core, k => decide (k ≤ 4)
  | .points, k => k == 2 || k == 3
  | .field, k => k == 2
  | .journal, k => k == 4
  | .audio, k => k == 1

def mayWrite : Master → Nat → Bool
  | .host, k => k == 0
  | .ports, k => decide (1 ≤ k ∧ k ≤ 4)
  | .engine, _ => false
  | .blitter, k => k == 1
  | .writeback, k => k == 1
  | .drover, k => decide (1 ≤ k ∧ k ≤ 4)
  | .core, k => k == 1 || k == 2
  | .points, k => decide (1 ≤ k ∧ k ≤ 3)
  | .field, k => k == 2
  | .journal, k => k == 4
  | .audio, _ => false

/-- Base address and length in bytes of partition k as the PARTITIONS registers give them (R43). -/
def State.partBase (s : State) (k : Nat) : Nat := s.r pPARTITIONS (PARTITIONS.PART_BASE.at (16 * k))
def State.partBytes (s : State) (k : Nat) : Nat := s.r pPARTITIONS (PARTITIONS.PART_SIZE.at (16 * k)) * GiB

/-- Partition k in force: the table's, or on a smaller variant's boot layout the variant's own (R44). -/
def State.inPart (s : State) (k a n : Nat) : Bool :=
  decide (s.partBase k ≤ a ∧ a + n ≤ s.partBase k + s.partBytes k)

/-- Bytes of fitted memory (R42, R43). -/
def State.fitted (s : State) : Nat := s.variant.memGiB * GiB

/-- The partition an address lies in; none = unmapped (R43). -/
def State.partOf (s : State) (a : Nat) : Option Nat := (List.range 5).find? (fun k => s.inPart k a 1)

/-- Every byte of an access lies in one partition where the master has the right (R45, R46). -/
def State.canRead (s : State) (m : Master) (a n : Nat) : Bool :=
  (List.range 5).any (fun k => mayRead m k && s.inPart k a n)

def State.canWrite (s : State) (m : Master) (a n : Nat) : Bool :=
  (List.range 5).any (fun k => mayWrite m k && s.inPart k a n)

/-- A cache without the lines of a written range (R111). -/
def Cache.forget (x : Cache) (a n : Nat) : Cache :=
  let keep := fun (l : Nat) => !(decide (a / 64 ≤ l) && decide (l * 64 < a + n))
  { tiles := x.tiles.filter keep, maps := x.maps.filter keep, rows := x.rows.filter keep }

/-- The tile and map caches of all engines see a write to device memory: the lines it touches go (R111). -/
def State.invalidate (s : State) (a n : Nat) : State :=
  { s with caches := (s.caches.map (fun e => (e.1, e.2.forget a n))).filter (fun e => e.2 != {}) }

/-- A device master's access to lines the host may hold recalls them first: each is back-invalidated and
counted (R45, R452). -/
def State.snoop (s : State) (a n : Nat) : State :=
  let hit := fun (l : Nat) => decide (a / 64 ≤ l) && decide (l * 64 < a + n)
  let k := (s.host.tracked.filter hit).length
  if k = 0 then s
  else ({ s with host := { s.host with tracked := s.host.tracked.filter (fun l => !hit l) } } : State).inc pHOST HOST.BISNP k

/-- The bytes a read returns: those of memory, or all ones where it is refused (R46). -/
def State.devRead (s : State) (m : Master) (a n : Nat) : List Byte :=
  if s.canRead m a n then memRead s.mem a n else List.replicate n 0xFF

/-- A little-endian number read from device memory. -/
def State.devNat (s : State) (m : Master) (a n : Nat) : Nat := leNat (s.devRead m a n)

/-- A write that is performed only under the master's rights (R46). -/
def State.devWrite (s : State) (m : Master) (a : Nat) (bs : List Byte) : State :=
  if s.canWrite m a bs.length
  then ({ s.snoop a bs.length with mem := memWrite s.mem a bs } : State).invalidate a bs.length else s

/-- Bytes of a paddock, cluster `c` (1 MiB each). -/
def padAddr (c off : Nat) : Nat := c * 0x100000 + off % 0x100000
/-- The error state of a paddock word: 0 none, 1 one bit, 2 two bits (R392). -/
def State.padErrAt (s : State) (c off : Nat) : BitVec 2 := sget 0 s.padErr (padAddr c off / 4)

def State.setPadErr (s : State) (c off : Nat) (e : BitVec 2) : State :=
  { s with padErr := sset 0 s.padErr (padAddr c off / 4) e }

/-- One byte as a read returns it: 0xFF from a word with a double-bit error, a single bit corrected (R392). -/
def State.padByte (s : State) (c off : Nat) : Byte :=
  if s.padErrAt c off = 2 then 0xFF else memByte s.pad (padAddr c off)

def State.padRead (s : State) (c off : Nat) : Nat → List Byte
  | 0 => []
  | n + 1 => s.padByte c off :: s.padRead c (off + 1) n

def State.padNat (s : State) (c off n : Nat) : Nat := leNat (s.padRead c off n)

/-- A byte written; on a word with a double-bit error the other bytes become 0xFF, and a write leaves fresh
check bits (R392). -/
def State.padSetByte (s : State) (c off : Nat) (b : Byte) : State :=
  let s := if s.padErrAt c off = 2
    then { s with pad := memWrite s.pad (padAddr c (off / 4 * 4)) (List.replicate 4 0xFF) } else s
  ({ s with pad := memSetByte s.pad (padAddr c off) b } : State).setPadErr c off 0

def State.padWrite (s : State) (c off : Nat) : List Byte → State
  | [] => s
  | b :: bs => (s.padSetByte c off b).padWrite c (off + 1) bs

/-- Bytes of a ring of `size` bytes at paddock offset `base`, from free-running position `pos`. -/
def State.padRingRead (s : State) (c base size pos : Nat) : Nat → List Byte
  | 0 => []
  | n + 1 => s.padByte c (base + pos % size) :: s.padRingRead c base size (pos + 1) n

def State.padRingWrite (s : State) (c base size pos : Nat) : List Byte → State
  | [] => s
  | b :: bs => (s.padSetByte c (base + pos % size) b).padRingWrite c base size (pos + 1) bs

/-- A paddock takes accesses: its cluster present, its domain ON, its page not fenced (R472). -/
def State.padUp (s : State) (c : Nat) : Bool :=
  s.present 0 (pgPK c) && s.domainOn 0 (pgPK c) && !s.fenced 0 (pgPK c)

/-- Instruction RAM of cluster `c`, 128 KiB. -/
def iramAddr (c off : Nat) : Nat := c * 0x20000 + off % 0x20000
def State.iramRead (s : State) (c off n : Nat) : List Byte := memRead s.iram (iramAddr c off) n

/-- Host memory as CXL.cache writes leave it (R453). -/
def State.hostWrite (s : State) (a : Nat) (bs : List Byte) : State :=
  { s with hostMem := memWrite s.hostMem a bs }

/-- CXL.cache answers: the link is up with it, the host has set Cache_Enable, and HOST is not fenced (R445, R453, R476). -/
def State.cacheUp (s : State) : Bool :=
  s.b pHOST HOST.LINK_STAT_CACHE && s.host.cacheEn && !s.fenced 0 pHOST

/-- A CXL.cache write; a failed one writes nothing (R453). -/
def State.cacheWrite (s : State) (a : Nat) (bs : List Byte) : State := if s.cacheUp then s.hostWrite a bs else s

end Sys2Proof.Machine
end

