-- ==== Sys2Proof/Machine/PinMux.lean ====
section
/-! DEFINITION. Which function holds each multiplexed pin, and whether a peripheral's input sees its pin (R482, R484,
R489, R503). -/

namespace Sys2Proof.Machine

/-- The pin has a peripheral function (table "Pin functions and claim conditions"). -/
def pinHasFunc (k : Nat) : Bool := decide (k < 96) || decide (112 ≤ k ∧ k < 124)

/-- The peripheral's claim condition holds (R482). -/
def State.pinClaim (s : State) (k : Nat) : Bool :=
  if k < 64 then true
  else if k < 80 then s.b pAUDIO (AUDIO.TCTRL_EN.at (0x10 * ((k - 64) / 4)))
  else if k < 88 then s.b pPINS (PINS.I2C_CFG_EN.at (0x20 * ((k - 80) / 2)))
  else if k < 96 then s.b pPINS (PINS.SPI_CFG_EN.at (0x20 * ((k - 88) / 4)))
  else if k < 112 then false
  else if k = 112 then s.b pMIRROR MIRROR.CFG_ARB_EN
  else if k = 113 then s.b pMIRROR MIRROR.CFG_PAIRED
  else if k < 120 then
    let q := (k - 114) / 3
    s.b pPINS (PINS.SPI_CFG_EN.at (0x20 * q)) && nbit (s.r pPINS (PINS.SPI_CFG_CS_EN.at (0x20 * q))) ((k - 114) % 3)
  else decide (k < 124)

/-- MPk_CFG.FUNC: the peripheral holds the pin (R482). -/
def State.pinHeld (s : State) (k : Nat) : Bool :=
  s.b pPINS (PINS.MP_CFG_ALLOW.at (4 * k)) && pinHasFunc k && s.pinClaim k

/-- BANK_STAT of bank `b`: 0 = ABSENT (R489). -/
def State.bankV (s : State) (b : Nat) : Nat := (sget 0 s.pins.bankV b).toNat

/-- EXTEST, CLAMP and HIGHZ take every pin from its function while selected (R503). -/
def State.jtagTakes (s : State) : Bool :=
  s.pins.jtag == .extest || s.pins.jtag == .clamp || s.pins.jtag == .highz

/-- The peripheral's input sees pin `k`; where it does not, the input takes its default value: no pin holds it, or the
pin's bank is ABSENT (R484, R489). -/
def State.pinIn (s : State) (k : Nat) : Bool := s.pinHeld k && s.bankV (k / 32) != 0 && !s.jtagTakes

/-- MP(48 + 4i + 3) and MP(120 + i) both hold FP(12 + i)'s CD/CTS, their banks supplied (R484, R489). -/
def State.pinClash (s : State) (i : Nat) : Bool :=
  s.pinHeld (51 + 4 * i) && s.pinHeld (120 + i) && s.bankV 1 != 0 && s.bankV 3 != 0

end Sys2Proof.Machine
end

