-- ==== Sys2Proof/Machine/Sources.lean ====
section
/-! DEFINITION. Interrupt sources: their numbers, when they are asserted, and which wait (R419, R420, R422,
R426). -/

namespace Sys2Proof.Machine

/-- Base and stride of a page's sources (table "Interrupt source numbers"). -/
def sourceBase (func page : Nat) : Option (Nat × Nat) :=
  match pageKind func page with
  | some (.kHEAD, n) => some (32 * n, 32)
  | some (.kPE, n) => if n = 32 then some (2144, 8) else some (1024 + 8 * n, 8)
  | some (.kVP, n) => some (1280 + 8 * n, 8)
  | some (.kSAPPHIRE, n) => some (1408 + 8 * n, 8)
  | some (.kSC, n) => some (1664 + 2 * n, 2)
  | some (.kFP, n) => some (1792 + 8 * n, 8)
  | some (.kCV, n) => some (1920 + 4 * n, 4)
  | some (.kDV, n) => some (1984 + 2 * n, 2)
  | some (.kPK, n) => some (2112 + 4 * n, 4)
  | some (.kSAFETY, _) => some (2152, 8)
  | some (.kOWNERSHIP, _) => some (2160, 8)
  | some (.kPROTR, _) => some (2168, 8)
  | some (.kDEVICE, _) => some (2176, 4)
  | some (.kCLOCKS, _) => some (2180, 4)
  | some (.kPOWER, _) => some (2184, 4)
  | some (.kPINS, _) => some (2188, 4)
  | some (.kMEMCTL, _) => some (2192, 4)
  | some (.kPARTITIONS, _) => some (2196, 4)
  | some (.kDATAPORTS, _) => some (2200, 4)
  | some (.kINTC, _) => some (2204, 4)
  | some (.kDROVER, _) => some (2208, 4)
  | some (.kTIMEBASE, _) => some (2212, 4)
  | some (.kHOST, _) => some (2216, 4)
  | some (.kBLITTER, _) => some (2240, 8)
  | some (.kAUDIO, _) => some (2248, 8)
  | some (.kAUDIOR, _) => some (2256, 4)
  | some (.kFIELD, _) => some (2260, 4)
  | some (.kPOINTS, _) => some (2264, 4)
  | some (.kBRANDS, _) => some (2268, 4)
  | some (.kCOMMANDS, _) => some (2272, 4)
  | some (.kHISTORY, _) => some (2276, 4)
  | some (.kJOURNAL, _) => some (2280, 8)
  | some (.kMIRROR, _) => some (2288, 8)
  | _ => none

/-- The bits of `m` below `w`, numbered from `base`. -/
def bitsFrom (base w m : Nat) : List Nat := (List.range w).filterMap (fun b => if nbit m b then some (base + b) else none)

/-- Bits of INT_PEND and INT_EN that assert a source, compare channels that match, doorbells that are pending
(R420): the sources one register has asserted. -/
def State.regSources (s : State) (key : Nat) (v : W64) : List Nat :=
  let func := key / 0x1000000
  let page := key / 0x1000 % 0x1000
  let off := key % 0x1000
  if off = 0x014 then
    match sourceBase func page with
    | some (base, stride) => bitsFrom base stride (v.toNat &&& (s.reg func page 0x010).toNat)
    | none => []
  else if func = 0 ∧ page = pTIMEBASE ∧ 0x200 ≤ off ∧ (off - 0x200) % 0x20 = 0x14 then
    let n := (off - 0x200) / 0x20
    if nbit v.toNat 0 && s.b pTIMEBASE (TIMEBASE.CMP_CTRL_IE.at (0x20 * n)) then [2048 + n] else []
  else if func = 0 ∧ 0x428 ≤ page ∧ page < 0x440 ∧ off = 0x118 then bitsFrom (64 * (page - 0x400)) 64 v.toNat
  else []

/-- Every asserted source. A register that holds its reset value asserts none. -/
def State.asserted (s : State) : List Nat := s.regs.flatMap (fun e => s.regSources e.1 e.2)

/-- Sources of group `g` as a mask (ASSERTED). -/
def maskOf (g : Nat) (l : List Nat) : Nat :=
  l.foldl (fun m n => if n / 64 = g then m ||| 2 ^ (n % 64) else m) 0

/-- A source that has deasserted may wait again; one that has asserted waits from now (R422). In SERVICE the
first to wait opens the window (R426). -/
def Group.scan (x : Group) (fc : Nat) (service : Bool) (mask : Nat) : Group :=
  let seen := x.seen.toNat &&& mask
  let fresh := bitsFrom 0 64 (mask &&& (0xFFFFFFFFFFFFFFFF ^^^ seen))
  let already := x.waiting.map (·.1)
  let add := fresh.filter (fun i => !already.contains i)
  { x with
    seen := BitVec.ofNat 64 mask
    waiting := x.waiting ++ add.map (fun i => (i, fc, 0))
    window := if service && x.window.isNone && !add.isEmpty then some fc else x.window }

/-- The link to the host is down. -/
def State.linkDown (s : State) : Bool := s.r pHOST HOST.LINK_STAT_RATE == 0

/-- Source `i` of group `g` names a host vector (SCFG.HOST). -/
def State.srcHost (s : State) (g i : Nat) : Bool := s.b (pgINTCG g) (INTCG.SCFG_HOST.at (0x10 * i))

/-- Every group brought up to the present assertions; WAKE# goes low when a host-vector source waits while the
link is down (R447). -/
def State.scanSources (s : State) : State :=
  let l := s.asserted
  let service := s.b pINTC INTC.SERVICE
  let s := (List.range 64).foldl (fun s g =>
    let m := maskOf g l
    let x := s.group g
    if m = x.seen.toNat then s else s.setGroup g (x.scan s.fc service m)) s
  if s.host.wake || !s.linkDown then s
  else if s.groups.any (fun e => e.2.waiting.any (fun x => s.srcHost e.1 x.1))
    then { s with host := { s.host with wake := true } } else s

end Sys2Proof.Machine
end

