-- ==== Sys2Proof/Machine/Tick.lean ====
section
/-! DEFINITION. What one fabric cycle does with no command waiting: the counters that run (R16, R39, R437).
Events that fall due are commands of their own (log entry 4). -/

namespace Sys2Proof.Machine

/-- The time base one fc on: a tick every 12 fc while PD48 keeps it running (R19, R437). -/
def State.tbCycle (s : State) : State :=
  if s.clocks.tbStopped || !s.pdOn 48 then s
  else if s.tbFrac = 11 then { s with tbFrac := 0, tb := s.tb + 1 }
  else { s with tbFrac := s.tbFrac + 1 }

/-- The watchdog's count one fc down (R39). -/
def State.wdogCycle (s : State) : State := { s with wdog := s.wdog - 1 }

/-- Clock cycles of a cluster's clock up to fabric cycle `f` at a performance level (R76, R376). -/
def ccAt (level f : Nat) : Nat :=
  if level = 0 then 2 * f else if level = 1 then 3 * f / 2 else if level = 2 then f else f / 2

/-- CYCLES of every released core over the next `n` fc (R345). -/
def State.coreCycles (s : State) (n : Nat) : State :=
  { s with cores := s.cores.map (fun e =>
      let level := s.r pPOWER (POWER.PD_STATUS_PLEVEL_NOW.at (0x10 * (33 + e.1 / 8)))
      (e.1, if e.2.running && s.pdOn (33 + e.1 / 8)
        then { e.2 with cycles := e.2.cycles + BitVec.ofNat 32 (ccAt level (s.fc + n) - ccAt level s.fc) }
        else e.2)) }

/-- One fabric cycle; without root PLL lock no divided clock runs (R62). -/
def tick (s : State) : State :=
  if s.mainUp then ({ s.scanSources.coreCycles 1 with fc := s.fc + 1 } : State).tbCycle.wdogCycle else s

/-- Ticks of the time base in one millisecond and in 10 µs (R437). -/
def msTick : Nat := 148500
def tenUsTick : Nat := 1485

/-- The block at fabric cycle `due`, where that lies ahead: time base and watchdog move with it (log entry 4). -/
def State.advanceFc (s : State) (due : Nat) : State :=
  let s := s.scanSources
  let n := due - s.fc
  let f := s.tbFrac + n
  let s := { s.coreCycles n with fc := s.fc + n, wdog := s.wdog - n }
  if s.clocks.tbStopped || !s.pdOn 48 then s
  else { s with tbFrac := f % 12, tb := s.tb + BitVec.ofNat 64 (f / 12) }

/-- The block at the moment the time base reaches `due`: an event that waits for that moment is its own
command, and finds the fabric cycles up to it passed (log entry 4). A moment that has passed changes
nothing. -/
def State.advanceTb (s : State) (due : Nat) : State :=
  if s.clocks.tbStopped || !s.pdOn 48 || decide (due ≤ s.tb.toNat) then s
  else
    let s := s.scanSources
    let n := (due - s.tb.toNat) * 12 - s.tbFrac
    { s.coreCycles n with fc := s.fc + n, tb := BitVec.ofNat 64 due, tbFrac := 0, wdog := s.wdog - n }

/-- The retrain ends 60 µs after its start (R81). -/
def State.retrainDone (s : State) : State :=
  if s.b pMEMCTL MEMCTL.TRAIN_STAT_RUNNING then
    let s := s.advanceFc (s.trainFc + 60 * usFc)
    (s.w pMEMCTL MEMCTL.TRAIN_STAT_RUNNING 0).inc pMEMCTL MEMCTL.TRAIN_STAT_TRAIN_COUNT
  else s

/-- The block when a device memory request issued now has been served: while a retrain runs the request waits,
and it is served once the retrain has ended (R81). -/
def State.memWait (s : State) : State := s.retrainDone

end Sys2Proof.Machine
end

