-- ==== Sys2Proof/Machine/Audio.lean ====
section
/-! DEFINITION. Annunciation audio: voices, actions, routes, busses, outputs, protection (R396 to R418). -/

namespace Sys2Proof.Machine

/-- MIRROR.ROLE: 0 ACTIVE, 1 STANDBY, 2 ISOLATED, 3 RESYNC. -/
def State.role (s : State) : Nat := s.r pMIRROR MIRROR.ROLE

/-- The device follows a partner (R333, R405, R414). -/
def State.following (s : State) : Bool := s.role == 1 || s.role == 3

/-- The routes marked protected (R413). -/
def State.protRoutes (s : State) : List Nat :=
  (List.range 8).flatMap (fun w =>
    let v := s.r1 pPROTR (PROTR.PROT.at (4 * w))
    if v = 0 then [] else ((List.range 32).filter (fun j => nbit v j)).map (fun j => 32 * w + j))

def routeFld (f : Fld) (r : Nat) : Fld := f.at (8 * r)
def voiceFld (f : Fld) (v : Nat) : Fld := f.at (0x20 * v)
def busFld (f : Fld) (b : Nat) : Fld := f.at (0x20 * b)

/-- Source and destination of a route as its register names them. -/
def State.routeSrc (s : State) (r : Nat) : Nat := s.r pAUDIOR (routeFld AUDIOR.ROUTE_SRC r)
def State.routeDst (s : State) (r : Nat) : Nat := s.r pAUDIOR (routeFld AUDIOR.ROUTE_DST r)

/-- A voice is protected while it is the source of a protected route (R413). -/
def State.voiceProt (s : State) (v : Nat) : Bool := s.protRoutes.any (fun r => s.routeSrc r == v)

/-- A bus is protected while it is the destination of a protected route, or the source of one (R413). -/
def State.busProt (s : State) (b : Nat) : Bool :=
  s.protRoutes.any (fun r => s.routeDst r == b || s.routeSrc r == 64 + b)

/-- An output is protected while its BUS names a protected bus (R413). -/
def State.outProt (s : State) (k : Nat) : Bool := s.busProt (s.r pAUDIO (AUDIO.OUT_BUS.at (4 * k)))

/-- A TDM port is protected while it carries an enabled protected output (R413). -/
def State.portProt (s : State) (p : Nat) : Bool :=
  (List.range 4).any (fun i => s.b pAUDIO (AUDIO.OUT_EN.at (4 * (4 * p + i))) && s.outProt (4 * p + i))

/-- AUDIO STATUS.PROTECTED: any route is protected (R413). -/
def State.anyProt (s : State) : Bool := !s.protRoutes.isEmpty

/-- Writers that protection lets through: 0x02, and 0x7E on a device in STANDBY or RESYNC (R414). -/
def State.protExempt (s : State) (c : Code) : Bool := c == 0x02 || (c == 0x7E && s.following)

/-- A write dropped under R414. -/
def Wr.protDrop (w : Wr) (s : State) : Eff :=
  let s := s.logDrop w Ev.PROT_DENY
  (if w.page = pAUDIOR then s.statusBit pAUDIOR 3 else s, false)

/-- A value on a ramp that has passed `pos` of its samples; integer division (R400; log entry 20). -/
def Ramp.now (r : Ramp) : Int :=
  if r.len ≤ r.pos then r.dst else r.src + (r.dst - r.src) * (r.pos : Int) / (r.len : Int)

/-- One sample further. -/
def Ramp.step (r : Ramp) : Ramp := if r.pos < r.len then { r with pos := r.pos + 1 } else r

/-- A ramp from the present value to `x` over `n` samples. -/
def Ramp.to (r : Ramp) (x : Int) (n : Nat) : Ramp := { src := r.now, dst := x, len := n, pos := 0 }

def Ramp.over (r : Ramp) : Bool := decide (r.len ≤ r.pos)

/-- A voice goes IDLE: its VEND bit and INT_PEND.VOICE_END are set (R400). -/
def State.voiceIdle (s : State) (v : Nat) : State :=
  let s := s.setVoice v {}
  let s := s.w pAUDIO ⟨0x110 + 4 * (v / 32), v % 32, 1⟩ 1
  s.pendInt pAUDIO 0

/-- VCTRL.KIND of a voice. -/
def State.voiceKind (s : State) (v : Nat) : Nat := s.r pAUDIO (voiceFld AUDIO.VCTRL_KIND v)

/-- The source order of actions that arrive in one fc (R406). -/
def actionRank (c : Code) : Nat :=
  if c = 0x02 then 0 else if c = 0x7E then 40 else if c = 0x01 then 41 else 42 + c.toNat

/-- An action put into the queue: after every earlier one, and in one fc after those of a source that goes
first. -/
def queueAction (a : VAction) : List VAction → List VAction
  | [] => [a]
  | b :: l => if b.fc = a.fc ∧ a.rank < b.rank then a :: b :: l else b :: queueAction a l

/-- Whether an action's writer code is accepted (R405). -/
def State.actionAllowed (s : State) (v act : Nat) (c : Code) : Bool :=
  let o := s.r pAUDIO (AUDIO.VOWNER_OWNER.at (4 * v))
  let ac := s.r pAUDIO (AUDIO.VOWNER_ACT.at (4 * v))
  let full := c.toNat == o || s.protExempt c
  if (act = 1 ∨ act = 2) && s.voiceProt v then full
  else full || (ac != 0 && c.toNat == ac)

/-- AUDIO works: its page acts, and AUDIO_ROUTES is not fenced (R405, R476). -/
def State.audioRuns (s : State) : Bool := s.active pAUDIO && !s.fenced 0 pAUDIOR

/-- An action submitted on a voice: 0 START, 1 RELEASE, 2 STOP, 3 PRELOAD (R404 to R406). -/
def State.submitAction (s : State) (v act : Nat) (param : W32) (c : Code) (rank : Nat) : State :=
  if !s.audioRuns then s
  else if !s.actionAllowed v act c then s.accEvent 0 pAUDIO Ev.OWNER_DENY (denyDetail c 0x108)
  else if 256 ≤ s.audio.queue.length then
    let s := s.inc pAUDIO AUDIO.ACTIONS_LOST
    let s := (s.statusBit pAUDIO 3).pendInt pAUDIO 1
    s.event pAUDIO Ev.ACTION_LOST (mkDetail [(v, 0), (act, 8)])
  else
    let a : VAction := { voice := v, act := act, param := param, wr := c, rank := rank, fc := s.fc }
    { s with audio := { s.audio with queue := queueAction a s.audio.queue } }

/-- Bytes of one PCM sample (R399). -/
def State.pcmSize (s : State) (v : Nat) : Nat := if s.b pAUDIO (voiceFld AUDIO.VCTRL_PCM24 v) then 4 else 2
def State.pcmTotal (s : State) (v : Nat) : Nat := s.r pAUDIO (voiceFld AUDIO.PCM_LEN v) * s.pcmSize v

/-- Every byte of a PCM voice has been fetched (R402). -/
def State.pcmAll (s : State) (v : Nat) (x : Voice) : Bool :=
  !s.b pAUDIO (voiceFld AUDIO.VCTRL_LOOP v) && decide (s.pcmTotal v ≤ x.fetched)

/-- The count of samples a DURATION gives (R407), and the gate's periods (R401). -/
def durSamples (d : Nat) : Nat := d * 480

/-- The gate opens and its first open period begins, as a START takes hold on a voice that was not started (R401). -/
def State.openGate (s : State) (v : Nat) (x : Voice) : Voice :=
  { x with gateOpen := true, gate := { src := 64, dst := 64 }, cadLeft := s.r pAUDIO (voiceFld AUDIO.CADENCE_ON v) * 480 }

/-- A voice enters its attack (R400). -/
def State.enterAttack (s : State) (v : Nat) (x : Voice) : Voice :=
  let lv := s.r pAUDIO (voiceFld AUDIO.LEVEL v)
  let atk := s.r pAUDIO (voiceFld AUDIO.ENV_ATTACK v)
  { x with
    state := if atk = 0 then .sustain else .attack
    env := { src := 0, dst := lv, len := atk, pos := 0 }
    level := lv }

/-- A START taking hold (R400, R402, R407). -/
def State.holdStart (s : State) (v : Nat) (param : W32) : State :=
  let lv := nfld param.toNat 0 16
  let s := if lv = 0 then s else s.w pAUDIO (voiceFld AUDIO.LEVEL v) lv
  let x := { s.voice v with dur := durSamples (nfld param.toNat 16 16) }
  match x.state with
  | .idle =>
    let x := s.openGate v { x with phase := 0, noise := 0x7FFFFF, pos := 0, fetched := 0, buf := [], owed := 0 }
    if s.voiceKind v = 3 then s.setVoice v { x with state := .fetch, startOn := true }
    else s.setVoice v (s.enterAttack v x)
  | .preloaded => s.setVoice v (s.enterAttack v (s.openGate v x))
  | .fetch => s.setVoice v (if x.startOn then x else { s.openGate v x with startOn := true })
  | _ =>
    let l := s.r pAUDIO (voiceFld AUDIO.LEVEL v)
    let atk := s.r pAUDIO (voiceFld AUDIO.ENV_ATTACK v)
    s.setVoice v { x with state := if atk = 0 then .sustain else .attack, env := x.env.to l atk, level := l }

/-- RELEASE taking hold, and DURATION expiring (R400). -/
def State.holdRelease (s : State) (v : Nat) : State :=
  let x := s.voice v
  match x.state with
  | .idle => s
  | _ =>
    let n := s.r pAUDIO (voiceFld AUDIO.ENV_RELEASE v)
    s.setVoice v { x with state := .release, env := x.env.to 0 n, dur := 0 }

/-- STOP taking hold (R400). -/
def State.holdStop (s : State) (v : Nat) : State :=
  let x := s.voice v
  match x.state with
  | .idle => s
  | _ => s.setVoice v { x with state := .stopping, env := x.env.to 0 64, dur := 0 }

/-- PRELOAD taking hold on an IDLE PCM voice; it is ignored otherwise (R402, R407). -/
def State.holdPreload (s : State) (v : Nat) : State :=
  let x := s.voice v
  if x.state = .idle ∧ s.voiceKind v = 3 then
    s.setVoice v { x with state := .fetch, startOn := false, pos := 0, fetched := 0, buf := [], owed := 0,
                          phase := 0, noise := 0x7FFFFF }
  else s

def State.holdAction (s : State) (a : VAction) : State :=
  if a.act = 0 then s.holdStart a.voice a.param
  else if a.act = 1 then s.holdRelease a.voice
  else if a.act = 2 then s.holdStop a.voice
  else s.holdPreload a.voice

/-- The gate turned over: it alternates open and shut periods, each change a ramp of 64 samples (R401). -/
def State.gateToggle (s : State) (v : Nat) : State :=
  let x := s.voice v
  let on := s.r pAUDIO (voiceFld AUDIO.CADENCE_ON v)
  let off := s.r pAUDIO (voiceFld AUDIO.CADENCE_OFF v)
  if x.gateOpen then
    s.setVoice v { x with gateOpen := false, gate := x.gate.to 0 64, cadLeft := off * 480 }
  else
    s.setVoice v { x with gateOpen := true, gate := x.gate.to 64 64, cadLeft := on * 480 }

/-- A voice sounds: it produces samples. -/
def VState.sounds : VState → Bool
  | .attack => true
  | .sustain => true
  | .release => true
  | .stopping => true
  | _ => false

/-- DURATION and cadence count from the boundary at which a START took hold, in FETCH as well (R401, R407; log entry 152). -/
def Voice.counts (x : Voice) : Bool := x.state.sounds || (x.state == .fetch && x.startOn)

/-- Duration and cadence counts of a started voice at a boundary (R401, R407). -/
def State.voiceTimers (s : State) (v : Nat) : State :=
  let x := s.voice v
  let s := if x.dur = 1 then s.holdRelease v
    else s.setVoice v { x with dur := x.dur - 1 }
  let x := s.voice v
  if s.r pAUDIO (voiceFld AUDIO.CADENCE_OFF v) = 0 then
    if x.gateOpen then s else s.setVoice v { x with gateOpen := true, gate := x.gate.to 64 64 }
  else if x.cadLeft ≤ 1 then s.gateToggle v
  else s.setVoice v { x with cadLeft := x.cadLeft - 1 }

/-- The state changes a voice makes at a boundary before its sample (R400, R402). -/
def State.voiceAdvance (s : State) (v : Nat) : State :=
  let x := s.voice v
  match x.state with
  | .fetch =>
    if x.startOn && (decide (256 ≤ x.buf.length) || s.pcmAll v x) then s.setVoice v (s.enterAttack v x)
    else s
  | .attack => if x.env.over then s.setVoice v { x with state := .sustain } else s
  | .sustain =>
    let l := s.r pAUDIO (voiceFld AUDIO.LEVEL v)
    if l ≠ x.level then s.setVoice v { x with env := x.env.to l 64, level := l } else s
  | .release => if x.env.over then s.voiceIdle v else s
  | .stopping => if x.env.over then s.voiceIdle v else s
  | _ => s

/-- The waveform value of a synthesised voice (R399). -/
def waveform (kind duty : Nat) (p : W32) (noise : BitVec 23) : Int :=
  if kind = 0 then (if nfld p.toNat 24 8 < duty then 8388607 else -8388607)
  else if kind = 1 then
    if p.toNat < 0x80000000 then -8388607 + 2 * 8388607 * (p.toNat : Int) / 0x80000000
    else 8388607 - 2 * 8388607 * ((p.toNat : Int) - 0x80000000) / 0x80000000
  else if xor (noise.getLsbD 0) Config.noiseInvert then 8388607 else -8388607

/-- The noise register one step on: feedback x^23 + x^18 + 1 (R399; log entry 21). -/
def noiseStep (n : BitVec 23) : BitVec 23 :=
  BitVec.ofNat 23 (n.toNat * 2 + b2n (xor (n.getLsbD 22) (n.getLsbD 17)))

/-- Late PCM data (R402). -/
def State.pcmLate (s : State) : State :=
  ((s.inc pAUDIO AUDIO.PCM_LATE).statusBit pAUDIO 5).pendInt pAUDIO 3

/-- The waveform value of a PCM voice and the voice after it took its sample (R399, R402). -/
def pcmTake (size : Nat) (x : Voice) : Int × Voice × Bool :=
  if size ≤ x.buf.length then
    let n := leNat (x.buf.take size)
    let w := if size = 2 then signed 16 n * 256 else signed 24 (n / 256)
    (w, { x with buf := x.buf.drop size, pos := x.pos + 1 }, false)
  else (0, { x with pos := x.pos + 1, owed := x.owed + size - x.buf.length, buf := [] }, true)

/-- One sample of a sounding voice: (w × e + 2^15) >> 16, scaled by the gate (R399, R401). -/
def State.voiceSample (s : State) (v : Nat) : State :=
  let x := s.voice v
  if !x.state.sounds then s.setVoice v { x with sample := 0 }
  else
    let x := { x with env := x.env.step, gate := x.gate.step }
    let kind := s.voiceKind v
    if kind = 3 then
      let loop := s.b pAUDIO (voiceFld AUDIO.VCTRL_LOOP v)
      let len := s.r pAUDIO (voiceFld AUDIO.PCM_LEN v)
      if !loop && decide (len ≤ x.pos) then s.voiceIdle v
      else
        let t := pcmTake (s.pcmSize v) x
        let y := t.2.1
        let y := if loop && decide (len ≤ y.pos) then { y with pos := 0 } else y
        let smp := (t.1 * y.env.now + 32768) / 65536 * y.gate.now / 64
        let s := if t.2.2 then s.pcmLate else s
        s.setVoice v { y with sample := smp }
    else
      let w := waveform kind (s.r pAUDIO (voiceFld AUDIO.VCTRL_DUTY v)) x.phase x.noise
      let inc := s.r pAUDIO (voiceFld AUDIO.INC v)
      let wraps := decide (0x100000000 ≤ x.phase.toNat + inc)
      let smp := (w * x.env.now + 32768) / 65536 * x.gate.now / 64
      s.setVoice v { x with
        phase := x.phase + BitVec.ofNat 32 inc
        noise := if wraps then noiseStep x.noise else x.noise
        sample := smp }

/-- A source's sample of the last period: a voice or a bus (R408). -/
def State.srcSample (s : State) (src : Nat) : Int :=
  if src < 64 then (s.voice src).sample else (sget ({} : BusSt) s.audio.busses (src - 64)).sample

/-- What a route contributes to bus `b`: (x × g) >> 7 of its present source, and of what fades out (R408,
R409). -/
def State.routeInto (s : State) (b r : Nat) : Int :=
  let x := sget ({} : RouteSt) s.audio.routes r
  let main := if x.dst = b then s.srcSample x.src * x.gain.now / 128 else 0
  x.old.foldl (fun a o => if o.2.1 = b then a + s.srcSample o.1 * o.2.2.now / 128 else a) main

/-- The 40-bit sum of a bus's routes, 8 fraction bits (R408). -/
def State.busSum (s : State) (b : Nat) : Int :=
  (s.audio.routes.map (fun e => s.routeInto b e.1)).foldl (· + ·) 0

/-- Bounds 0.1 dB below and above a value (R410). -/
def within01dB (x y : Int) : Int :=
  if 0 ≤ x then clampI (x * 98855 / 100000) (x * 101158 / 100000 + 1) y
  else clampI (x * 101158 / 100000 - 1) (x * 98855 / 100000) y

/-- Unity of the gains below: 48 fraction bits. -/
def unity : Nat := 0x1000000000000

/-- Attenuations in 0.01 dB, each twice the next, with their factors 10^(-n/2000) in 48 fraction bits. -/
def dbSteps : List (Nat × Nat) :=
  [(16384, 1809005), (8192, 22565231422), (4096, 2520227765306), (2048, 26634208295819), (1024, 86584427928886),
   (512, 156113259637959), (256, 209623415010869), (128, 242906866634504), (64, 261480792083865), (32, 271293751977611),
   (16, 276337479397285), (8, 278894398612866), (4, 280181716666682), (2, 280827602228673), (1, 281151103140331)]

/-- The factor of an attenuation in 0.01 dB. -/
def attenuation (n : Nat) : Nat :=
  dbSteps.foldl (fun g e => if n / e.1 % 2 = 1 then g * e.2 / unity else g) unity

/-- How far `d` lies below `ref`, in 0.01 dB. -/
def dbBelow (d ref : Nat) : Nat :=
  (dbSteps.foldl (fun (a : Nat × Nat) e =>
    let g := a.2 * e.2 / unity
    if d * unity ≤ g * ref then (a.1 + e.1, g) else a) (0, unity)).1

/-- The peak detector, 16 fraction bits: it follows |x| with 2^-ATTACK above it and 2^-RELEASE below (R410). -/
def detect (d x attack release : Nat) : Nat :=
  let t := x * 65536
  if d < t then d + (t - d) / 2 ^ attack else d - (d - t) / 2 ^ release

/-- The compressor's gain reduction in 0.01 dB at detector level `d`: 1 - 1/RATIO of what lies above -THRESH/2 dBFS, all
of it with RATIO 0 (R410). The level is taken below 2^16 times full scale, which lies 96.33 dB higher. -/
def State.compReduction (s : State) (b d : Nat) : Nat :=
  let above : Int := 9633 - dbBelow d (8388607 * 2 ^ 32) + 50 * s.r pAUDIO (busFld AUDIO.COMP_THRESH b)
  let r := s.r pAUDIO (busFld AUDIO.COMP_RATIO b)
  if r = 0 then above.toNat else above.toNat * (r - 1) / r

/-- A sample after the compressor: reduced, then MAKEUP × 0.25 dB added (R410). -/
def State.compressed (s : State) (b red : Nat) (x : Int) : Int :=
  let up := 25 * s.r pAUDIO (busFld AUDIO.COMP_MAKEUP b)
  if up ≤ red then x * attenuation (red - up) / unity else x * unity / attenuation (up - red)

/-- The limiter's gain for a sample: min(g + (1 - g) × 2^-REL, C / |y|) (R410). -/
def State.limitGain (s : State) (b g : Nat) (y : Int) : Nat :=
  let c := s.r pAUDIO (busFld AUDIO.LIMIT_CEIL b) * 256
  let free := g + (unity - g) / 2 ^ s.r pAUDIO (busFld AUDIO.LIMIT_REL b)
  if y = 0 then free else min free (c * unity / y.natAbs)

/-- A bus's compressor and limiter on one input sample: the detector, the limiter's gain, the reduction of both in
0.01 dB, and the sample by R410's rules. -/
def State.busRules (s : State) (b : Nat) (st : BusSt) (x : Int) : Nat × Nat × Nat × Int :=
  let comp := s.b pAUDIO (busFld AUDIO.COMP_EN b)
  let d := if comp then detect st.det x.natAbs (s.r pAUDIO (busFld AUDIO.COMP_ATTACK b)) (s.r pAUDIO (busFld AUDIO.COMP_RELEASE b)) else 0
  let red := if comp then s.compReduction b d else 0
  let y := if comp then s.compressed b red x else x
  let lim := s.b pAUDIO (busFld AUDIO.LIMIT_EN b)
  let g := if lim then s.limitGain b st.lim y else unity
  (d, g, red + dbBelow g unity, y * g / unity)

/-- A bus's output: within 0.1 dB of R410's rules, never above the limiter's ceiling, saturated. The value inside these
bounds is free (log entry 22). -/
def State.busOut (s : State) (b : Nat) (x exact_ : Int) : Int :=
  let y := if exact_ = 0 then 0 else within01dB exact_ (Config.dynamics b x s.freeCtr)
  let c : Int := s.r pAUDIO (busFld AUDIO.LIMIT_CEIL b) * 256
  let y := if s.b pAUDIO (busFld AUDIO.LIMIT_EN b) then clampI (-c) c y else y
  clampI (-8388607) 8388607 y

/-- BSTAT.GR: the present reduction in units of 0.25 dB; which of the units beside it is free (R410; log entry 22). -/
def State.shownReduction (s : State) (b red : Nat) (x : Int) : Nat :=
  if red = 0 then 0
  else (clampI ((red / 25 : Nat) - 1) ((red / 25 : Nat) + 1) ((Config.gainReduction b x s.freeCtr).toNat : Int)).toNat

/-- One period of bus `b` (R410). -/
def State.busPeriod (s : State) (old : State) (b : Nat) : State :=
  let st := sget ({} : BusSt) s.audio.busses b
  let g := st.gain.step
  let x := old.busSum b * g.now / 32768 / 256
  let (d, lim, red, z) := s.busRules b st x
  let y := s.busOut b x z
  let s := { s with audio := { s.audio with
    busses := sset {} s.audio.busses b { gain := g, sample := y, det := d, lim := lim } } }
  let s := s.w pAUDIO (busFld AUDIO.BSTAT b) (s.shownReduction b red x)
  let s := s.w pAUDIO (busFld AUDIO.PEAK b) (max (s.r pAUDIO (busFld AUDIO.PEAK b)) y.natAbs)
  s.fresh

/-- A route's ramps one sample on; what has faded out is gone (R409). -/
def RouteSt.advance (x : RouteSt) : RouteSt :=
  let o := (x.old.map (fun o => (o.1, o.2.1, o.2.2.step))).filter (fun o => !o.2.2.over)
  { x with gain := x.gain.step, old := o }

/-- An output's ramps one sample on (R409). -/
def OutSt.advance (x : OutSt) : OutSt :=
  let o := (x.old.map (fun o => (o.1, o.2.step))).filter (fun o => !o.2.over)
  { x with fade := x.fade.step, old := o }

/-- The busses of one period: every bus reads the samples of the period before (R410, R412). -/
def State.busPeriods (s : State) : State :=
  let rs := s.audio.routes.map (fun e => (e.1, e.2.advance))
  let s1 := { s with audio := { s.audio with routes := rs } }
  (List.range 16).foldl (fun t b => t.busPeriod s1 b) s1

/-- Route `r` as its register stands, taken over at a boundary: gain changes ramp over 64 samples, a changed
source or destination crossfades (R409). -/
def State.routeLatch (s : State) (r : Nat) : State :=
  let x := sget ({} : RouteSt) s.audio.routes r
  let goal : Int := if s.b pAUDIOR (routeFld AUDIOR.ROUTE_EN r) then s.r pAUDIOR (routeFld AUDIOR.ROUTE_GAIN r) else 0
  let src := s.routeSrc r
  let dst := s.routeDst r
  let y : RouteSt :=
    if x.src ≠ src ∨ x.dst ≠ dst then
      if x.gain.now = 0 ∧ x.gain.over then { x with src := src, dst := dst, gain := { src := 0, dst := goal, len := 64 } }
      else { src := src, dst := dst, gain := { src := 0, dst := goal, len := 64 },
             old := x.old ++ [(x.src, x.dst, x.gain.to 0 64)] }
    else if x.gain.dst ≠ goal then { x with gain := x.gain.to goal 64 } else x
  { s with audio := { s.audio with routes := sset {} s.audio.routes r y } }

/-- The routes a latch may change: those whose register or state is not at rest. -/
def State.liveRoutes (s : State) : List Nat :=
  (List.range 256).filter (fun r =>
    (s.reg 0 pAUDIOR (0x100 + 8 * r)) != 0 || s.audio.routes.any (fun e => e.1 == r))

/-- Bus gains taken over at a boundary (R409). -/
def State.busLatch (s : State) (b : Nat) : State :=
  let x := sget ({} : BusSt) s.audio.busses b
  let g : Int := s.r pAUDIO (busFld AUDIO.BUS b)
  if x.gain.dst ≠ g then
    { s with audio := { s.audio with busses := sset {} s.audio.busses b { x with gain := x.gain.to g 64 } } }
  else s

/-- The output stage's setting: the one latched at the last boundary goes into force, the registers are
latched (R409, R412). -/
def State.outLatch (s : State) (k : Nat) : State :=
  let x := sget ({} : OutSt) s.audio.outs k
  let goal : Int := if x.nextEn then 64 else 0
  let y : OutSt :=
    if x.bus ≠ x.nextBus ∧ ¬ (x.fade.now = 0 ∧ x.fade.over) then
      { x with bus := x.nextBus, fade := { src := 0, dst := goal, len := 64 }, old := x.old ++ [(x.bus, x.fade.to 0 64)] }
    else if x.bus ≠ x.nextBus then { x with bus := x.nextBus, fade := { src := 0, dst := goal, len := 64 } }
    else if x.fade.dst ≠ goal then { x with fade := x.fade.to goal 64 } else x
  let y := { y with nextBus := s.r pAUDIO (AUDIO.OUT_BUS.at (4 * k)), nextEn := s.b pAUDIO (AUDIO.OUT_EN.at (4 * k)) }
  { s with audio := { s.audio with outs := sset {} s.audio.outs k y } }

/-- An output's present value: its bus faded in, and the busses it leaves faded out (R409, R411). -/
def State.outValue (s : State) (k : Nat) : Int :=
  let x := sget ({} : OutSt) s.audio.outs k
  let f := fun (b : Nat) (r : Ramp) => s.srcSample (64 + b) * r.now / 64
  clampI (-8388607) 8388607 (x.old.foldl (fun a o => a + f o.1 o.2) (f x.bus x.fade))

/-- An output still sounds: it is in force or fading. -/
def State.outLive (s : State) (k : Nat) : Bool :=
  let x := sget ({} : OutSt) s.audio.outs k
  x.fade.dst != 0 || !x.fade.over || !x.old.isEmpty

/-- The word of slot `i` (port i / 8, slot i mod 8): the lowest-numbered output of the port that names it,
its sample in [31:8] (R398, R411). -/
def State.slotWord (s : State) (i : Nat) : W32 :=
  let p := i / 8
  match (List.range 4).find? (fun j => s.outLive (4 * p + j) &&
      nbit (s.r pAUDIO (AUDIO.OUT_SLOTS.at (4 * (4 * p + j)))) (i % 8)) with
  | some j => BitVec.ofNat 32 (unsigned 24 (s.outValue (4 * p + j)) * 256)
  | none => 0

/-- The 32 slots the output stage loads in one period (R411). -/
def State.outStage (s : State) : State :=
  let os := s.audio.outs.map (fun e => (e.1, e.2.advance))
  let s := { s with audio := { s.audio with outs := os } }
  { s with audio := { s.audio with stage := (List.range 32).map s.slotWord } }

/-- Outputs carry samples only once step 7 of R91 has opened them (R90, R398). -/
def State.tdmOpen (s : State) : Bool := s.devState == stRUNNING && s.audioRuns

/-- The SDI slots of the frame that ends, captured by each running port; an SDI no pin holds is 0 (R398, R484). -/
def State.captureSdi (s : State) (sdi : List W32) : State :=
  (List.range 32).foldl (fun t i =>
    if t.b pAUDIO (AUDIO.TCTRL_EN.at (0x10 * (i / 8))) then
      t.w pAUDIO (AUDIO.RX_SLOT.at (4 * i)) (if t.pinIn (67 + 4 * (i / 8)) then (sdi.getD i 0).toNat else 0) else t) s

/-- The voices that are not IDLE, in index order. -/
def State.liveVoices (s : State) : List Nat := s.audio.voices.map (·.1)

/-- One sample boundary of the running subsystem (R396, R406, R412): the frame is the one loaded in the last
period, the output stage, busses and voices do one period's work each, in the order of the path from its
end, and actions and settings take hold. -/
def State.audioBoundary (s : State) : State :=
  let s := s.inc pAUDIO AUDIO.SAMPLE_COUNT
  let s := { s with audio := { s.audio with frame := s.audio.stage } }
  let s := s.outStage
  let s := s.busPeriods
  let s := (List.range 16).foldl (fun t k => t.outLatch k) s
  let s := s.liveRoutes.foldl (fun t r => t.routeLatch r) s
  let s := (List.range 16).foldl (fun t b => t.busLatch b) s
  let s := s.liveVoices.foldl (fun t v => if (t.voice v).counts then t.voiceTimers v else t) s
  let s := s.liveVoices.foldl (fun t v => t.voiceAdvance v) s
  let now := s.audio.queue.filter (fun a => decide (a.fc + 64 ≤ s.fc))
  let s := { s with audio := { s.audio with queue := s.audio.queue.filter (fun a => !decide (a.fc + 64 ≤ s.fc)) } }
  let s := now.foldl (fun t a => t.holdAction a) s
  s.liveVoices.foldl (fun t v => t.voiceSample v) s

/-- Fabric cycles from one sample boundary to the next (R16, R396). -/
def sampleFc : Nat := 37125

/-- The first boundary of the present series that has not passed (R396). -/
def State.nextBoundary (s : State) : Nat :=
  s.audio.dueFc + ceilDiv (s.fc - s.audio.dueFc) sampleFc * sampleFc

/-- The level TDM port `p` drives on its pin `j`, BCLK 0, FS 1 or SDO 2: a bit clock lasts 137.5 fc and begins with the edge
on which SDO changes; FS is asserted for bit clock 0; slot `i` begins at bit clock 32 i + DELAY, most significant bit first;
SDO is 0 in the gap (R397; the active levels are DEDUCED, log entry 147). -/
def State.tdmDrives (s : State) (p j : Nat) : Option Bool :=
  let f := fun (x : Fld) => s.b pAUDIO (x.at (0x10 * p))
  let next := if s.audioRuns then s.audio.dueFc else s.nextBoundary
  let o := s.fc + sampleFc - next
  let n := 2 * o / 275
  if !s.domainOn 0 pAUDIO || decide (sampleFc ≤ o) || decide (s.fc + sampleFc < next) then none
  else if j = 0 then some (f AUDIO.TCTRL_EDGE != decide (275 ≤ 4 * o % 550))
  else if j = 1 then some (f AUDIO.TCTRL_FS_POL != decide (n = 0))
  else if j = 2 then
    let d := b2n (f AUDIO.TCTRL_DELAY)
    if n < d ∨ 256 + d ≤ n then some false
    else some ((s.audio.frame.getD (8 * p + (n - d) / 32) 0 : W32).getLsbD (31 - (n - d) % 32))
  else none

/-- A sample boundary at the fabric cycle it is due: with the subsystem enabled its whole period's work, otherwise
zero samples. While AUDIO does not act, boundaries that went by unused are passed over (R16, R19, R396, R398). -/
def State.sampleBoundary (s : State) (sdi : List W32) : State :=
  if !s.mainUp then s
  else
    let due := if s.audioRuns then s.audio.dueFc else s.nextBoundary
    let s := s.advanceFc due
    let s := ({ s with audio := { s.audio with dueFc := due + sampleFc } } : State).captureSdi sdi
    if !s.audioRuns || s.audio.waitAlign then { s with audio := { s.audio with frame := [], stage := [] } }
    else
      let s := s.audioBoundary
      if s.tdmOpen then s else { s with audio := { s.audio with frame := [] } }

/-- A PCM fetch comes back: the next 256 bytes, or fewer at the end, enter the voice's buffer; a refused or
failed one plays 0 for its samples (R402). -/
def State.pcmFetchDone (s : State) (v : Nat) (err : Bool) : State :=
  let x := s.voice v
  let total := s.pcmTotal v
  let n := min 256 (total - x.fetched)
  if v ≥ 64 ∨ x.state = .idle ∨ s.voiceKind v ≠ 3 ∨ 768 < x.buf.length ∨ n = 0 ∨ !s.audioRuns then s
  else
    let a := s.r pAUDIO (voiceFld AUDIO.PCM_BASE v) + x.fetched
    let ok := s.canRead .audio a n
    let s := if ok then s.memWait else s
    let bytes := if err || !ok then List.replicate n 0 else memRead s.mem a n
    let bytes := bytes.drop x.owed
    let f := x.fetched + n
    let y := { x with
      owed := x.owed - n
      fetched := if s.b pAUDIO (voiceFld AUDIO.VCTRL_LOOP v) && decide (total ≤ f) then 0 else f
      buf := x.buf ++ bytes }
    let y := if y.state = .fetch ∧ !y.startOn ∧ (768 < y.buf.length || s.pcmAll v y)
      then { y with state := .preloaded } else y
    let s := s.setVoice v y
    if ok && !err then s
    else
      let s := (s.statusBit pAUDIO 4).pendInt pAUDIO 2
      if !ok then s.event pAUDIO Ev.PART_DENY (BitVec.ofNat 32 a) else s.eventOpen pAUDIO Ev.FETCH_ERROR

/-- DURATION runs out before the next boundary: it acts as RELEASE (R400, R407). -/
def State.durationEnd (s : State) (v : Nat) : State :=
  if (s.voice v).dur = 1 ∧ (s.voice v).counts ∧ s.audioRuns then s.holdRelease v else s

/-- The gate turns over before the next boundary (R401). -/
def State.cadenceToggle (s : State) (v : Nat) : State :=
  let x := s.voice v
  if x.counts && decide (x.cadLeft ≤ 1) && s.r pAUDIO (voiceFld AUDIO.CADENCE_OFF v) != 0 && s.audioRuns
  then
    let s := s.gateToggle v
    let y := s.voice v
    s.setVoice v { y with cadLeft := y.cadLeft + 1 }
  else s

/-- AUDIO stops: every voice is IDLE, every queued action dropped (R405, R476). `ends` tells whether the
voices report their end (R400). -/
def State.audioStop (s : State) (ends : Bool) : State :=
  let s := if ends then s.liveVoices.foldl (fun t v => if (t.voice v).state = .idle then t else t.voiceIdle v) s else s
  { s with audio := { s.audio with voices := [], queue := [], routes := [], busses := [], outs := [], stage := [], frame := [] } }

/-- AUDIO starts: SAMPLE_COUNT counts boundaries since the enable. The first boundary lies at the next pin-clock edge,
with ALIGN at the bellwether's next frame start (R16, R396). -/
def State.audioStart (s : State) : State :=
  let s := s.w pAUDIO AUDIO.SAMPLE_COUNT 0
  { s with audio := { s.audio with waitAlign := s.b pAUDIO AUDIO.CFG, dueFc := (s.fc / 12 + 1) * 12 } }

/-- AUDIO is unfenced: its boundaries run on in their series (R396, R474). -/
def State.audioResume (s : State) : State := { s with audio := { s.audio with dueFc := s.nextBoundary } }

/-- A write to a voice's registers (R399, R401, R403, R414). -/
def State.voiceWrite (s : State) (w : Wr) (v rel : Nat) (prot : Bool) : Eff :=
  let busy := decide ((s.voice v).state ≠ .idle)
  if prot && s.voiceProt v && !s.protExempt w.code then w.protDrop s
  else if rel = 0 then
    if w.f ⟨0, 8, 8⟩ = 0 then w.drop s Ev.BAD_VALUE
    else if busy && (w.f ⟨0, 0, 2⟩ != s.voiceKind v || nbit w.v 3 != s.b pAUDIO (voiceFld AUDIO.VCTRL_PCM24 v))
      then w.drop s Ev.BAD_STATE
    else s.plain w
  else if rel = 0x10 then
    w.require s (!(w.f ⟨0, 0, 16⟩ == 0 && w.f ⟨0, 16, 16⟩ != 0)) Ev.BAD_VALUE (·.plain w)
  else if rel = 0x14 then w.require s (!busy) Ev.BAD_STATE (·.plain w)
  else if rel = 0x18 then
    if w.v % 64 ≠ 0 then w.drop s Ev.BAD_VALUE
    else w.require s (!busy) Ev.BAD_STATE (·.plain w)
  else s.plain w

/-- A write to VOWNER: both codes under R32 and R34 (R403, R405, R414). -/
def State.vownerWrite (s : State) (w : Wr) (v : Nat) (prot : Bool) : Eff :=
  if prot && s.voiceProt v && !s.protExempt w.code then w.protDrop s
  else
    let o := BitVec.ofNat 8 w.v
    let a := BitVec.ofNat 8 (w.v / 256)
    w.require s (s.validOwner o && s.validOwner a
      && s.r pAUDIO (AUDIO.VOWNER_OWNER.at (4 * v)) != 0xFF) Ev.OWNER_DENY (·.plain w)

/-- A write to a block-specific register of AUDIO, past the checks of the page. `prot` tells whether
protection is judged (R415). -/
def State.audioWrite (s : State) (w : Wr) (prot : Bool) : Eff :=
  let o := w.off
  let deny := fun (b : Bool) => prot && b && !s.protExempt w.code
  if o = 0x108 then
    let v := nfld w.v 32 6
    let act := nfld w.v 40 2
    (s.submitAction v act (BitVec.ofNat 32 w.v) w.code (actionRank w.code), s.audioRuns && s.actionAllowed v act w.code)
  else if 0x200 ≤ o ∧ o < 0xA00 then s.voiceWrite w ((o - 0x200) / 0x20) ((o - 0x200) % 0x20) prot
  else if 0xB00 ≤ o ∧ o < 0xC00 then s.vownerWrite w ((o - 0xB00) / 4) prot
  else if 0xC00 ≤ o ∧ o < 0xE00 then
    if deny (s.busProt ((o - 0xC00) / 0x20)) then w.protDrop s
    else if (o - 0xC00) % 0x20 = 0x10 then done (s.setReg 0 pAUDIO o 0)
    else s.plain w
  else if 0xE00 ≤ o ∧ o < 0xE40 then
    if deny (s.outProt ((o - 0xE00) / 4)) then w.protDrop s else s.plain w
  else if 0xF00 ≤ o ∧ o < 0xF40 then
    if deny (s.portProt ((o - 0xF00) / 0x10)) then w.protDrop s else s.plain w
  else s.plain w

/-- A write to a route (R408, R414). -/
def State.routeWrite (s : State) (w : Wr) (prot : Bool) : Eff :=
  let r := (w.off - 0x100) / 8
  if (w.off - 0x100) % 8 ≠ 0 ∨ w.off < 0x100 ∨ 0x900 ≤ w.off then s.plain w
  else
    let src := w.f ⟨0, 0, 7⟩
    let dst := w.f ⟨0, 8, 4⟩
    let weak := (s.b pAUDIOR (routeFld AUDIOR.ROUTE_EN r) && !nbit w.v 15) || src != s.routeSrc r
      || dst != s.routeDst r || decide (w.f ⟨0, 16, 16⟩ < s.r1 pPROTR (PROTR.FLOOR.at (4 * r)))
    if prot && s.protRoutes.contains r && weak && !s.protExempt w.code then w.protDrop s
    else w.require s (decide (src < 80) && !(decide (64 ≤ src) && decide (dst ≤ src - 64))) Ev.BAD_VALUE (·.plain w)

end Sys2Proof.Machine
end

