-- ==== Sys2Proof/Machine/Crc.lean ====
section
/-! DEFINITION. CRC-32C as the image header, journal entries, link frames and signatures use it: reflected,
polynomial 0x1EDC6F41, initial value and final inversion all ones (R86, R183, R314, R334). -/

namespace Sys2Proof.Machine

/-- `n` steps of a reflected division by the reversed polynomial `p`. -/
def crcStep (p : Nat) : Nat → Nat → Nat
  | 0, c => c
  | n + 1, c => crcStep p n (if c % 2 = 1 then (c / 2) ^^^ p else c / 2)

/-- One byte of CRC-32C. -/
def crc32cByte (c : Nat) (b : Byte) : Nat := crcStep 0x82F63B78 8 (c ^^^ b.toNat)

/-- The register after a byte string. -/
def crc32cRun (c : Nat) (bs : List Byte) : Nat := bs.foldl crc32cByte c

/-- CRC-32C of a byte string. -/
def crc32c (bs : List Byte) : W32 := BitVec.ofNat 32 (crc32cRun 0xFFFFFFFF bs ^^^ 0xFFFFFFFF)

end Sys2Proof.Machine
end

