-- ==== Sys2Proof/Machine/Journal.lean ====
section
/-! DEFINITION. The journal engine: forming entries, room, staging and window writes, USER records (R314 to
R320). -/

namespace Sys2Proof.Machine

/-- Entry kinds (R315). -/
abbrev JK.EPOCH : Nat := 0x0001
abbrev JK.CHECKPOINT : Nat := 0x0002
abbrev JK.CP_MARK : Nat := 0x0003
abbrev JK.POINT_COMMIT : Nat := 0x0101
abbrev JK.CMD_STEP : Nat := 0x0201
abbrev JK.TXN_STATE : Nat := 0x0202
abbrev JK.REG_WRITE : Nat := 0x0301
abbrev JK.USER : Nat := 0x0F01

/-- The 64 bytes of an entry (R314). -/
def jEntryBytes (seq : Nat) (time : W64) (epoch kind flags : Nat) (payload : List Byte) : List Byte :=
  let body := leBytes 8 seq ++ leBytes 8 time.toNat ++ leBytes 4 epoch ++ leBytes 2 kind ++ leBytes 2 flags
    ++ (payload ++ List.replicate 36 0).take 36
  body ++ leBytes 4 (crc32c body).toNat

def State.nextSeq (s : State) : Nat := s.r pJOURNAL JOURNAL.NEXT_SEQ
def State.stageCap (s : State) : Nat := 2 ^ s.r pJOURNAL JOURNAL.STAGE_SIZE
def State.pwEn (s : State) : Bool := s.b pJOURNAL JOURNAL.CFG_PW_EN
def State.epoch (s : State) : Nat := s.r pMIRROR MIRROR.EPOCH

/-- The conditions of R320 for `n` more entries. -/
def State.journalRoom (s : State) (n : Nat) : Bool :=
  let last := s.nextSeq + n - 1
  let m := s.r pJOURNAL JOURNAL.CP_LAST_SEQ
  decide (s.journal.buf.length + n ≤ 2048) && decide (last ≤ m + s.stageCap)
    && (!s.pwEn || decide (last ≤ m + 2 ^ s.r pJOURNAL JOURNAL.PW_SIZE))

/-- The role appends entries of its own (R316). -/
def State.appendRole (s : State) : Bool := s.role == 0 || s.role == 2

/-- The engine appends: enabled, not fenced, not stopped by GPF or a handover, in a role that appends (R316,
R321, R331, R476). -/
def State.journalRuns (s : State) : Bool :=
  s.active pJOURNAL && !s.b pJOURNAL JOURNAL.STATUS_GPF && s.appendRole && !s.mirror.stopAppend

/-- Frames other than HELLO pass: the link is trained and a HELLO has been taken (R334, R335). -/
def State.linkOpen (s : State) : Bool := s.mirror.trained && s.mirror.helloIn && s.active pMIRROR

/-- One frame sent on the mirror link (R334). -/
def State.sendFrame (s : State) (type : Nat) (body : List Byte) : State :=
  let m := s.mirror
  { s with mirror := { m with sent := m.sent ++ [{ type := type, seq := m.linkSeq, body := body }], linkSeq := m.linkSeq + 1 } }

/-- A JOURNAL frame with one entry, as it is appended (R334). -/
def State.sendEntry (s : State) (bytes : List Byte) : State := if s.linkOpen then s.sendFrame 3 bytes else s

/-- The window batches issued once a full one stands ready; while a failed write waits for FLUSH_WAIT none goes, since
writes go in sequence order (R319, R320). -/
def issueBatch (batch : Nat) (buf : List JEntry) : List JEntry :=
  if !buf.any (·.retry) ∧ batch ≤ (buf.filter (fun e => !e.issued)).length
  then buf.map (fun e => { e with issued := true }) else buf

/-- One entry put into the buffer under the next sequence number. -/
def State.jPush (s : State) (kind flags : Nat) (payload : List Byte) : State :=
  let q := s.nextSeq
  let e : JEntry := { seq := BitVec.ofNat 64 q, bytes := jEntryBytes q s.stamp s.epoch kind flags payload }
  let buf := issueBatch (s.r pJOURNAL JOURNAL.CFG_FLUSH_BATCH) (s.journal.buf ++ [e])
  let s := { s with journal := { s.journal with buf := buf } }
  let s := if kind = JK.CP_MARK then s.w pJOURNAL JOURNAL.CP_MARK_SEQ q else s
  (s.w pJOURNAL JOURNAL.NEXT_SEQ (q + 1)).sendEntry e.bytes

/-- A chain of payloads as one record: CONT in every entry but the last (R315). -/
def State.jChain (s : State) (kind : Nat) : List (List Byte) → State
  | [] => s
  | [p] => s.jPush kind 0 p
  | p :: q :: l => (s.jPush kind 1 p).jChain kind (q :: l)

/-- The pending USER record appended (R317). -/
def State.jUser (s : State) : State :=
  if s.journal.user && s.journalRuns && s.journalRoom s.journal.userChain.length then
    let q := s.nextSeq
    let s := s.jChain JK.USER s.journal.userChain
    let s := { s with journal := { s.journal with user := false, userChain := [] } }
    (s.w pJOURNAL JOURNAL.USER_STAT q).w pJOURNAL JOURNAL.USER_CMD_PENDING 0
  else s

/-- Entries that wait are appended in the order they were handed over, as far as room goes. -/
def State.jDrain (s : State) : List (Nat × List Byte) → State
  | [] => { s with journal := { s.journal with waiting := [] } }
  | (k, p) :: l =>
    if s.journalRuns && s.journalRoom 1 then (s.jPush k 0 p).jDrain l
    else { s with journal := { s.journal with waiting := (k, p) :: l } }

/-- Appending resumes: what waits goes first, then the USER record. -/
def State.jResume (s : State) : State := (s.jDrain s.journal.waiting).jUser

/-- An entry handed to the engine: appended, or waiting while appending waits (R286, R320). In a role that
appends nothing it is not made (R316). -/
def State.jAppend (s : State) (kind : Nat) (payload : List Byte) : State :=
  if !s.appendRole then s
  else s.jDrain (s.journal.waiting ++ [(kind, payload)])

/-- An entry that is due under its own conditions whatever waits: the EPOCH entry stands first (R330). -/
def State.jFirst (s : State) (kind : Nat) (payload : List Byte) : State :=
  s.jDrain ((kind, payload) :: s.journal.waiting)

/-- The journal buffer takes `n` applied entries: it has room, and the engine is neither stopped by GPF nor fenced (R320,
R321, R476). -/
def State.jTakes (s : State) (n : Nat) : Bool :=
  !s.b pJOURNAL JOURNAL.STATUS_GPF && !s.fenced 0 pJOURNAL && decide (s.journal.buf.length + n ≤ 2048)

/-- An applied entry, verbatim, into the journal and, as a JOURNAL frame, onto the link (R316, R326, R334). -/
def State.jVerbatim (s : State) (bytes : List Byte) : State :=
  let e : JEntry := { seq := BitVec.ofNat 64 (fieldLE bytes 0 8), bytes := bytes }
  let buf := issueBatch (s.r pJOURNAL JOURNAL.CFG_FLUSH_BATCH) (s.journal.buf ++ [e])
  ({ s with journal := { s.journal with buf := buf } } : State).sendEntry bytes

/-- An entry is durable: written to the window, or staged while no window is used (R318). -/
def State.jDurable (s : State) (e : JEntry) : Bool := if s.pwEn then e.windowed else e.staged

/-- DURABLE_NEXT as the buffer stands; entries staged and durable leave it (R319). -/
def State.jSettle (s : State) : State :=
  let d := match s.journal.buf.find? (fun e => !s.jDurable e) with
    | some e => e.seq.toNat
    | none => match s.journal.buf.getLast? with
      | some e => e.seq.toNat + 1
      | none => s.r pJOURNAL JOURNAL.DURABLE_NEXT
  let keep := s.journal.buf.filter (fun e => !(e.staged && s.jDurable e))
  let s := { s with journal := { s.journal with buf := keep } }
  (s.w pJOURNAL JOURNAL.DURABLE_NEXT d).jResume

/-- The first entry of the buffer that `p` picks, changed by `f`. -/
def updFirst (p : JEntry → Bool) (f : JEntry → JEntry) : List JEntry → List JEntry
  | [] => []
  | e :: l => if p e then f e :: l else e :: updFirst p f l

/-- The oldest staging write completes (R318, R320). -/
def State.stageDone (s : State) (ok : Bool) : State :=
  match s.journal.buf.find? (fun e => !e.staged) with
  | none => s
  | some e =>
    let a := s.r pJOURNAL JOURNAL.STAGE_BASE + e.seq.toNat % s.stageCap * 64
    if !s.canWrite .journal a 64 then
      (s.statusBit pJOURNAL 4).event pJOURNAL Ev.PART_DENY (BitVec.ofNat 32 a)
    else if !ok then (s.statusBit pJOURNAL 4).eventOpen pJOURNAL Ev.FETCH_ERROR
    else
      let s := s.devWrite .journal a e.bytes
      let buf := updFirst (fun x => !x.staged) (fun x => { x with staged := true }) s.journal.buf
      ({ s with journal := { s.journal with buf := buf } } : State).jSettle

/-- The oldest window write that was issued completes; with an error, or without CXL.cache, it and those after it
are issued again at the next FLUSH_WAIT (R319, R320, R453). -/
def State.windowDone (s : State) (ok : Bool) : State :=
  match s.journal.buf.find? (fun e => e.issued && !e.windowed) with
  | none => s
  | some e =>
    if !s.pwEn then s
    else if !ok || !s.cacheUp then
      let buf := s.journal.buf.map (fun x => if x.windowed then x else { x with issued := false, retry := true })
      let s := { s with journal := { s.journal with buf := buf } }
      ((s.statusBit pJOURNAL 3).pendInt pJOURNAL 2).perMs Ev.FLUSH_FAULT (·.eventOpen pJOURNAL Ev.FLUSH_FAULT)
    else
      let a := s.r pJOURNAL JOURNAL.PW_BASE + e.seq.toNat % 2 ^ s.r pJOURNAL JOURNAL.PW_SIZE * 64
      let s := s.hostWrite a e.bytes
      let buf := updFirst (fun x => x.issued && !x.windowed) (fun x => { x with windowed := true }) s.journal.buf
      ({ s with journal := { s.journal with buf := buf } } : State).jSettle

/-- FLUSH_WAIT runs out: every window write not yet issued, or to be tried again, is issued (R319, R320). -/
def State.flushWait (s : State) : State :=
  { s with journal := { s.journal with buf := s.journal.buf.map (fun e => { e with issued := true, retry := false }) } }

/-- The pending USER record discarded (R317). -/
def State.dropUser (s : State) : State :=
  if s.journal.user then
    let s := { s with journal := { s.journal with user := false, userChain := [] } }
    (s.w pJOURNAL JOURNAL.USER_CMD_PENDING 0).accEventOpen 0 pJOURNAL Ev.BAD_STATE
  else s

/-- A page is mirrored (R333). -/
def State.mirrored (s : State) (func page : Nat) : Bool :=
  func == 0 && s.enabled pMIRROR &&
    ((decide (0x500 ≤ page ∧ page < 0x520) && nbit (s.r pMIRROR MIRROR.MIR_HEADS) (page - 0x500))
    || (decide (0x520 ≤ page ∧ page < 0x540) && nbit (s.r pMIRROR MIRROR.MIR_HEADS) (page - 0x520))
    || (page == pAUDIO && s.b pMIRROR MIRROR.MIR_AUDIO))

/-- The registers whose accepted writes a mirrored page journals: RW and WO, block-specific (R333). -/
def mirrorsReg (func page off : Nat) : Bool :=
  decide (0x100 ≤ off) && (match pageKind func page with
    | some (k, _) => (match specAt k off with | some (sp, _) => sp.rw != 0 || sp.wo | none => false)
    | none => false)

/-- The REG_WRITE entry of an accepted write to a mirrored page (R315, R333). -/
def State.journalWrite (s : State) (w : Wr) (before : State) : State :=
  if before.mirrored w.func w.page && before.appendRole && mirrorsReg w.func w.page w.off then
    s.jAppend JK.REG_WRITE (leBytes 2 w.page ++ leBytes 2 w.off ++ leBytes 1 w.size ++ leBytes 1 w.code.toNat
      ++ leBytes 2 0 ++ leBytes 8 w.value.toNat)
  else s

end Sys2Proof.Machine
end

