-- ==== Sys2Proof/Machine/CheckValue.lean ====
section
/-! DEFINITION. Check-value units, the framing of the protocol assists, and the context, feed and self-check
commands (R257 to R269). -/

namespace Sys2Proof.Machine

/-- A field of context `c` of a check-value unit. -/
def ctxFld (f : Fld) (c : Nat) : Fld := f.at (0x40 * c)

/-- `i` steps of R263's loop, from bit `i − 1` of `b` down. -/
def cvBits (w poly b : Nat) : Nat → Nat → Nat
  | 0, st => st
  | i + 1, st =>
    let top := (st / 2 ^ (w - 1)) % 2 ^^^ (b / 2 ^ i) % 2
    let st' := (st * 2) % 2 ^ w
    cvBits w poly b i (if top = 1 then st' ^^^ poly else st')

/-- A parameter set: WIDTH, SUM, REFIN, REFOUT, INVERT, ORDER, POLY, INIT (R263, R264). -/
structure CvSet where
  width  : Nat
  sum    : Nat
  refin  : Bool
  refout : Bool
  invert : Bool
  order  : Bool
  poly   : Nat
  init   : Nat
deriving DecidableEq, Repr

/-- The parameter set a CFG value and its POLY and INIT spell. -/
def CvSet.of (cfg poly init : Nat) : CvSet :=
  { width := nfld cfg 0 7, sum := nfld cfg 8 2, refin := nbit cfg 10, refout := nbit cfg 11
    invert := nbit cfg 12, order := nbit cfg 13, poly := poly, init := init }

/-- Bits of the final value: WIDTH, or 8, 16 and 8 in the sum modes (R264). -/
def CvSet.bits (p : CvSet) : Nat := if p.sum = 0 then p.width else if p.sum = 2 then 16 else 8

/-- Bytes of the final value. -/
def CvSet.bytes (p : CvSet) : Nat := ceilDiv p.bits 8

/-- STATE after one byte (R263, R264). -/
def CvSet.byte (p : CvSet) (st : Nat) (b : Byte) : Nat :=
  if p.sum = 0 then cvBits p.width p.poly (if p.refin then bitRev 8 b.toNat else b.toNat) 8 st
  else if p.sum = 1 then (st + b.toNat) % 256
  else if p.sum = 2 then (st + b.toNat) % 65536
  else st ^^^ b.toNat

/-- The final value of a running state (R263, R264). -/
def CvSet.final (p : CvSet) (st : Nat) : Nat :=
  let v := if p.sum = 0 && p.refout then bitRev p.width st else st
  if p.invert then v ^^^ (2 ^ p.bits - 1) else v

/-- The `n` check bytes of a final value in line order (R264). -/
def CvSet.check (p : CvSet) (v n : Nat) : List Byte :=
  if p.order then (leBytes n v).reverse else leBytes n v

/-- The final value of a byte string. -/
def CvSet.run (p : CvSet) (bs : List Byte) : Nat := p.final (bs.foldl p.byte p.init)

/-- The parameter set of a context as its registers give it. -/
def State.cvSet (s : State) (u c : Nat) : CvSet :=
  CvSet.of (s.r (pgCV u) (ctxFld CV.CFG c)) (s.r (pgCV u) (ctxFld CV.POLY c)) (s.r (pgCV u) (ctxFld CV.INIT c))

/-- STATE takes INIT (R257, R266). -/
def State.cvInit (s : State) (u c : Nat) : State :=
  (s.w (pgCV u) (ctxFld CV.STATE c) (s.cvSet u c).init).w (pgCV u) (ctxFld CV.COUNT c) 0

/-- One byte into a context. -/
def State.cvByte (s : State) (u c : Nat) (b : Byte) : State :=
  let s' := s.w (pgCV u) (ctxFld CV.STATE c) ((s.cvSet u c).byte (s.r (pgCV u) (ctxFld CV.STATE c)) b)
  s'.inc (pgCV u) (ctxFld CV.COUNT c)

/-- The present final value of a context. -/
def State.cvFinal (s : State) (u c : Nat) : Nat := (s.cvSet u c).final (s.r (pgCV u) (ctxFld CV.STATE c))

/-- A compare: RESULT and CHECKS, and FAILS on a mismatch, which is the second answer (R264). -/
def State.cvCompare (s : State) (u c : Nat) (got : List Byte) : State × Bool :=
  let v := s.cvFinal u c
  let bad := got != (s.cvSet u c).check v got.length
  let s := (s.w (pgCV u) (ctxFld CV.RESULT c) v).inc (pgCV u) (ctxFld CV.CHECKS c)
  (if bad then s.inc (pgCV u) (ctxFld CV.FAILS c) else s, bad)

/-- What an assist needs to know: ASSIST of a port, or a channel entry (R257, R270). -/
structure Assist where
  kind    : Nat
  strip   : Bool
  keepBad : Bool
  addrLen : Nat
  cvEn    : Bool
  unit    : Nat
  rx      : Nat        -- context for receive
  tx      : Nat        -- context for transmit
  rxMax   : Nat
  relay   : Bool       -- the unit must have SRC.KIND = 2 (R271), else be attached to `port`
  port    : Nat
deriving DecidableEq, Repr

/-- The assist of a field port. -/
def State.fpAssist (s : State) (n : Nat) : Assist :=
  let p := pgFP n
  { kind := s.r p FP.ASSIST_KIND, strip := s.b p FP.ASSIST_STRIP, keepBad := s.b p FP.ASSIST_KEEP_BAD
    addrLen := s.r p FP.ASSIST_ADDR_LEN, cvEn := s.b p FP.ASSIST_CV_EN, unit := s.r p FP.ASSIST_CV_UNIT
    rx := s.r p FP.ASSIST_CTX_RX, tx := s.r p FP.ASSIST_CTX_TX, rxMax := s.r p FP.RX_MAX
    relay := false, port := n }

/-- The assist's unit is attached to its source (R266, R271). -/
def State.cvAttached (s : State) (a : Assist) : Bool :=
  decide (a.unit < 16) && (if a.relay then s.r (pgCV a.unit) CV.SRC_KIND == 2
    else s.r (pgCV a.unit) CV.SRC_KIND == 1 && s.r (pgCV a.unit) CV.SRC_PORT == a.port)

/-- A unit processes bytes: its domain ON and its page not fenced (R476; log entry 31). -/
def State.cvUp (s : State) (u : Nat) : Bool := s.domainOn 0 (pgCV u) && !s.fenced 0 (pgCV u)

/-- The assist's unit works on its frames. -/
def State.cvRuns (s : State) (a : Assist) : Bool := a.cvEn && s.cvAttached a && s.cvUp a.unit

/-- What an assist makes of the byte at one place of a raw frame: it belongs to a covered segment, opens
one, ends the check bytes of one, stays under STRIP (table "Protocol assists"). -/
structure ByteRole where
  cover : Bool
  first : Bool
  last  : Bool
  keep  : Bool
deriving DecidableEq, Repr

/-- Byte `i` of a DNP3 frame: 8 header bytes and 2 check bytes, then blocks of up to 16 user bytes, each
with 2 check bytes; U = L − 5 (R258). -/
def dnpRole (len i : Nat) : ByteRole :=
  if i < 8 then ⟨true, i == 0, false, true⟩
  else if i < 10 then ⟨false, false, i == 9, false⟩
  else
    let b := (i - 10) / 18
    let k := (i - 10) % 18
    let n := min 16 (len - 5 - 16 * b)
    if k < n then ⟨true, k == 0, false, true⟩ else ⟨false, false, k == n + 1, false⟩

/-- Byte `i` of an FT1.2 frame (R260). -/
def ftRole (start len addrLen i : Nat) : ByteRole :=
  if start = 0x10 then
    if i = 0 then ⟨false, false, false, false⟩
    else if i ≤ addrLen + 1 then ⟨true, i == 1, false, true⟩
    else ⟨false, false, i == addrLen + 2, false⟩
  else if start = 0x68 then
    if i < 4 then ⟨false, false, false, false⟩
    else if i < 4 + len then ⟨true, i == 4, false, true⟩
    else ⟨false, false, i == 4 + len, false⟩
  else ⟨false, false, false, true⟩

/-- Check bytes after one covered segment (table "Protocol assists"). -/
def State.nCheck (s : State) (a : Assist) (c : Nat) : Nat :=
  match a.kind with
  | 1 => 2
  | 2 => 2
  | 3 => 1
  | _ => if a.cvEn then (s.cvSet a.unit c).bytes else 0

/-- The role of byte `i` of a raw frame whose bytes so far are `raw`; for the assists whose check bytes
stand at the end, `total` is the frame's length. -/
def byteRole (a : Assist) (raw : List Byte) (total nb i : Nat) : ByteRole :=
  let at_ := fun k => (raw.getD k 0).toNat
  if a.kind = 1 then dnpRole (at_ 2) i
  else if a.kind = 3 then ftRole (at_ 0) (at_ 1) a.addrLen i
  else ⟨i + nb < total, i == 0, false, i + nb < total⟩

/-- The newest byte of a frame through the unit: a segment's first byte sets STATE to INIT, a covered byte
enters, the last check byte is compared. Where the check bytes stand at the end, a byte enters once as many
have followed it. The second answer tells a mismatch. -/
def State.cvPass (s : State) (a : Assist) (c : Nat) (raw : List Byte) : State × Bool :=
  if !s.cvRuns a || raw.isEmpty then (s, false)
  else
    let i := raw.length - 1
    let nb := s.nCheck a c
    if a.kind = 1 ∨ a.kind = 3 then
      let r := byteRole a raw 0 nb i
      let s := if r.first then s.cvInit a.unit c else s
      let s := if r.cover then s.cvByte a.unit c (raw.getD i 0) else s
      if r.last then s.cvCompare a.unit c (raw.drop (raw.length - nb)) else (s, false)
    else
      let s := if i = 0 then s.cvInit a.unit c else s
      (if nb ≤ i then s.cvByte a.unit c (raw.getD (i - nb) 0) else s, false)

/-- A frame's bytes through context `c` of its unit, one after another: the state and whether a check value inside it
did not match. -/
def State.cvFeed (s : State) (a : Assist) (c : Nat) (raw : List Byte) : State × Bool :=
  (List.range raw.length).foldl (fun x i =>
    let r := x.1.cvPass a c (raw.take (i + 1))
    (r.1, x.2 || r.2)) (s, false)

/-- The compare at a frame's end, for the assists whose check bytes stand there. -/
def State.cvEndCompare (s : State) (a : Assist) (c : Nat) (raw : List Byte) : State × Bool :=
  let nb := s.nCheck a c
  if !s.cvRuns a || a.kind == 1 || a.kind == 3 || decide (raw.length ≤ nb) then (s, false)
  else s.cvCompare a.unit c (raw.drop (raw.length - nb))

/-- A frame's bytes without what STRIP removes. -/
def State.strippedOf (s : State) (a : Assist) (c : Nat) (raw : List Byte) (total : Nat) : List Byte :=
  let nb := s.nCheck a c
  (List.range raw.length).filterMap (fun i =>
    if (byteRole a raw total nb i).keep then raw[i]? else none)

/-- The tally field of a raw frame, where the context has EN = 1 and the frame reaches it (R267). -/
def State.tallyField (s : State) (u c : Nat) (raw : List Byte) : Option Nat :=
  let p := pgCV u
  let off := s.r p (ctxFld CV.TALLY_CFG_OFFSET c)
  let sh := s.r p (ctxFld CV.TALLY_CFG_SHIFT c)
  let w := s.r p (ctxFld CV.TALLY_CFG_WIDTH c)
  if raw.length ≤ (if 8 < sh + w then off + 1 else off) then none
  else some (nfld ((raw.getD off 0).toNat + 256 * (raw.getD (off + 1) 0).toNat) sh w)

def State.tallyEn (s : State) (u c : Nat) : Bool := s.b (pgCV u) (ctxFld CV.TALLY_CFG_EN c)

/-- The judgement of a received frame: 0 NONE, 1 FIRST, 2 EXPECTED, 3 REPEAT, 4 JUMP, and whether it
rejects the frame (R267). -/
def State.tallyJudge (s : State) (u c : Nat) (raw : List Byte) (bad : Bool) : State × Nat × Bool :=
  let p := pgCV u
  if !s.tallyEn u c || bad then (s, 0, false)
  else match s.tallyField u c raw with
    | none => (s.w p (ctxFld CV.TALLY_RESULT c) 0, 0, false)
    | some v =>
      let last := s.r p (ctxFld CV.TALLY_LAST c)
      let w := s.r p (ctxFld CV.TALLY_CFG_WIDTH c)
      let j := if !s.b p (ctxFld CV.TALLY_VALID c) then 1
        else if v = (last + 1) % 2 ^ w then 2 else if v = last then 3 else 4
      let s' := ((s.w p (ctxFld CV.TALLY_RESULT c) j).w p (ctxFld CV.TALLY_LAST c) v).w p (ctxFld CV.TALLY_VALID c) 1
      (s', j, (j == 3 && s.b p (ctxFld CV.TALLY_CFG_REJ_REPEAT c)) || (j == 4 && s.b p (ctxFld CV.TALLY_CFG_REJ_JUMP c)))

/-- The tally written into a frame to be sent (R267): the frame, and the value written. -/
def State.tallyInsert (s : State) (u c : Nat) (raw : List Byte) : State × List Byte × Option Nat :=
  let p := pgCV u
  if !s.tallyEn u c || !s.b p (ctxFld CV.TALLY_CFG_TX_INSERT c) then (s, raw, none)
  else match s.tallyField u c raw with
    | none => (s, raw, none)
    | some _ =>
      let off := s.r p (ctxFld CV.TALLY_CFG_OFFSET c)
      let sh := s.r p (ctxFld CV.TALLY_CFG_SHIFT c)
      let w := s.r p (ctxFld CV.TALLY_CFG_WIDTH c)
      let v := (s.r p (ctxFld CV.TALLY_LAST c) + 1) % 2 ^ w
      let n := if 8 < sh + w then 2 else 1
      let old := leNat ((raw.drop off).take n)
      (s.w p (ctxFld CV.TALLY_LAST c) v, spliceBytes raw off (leBytes n (nset old sh w v)), some v)

/-- User bytes in blocks of 16, each followed by room for 2 check bytes. -/
def dnpBlocks : Nat → List Byte → List Byte
  | 0, _ => []
  | n + 1, bs => if bs.isEmpty then [] else bs.take 16 ++ [0, 0] ++ dnpBlocks n (bs.drop 16)

/-- A supplied frame with room for the check bytes INSERT_CV adds (table "Protocol assists"). -/
def State.txLayout (s : State) (a : Assist) (bs : List Byte) : List Byte :=
  match a.kind with
  | 1 => bs.take 8 ++ [0, 0] ++ dnpBlocks (bs.length / 16 + 1) (bs.drop 8)
  | 3 => if bs.head? = some 0x10 ∨ bs.head? = some 0x68 then bs ++ [0, 0x16] else bs
  | _ => bs ++ List.replicate (s.nCheck a a.tx) 0

/-- The places of a laid-out frame the assist filled in: its check bytes, and FT1.2's end byte. -/
def txAdded (a : Assist) (nb total i : Nat) (bs : List Byte) : Bool :=
  match a.kind with
  | 1 => !(dnpRole (bs.length - 3) i).cover
  | 3 => decide (bs.length ≤ i)
  | _ => decide (total ≤ i + nb)

/-- The covered segments of a laid-out frame: where each starts, its length, where its check bytes go. -/
def txSegments (a : Assist) (nb : Nat) (bs : List Byte) : List (Nat × Nat × Nat) :=
  match a.kind with
  | 1 => (0, 8, 8) :: (List.range (ceilDiv (bs.length - 8) 16)).map (fun b =>
      (10 + 18 * b, min 16 (bs.length - 8 - 16 * b), 10 + 18 * b + min 16 (bs.length - 8 - 16 * b)))
  | 3 => if bs.head? = some 0x10 then [(1, bs.length - 1, bs.length)]
    else if bs.head? = some 0x68 then [(4, bs.length - 4, bs.length)] else []
  | _ => if nb = 0 then [] else [(0, bs.length, bs.length)]

/-- One segment of a frame to be sent through the unit, its check bytes put in place (R257). -/
def State.txSegment (s : State) (a : Assist) (raw : List Byte) (g : Nat × Nat × Nat) : State × List Byte :=
  let s := s.cvInit a.unit a.tx
  let s := ((raw.drop g.1).take g.2.1).foldl (fun t b => t.cvByte a.unit a.tx b) s
  let v := s.cvFinal a.unit a.tx
  (s.w (pgCV a.unit) (ctxFld CV.RESULT a.tx) v,
    spliceBytes raw g.2.2 ((s.cvSet a.unit a.tx).check v (s.nCheck a a.tx)))

/-- Bytes whose values the spec leaves open. -/
def State.freeBytes (s : State) : Nat → List Byte
  | 0 => []
  | n + 1 => BitVec.ofNat 8 (Config.freeNat (s.freeCtr + n)) :: s.freeBytes n

/-- A frame as sent on the line, the tally written into it and its stripped form as sent (R255, R257,
R267). With CV_EN = 0 it goes as it stands. Without INSERT_CV the transmit context processes it and compares the check
bytes supplied; its tally is written all the same (R267 names each frame; log entry 143). With the unit fenced no byte of
it is processed, and check bytes to be inserted are open (log entry 32). -/
def State.txBuild (s : State) (a : Assist) (insert : Bool) (bs : List Byte) :
    State × List Byte × Option Nat × List Byte :=
  if !a.cvEn then (s, bs, none, bs)
  else if !insert then
    if !s.cvRuns a then (s, bs, none, bs)
    else
      let (s, raw, t) := s.tallyInsert a.unit a.tx bs
      let s := ((s.cvFeed a a.tx raw).1.cvEndCompare a a.tx raw).1
      (s, raw, t, raw)
  else
    let nb := s.nCheck a a.tx
    let raw := s.txLayout a bs
    let segs := txSegments a nb bs
    if !s.cvUp a.unit then
      let raw := segs.foldl (fun r g => spliceBytes r g.2.2 (s.freeBytes nb)) raw
      (s.fresh, raw, none, bs)
    else
      let (s, raw, t) := s.tallyInsert a.unit a.tx raw
      let sent := (List.range raw.length).filterMap (fun i =>
        if txAdded a nb raw.length i bs then none else raw[i]?)
      let (s, raw) := segs.foldl (fun x g => x.1.txSegment a x.2 g) (s, raw)
      (s, raw, t, sent)

/-- The assist can frame a descriptor with INSERT_CV (R258). -/
def frameable (a : Assist) (len : Nat) : Bool := !(a.kind == 1 && decide (len < 8))

/-- A context becomes mid-frame, or stops being so (R268). -/
def State.ctxMid (s : State) (u c : Nat) (on : Bool) : State :=
  let x := s.cv u
  let l := x.midFrame.filter (· != c)
  s.setCv u { x with midFrame := if on then sortBy (fun a b => decide (a ≤ b)) (c :: l) else l }

/-- The record of a context: offsets +0x00 to +0x27 and 24 zero bytes (R268). -/
def State.ctxRecord (s : State) (u c : Nat) : List Byte :=
  let p := pgCV u
  leBytes 8 (s.r p (ctxFld CV.POLY c)) ++ leBytes 8 (s.r p (ctxFld CV.INIT c)) ++ leBytes 8 (s.r p (ctxFld CV.STATE c))
    ++ leBytes 4 (s.r p (ctxFld CV.CFG c)) ++ leBytes 4 (s.r p (ctxFld CV.COUNT c))
    ++ leBytes 4 (s.r p (ctxFld CV.TALLY_CFG c)) ++ leBytes 4 (s.r p (ctxFld CV.TALLY c)) ++ List.replicate 24 0

/-- A context takes a record; bits its registers do not have are dropped. -/
def State.ctxTake (s : State) (u c : Nat) (r : List Byte) : State :=
  let p := pgCV u
  let s := ((s.w p (ctxFld CV.POLY c) (fieldLE r 0 8)).w p (ctxFld CV.INIT c) (fieldLE r 8 8)).w p (ctxFld CV.STATE c) (fieldLE r 16 8)
  let s := (s.w p (ctxFld CV.CFG c) (nfld (fieldLE r 24 4) 0 14 &&& 0x3F7F)).w p (ctxFld CV.COUNT c) (fieldLE r 28 4)
  (s.w p (ctxFld CV.TALLY_CFG c) (nfld (fieldLE r 32 4) 0 29)).w p (ctxFld CV.TALLY c) (nfld (fieldLE r 36 4) 0 20)

/-- A FEED write: bytes enter context CTX_SEL, lowest first (R266). -/
def State.feed (s : State) (w : Wr) (u n : Nat) : Eff :=
  w.require s (s.r (pgCV u) CV.SRC_KIND == 3) Ev.BAD_STATE fun s =>
    let c := s.r (pgCV u) CV.CTX_SEL
    done (((leBytes n w.v).foldl (fun t b => t.cvByte u c b) s).ctxMid u c true)

/-- A FINISH write (R266). A write of 0 does nothing. -/
def State.finishWrite (s : State) (w : Wr) (u : Nat) : Eff :=
  w.require s (s.r (pgCV u) CV.SRC_KIND == 3) Ev.BAD_STATE fun s =>
    if !nbit w.v 0 then done s
    else
      let c := s.r (pgCV u) CV.CTX_SEL
      let s := (s.w (pgCV u) (ctxFld CV.RESULT c) (s.cvFinal u c)).inc (pgCV u) (ctxFld CV.CHECKS c)
      done ((s.cvInit u c).ctxMid u c false)

/-- A CTX_MEM write: SAVE or LOAD begins (R268). Both at once are two commands, the second while the first
runs. -/
def State.ctxMemWrite (s : State) (w : Wr) (u : Nat) : Eff :=
  let x := s.cv u
  let c := w.f CV.CTX_MEM_CTX
  let save := nbit w.v 4
  let load := nbit w.v 5
  if !save && !load then s.plain w
  else w.require s (x.ctxCmd.isNone && !(save && load) && !x.midFrame.contains c) Ev.BAD_STATE fun s =>
    let s := s.w (pgCV u) CV.CTX_MEM_CTX c
    done (s.setCv u { s.cv u with ctxCmd := some (c, save) })

/-- The CTX_MEM command in progress completes (R268). -/
def State.ctxDone (s : State) (u : Nat) : State :=
  match (s.cv u).ctxCmd with
  | none => s
  | some (c, save) =>
    let p := pgCV u
    let cl := s.r p CV.CTX_ADDR_CLUSTER
    let off := s.r p CV.CTX_ADDR_OFFSET
    let s := s.setCv u { s.cv u with ctxCmd := none }
    if !s.padUp cl then (s.statusBit p 4).eventOpen p Ev.CTX_FAULT
    else
      let s := if save then s.padWrite cl off (s.ctxRecord u c) else s.ctxTake u c (s.padRead cl off 64)
      s.pendInt p 0

/-- A unit is idle: SRC.KIND = 0 and no CTX_MEM command runs (R269). -/
def State.cvIdle (s : State) (u : Nat) : Bool := s.r (pgCV u) CV.SRC_KIND == 0 && (s.cv u).ctxCmd.isNone

/-- The six parameter sets with their check values (table "Parameter sets for the named standards"). -/
def selfSets : List (CvSet × Nat) :=
  [ (CvSet.of 0x1C10 0x3D65 0, 0xEA82), (CvSet.of 0x0C10 0x8005 0xFFFF, 0x4B37), (CvSet.of 0x0108 0 0, 0xDD),
    (CvSet.of 0x1C10 0x1021 0xFFFF, 0x906E), (CvSet.of 0x1C20 0x04C11DB7 0xFFFFFFFF, 0xCBF43926),
    (CvSet.of 0x1C20 0x1EDC6F41 0xFFFFFFFF, 0xE3069283) ]

/-- The bytes "123456789". -/
def selfBytes : List Byte := [0x31, 0x32, 0x33, 0x34, 0x35, 0x36, 0x37, 0x38, 0x39]

/-- A SELFCHECK write (R269). -/
def State.selfcheckWrite (s : State) (w : Wr) (u : Nat) : Eff :=
  if !nbit w.v 0 then done s
  else if !s.cvIdle u || s.fenced 0 (pgCV u) then
    let s := (s.w (pgCV u) CV.SELFCHECK_STAT_RESULT 3).w (pgCV u) CV.SELFCHECK_STAT_FAILED 0
    done (s.accEventOpen 0 (pgCV u) Ev.SELFCHECK_REFUSED)
  else done (s.setCv u { s.cv u with self := true })

/-- The self-check ends: each set's result is compared with its check value. `defect` names a row whose
hardware is defective, 0 for none (R269). -/
def State.selfcheckDone (s : State) (u defect : Nat) : State :=
  if !(s.cv u).self then s
  else
    let bad := (List.range 6).find? (fun k =>
      k + 1 == defect || (match selfSets[k]? with | some (p, v) => p.run selfBytes != v | none => false))
    let s := s.setCv u { s.cv u with self := false }
    let s := match bad with
      | none => (s.w (pgCV u) CV.SELFCHECK_STAT_RESULT 1).w (pgCV u) CV.SELFCHECK_STAT_FAILED 0
      | some k => (s.w (pgCV u) CV.SELFCHECK_STAT_RESULT 2).w (pgCV u) CV.SELFCHECK_STAT_FAILED (k + 1)
    s.pendInt (pgCV u) 1

/-- A write to a context's registers (R265, R268). -/
def State.ctxRegWrite (s : State) (w : Wr) (u c rel : Nat) : Eff :=
  let width := s.r (pgCV u) (ctxFld CV.CFG_WIDTH c)
  if (s.cv u).midFrame.contains c then w.drop s Ev.BAD_STATE
  else if rel = 0x00 ∨ rel = 0x08 then w.require s (decide (w.v < 2 ^ width)) Ev.BAD_VALUE (·.plain w)
  else if rel = 0x18 then
    w.require s (decide (1 ≤ w.v % 128) && decide (w.v % 128 ≤ 64) && (w.v &&& 0xFFFFC080) == 0) Ev.BAD_VALUE (·.plain w)
  else if rel = 0x20 then
    let n := nfld w.v 20 5
    w.require s (decide (1 ≤ n) && decide (n ≤ 16) && decide (nfld w.v 16 4 + n ≤ 16)) Ev.BAD_VALUE (·.plain w)
  else s.plain w

/-- A write to a block-specific register of a check-value unit. -/
def State.cvWrite (s : State) (w : Wr) (u : Nat) : Eff :=
  if w.off = 0x100 then
    let x := s.cv u
    w.require s (x.midFrame.isEmpty && x.ctxCmd.isNone && !x.self) Ev.BAD_STATE (·.plain w)
  else if w.off = 0x180 then s.feed w u 1
  else if w.off = 0x184 then s.feed w u 4
  else if w.off = 0x188 then s.feed w u 8
  else if w.off = 0x190 then s.finishWrite w u
  else if w.off = 0x1A0 then s.ctxMemWrite w u
  else if w.off = 0x1A4 then w.require s (w.v % 64 == 0) Ev.BAD_VALUE (·.plain w)
  else if w.off = 0x1B0 then s.selfcheckWrite w u
  else if 0x200 ≤ w.off ∧ w.off < 0x300 then s.ctxRegWrite w u ((w.off - 0x200) / 0x40) ((w.off - 0x200) % 0x40)
  else s.plain w

/-- STATUS.BUSY: a context is mid-frame or CTX_MEM runs (table "CVnn registers"). -/
def State.cvBusy (s : State) (u : Nat) : Bool := !(s.cv u).midFrame.isEmpty || (s.cv u).ctxCmd.isSome

end Sys2Proof.Machine
end

