-- ==== Sys2Proof/Machine/Points.lean ====
section
/-! DEFINITION. Request rings, the commit engine, limits, alarms, history and brands (R275 to R300). -/

namespace Sys2Proof.Machine

/-- A field of request ring `n`. -/
def crFld (f : Fld) (n : Nat) : Fld := f.at (0x40 * n)

def State.crEn (s : State) (n : Nat) : Bool := s.b pPOINTS (crFld POINTS.CR_CFG_EN n)
def State.crSize (s : State) (n : Nat) : Nat := 2 ^ s.r pPOINTS (crFld POINTS.CR_CFG_SIZE n)

/-- Entries supplied and not taken; results written and not consumed (16-bit counts, R252). -/
def State.crLevel (s : State) (n : Nat) : Nat :=
  (s.r pPOINTS (crFld POINTS.CR_HEAD n) + 65536 - s.r pPOINTS (crFld POINTS.CR_TAIL n)) % 65536
def State.crResLevel (s : State) (n : Nat) : Nat :=
  (s.r pPOINTS (crFld POINTS.CR_RES_HEAD n) + 65536 - s.r pPOINTS (crFld POINTS.CR_RES_TAIL n)) % 65536

/-- The 32 bytes at slot `i` of a ring at `base`, `none` where the read is refused or meets an uncorrectable error (R280,
R282). -/
def State.ringRead (s : State) (n base i : Nat) : Option (List Byte) :=
  let loc := s.r pPOINTS (crFld POINTS.CR_CFG_LOC n)
  let a := base + 32 * (i % s.crSize n)
  let whole := (List.range 8).all (fun i => s.padErrAt loc (a + 4 * i) != 2)
  if loc < 8 then (if s.padUp loc && whole then some (s.padRead loc a 32) else none)
  else if s.inPart 2 a 32 then some (memRead s.mem a 32) else none

/-- The same slot written, `none` where the write is refused. -/
def State.ringWrite (s : State) (n base i : Nat) (bs : List Byte) : Option State :=
  let loc := s.r pPOINTS (crFld POINTS.CR_CFG_LOC n)
  let a := base + 32 * (i % s.crSize n)
  if loc < 8 then (if s.padUp loc then some (s.padWrite loc a bs) else none)
  else if s.inPart 2 a 32 then some { s with mem := memWrite s.mem a bs } else none

/-- An access to slot `i` of a ring at `base` in device memory that lies outside SHEPHERD is recorded (R46). -/
def State.ringDeny (s : State) (n base i : Nat) : State :=
  let a := base + 32 * (i % s.crSize n)
  if 8 ≤ s.r pPOINTS (crFld POINTS.CR_CFG_LOC n) ∧ s.inPart 2 a 32 = false
  then s.event pPOINTS Ev.PART_DENY (BitVec.ofNat 32 a) else s

/-- A ring read that fails disables the ring (R282); a refused one is recorded as R46 says. -/
def State.ringFault (s : State) (n : Nat) : State :=
  let s := s.ringDeny n (s.r pPOINTS (crFld POINTS.CR_REQ_BASE n)) (s.r pPOINTS (crFld POINTS.CR_TAIL n))
  ((s.w pPOINTS (crFld POINTS.CR_CFG_EN n) 0).statusBit pPOINTS 4).event pPOINTS Ev.RING_FAULT (BitVec.ofNat 32 n)

/-- The next ring of a kind to serve, round-robin from `start` (R283). -/
def State.nextRing (s : State) (kind start : Nat) (ok : Nat → Bool) : Option Nat :=
  ((List.range 16).map (fun k => (start + k) % 16)).find? (fun n =>
    s.crEn n && s.r pPOINTS (crFld POINTS.CR_CFG_KIND n) == kind && s.crLevel n != 0 && ok n)

/-- A point record (R276). -/
structure PointRec where
  value    : Nat
  quality  : Nat
  lstate   : Nat
  time     : Nat
  seq      : Nat
  kind     : Nat
  aclass   : Nat
  limEn    : Nat
  voice    : Nat
  hh : Nat
  h  : Nat
  l  : Nat
  ll : Nat
  hyst     : Nat
  deadband : Nat
  hlast    : Nat
  hring    : Nat
  brands   : Nat
  vparam   : Nat
deriving DecidableEq, Repr

/-- A record read from its 64 bytes. -/
def PointRec.of (b : List Byte) : PointRec :=
  { value := fieldLE b 0 4, quality := fieldLE b 4 2, lstate := fieldLE b 6 1, time := fieldLE b 8 8
    seq := fieldLE b 16 4, kind := fieldLE b 20 1, aclass := fieldLE b 21 1, limEn := fieldLE b 22 1
    voice := fieldLE b 23 1, hh := fieldLE b 24 4, h := fieldLE b 28 4, l := fieldLE b 32 4, ll := fieldLE b 36 4
    hyst := fieldLE b 40 4, deadband := fieldLE b 44 4, hlast := fieldLE b 48 4, hring := fieldLE b 52 4
    brands := fieldLE b 56 4, vparam := fieldLE b 60 4 }

/-- KIND, ACLASS and the reserved bits of a record are valid (R276, R285). -/
def PointRec.valid (r : PointRec) : Bool :=
  decide (r.kind < 3) && r.aclass % 4 != 3 && decide (r.aclass < 8) && decide (r.limEn < 32)
    && !nbit r.voice 6 && decide (r.hring < 2 ^ 20) && decide (r.brands < 2 ^ 28)

def State.pointAddr (s : State) (p : Nat) : Nat := s.r pPOINTS POINTS.REC_BASE + 64 * p

/-- Record `p` as the commit engine reads it; a refused read returns all ones (R46). -/
def State.pointRec (s : State) (p : Nat) : PointRec :=
  PointRec.of (if s.inPart 2 (s.pointAddr p) 64 then memRead s.mem (s.pointAddr p) 64 else List.replicate 64 0xFF)

/-- A quality is bad (R277). -/
def qualBad (q : Nat) : Bool := !nbit q 0 || nbit q 2 || nbit q 9

/-- A value in the point's encoding: signed for ANALOG (R276). -/
def encode32 (kind v : Nat) : Int := if kind = 0 then signed 32 v else (v % 2 ^ 32 : Nat)

/-- LSTATE of a new value and quality (R288). -/
def PointRec.limits (r : PointRec) (value quality : Nat) : Nat :=
  let s := r.lstate
  if qualBad quality then s
  else if r.kind = 1 then 0
  else if r.kind = 2 then (if nbit r.limEn 1 && value == r.h then 1 else 0)
  else
    let v := signed 32 value
    let d : Int := (r.hyst : Int)
    let hh := nbit r.limEn 0 && (decide (signed 32 r.hh ≤ v) || (s == 2 && decide (signed 32 r.hh - d ≤ v)))
    let h := nbit r.limEn 1 && (decide (signed 32 r.h ≤ v) || ((s == 1 || s == 2) && decide (signed 32 r.h - d ≤ v)))
    let ll := nbit r.limEn 3 && (decide (v ≤ signed 32 r.ll) || (s == 4 && decide (v ≤ signed 32 r.ll + d)))
    let l := nbit r.limEn 2 && (decide (v ≤ signed 32 r.l) || ((s == 3 || s == 4) && decide (v ≤ signed 32 r.l + d)))
    if hh then 2 else if h then 1 else if ll then 4 else if l then 3 else 0

/-- An alarm event written to the alarm ring, or lost when the ring is full (R290); a write refused under
R46 leaves ALARM_HEAD (log entry 33). -/
def State.alarmEvent (s : State) (p : Nat) (lim qual : Bool) (cls value quality old new time jseq : Nat) : State :=
  let s := s.inc pPOINTS POINTS.ALARMS
  let size := 2 ^ s.r pPOINTS POINTS.ALARM_SIZE
  let head := s.r pPOINTS POINTS.ALARM_HEAD
  if size ≤ (head + 2 ^ 32 - s.r pPOINTS POINTS.ALARM_TAIL) % 2 ^ 32 then
    ((s.inc pPOINTS POINTS.ALARMS_LOST).statusBit pPOINTS 5).pendInt pPOINTS 3
  else
    let a := s.r pPOINTS POINTS.ALARM_BASE + 32 * (head % size)
    let bytes := leBytes 8 time ++ leBytes 4 (p + b2n lim * 2 ^ 20 + b2n qual * 2 ^ 21 + cls * 2 ^ 22)
      ++ leBytes 4 value ++ leBytes 2 quality ++ leBytes 1 old ++ leBytes 1 new ++ leBytes 8 jseq ++ leBytes 4 0
    if !s.inPart 2 a 32 then (s.statusBit pPOINTS 5).event pPOINTS Ev.PART_DENY (BitVec.ofNat 32 a)
    else
      let s := { s with mem := memWrite s.mem a bytes }
      let s := (s.w pPOINTS POINTS.ALARM_HEAD (head + 1)).pendInt pPOINTS 0
      if cls = 2 then s.pendInt pPOINTS 1 else s

/-- The descriptor of history ring `r`: BASE, log2 of its samples and HEAD, if it keeps R294. -/
def State.histRing (s : State) (r : Nat) : Option (Nat × Nat × Nat) :=
  let a := s.r pHISTORY HISTORY.RING_TABLE + 16 * r
  if !s.inPart 2 a 16 then none
  else
    let b := memRead s.mem a 16
    let base := fieldLE b 0 8
    let size := fieldLE b 8 1
    if base % 16 = 0 ∧ 4 ≤ size ∧ size ≤ 30 ∧ fieldLE b 9 3 = 0 ∧ s.inPart 3 base (16 * 2 ^ size)
    then some (base, size, fieldLE b 12 4) else none

/-- A sample due on ring `r` can be written: HISTORY acts and the descriptor keeps R294. -/
def State.sampleFits (s : State) (r : Nat) : Bool := s.active pHISTORY && (s.histRing r).isSome

/-- Where HISTORY's access for ring `r` is refused: its descriptor outside SHEPHERD, or the sample outside HISTORY. -/
def State.histDenied (s : State) (r : Nat) : Option Nat :=
  let a := s.r pHISTORY HISTORY.RING_TABLE + 16 * r
  if !s.inPart 2 a 16 then some a
  else
    let b := memRead s.mem a 16
    let at_ := fieldLE b 0 8 + fieldLE b 12 4 % 2 ^ fieldLE b 8 1 * 16
    if fieldLE b 8 1 ≤ 30 ∧ s.inPart 3 at_ 16 = false then some at_ else none

/-- A sample appended to ring `r`, or skipped with HIST_FAULT, a refused access recorded too (R46, R293, R294). -/
def State.appendSample (s : State) (r time value quality lstate reason : Nat) : State :=
  if !s.active pHISTORY then s
  else match s.histRing r with
    | none =>
      let s := match s.histDenied r with
        | some a => s.event pHISTORY Ev.PART_DENY (BitVec.ofNat 32 a)
        | none => s
      (s.statusBit pHISTORY 3).event pHISTORY Ev.HIST_FAULT (BitVec.ofNat 32 r)
    | some (base, size, head) =>
      let a := base + head % 2 ^ size * 16
      let bytes := leBytes 8 time ++ leBytes 4 value ++ leBytes 2 quality ++ leBytes 1 lstate ++ leBytes 1 reason
      let m := memWrite s.mem a bytes
      let m := memWrite m (s.r pHISTORY HISTORY.RING_TABLE + 16 * r + 12) (leBytes 4 (head + 1))
      ({ s.snoop a 16 with mem := m } : State).inc pHISTORY HISTORY.SAMPLES

/-- A brand entry (R295). -/
structure Brand where
  xform  : Nat
  target : Nat
  input  : Nat
  flags  : Nat
  mask   : Nat
  addr   : Nat
  param  : List Byte
  bad    : Nat
deriving DecidableEq, Repr

def Brand.of (b : List Byte) : Brand :=
  { xform := fieldLE b 0 1, target := fieldLE b 1 1, input := fieldLE b 2 1, flags := fieldLE b 3 1
    mask := fieldLE b 4 4, addr := fieldLE b 8 8, param := (b.drop 16).take 40, bad := fieldLE b 56 8 }

def Brand.kind (e : Brand) : Nat := e.target % 4
def Brand.engine (e : Brand) : Nat := nfld e.target 2 5

/-- Bytes of PARAM that must be 0, per transform (table "Transform parameters"). -/
def Brand.paramPad (e : Brand) : List Byte :=
  match e.xform with
  | 1 => e.param.drop 36
  | 2 => e.param.drop 17
  | 4 => e.param.drop 22
  | _ => []

/-- Why an entry is skipped, 1 to 5 in R296's order, 0 where it fires. -/
def Brand.fault (e : Brand) : Nat :=
  if nbit e.target 7 || decide (2 ≤ e.flags) || decide (2 < e.input) || decide (4 < e.xform) || e.kind == 3
      || e.paramPad.any (· != 0) then 1
  else if e.xform = 4 ∧ e.kind ≠ 0 then 2
  else if e.xform = 2 ∧ fieldLE e.param 0 4 = fieldLE e.param 4 4 then 3
  else if e.xform = 4 ∧ ¬ (1 ≤ fieldLE e.param 20 1 ∧ fieldLE e.param 20 1 ≤ 8 ∧ fieldLE e.param 21 1 ≤ 7) then 4
  else if (e.kind = 0 ∧ e.addr % 4 ≠ 0) ∨ (e.kind ≠ 0 ∧ 4096 ≤ e.addr) then 5
  else 0

/-- A quotient rounded to nearest, halves away from zero. -/
def divRound (n d : Int) : Int :=
  let q := (2 * n.natAbs + d.natAbs) / (2 * d.natAbs)
  if (n < 0) != (d < 0) then -(q : Int) else q

/-- The decimal digits of `v`, at least `n` of them, most significant first; `fuel` bounds their number. -/
def digitsOf : Nat → Nat → Nat → List Nat
  | 0, _, _ => []
  | fuel + 1, n, v => if v < 10 ∧ n ≤ 1 then [v] else digitsOf fuel (n - 1) (v / 10) ++ [v % 10]

/-- The words of DIGITS for input `v` (R297). -/
def Brand.digits (e : Brand) (v : Int) : List Nat :=
  let g := fun k => fieldLE e.param (4 * k) 4
  let count := fieldLE e.param 20 1
  let dec := fieldLE e.param 21 1
  let all := digitsOf 24 (dec + 1) v.natAbs
  let ip := (all.take (all.length - dec)).map (fun d => (g 0 + d) % 2 ^ 32)
  let fp := (all.drop (all.length - dec)).map (fun d => (g 0 + d) % 2 ^ 32)
  let text := (if v < 0 then [g 2] else []) ++ ip ++ (if dec = 0 then [] else g 1 :: fp)
  if count < text.length then List.replicate count (g 4)
  else List.replicate (count - text.length) (g 3) ++ text

/-- The output of a transform other than DIGITS for input `v`; `sg` tells the signed encoding
(table "Transform parameters"). -/
def Brand.output (e : Brand) (sg : Bool) (v : Int) : Nat :=
  let f := fun k => if sg then signed 32 (fieldLE e.param (4 * k) 4) else (fieldLE e.param (4 * k) 4 : Int)
  if e.xform = 1 then
    let k := ((List.range 4).filter (fun k => decide (f k ≤ v))).length
    fieldLE e.param (16 + 4 * k) 4
  else if e.xform = 2 then
    let d := f 1 - f 0
    let r := divRound (f 2 * d + (v - f 0) * (f 3 - f 2)) d
    let r := clampI (min (f 2) (f 3)) (max (f 2) (f 3)) r
    unsigned 32 (r * 2 ^ fieldLE e.param 16 1)
  else
    let k := if 0 ≤ v ∧ v ≤ 4 then v.toNat else 4
    fieldLE e.param (8 * k) 8

/-- A masked write of a 32-bit word of device memory. -/
def maskWord (m : Mem) (a word mask : Nat) : Mem :=
  let old := leNat (memRead m a 4)
  memWrite m a (leBytes 4 ((old &&& (0xFFFFFFFF ^^^ (mask % 2 ^ 32))) ||| (word &&& mask)))

/-- A MAP write of consecutive words, one masked write for each 64-byte granule; a granule refused under R46
is not written (R296, R297). -/
def State.mapWrite (s : State) (e : Brand) (words : List Nat) : State :=
  let pairs := (List.range words.length).map (fun i => (e.addr + 4 * i, words.getD i 0))
  let grans := (pairs.map (fun p => p.1 / 64)).foldl (fun l g => if l.contains g then l else l ++ [g]) []
  grans.foldl (fun t g =>
    let ps := pairs.filter (fun p => p.1 / 64 == g)
    let t := t.inc pBRANDS BRANDS.WRITES
    if ps.all (fun p => t.canWrite .points p.1 4) then
      ({ t with mem := ps.foldl (fun m p => maskWord m p.1 p.2 e.mask) t.mem } : State).invalidate (64 * g) 64
    else ((t.statusBit pBRANDS 4).pendInt pBRANDS 1).event pBRANDS Ev.PART_DENY
      (BitVec.ofNat 32 ((ps.map (·.1)).getD 0 0))) s

/-- A FLOCK or PALETTE write can reach engine `n` (R296). -/
def State.engineTakes (s : State) (n : Nat) : Bool :=
  s.present 0 (pgPE n) && !s.fenced 0 (pgPE n) && s.domainOn 0 (pgPE n)

/-- A write added to the commit's group for its engine; `gs` are the groups of this commit. -/
def addToGroup (n : Nat) (bw : BrandWrite) : List BrandGroup → List BrandGroup
  | [] => [{ engine := n, writes := [bw] }]
  | g :: l => if g.engine = n then { g with writes := g.writes ++ [bw] } :: l else g :: addToGroup n bw l

/-- The input of a brand (R295). -/
def brandInput (e : Brand) (kind value quality lstate : Nat) : Int :=
  if e.input = 0 then encode32 kind value else if e.input = 1 then (lstate : Int) else (quality : Int)

/-- One brand fires: its MAP writes are made, its FLOCK or PALETTE write joins its group (R296, R299). -/
def State.fireBrand (s : State) (gs : List BrandGroup) (idx kind value quality lstate : Nat) :
    State × List BrandGroup :=
  let a := s.r pBRANDS BRANDS.BRAND_BASE + 64 * idx
  let skip := fun (s : State) (reason : Nat) =>
    (((s.statusBit pBRANDS 3).pendInt pBRANDS 0).perMs Ev.BRAND_INVALID
      (·.event pBRANDS Ev.BRAND_INVALID (mkDetail [(idx, 0), (reason, 24)])), gs)
  if s.r pBRANDS BRANDS.BRAND_COUNT ≤ idx then skip s 1
  else if !s.inPart 2 a 64 then
    (((s.statusBit pBRANDS 4).pendInt pBRANDS 1).event pBRANDS Ev.PART_DENY (BitVec.ofNat 32 a), gs)
  else
    let e := Brand.of (memRead s.mem a 64)
    if e.fault ≠ 0 then skip s e.fault
    else if e.xform = 0 then (s, gs)
    else
      let v := brandInput e kind value quality lstate
      let useBad := nbit e.flags 0 && qualBad quality
      let out := if useBad then e.bad else e.output (kind == 0 && e.input == 0) v
      if e.kind = 0 then
        (s.mapWrite e (if e.xform = 4 then
            (if useBad then List.replicate (fieldLE e.param 20 1) (e.bad % 2 ^ 32) else e.digits v)
          else [out % 2 ^ 32]), gs)
      else if !s.engineTakes e.engine then (s.inc pBRANDS BRANDS.DROPPED, gs)
      else
        let bw : BrandWrite := if e.kind = 1
          then .flk e.addr (BitVec.ofNat 32 out) (BitVec.ofNat 32 e.mask)
          else .pal e.addr (BitVec.ofNat 64 (out % 2 ^ 40))
        (s, addToGroup e.engine bw gs)

/-- How many palette and flock writes a group makes. -/
def BrandGroup.pals (g : BrandGroup) : Nat := (g.writes.filter (fun w => match w with | .pal .. => true | _ => false)).length
def BrandGroup.flks (g : BrandGroup) : Nat := g.writes.length - g.pals

/-- A group's writes put into its engine's queues. -/
def Engine.enter (e : Engine) (g : BrandGroup) : Engine :=
  g.writes.foldl (fun e w => match w with
    | .pal i v => { e with palQ := e.palQ ++ [(i, v)] }
    | .flk a d m => { e with flkQ := e.flkQ ++ [{ word := a, data := d, mask := m, soft := false }] }) e

/-- A group fits its engine's queues: 64 palette entries and 256 flock writes (R115, R131, R298). -/
def Engine.fits (e : Engine) (g : BrandGroup) : Bool :=
  decide (e.palQ.length + g.pals ≤ 64) && decide (e.flkQ.length + g.flks ≤ 256)

/-- The groups waiting for engine `n` enter its queues in commit order as far as they fit; those for an
engine that takes none are dropped and counted (R296, R298). WRITES counts a write when it leaves the buffer
(log entry 42). -/
def State.enterGroups (s : State) (n : Nat) : List BrandGroup → Bool → State × List BrandGroup
  | [], _ => (s, [])
  | g :: l, blocked =>
    if g.engine ≠ n then
      let r := s.enterGroups n l blocked
      (r.1, g :: r.2)
    else if blocked then
      let r := s.enterGroups n l true
      (r.1, g :: r.2)
    else if !s.engineTakes n then (s.inc pBRANDS BRANDS.DROPPED g.writes.length).enterGroups n l false
    else if (s.eng n).fits g then
      ((s.setEng n ((s.eng n).enter g)).inc pBRANDS BRANDS.WRITES g.writes.length).enterGroups n l false
    else
      let r := s.enterGroups n l true
      (r.1, g :: r.2)

/-- The brand write buffer served for engine `n`; a fenced or disabled brand engine issues nothing. -/
def State.brandEnter (s : State) (n : Nat) : State :=
  if !s.active pBRANDS then s
  else
    let r := s.enterGroups n s.points.buf false
    { r.1 with points := { r.1.points with buf := r.2 } }

/-- BUF_LEVEL: writes in the buffer. -/
def State.brandLevel (s : State) : Nat := (s.points.buf.map (fun g => g.writes.length)).foldl (· + ·) 0

/-- Room in the buffer for any commit (R286, R298). -/
def State.brandRoom (s : State) : Bool := decide (s.brandLevel + 126 ≤ 4096)

/-- A point's brands fire in table order (R296); a fenced BRANDS fires none and counts each (R476). -/
def State.fireBrands (s : State) (first count kind value quality lstate : Nat) : State :=
  if s.fenced 0 pBRANDS then s.inc pBRANDS BRANDS.DROPPED count
  else if !s.active pBRANDS then s
  else
    let r := (List.range count).foldl (fun x k => x.1.fireBrand x.2 (first + k) kind value quality lstate) (s, [])
    let s := { r.1 with points := { r.1.points with buf := r.1.points.buf ++ r.2 } }
    (r.2.map (·.engine)).foldl (fun t n => t.brandEnter n) s

/-- A history sample is due (R293): the value criterion. -/
def PointRec.moved (r : PointRec) (v : Nat) : Bool :=
  v != r.hlast &&
    (if r.kind = 0 then decide (r.deadband ≤ (signed 32 v - signed 32 r.hlast).natAbs)
     else if r.kind = 1 then decide (r.deadband ≤ (v + 2 ^ 32 - r.hlast) % 2 ^ 32) else true)

/-- One commit applied to record `p` (R286 to R293, R296): steps 1 to 5. `journal` is the sequence number of
an entry being replayed, which leaves step 3 out (R292). -/
def State.applyCommit (s : State) (p op : Nat) (refresh : Bool) (value quality time : Nat)
    (replayed : Option Nat) : State :=
  let r := s.pointRec p
  let v := if op = 2 then r.value else value
  let q := if op = 1 then r.quality else quality
  let ls := r.limits v q
  let lim := ls != r.lstate
  let qual := q != r.quality
  let changed := v != r.value || qual || lim
  let due := changed || refresh
  let flip := qualBad q != qualBad r.quality
  let alarm := (r.aclass % 4 != 0 && lim) || (nbit r.aclass 2 && flip)
  let want := nbit r.limEn 4 && decide (r.hring < s.r pHISTORY HISTORY.RING_COUNT) && due
    && (r.moved v || lim || qual || refresh)
  let sample := want && s.sampleFits r.hring
  let count := nfld r.brands 22 6
  let fires := due && count != 0 && s.active pBRANDS
  let jseq := match replayed with
    | some q => q
    | none => s.nextSeq + s.journal.waiting.length
  -- step 1: the engine fields as one masked write
  let a := s.pointAddr p
  let m := memWrite s.mem a (leBytes 4 v ++ leBytes 2 q ++ leBytes 1 ls ++ leBytes 1 0 ++ leBytes 8 time ++ leBytes 4 (r.seq + 1))
  let m := if sample then memWrite m (a + 48) (leBytes 4 v) else m
  let s := if s.inPart 2 a 64 then { s with mem := m }
    else (s.statusBit pPOINTS 3).event pPOINTS Ev.PART_DENY (BitVec.ofNat 32 a)
  let s := s.inc pPOINTS POINTS.COMMITS
  -- step 2: alarm event and voice start
  let s := if alarm then s.alarmEvent p lim flip (r.aclass % 4) v q r.lstate ls time jseq else s
  let s := if alarm && nbit r.voice 7 && (ls != 0 || qualBad q)
    then s.submitAction (r.voice % 64) 0 (BitVec.ofNat 32 r.vparam) (s.owner 0 pPOINTS) 1 else s
  -- step 3: the journal entry
  let flags := b2n alarm + 2 * b2n sample + 4 * b2n fires + 8 * b2n refresh
  let s := if replayed.isSome then s else s.jAppend JK.POINT_COMMIT
    (leBytes 4 p ++ leBytes 4 v ++ leBytes 2 q ++ leBytes 1 r.lstate ++ leBytes 1 ls ++ leBytes 8 time ++ leBytes 1 flags)
  -- step 4: the history sample
  let reason := b2n (r.moved v) + 2 * b2n lim + 4 * b2n qual + 8 * b2n refresh
  let s := if want then s.appendSample r.hring time v q ls reason else s
  -- step 5: the brands
  if due && count != 0 then s.fireBrands (r.brands % 2 ^ 22) count r.kind v q ls else s

/-- A commit entry discarded (R285). -/
def State.commitRefused (s : State) (point ring : Nat) : State :=
  let s := ((s.statusBit pPOINTS 3).inc pPOINTS POINTS.REFUSED).pendInt pPOINTS 2
  s.perMs Ev.COMMIT_REFUSED (·.event pPOINTS Ev.COMMIT_REFUSED (mkDetail [(point, 0), (ring, 20)]))

/-- The journal can take the commit engine's entry at once (R286, R320). -/
def State.journalReady (s : State) : Bool := s.journalRuns && s.journal.waiting.isEmpty && s.journalRoom 1

/-- The commit engine waits (STATUS.STALLED, R286). -/
def State.commitStalled (s : State) : Bool := s.points.taken.isSome && !(s.journalReady && s.brandRoom)

/-- A commit entry taken from the next ring, round-robin; a bad one is discarded (R282 to R285). -/
def State.commitTake (s : State) (err : Bool) : State :=
  if !s.active pPOINTS || s.points.taken.isSome then s
  else match s.nextRing 0 s.points.nextRing (fun _ => true) with
    | none => s
    | some n =>
      let s := s.memWait
      let s := { s with points := { s.points with nextRing := (n + 1) % 16 } }
      let tail := s.r pPOINTS (crFld POINTS.CR_TAIL n)
      match (if err then none else s.ringRead n (s.r pPOINTS (crFld POINTS.CR_REQ_BASE n)) tail) with
      | none => s.ringFault n
      | some b =>
        let s := s.w pPOINTS (crFld POINTS.CR_TAIL n) (tail + 1)
        let w0 := fieldLE b 0 4
        let p := w0 % 2 ^ 20
        let op := nfld w0 20 4
        let time := fieldLE b 16 8
        let clean := decide (w0 < 2 ^ 25) && fieldLE b 10 6 == 0 && fieldLE b 24 8 == 0
        let known := decide (p < s.r pPOINTS POINTS.REC_COUNT)
        let s := if known && !s.inPart 2 (s.pointAddr p) 64
          then s.event pPOINTS Ev.PART_DENY (BitVec.ofNat 32 (s.pointAddr p)) else s
        if !known || decide (2 < op) || !clean || !(s.pointRec p).valid || s.following then s.commitRefused p n
        else
          let c : Commit := { point := p, op := op, refresh := nbit w0 24, value := BitVec.ofNat 32 (fieldLE b 4 4)
                              quality := BitVec.ofNat 16 (fieldLE b 8 2)
                              time := if time = 0 then s.stamp else BitVec.ofNat 64 time, ring := n, fc := s.fc }
          let s := { s with points := { s.points with taken := some c } }
          if s.commitStalled then { s with points := { s.points with stallFc := some s.fc } } else s

/-- A ring's geometry keeps R280: bases aligned to 32, the ring inside its paddock or SHEPHERD. -/
def State.crGeometry (s : State) (n kind loc size : Nat) : Bool :=
  let bytes := 32 * 2 ^ size
  let req := s.r pPOINTS (crFld POINTS.CR_REQ_BASE n)
  let res := s.r pPOINTS (crFld POINTS.CR_RES_BASE n)
  let inside := fun (b : Nat) =>
    b % 32 == 0 && (if loc < 8 then s.present 0 (pgPK loc) && decide (b + bytes ≤ 0x100000) else s.inPart 2 b bytes)
  decide (loc ≤ 8) && inside req && (kind == 0 || inside res)

/-- A write to a request ring's registers (R280, R281, R311). -/
def State.crWrite (s : State) (w : Wr) (n rel : Nat) : Eff :=
  let en := s.crEn n
  if rel = 0x00 then
    let kind := w.f ⟨0, 1, 1⟩
    let loc := w.f ⟨0, 2, 4⟩
    let size := w.f ⟨0, 8, 4⟩
    if en then
      (if nbit w.v 0 then w.drop s Ev.BAD_STATE else done (s.w pPOINTS (crFld POINTS.CR_CFG_EN n) 0))
    else if size < 2 then w.drop s Ev.BAD_VALUE
    else if nbit w.v 0 then
      w.require s (s.crGeometry n kind loc size) Ev.BAD_VALUE fun s =>
        let r := s.plain w
        let z := fun (t : State) (f : Fld) => t.w pPOINTS (crFld f n) 0
        (z (z (z (z r.1 POINTS.CR_HEAD) POINTS.CR_TAIL) POINTS.CR_RES_HEAD) POINTS.CR_RES_TAIL, r.2)
    else s.plain w
  else if rel = 0x04 then s.changeItemOwner pPOINTS (crFld POINTS.CR_OWNER n) (BitVec.ofNat 8 w.v) w
  else if rel = 0x08 ∨ rel = 0x10 then w.require s (!en) Ev.BAD_STATE (·.plain w)
  else if rel = 0x18 then
    w.require s (decide ((w.v % 65536 + 65536 - s.r pPOINTS (crFld POINTS.CR_TAIL n)) % 65536 ≤ s.crSize n)) Ev.BAD_VALUE (·.plain w)
  else if rel = 0x24 then
    w.require s (decide ((s.r pPOINTS (crFld POINTS.CR_RES_HEAD n) + 65536 - w.v % 65536) % 65536 ≤ s.crResLevel n)) Ev.BAD_VALUE (·.plain w)
  else s.plain w

/-- A write to a block-specific register of POINTS (R311; log entry 34). -/
def State.pointsWrite (s : State) (w : Wr) : Eff :=
  let cfg := fun (ok : Bool) =>
    if s.enabled pPOINTS then w.drop s Ev.BAD_STATE else w.require s ok Ev.BAD_VALUE (·.plain w)
  if w.off = 0x100 then cfg (w.v % 64 == 0)
  else if w.off = 0x108 then cfg (decide (w.v % 2 ^ 21 ≤ 2 ^ 20))
  else if w.off = 0x110 then cfg (w.v % 32 == 0)
  else if w.off = 0x118 then cfg (decide (4 ≤ w.v % 32) && decide (w.v % 32 ≤ 20))
  else if w.off = 0x120 then
    let head := s.r pPOINTS POINTS.ALARM_HEAD
    let tail := s.r pPOINTS POINTS.ALARM_TAIL
    w.require s (decide ((head + 2 ^ 32 - w.v % 2 ^ 32) % 2 ^ 32 ≤ (head + 2 ^ 32 - tail) % 2 ^ 32)) Ev.BAD_VALUE (·.plain w)
  else if 0x400 ≤ w.off ∧ w.off < 0x800 then s.crWrite w ((w.off - 0x400) / 0x40) ((w.off - 0x400) % 0x40)
  else s.plain w

/-- A write to a base or count register of BRANDS and HISTORY (R312). -/
def State.tableWrite (s : State) (w : Wr) (top : Nat) : Eff :=
  if w.off = 0x100 ∨ w.off = 0x108 then
    if s.enabled w.page then w.drop s Ev.BAD_STATE
    else w.require s (if w.off = 0x100 then w.v % 64 == 0 else decide (w.v % (2 * top) ≤ top)) Ev.BAD_VALUE (·.plain w)
  else s.plain w

end Sys2Proof.Machine
end

