-- ==== Sys2Proof/Machine/Commands.lean ====
section
/-! DEFINITION. The command dispatcher: objects, interlocks, transactions, results, and what the loss of
authority does to them (R301 to R310, R328). -/

namespace Sys2Proof.Machine

/-- A command object (R301). -/
structure CmdObj where
  channel  : Nat
  chanRes  : Nat
  en       : Bool
  mode     : Nat
  opener   : Nat
  interlock : Nat
  selectTo : Nat
  window   : Nat
  margin   : Nat
  operateTo : Nat
  fbPoint  : Nat
  fbEn     : Bool
  fbRes    : Nat
  fbValue  : Nat
  fbTo     : Nat
  m0       : Nat × Nat × Nat × Nat     -- TX_OFF, RX_OFF, LEN, MASK
  m1       : Nat × Nat × Nat × Nat
  accept   : Nat × Nat × Nat           -- OFF, MASK, VAL
  zero     : Nat                       -- the reserved bytes as one number
deriving DecidableEq, Repr

def CmdObj.of (b : List Byte) : CmdObj :=
  let m := fun o => (fieldLE b o 2, fieldLE b (o + 2) 2, fieldLE b (o + 4) 1, fieldLE b (o + 5) 1)
  { channel := fieldLE b 0 2 % 4096, chanRes := nfld (fieldLE b 0 2) 12 3, en := nbit (fieldLE b 0 2) 15
    mode := fieldLE b 2 1, opener := fieldLE b 3 1, interlock := fieldLE b 4 2
    selectTo := fieldLE b 8 2, window := fieldLE b 10 2, margin := fieldLE b 12 2, operateTo := fieldLE b 14 2
    fbPoint := fieldLE b 16 4 % 2 ^ 20, fbEn := nbit (fieldLE b 16 4) 31, fbRes := nfld (fieldLE b 16 4) 20 11
    fbValue := fieldLE b 20 4, fbTo := fieldLE b 24 2
    m0 := m 28, m1 := m 34, accept := (fieldLE b 40 2, fieldLE b 42 1, fieldLE b 43 1)
    zero := fieldLE b 6 2 + fieldLE b 26 2 + fieldLE b 44 20 }

/-- Object `o` as its table holds it; one the engine may not read shows all ones (R46). -/
def State.cmdObj (s : State) (o : Nat) : CmdObj :=
  let a := s.r pCOMMANDS COMMANDS.OBJ_BASE + 64 * o
  CmdObj.of (if s.inPart 2 a 64 then memRead s.mem a 64 else List.replicate 64 0xFF)

/-- Reserved fields, timers and match lengths of an object keep R301 (log entry 35). -/
def CmdObj.valid (c : CmdObj) : Bool :=
  c.chanRes == 0 && decide (c.mode < 2) && c.fbRes == 0 && c.zero == 0
    && c.selectTo != 0 && c.window != 0 && c.margin != 0 && c.operateTo != 0 && decide (c.margin < c.window)
    && (!c.fbEn || c.fbTo != 0) && decide (c.m0.2.2.1 ≤ 32) && decide (c.m1.2.2.1 ≤ 32)

/-- A channel entry of the FIELD table (R270). -/
structure ChanEnt where
  assist : Assist
  en     : Bool
  ring   : Nat
  ctxOff : Nat
  ctxCluster : Nat
  read   : Bool          -- the entry can be read (R46)
  good   : Bool          -- and its reserved bits are 0
deriving DecidableEq, Repr

/-- Channel `k`'s entry as the table holds it (R270). -/
def State.chanEnt (s : State) (k : Nat) : ChanEnt :=
  let a := s.r pFIELD FIELD.CHAN_BASE + (k - 16) * 16
  let ok := s.inPart 2 a 16
  let b := memRead s.mem a 16
  let f := fieldLE b 0 2
  { assist := { kind := nfld f 1 3, strip := nbit f 4, keepBad := nbit f 5, addrLen := nfld f 6 2, cvEn := nbit f 8
                unit := fieldLE b 2 1, rx := 0, tx := 1, rxMax := fieldLE b 4 2, relay := true, port := 0 }
    read := ok, en := nbit f 0, ring := fieldLE b 3 1, ctxOff := fieldLE b 8 4, ctxCluster := fieldLE b 12 1
    good := ok && decide (f < 2 ^ 9) && fieldLE b 6 2 == 0 && fieldLE b 13 3 == 0 }

/-- Channel `k` has an entry in the table (R270). -/
def State.chanListed (s : State) (k : Nat) : Bool :=
  decide (16 ≤ k) && decide (k < 4096) && decide (k - 16 < s.r pFIELD FIELD.CHAN_COUNT)

/-- A channel entry outside SHEPHERD is refused: FIELD shows the fault and records the access (R46). -/
def State.chanDeny (s : State) (k : Nat) : State :=
  if s.chanListed k && !(s.chanEnt k).read then
    (s.statusBit pFIELD 3).event pFIELD Ev.PART_DENY (BitVec.ofNat 32 (s.r pFIELD FIELD.CHAN_BASE + (k - 16) * 16))
  else s

/-- A relay channel's frames are carried: its entry is below CHAN_COUNT, enabled and keeps R271. -/
def State.chanValid (s : State) (k : Nat) : Bool :=
  let e := s.chanEnt k
  s.chanListed k && e.good && e.en
    && decide (e.assist.kind < 4) && decide (e.ring < 16) && (!e.assist.cvEn || s.cvAttached e.assist)

/-- A channel is enabled and not fenced (R306, R310). -/
def State.chanUp (s : State) (k : Nat) : Bool :=
  if k < 16 then s.active (pgFP k) else s.active pFIELD && s.chanValid k

/-- A channel is there and enabled; a fence does not disable it (R304, table "Result codes", code 4). -/
def State.chanOpens (s : State) (k : Nat) : Bool :=
  if k < 16 then s.present 0 (pgFP k) && s.enabled (pgFP k) else s.enabled pFIELD && s.chanValid k

/-- MIRROR.STATUS.AUTHORITY: the device holds command authority (R328). -/
def State.authority (s : State) : Bool := s.b pMIRROR MIRROR.STATUS_AUTHORITY

/-- Dispatch is open (R11, R90, R476). -/
def State.dispatchOpen (s : State) : Bool :=
  s.active pCOMMANDS && s.authority && s.devState == stRUNNING

/-- The numbers of the open transactions. -/
def State.openTxns (s : State) : List Nat := (s.txns.filter (fun e => e.2.state != 0)).map (·.1)

/-- The CMD_STEP entry of a transaction as it stands; `result` is 0xFF while it is open (R309). -/
def State.cmdStep (s : State) (t result : Nat) : State :=
  let x := s.txn t
  s.jAppend JK.CMD_STEP (leBytes 2 t ++ leBytes 1 x.state ++ leBytes 1 result ++ leBytes 2 x.object
    ++ leBytes 2 x.tally.toNat ++ leBytes 4 x.tag.toNat ++ leBytes 8 s.stamp.toNat)

/-- A transaction in a new state, with its CMD_STEP. -/
def State.txnGo (s : State) (t state : Nat) : State :=
  (s.setTxn t { s.txn t with state := state, rearmed := none }).cmdStep t 0xFF

/-- The status bits a result sets (R310). -/
def State.resultStatus (s : State) (result : Nat) : State :=
  if 2 ≤ result ∧ result ≤ 8 then (s.statusBit pCOMMANDS 3).pendInt pCOMMANDS 1
  else if result = 9 ∨ result = 13 ∨ result = 15 then s.statusBit pCOMMANDS 4
  else if result = 19 then s.statusBit pCOMMANDS 5 else s

/-- A result entry put into ring `n`'s result ring (R310). A refused write leaves RES_HEAD (log entry 36). -/
def State.resultEntry (s : State) (n txn result last : Nat) (tag : W32) (tally object jseq : Nat) : State :=
  let head := s.r pPOINTS (crFld POINTS.CR_RES_HEAD n)
  let bytes := leBytes 2 txn ++ leBytes 1 result ++ leBytes 1 last ++ leBytes 4 tag.toNat ++ leBytes 2 tally
    ++ leBytes 2 0 ++ leBytes 8 s.stamp.toNat ++ leBytes 2 object ++ leBytes 2 0 ++ leBytes 8 jseq
  let s := s.resultStatus result
  let base := s.r pPOINTS (crFld POINTS.CR_RES_BASE n)
  match s.ringWrite n base head bytes with
  | some s' => (s'.w pPOINTS (crFld POINTS.CR_RES_HEAD n) (head + 1)).pendInt pCOMMANDS 0
  | none => (s.statusBit pPOINTS 4).ringDeny n base head

/-- The frames of a transaction that wait for a port or a relay ring withdrawn. -/
def State.withdraw (s : State) (t : Nat) : State :=
  let fps := s.fps.map (fun e => (e.1, { e.2 with dispQ := e.2.dispQ.filter (fun d => d.1 != t) }))
  let oq := s.host.orQ.map (fun e => (e.1, e.2.filter (fun d => d.1 != t)))
  { s with fps := fps.filter (fun e => decide (e.2 ≠ {})), host := { s.host with orQ := oq.filter (fun e => !e.2.isEmpty) } }

/-- A transaction ends with a result: its last CMD_STEP, its result entry, its number and channel free
(R304, R309, R310). -/
def State.endTxn (s : State) (t result : Nat) : State :=
  let x := s.txn t
  if x.state = 0 then s
  else
    let jseq := s.nextSeq + s.journal.waiting.length
    let s := s.cmdStep t result
    let s := s.setTxn t {}
    let s := s.withdraw t
    let s := if result < 2 then s.inc pCOMMANDS COMMANDS.COMPLETED else s.inc pCOMMANDS COMMANDS.FAILED
    s.resultEntry x.ring t result x.state x.tag x.tally.toNat x.object jseq

/-- One term of an interlock entry (R302). -/
def State.interlockTerm (s : State) (w0 w1 : Nat) : Bool :=
  let p := w0 % 2 ^ 20
  let test := nfld w0 20 4
  if !nbit w0 31 then true
  else if s.r pPOINTS POINTS.REC_COUNT ≤ p then false
  else
    let r := s.pointRec p
    if test = 7 then !qualBad r.quality
    else if qualBad r.quality then false
    else
      let v := encode32 r.kind r.value
      let o := encode32 r.kind w1
      if test = 0 then r.value == w1
      else if test = 1 then r.value != w1
      else if test = 2 then decide (v < o)
      else if test = 3 then decide (o ≤ v)
      else if test = 4 then r.lstate == w1
      else if test = 5 then (r.value &&& w1) == w1
      else if test = 6 then (r.value &&& w1) == 0
      else false

/-- An interlock entry passes when every enabled term passes; 0xFFFF names none, and one at or above
IL_COUNT fails (R302, table "COMMANDS registers"). -/
def State.interlockOk (s : State) (i : Nat) : Bool :=
  if i = 0xFFFF then true
  else
    let a := s.r pCOMMANDS COMMANDS.IL_BASE + 64 * i
    decide (i < s.r pCOMMANDS COMMANDS.IL_COUNT) && s.inPart 2 a 64 &&
      (List.range 8).all (fun k => s.interlockTerm (leNat (memRead s.mem (a + 8 * k) 4)) (leNat (memRead s.mem (a + 8 * k + 4) 4)))

/-- The first access the evaluation of interlock `i` is refused: the entry, else a term's point record (R46). -/
def State.interlockDenied (s : State) (i : Nat) : Option Nat :=
  let a := s.r pCOMMANDS COMMANDS.IL_BASE + 64 * i
  if s.r pCOMMANDS COMMANDS.IL_COUNT ≤ i then none
  else if !s.inPart 2 a 64 then some a
  else (List.range 8).findSome? (fun k =>
    let w0 := leNat (memRead s.mem (a + 8 * k) 4)
    let p := w0 % 2 ^ 20
    if nbit w0 31 && decide (p < s.r pPOINTS POINTS.REC_COUNT) && !s.inPart 2 (s.pointAddr p) 64
    then some (s.pointAddr p) else none)

/-- A refused access of the dispatcher is recorded, STATUS.REFUSED its error bit (R46; log entry 145). -/
def State.cmdDeny (s : State) (a : Option Nat) : State :=
  match a with
  | some a => (s.statusBit pCOMMANDS 3).event pCOMMANDS Ev.PART_DENY (BitVec.ofNat 32 a)
  | none => s

/-- The channel is held by a transaction (R304). -/
def State.channelHeld (s : State) (k : Nat) : Bool := s.txns.any (fun e => e.2.holds && e.2.channel == k)

/-- A transaction opened earlier waits for the channel (R304). -/
def State.channelQueued (s : State) (k before : Nat) : Bool :=
  s.txns.any (fun e => (e.2.state == 1 || e.2.state == 8) && e.2.channel == k && decide (e.2.opened < before))

/-- A frame is barred from being sent on its channel (R306). -/
def State.sendBarred (s : State) (k addr len : Nat) : Bool :=
  let a := if k < 16 then s.fpAssist k else (s.chanEnt k).assist
  !s.chanUp k || (decide (k < 16) && s.b (pgFP k) FP.STATUS_TX_TIMEOUT) || !s.inPart 2 addr len
    || (a.cvEn && (!s.cvAttached a || !frameable a len))

/-- A select or operate frame passed to its port or outbound ring, or its transaction ended (R306, R460). -/
def State.passFrame (s : State) (t addr len : Nat) : State :=
  let k := (s.txn t).channel
  if s.sendBarred k addr len then
    let a := s.fpAssist k
    let s := if k < 16 ∧ s.chanUp k ∧ a.cvEn ∧ !s.cvAttached a then s.statusBit (pgFP k) 7 else s
    s.endTxn t 19
  else
    let bytes := memRead s.mem addr len
    if k < 16 then
      let x := s.fp k
      s.setFp k { x with dispQ := x.dispQ ++ [(t, bytes)] }
    else
      let o := k / 512
      let q := sget [] s.host.orQ o
      { s with host := { s.host with orQ := sset [] s.host.orQ o (q ++ [(t, k, bytes)]) } }

/-- A transaction gets its channel: it holds it and its frame is passed (R304). -/
def State.grantChannel (s : State) (t : Nat) : State :=
  let direct := (s.txn t).state == 8
  let s := s.setTxn t { s.txn t with holds := true }
  let s := s.txnGo t (if direct then 5 else 2)
  let x := s.txn t
  if direct then s.passFrame t x.opAddr x.opLen else s.passFrame t x.selAddr x.selLen

/-- The device may send operate and select frames: it holds authority and follows no partner (R11, R309). -/
def State.maySend (s : State) : Bool := s.authority && !s.following

/-- The SELECTED check: interlock, then at least OP_MARGIN of the window; then the operate is passed
(R304). No frame leaves a device without authority (R11, R309). -/
def State.operateCheck (s : State) (t : Nat) : State :=
  let x := s.txn t
  let c := s.cmdObj x.object
  if !s.maySend then s
  else if !s.interlockOk c.interlock then (s.cmdDeny (s.interlockDenied c.interlock)).endTxn t 12
  else if x.window.toNat + c.window * msTick < s.stamp.toNat + c.margin * msTick then s.endTxn t 11
  else
    let s := s.txnGo t 5
    let x := s.txn t
    s.passFrame t x.opAddr x.opLen

/-- The feedback point holds FB_VALUE with good quality (R304). -/
def State.feedbackHolds (s : State) (c : CmdObj) : Bool :=
  decide (c.fbPoint < s.r pPOINTS POINTS.REC_COUNT) &&
    (let r := s.pointRec c.fbPoint; r.value == c.fbValue && !qualBad r.quality)

/-- The operate is confirmed: FEEDBACK_WAIT, or OPERATED without feedback (R304). -/
def State.operateConfirmed (s : State) (t : Nat) : State :=
  let c := s.cmdObj (s.txn t).object
  if !c.fbEn then s.endTxn t 1
  else
    let s := s.setTxn t { s.txn t with start := s.stamp }
    let s := s.txnGo t 7
    if s.feedbackHolds c then s.endTxn t 0 else s

/-- A commit gave point `p` a value: transactions waiting for it complete (R304). -/
def State.feedbackCommit (s : State) (p : Nat) : State :=
  s.openTxns.foldl (fun t n =>
    let x := t.txn n
    let c := t.cmdObj x.object
    if x.state = 7 ∧ c.fbEn ∧ c.fbPoint = p ∧ t.feedbackHolds c then t.endTxn n 0 else t) s

/-- The commit that was taken is applied once journal and brand buffer have room (R286); one taken before
the device came to follow is discarded (R285). -/
def State.commitApply (s : State) : State :=
  match s.points.taken with
  | none => s
  | some c =>
    let settle := fun (s : State) => match s.points.stallFc with
      | none => s
      | some f => (s.inc pPOINTS POINTS.STALL_FC (s.fc - f))
    if !s.active pPOINTS then s
    else if s.following then
      let s := (settle s).commitRefused c.point c.ring
      { s with points := { s.points with taken := none, stallFc := none } }
    else if s.commitStalled then
      { s with points := { s.points with stallFc := some (s.points.stallFc.getD s.fc) } }
    else
      let s := settle s
      let s := { s with points := { s.points with taken := none, stallFc := none } }
      let s := s.applyCommit c.point c.op c.refresh c.value.toNat c.quality.toNat c.time.toNat none
      s.feedbackCommit c.point

/-- A match range: LEN bytes of the received stripped frame equal those of the sent one, the first under
MASK; a range beyond either frame fails (R301; log entry 35). -/
def matchRange (m : Nat × Nat × Nat × Nat) (sent got : List Byte) : Bool :=
  let (tx, rx, len, mask) := m
  if len = 0 then true
  else decide (tx + len ≤ sent.length) && decide (rx + len ≤ got.length) &&
    ((sent.getD tx 0).toNat &&& mask) == ((got.getD rx 0).toNat &&& mask) &&
    (sent.drop (tx + 1)).take (len - 1) == (got.drop (rx + 1)).take (len - 1)

/-- The confirmation is positive (R301). -/
def CmdObj.accepts (c : CmdObj) (got : List Byte) : Bool :=
  decide (c.accept.1 < got.length) && ((got.getD c.accept.1 0).toNat &&& c.accept.2.1) == c.accept.2.2

/-- A GOOD frame of channel `k` in stripped form, with its descriptor time, offered to the transaction that
waits for its confirmation (R304, R305). A following device keeps its table from the partner's entries alone (R309), and
without authority no select is confirmed (R11, R308). -/
def State.confirm (s : State) (k : Nat) (got : List Byte) (time : W64) : State :=
  match s.openTxns.find? (fun n =>
      let x := s.txn n
      let c := s.cmdObj x.object
      !s.following && x.holds && x.channel == k && ((x.state == 3 && s.authority) || x.state == 6) && decide (x.lastBit.toNat < time.toNat)
        && matchRange c.m0 x.sent got && matchRange c.m1 x.sent got) with
  | none => s
  | some t =>
    let x := s.txn t
    let c := s.cmdObj x.object
    if x.state = 3 then
      if c.accepts got then
        let s := s.setTxn t { x with window := time }
        let s := s.txnGo t 4
        if x.hold then s else s.operateCheck t
      else s.endTxn t 10
    else if c.accepts got then s.operateConfirmed t else s.endTxn t 14

/-- The last bit of a transaction's frame has been sent (R304). -/
def State.frameSent (s : State) (t : Nat) : State :=
  let x := s.txn t
  if x.state = 2 ∨ x.state = 5 then
    (s.setTxn t { x with lastBit := s.stamp, start := s.stamp }).txnGo t (if x.state = 2 then 3 else 6)
  else s

/-- The port begins to send a transaction's frame: its tally and its form as sent are kept (R305, R306). -/
def State.frameBuilt (s : State) (t : Nat) (tally : Option Nat) (sent : List Byte) : State :=
  let x := s.txn t
  if x.state = 0 then s
  else s.setTxn t { x with sent := sent, tally := match tally with | some v => BitVec.ofNat 16 v | none => x.tally }

/-- A free transaction number, chosen by the device (R303 names none; log entry 37). -/
def State.pickTxn (s : State) : Nat :=
  let free := (List.range 4096).filter (fun n => !s.txns.any (fun e => e.1 == n))
  free.getD (Config.freeNat s.freeCtr % free.length) 0

/-- The first refusal code that applies to a request, or none (R303, R310). -/
def State.refusal (s : State) (n object : Nat) (clean : Bool) (selAddr selLen opAddr opLen : Nat) : Option Nat :=
  let c := s.cmdObj object
  let opener := s.r pPOINTS (crFld POINTS.CR_OWNER n)
  let img := fun (a l : Nat) => decide (1 ≤ l) && decide (l ≤ 4096) && s.inPart 2 a l
  if !s.dispatchOpen then some 2
  else if 4096 ≤ s.openTxns.length then some 3
  else if s.r pCOMMANDS COMMANDS.OBJ_COUNT ≤ object ∨ !c.en ∨ !s.chanOpens c.channel ∨ !c.valid ∨ !clean then some 4
  else if c.opener ≠ 0 ∧ c.opener ≠ opener then some 5
  else if !(img opAddr opLen && img selAddr selLen) then some 6
  else if s.openTxns.any (fun t => (s.txn t).object == object) then some 7
  else if !s.interlockOk c.interlock then some 8
  else none

/-- The accesses that make the dispatcher refuse a request of object `o` with a code, recorded (R46): the object's, its
channel's entry, its interlock's. -/
def State.refusalDeny (s : State) (o code : Nat) : State :=
  let a := s.r pCOMMANDS COMMANDS.OBJ_BASE + 64 * o
  let c := s.cmdObj o
  if code = 4 ∧ o < s.r pCOMMANDS COMMANDS.OBJ_COUNT then
    (if s.inPart 2 a 64 then s.chanDeny c.channel else s.cmdDeny (some a))
  else if code = 8 then s.cmdDeny (s.interlockDenied c.interlock) else s

/-- Result slots of ring `n` that open transactions have a claim on. -/
def State.claimed (s : State) (n : Nat) : Nat := (s.openTxns.filter (fun t => (s.txn t).ring == n)).length

/-- A command request taken from the next command ring that has a result slot free: a transaction opens, or
a refusal is written (R282, R283, R303, R310). A journal that stalls holds requests back (R476). -/
def State.commandRequest (s : State) (err : Bool) : State :=
  if !s.active pCOMMANDS || (s.appendRole && !s.journalReady) then s
  else match s.nextRing 1 s.points.nextCmd (fun n => decide (s.crResLevel n + s.claimed n < s.crSize n)) with
    | none => s
    | some n =>
      let s := s.memWait
      let s := { s with points := { s.points with nextCmd := (n + 1) % 16 } }
      let tail := s.r pPOINTS (crFld POINTS.CR_TAIL n)
      match (if err then none else s.ringRead n (s.r pPOINTS (crFld POINTS.CR_REQ_BASE n)) tail) with
      | none => s.ringFault n
      | some b =>
        let s := s.w pPOINTS (crFld POINTS.CR_TAIL n) (tail + 1)
        let w0 := fieldLE b 0 4
        let object := w0 % 65536
        let tag := BitVec.ofNat 32 (fieldLE b 4 4)
        let selAddr := fieldLE b 8 8
        let opAddr := fieldLE b 16 8
        let selLen := fieldLE b 24 2
        let opLen := fieldLE b 26 2
        let clean := decide (w0 < 2 ^ 17) && fieldLE b 28 4 == 0
        match s.refusal n object clean selAddr selLen opAddr opLen with
        | some code =>
          let j := Config.freeNat s.freeCtr
          (s.refusalDeny object code).fresh.resultEntry n 0xFFFF code 0 tag 0 object j
        | none =>
          let c := s.cmdObj object
          let t := s.pickTxn
          let x : Txn := { state := if c.mode = 1 then 8 else 1, object := object, ring := n
                           opener := BitVec.ofNat 8 (s.r pPOINTS (crFld POINTS.CR_OWNER n)), tag := tag
                           hold := nbit w0 16, channel := c.channel, opened := s.txnCount, start := s.stamp
                           selAddr := selAddr, selLen := selLen, opAddr := opAddr, opLen := opLen }
          let busy := s.channelHeld c.channel || s.channelQueued c.channel s.txnCount
          let s := ({ s.fresh with txnCount := s.txnCount + 1 } : State).setTxn t x
          let s := s.inc pCOMMANDS COMMANDS.OPENED
          if busy then s.cmdStep t 0xFF else s.grantChannel t

/-- A waiting transaction whose channel is free, with none opened before it waiting there, gets it (R304). -/
def State.channelGrant (s : State) (t : Nat) : State :=
  let x := s.txn t
  if (x.state = 1 ∨ x.state = 8) ∧ !s.channelHeld x.channel ∧ !s.channelQueued x.channel x.opened ∧ s.dispatchOpen
  then s.grantChannel t else s

/-- The moment a timer of `ms` milliseconds from `start` runs out. -/
def timerDue (x : Txn) (ms : Nat) : Nat :=
  match x.rearmed with
  | some e => e.toNat
  | none => x.start.toNat + ms * msTick

/-- SELECT_TO elapses (R304). The timers of transactions a following device mirrors end nothing there: entries
of the partner do (R309, R326). -/
def State.selectExpiry (s : State) (t : Nat) : State :=
  let x := s.txn t
  if (x.state = 1 ∨ x.state = 3) ∧ !s.following then
    (s.advanceTb (timerDue x (s.cmdObj x.object).selectTo)).endTxn t 9
  else s

/-- Less than OP_MARGIN of the window is left (R304). -/
def State.windowExpiry (s : State) (t : Nat) : State :=
  let x := s.txn t
  let c := s.cmdObj x.object
  if x.state = 4 ∧ !s.following then (s.advanceTb (x.window.toNat + (c.window - c.margin) * msTick + 1)).endTxn t 11 else s

/-- OPERATE_TO elapses (R304). -/
def State.operateExpiry (s : State) (t : Nat) : State :=
  let x := s.txn t
  if (x.state = 6 ∨ x.state = 8) ∧ !s.following then
    (s.advanceTb (timerDue x (s.cmdObj x.object).operateTo)).endTxn t 13
  else s

/-- The commit in hand was taken in this fc and gives the feedback point of `c` its value with good quality (R305). -/
def State.feedbackTaken (s : State) (c : CmdObj) : Bool :=
  match s.points.taken with
  | none => false
  | some k =>
    let r := s.pointRec k.point
    let v := if k.op = 2 then r.value else k.value.toNat
    let q := if k.op = 1 then r.quality else k.quality.toNat
    k.fc == s.fc && k.point == c.fbPoint && v == c.fbValue && !qualBad q

/-- FEEDBACK_TO elapses, in units of 10 ms; a feedback commit taken in the same fc completes the transaction (R301, R304,
R305). -/
def State.feedbackExpiry (s : State) (t : Nat) : State :=
  let x := s.txn t
  let c := s.cmdObj x.object
  if x.state = 7 ∧ !s.following then
    let s := s.advanceTb (timerDue x (10 * c.fbTo))
    s.endTxn t (if s.feedbackTaken c then 0 else 15)
  else s

/-- CANCEL and EXECUTE act on no transaction that a following device mirrors: its table follows the partner's entries
(R309; log entry 146). They are accepted from the transaction's opener or the COMMANDS page owner (R307). -/
def State.txnWriter (s : State) (t : Nat) (c : Code) : Bool :=
  let o := s.owner 0 pCOMMANDS
  o == 0 || c == o || ((s.txn t).state != 0 && c == (s.txn t).opener)

def State.cancelWrite (s : State) (w : Wr) : Eff :=
  let t := w.v % 4096
  let x := s.txn t
  w.require s (s.txnWriter t w.code) Ev.OWNER_DENY fun s =>
    w.require s (!s.following && (x.state == 1 || x.state == 3 || x.state == 4 || x.state == 8)) Ev.BAD_STATE fun s =>
      done (s.endTxn t 16)

def State.executeWrite (s : State) (w : Wr) : Eff :=
  let t := w.v % 4096
  let x := s.txn t
  w.require s (s.txnWriter t w.code) Ev.OWNER_DENY fun s =>
    w.require s (s.maySend && x.state == 4 && x.hold) Ev.BAD_STATE fun s => done (s.operateCheck t)

/-- The transmit context of the port's assist is mid-frame while a frame leaves (R268). -/
def State.txMid (s : State) (n : Nat) (on : Bool) : State :=
  let a := s.fpAssist n
  if a.cvEn && s.cvAttached a && (!on || s.cvUp a.unit) then s.ctxMid a.unit a.tx on else s

/-- TXD once a frame has been cut: mark after the character in hand, 1s after an abort; under NRZI the level the abort
leaves depends on where it fell (R249; log entry 144). -/
def State.txdCut (s : State) (n : Nat) : Bool :=
  s.r (pgFP n) FP.LINE_CFG_MODE != 2 || nbit (Config.freeNat s.freeCtr) 0

/-- A frame that is leaving is cut: its context is mid-frame no more, TXD rests. -/
def State.txCut (s : State) (n : Nat) : State :=
  if (s.fp n).phase = .sending then
    let s := s.txMid n false
    (s.setFp n { s.fp n with txd := s.txdCut n, lineFc := some s.fc }).fresh
  else s

/-- A field port cuts the dispatcher's frame it has in hand, deasserting PTT at once, and loses those that
wait (R308). -/
def State.cutDispatch (s : State) (n : Nat) : State :=
  let x := s.fp n
  let s := if x.txTxn.isSome && (x.phase == .notBefore || x.phase == .quiet || x.phase == .keyup || x.phase == .sending) then
      let s := s.txCut n
      let s := s.setFp n { s.fp n with
        phase := .idle, txTxn := none, txIn := [], txBytes := [], txLine := [], txFlags := 0, txTime := 0, dispQ := [] }
      if x.phase == .keyup || x.phase == .sending
      then (s.w (pgFP n) FP.STATUS_PTT 0).w (pgFP n) FP.STATUS_TX_ACTIVE 0 else s
    else s.setFp n { x with dispQ := [] }
  s

/-- What the dispatcher does when authority is lost (R308): frames withdrawn or cut, transactions in states
1 to 5 and 8 ended with FENCED. -/
def State.dispatchFence (s : State) : State :=
  let s := (List.range 16).foldl (fun t n => t.cutDispatch n) s
  let s := { s with host := { s.host with orQ := [] } }
  let s := s.openTxns.foldl (fun t n =>
    let st := (t.txn n).state
    if (1 ≤ st ∧ st ≤ 5) ∨ st = 8 then t.endTxn n 17 else t) s
  s.pendInt pCOMMANDS 2

/-- HEARTBEAT_OUT in level mode follows the role, or the role scheduled (R332). -/
def State.hbLevel (s : State) : State :=
  if s.b pMIRROR MIRROR.CFG_HB_MODE then
    let r := match s.mirror.scheduled with
      | some g => g.1
      | none => s.role
    { s with mirror := { s.mirror with hbOut := r == 0 && !s.fenced 0 pMIRROR } }
  else if s.authority then s
  else { s with mirror := { s.mirror with hbOut := false } }

/-- AUTHORITY set or cleared: HEARTBEAT_OUT of toggle mode is held low without it (R332); each change is reported, one from 1 to 0 fences the dispatcher (R328, R343). -/
def State.setAuthority (s : State) (on : Bool) : State :=
  let had := s.authority
  let s := s.w pMIRROR MIRROR.STATUS_AUTHORITY (b2n on)
  let s := (if had == on then s else s.pendInt pMIRROR 2).hbLevel
  if had && !on then s.dispatchFence else s

/-- A write to a block-specific register of COMMANDS (R307, R312). -/
def State.commandsWrite (s : State) (w : Wr) : Eff :=
  let cfg := fun (ok : Bool) =>
    if s.enabled pCOMMANDS then w.drop s Ev.BAD_STATE else w.require s ok Ev.BAD_VALUE (·.plain w)
  if w.off = 0x100 ∨ w.off = 0x110 then cfg (w.v % 64 == 0)
  else if w.off = 0x108 then cfg (decide (w.v % 131072 ≤ 65536))
  else if w.off = 0x118 then cfg true
  else if w.off = 0x120 then s.cancelWrite w
  else if w.off = 0x124 then s.executeWrite w
  else s.plain w

end Sys2Proof.Machine
end

