-- ==== Sys2Proof/Machine/Pins.lean ====
section
/-! DEFINITION. The multiplexed pins, GPIO, and the I2C and SPI controllers (R481 to R491). -/

namespace Sys2Proof.Machine

/-- The owner of pin `k`. -/
def State.pinOwner (s : State) (k : Nat) : Code := BitVec.ofNat 8 (s.r pPINS (PINS.MP_CFG_OWNER.at (4 * k)))

/-- A writer may change pin `k`'s bits (R487). -/
def State.pinAllows (s : State) (k : Nat) (c : Code) : Bool :=
  let o := s.pinOwner k
  o == 0 || c == o || c == 0x02

/-- A clash that has begun since `before` is shown (R484). -/
def State.pinConflicts (s before : State) : State :=
  (List.range 4).foldl (fun s i =>
    if s.pinClash i && !before.pinClash i then
      let s := s.w pPINS PINS.CONFLICT (s.r pPINS PINS.CONFLICT ||| 2 ^ i)
      (s.w pPINS PINS.STATUS_CONFLICT 1).pendInt pPINS 0
    else s) s

/-- The OWNER_DENY of the PINS page: writer, offset and the lowest pin (R33, R487). -/
def State.pinDeny (s : State) (w : Wr) (pin : Nat) : State :=
  s.accEvent 0 pPINS Ev.OWNER_DENY (mkDetail [(w.code.toNat, 0), (w.off, 8), (pin, 20)])

/-- A write of MPk_CFG: by the pin's owner; its OWNER field changes under R34 (R487, R491). -/
def State.pinCfgWrite (s : State) (w : Wr) (k : Nat) : Eff :=
  let old := s.r pPINS (PINS.MP_CFG.at (4 * k))
  let new := mergeWrite old w.v 0xFF0001F1 0
  let o : Code := BitVec.ofNat 8 (w.f (PINS.MP_CFG_OWNER.at (4 * k)))
  if !s.pinAllows k w.code then (if new = old then (s, false) else (s.pinDeny w k, false))
  else if nbit w.v 0 && !pinHasFunc k then w.drop s Ev.BAD_VALUE
  else if o != s.pinOwner k && (s.pinOwner k == 0xFF || !s.validOwner o) then (s.pinDeny w k, false)
  else
    let r := s.plain w
    (r.1.pinConflicts s, r.2)

/-- The pins of bank `b` whose bits `w` of a bank register would change and the writer may not (R487). -/
def State.pinBarred (s : State) (code : Code) (b want : Nat) : Option Nat :=
  (List.range 32).find? (fun j => nbit want j && !s.pinAllows (32 * b + j) code)

/-- The bits of bank `b` a writer may change. -/
def State.pinMask (s : State) (code : Code) (b : Nat) : Nat :=
  (List.range 32).foldl (fun m j => if s.pinAllows (32 * b + j) code then m + 2 ^ j else m) 0

/-- The level a write of a bank register asks for: OUT and OE take it, SET, CLR and TOG act on OUT (R487). -/
def gpioWant (rel old v : Nat) : Nat :=
  if rel = 4 then old ||| v
  else if rel = 8 then old &&& (0xFFFFFFFF ^^^ v)
  else if rel = 12 then old ^^^ v
  else v

/-- A write of a GPIO bank register: the bits of the writer's pins change, one OWNER_DENY for the others that
would have (R487). For SET, CLR and TOG a bit would change where it is written 1. -/
def State.gpioWrite (s : State) (w : Wr) (b rel : Nat) : Eff :=
  let f := if rel = 0x10 then PINS.GPIO_OE.at (0x20 * b) else PINS.GPIO_OUT.at (0x20 * b)
  let old := s.r pPINS f
  let v := w.v % 2 ^ 32
  let new := gpioWant rel old v
  let want := if rel = 0 ∨ rel = 0x10 then old ^^^ v else v
  let m := s.pinMask w.code b
  let s := match s.pinBarred w.code b want with
    | some j => s.pinDeny w (32 * b + j)
    | none => s
  done (s.w pPINS f ((old &&& (0xFFFFFFFF ^^^ m)) ||| (new &&& m)))

/-- Fields of I2C port `q` and SPI port `q`. -/
def i2cFld (f : Fld) (q : Nat) : Fld := f.at (0x20 * q)

/-- A write of an I2C register: only while EN is 1 but for CFG; CMD not while BUSY; GO starts (R490). -/
def State.i2cWrite (s : State) (w : Wr) (q rel : Nat) : Eff :=
  if rel = 0 then s.plain w
  else if !s.b pPINS (i2cFld PINS.I2C_CFG_EN q) then w.drop s Ev.BAD_STATE
  else if rel = 4 then
    if s.b pPINS (i2cFld PINS.I2C_STAT_BUSY q) then w.drop s Ev.BAD_STATE
    else
      let r := s.plain w
      if nbit w.v 31 then (r.1.w pPINS (i2cFld PINS.I2C_STAT q) 1, r.2) else r
  else s.plain w

/-- The transfer of I2C port `q` ends (R490): its STAT, the port's bus left open or stopped. -/
def State.i2cEnd (s : State) (q stat : Nat) (stop bad : Bool) : State :=
  let s := s.w pPINS (i2cFld PINS.I2C_STAT q) stat
  let s := if bad then s.w pPINS PINS.STATUS_I2C_ERROR 1 else s
  let open_ := s.pins.i2cOpen.filter (fun x => x != q)
  ({ s with pins := { s.pins with i2cOpen := if stop then open_ else open_ ++ [q] } } : State).pendInt pPINS 1

/-- I2C port `q`: every byte has moved, or a NACK ended it with a stop condition; a read lands in DATA. Without its pin SDA
is 1, and the address is not acknowledged (R484, R490). -/
def State.i2cDone (s : State) (q : Nat) (nack : Bool) (data : W32) : State :=
  if 4 ≤ q ∨ s.b pPINS (i2cFld PINS.I2C_STAT_BUSY q) = false then s
  else if nack || !s.pinIn (81 + 2 * q) then s.i2cEnd q 2 true true
  else
    let n := s.r pPINS (i2cFld PINS.I2C_CMD_LEN q) + 1
    let s := if s.b pPINS (i2cFld PINS.I2C_CMD_READ q)
      then s.w pPINS (i2cFld PINS.I2C_DATA q) (nset (s.r pPINS (i2cFld PINS.I2C_DATA q)) 0 (8 * n) data.toNat) else s
    s.i2cEnd q 0 (s.b pPINS (i2cFld PINS.I2C_CMD_STOP q)) false

/-- SCL held low for longer than 10 ms (R490); without its pin SCL is 1 (R484). -/
def State.i2cTimeout (s : State) (q : Nat) : State :=
  if 4 ≤ q ∨ s.b pPINS (i2cFld PINS.I2C_STAT_BUSY q) = false ∨ s.pinIn (80 + 2 * q) = false then s else s.i2cEnd q 4 true true

/-- A write of an SPI register (R490, R491). -/
def State.spiWrite (s : State) (w : Wr) (q rel : Nat) : Eff :=
  if rel = 0 then w.require s (nfld w.v 8 8 != 0) Ev.BAD_VALUE (fun s => s.plain w)
  else if !s.b pPINS (i2cFld PINS.SPI_CFG_EN q) then w.drop s Ev.BAD_STATE
  else if rel = 4 then
    if s.b pPINS (i2cFld PINS.SPI_STAT q) then w.drop s Ev.BAD_STATE
    else
      let r := s.plain w
      if nbit w.v 31 then (r.1.w pPINS (i2cFld PINS.SPI_STAT q) 1, r.2) else r
  else s.plain w

/-- SPI port `q` has shifted its bytes (R490); without its pin MISO is 0 (R484). -/
def State.spiDone (s : State) (q : Nat) (rx : W32) : State :=
  if 2 ≤ q ∨ s.b pPINS (i2cFld PINS.SPI_STAT q) = false then s
  else
    let n := s.r pPINS (i2cFld PINS.SPI_CMD_LEN q) + 1
    let rx := if s.pinIn (90 + 4 * q) then rx else 0
    let s := s.w pPINS (i2cFld PINS.SPI_RX q) (nset (s.r pPINS (i2cFld PINS.SPI_RX q)) 0 (8 * n) rx.toNat)
    let s := s.w pPINS (i2cFld PINS.SPI_STAT q) 0
    let rest := s.pins.spiHeld.filter (fun x => x != q)
    let held := if s.b pPINS (i2cFld PINS.SPI_CMD_HOLD_CS q) then rest ++ [q] else rest
    ({ s with pins := { s.pins with spiHeld := held } } : State).pendInt pPINS 2

/-- A bank's supply reads differently (R489). -/
def State.bankChange (s : State) (b : Nat) (v : BitVec 2) : State :=
  if 4 ≤ b ∨ s.mainUp = false ∨ v = 3 ∨ s.bankV b = v.toNat then s
  else
    let t := { s with pins := { s.pins with bankV := sset 0 s.pins.bankV b v } }
    ((t.w pPINS PINS.STATUS_BANK_CHANGE 1).pendInt pPINS 3).pinConflicts s

/-- A write to a PINS register past the checks of the page (R487, R490, R491). -/
def State.pinsWrite (s : State) (w : Wr) : Eff :=
  if 0x100 ≤ w.off ∧ w.off < 0x300 then s.pinCfgWrite w ((w.off - 0x100) / 4)
  else if 0x300 ≤ w.off ∧ w.off < 0x380 then
    let rel := (w.off - 0x300) % 0x20
    if rel = 0x14 then (s, false)
    else if rel ≤ 0x10 then s.gpioWrite w ((w.off - 0x300) / 0x20) rel else (s, false)
  else if 0x400 ≤ w.off ∧ w.off < 0x480 then
    let r := s.i2cWrite w ((w.off - 0x400) / 0x20) ((w.off - 0x400) % 0x20)
    (r.1.pinConflicts s, r.2)
  else if 0x500 ≤ w.off ∧ w.off < 0x540 then
    let r := s.spiWrite w ((w.off - 0x500) / 0x20) ((w.off - 0x500) % 0x20)
    (r.1.pinConflicts s, r.2)
  else s.plain w

/-- IDCODE: the stepping in [31:28], 0x9632 in [27:12]; the bits below are not given (R503). -/
def State.idcode (s : State) : Nat :=
  s.r pDEVICE DEVICE.VARIANT_STEPPING % 16 * 2 ^ 28 + 0x9632 * 2 ^ 12 + Config.freeNat s.freeCtr % 4096

/-- The level field port `n` drives on its pin `j`, TXD 0 or RTS/PTT/DE 2: TXD at mark while the port is idle, or what the
line last held between frames; while a frame leaves or flags fill the idle line TXD moves, and no one level stands (R244,
R247, R248). An asserted PTT is high unless inverted (DEDUCED; log entry 147). -/
def State.fpDrives (s : State) (n j : Nat) : Option Bool :=
  let p := pgFP n
  let x := s.fp n
  let rests := !s.active p || s.devState != stRUNNING
  if j = 2 then some (s.b p FP.STATUS_PTT != s.b p FP.LINE_CFG_PTT_INV)
  else if j ≠ 0 then none
  else if rests then some (!s.b p FP.LINE_CFG_TXD_INV)
  else if x.phase = .sending ∨ (s.r p FP.LINE_CFG_MODE ≠ 0 ∧ s.b p FP.LINE_CFG_IDLE_FLAGS) then none
  else some (x.txd != s.b p FP.LINE_CFG_TXD_INV)

/-- The level of pin `k` where the device gives it (R244, R332, R397, R481, R482, R486, R489): driven by GPIO, by its field
port, by its TDM port, or HEARTBEAT_OUT; before MAIN leaves reset every pin is an input. -/
def State.pinDrives (s : State) (k : Nat) : Option Bool :=
  if !s.mainUp || s.jtagTakes || s.bankV (k / 32) == 0 then none
  else if !s.pinHeld k then
    if nbit (s.r pPINS (PINS.GPIO_OE.at (0x20 * (k / 32)))) (k % 32)
    then some (nbit (s.r pPINS (PINS.GPIO_OUT.at (0x20 * (k / 32)))) (k % 32)) else none
  else if k < 64 then s.fpDrives (k / 4) (k % 4)
  else if k < 80 then s.tdmDrives ((k - 64) / 4) (k % 4)
  else if k = 113 then some s.mirror.hbOut
  else none

/-- GPIO_INb: what the bank's pins show (R488). A pin GPIO drives shows its own level, a wake-sensed pin the
level POWER shows; the levels of the others are the board's (log entry 3). -/
def State.gpioIn (s : State) (b : Nat) : Nat :=
  let ext := Config.freeNat s.freeCtr
  (List.range 32).foldl (fun v j =>
    let k := 32 * b + j
    let lvl := match s.pinDrives k with
      | some v => v
      | none => if 96 ≤ k ∧ k < 112 then nbit (s.r pPOWER POWER.WAKE_PIN_STATE) (k - 96)
      else nbit ext j
    v + b2n lvl * 2 ^ j) 0

end Sys2Proof.Machine
end

