-- ==== Sys2Proof/Machine/Compose.lean ====
section
/-! DEFINITION. What a pasture engine delivers for a line: tiles, bitmaps and sprites as colours, their
depth order, blending, matrix and tables (R94 to R117, R120 to R130, R164 to R170). -/

namespace Sys2Proof.Machine

/-- A mode (table "Standard modes"): active and total dots, active and total lines, fabric cycles per dot,
ticks per line, and the front porch, sync and back porch of a line in dots and of a frame in lines (R19, R194). -/
structure Mode where
  hAct : Nat
  hTot : Nat
  vAct : Nat
  vTot : Nat
  dot  : Nat
  tick : Nat
  hFront : Nat
  hSync  : Nat
  hBack  : Nat
  vFront : Nat
  vSync  : Nat
  vBack  : Nat
deriving DecidableEq, Repr

/-- The ten modes; the syncs of every one are positive (R194). -/
def modeOf (m : Nat) : Mode :=
  if m = 1 then ⟨1280, 1980, 720, 750, 24, 3960, 440, 40, 220, 5, 5, 20⟩
  else if m = 2 then ⟨1280, 1650, 720, 750, 24, 3300, 110, 40, 220, 5, 5, 20⟩
  else if m = 3 then ⟨1920, 2640, 1080, 1125, 12, 2640, 528, 44, 148, 4, 5, 36⟩
  else if m = 4 then ⟨1920, 2200, 1080, 1125, 12, 2200, 88, 44, 148, 4, 5, 36⟩
  else if m = 5 then ⟨1920, 2200, 1080, 1125, 6, 1100, 88, 44, 148, 4, 5, 36⟩
  else if m = 6 then ⟨3840, 5500, 2160, 2250, 6, 2750, 1276, 88, 296, 8, 10, 72⟩
  else if m = 7 then ⟨3840, 5280, 2160, 2250, 6, 2640, 1056, 88, 296, 8, 10, 72⟩
  else if m = 8 then ⟨3840, 4400, 2160, 2250, 6, 2200, 176, 88, 296, 8, 10, 72⟩
  else if m = 9 then ⟨3840, 5280, 2160, 2250, 3, 1320, 1056, 88, 296, 8, 10, 72⟩
  else ⟨3840, 4400, 2160, 2250, 3, 1100, 176, 88, 296, 8, 10, 72⟩

/-- HSYNC and VSYNC are active high at a dot of a line (R194). -/
def Mode.hSyncAt (m : Mode) (dot : Nat) : Bool :=
  decide (m.hAct + m.hFront ≤ dot) && decide (dot < m.hAct + m.hFront + m.hSync)
def Mode.vSyncAt (m : Mode) (line : Nat) : Bool :=
  decide (m.vAct + m.vFront ≤ line) && decide (line < m.vAct + m.vFront + m.vSync)

/-- Fabric cycles, and compose cycles, of a line (R19). -/
def Mode.lineFc (m : Mode) : Nat := m.hTot * m.dot
def Mode.lineCc (m : Mode) : Nat := 2 * m.lineFc
def Mode.frameTicks (m : Mode) : Nat := m.tick * m.vTot

/-- The mode of head `n`. -/
def State.mode (s : State) (n : Nat) : Mode := modeOf (s.r (pgHEAD n) HEAD.MODE)

/-- A pixel on its way to the blender: 12-bit channels, 8-bit alpha (R98). -/
structure Px where
  r : Nat
  g : Nat
  b : Nat
  a : Nat
deriving DecidableEq, Repr

/-- A channel of `w` bits widened to 12 by bit replication (R98). -/
def widen (w v : Nat) : Nat :=
  if w = 10 then v * 4 + v / 256
  else if w = 8 then v * 16 + v / 16
  else if w = 6 then v * 64 + v
  else if w = 5 then v * 128 + v * 4 + v / 8
  else v

/-- A 30-bit colour word [29:20] red, [19:10] green, [9:0] blue, widened (R98, R165). -/
def colour30 (v a : Nat) : Px :=
  { r := widen 10 (nfld v 20 10), g := widen 10 (nfld v 10 10), b := widen 10 (nfld v 0 10), a := a }

/-- A palette entry as a pixel (R103). -/
def paletteEntry (e : W64) : Px := colour30 e.toNat (nfld e.toNat 32 8)

/-- A direct-colour pixel of format 3, 4 or 5 (R97, R98). -/
def directPixel (fmt v : Nat) : Px :=
  if fmt = 3 then
    { r := widen 5 (nfld v 11 5), g := widen 6 (nfld v 5 6), b := widen 5 (nfld v 0 5), a := 255 }
  else if fmt = 4 then
    { r := widen 8 (nfld v 16 8), g := widen 8 (nfld v 8 8), b := widen 8 (nfld v 0 8), a := nfld v 24 8 }
  else colour30 v (nfld v 30 2 * 85)

/-- The alpha product of R99. -/
def mulAlpha (a layer : Nat) : Nat := (a * layer + 127) / 255

/-- Bits per pixel of a format (table "Tile formats"), and index bits of an indexed one (R102). -/
def fmtBits (fmt : Nat) : Nat :=
  if fmt = 0 then 2 else if fmt = 1 then 4 else if fmt = 2 then 8 else if fmt = 3 then 16
  else if fmt = 8 ∨ fmt = 10 then 8 else if fmt = 9 then 16 else 32

/-- A layer's registers in one record (table "PEnn layer registers"). -/
structure Layer where
  en : Bool
  bitmap : Bool
  fmt : Nat
  tsize : Nat
  wrapX : Nat
  wrapY : Nat
  key0 : Bool
  blinkMode : Bool
  prio : Bool
  scale : Bool
  matrix : Nat
  range : Bool
  alpha : Nat
  palBase : Nat
  base0 : Nat
  base1 : Nat
  pitch : Nat
  w : Nat
  h : Nat
  scrollX : Nat
  scrollY : Nat
  x0 : Nat
  x1 : Nat
  y0 : Nat
  y1 : Nat
  zoomX : Nat
  zoomY : Nat
  stepX : Nat
  stepY : Nat
  phaseX : Nat
  phaseY : Nat
deriving DecidableEq, Repr

/-- Layer `l`, its registers read through `g`. -/
def layerOf (g : Fld → Nat) (l : Nat) : Layer :=
  let f := fun (x : Fld) => g (x.at (0x80 * l))
  let b := fun (x : Fld) => f x != 0
  { en := b PE.LCTRL_EN, bitmap := b PE.LCTRL_KIND, fmt := f PE.LCTRL_FORMAT, tsize := f PE.LCTRL_TSIZE
    wrapX := f PE.LCTRL_WRAP_X, wrapY := f PE.LCTRL_WRAP_Y, key0 := b PE.LCTRL_KEY0
    blinkMode := b PE.LCTRL_BLINK_MODE, prio := b PE.LCTRL_PRIO, scale := b PE.LCTRL_SCALE
    matrix := f PE.LCTRL_MATRIX, range := b PE.LCTRL_RANGE, alpha := f PE.LALPHA_ALPHA
    palBase := f PE.LALPHA_PAL_BASE, base0 := f PE.BASE0, base1 := f PE.BASE1, pitch := f PE.PITCH
    w := f PE.SIZE_W, h := f PE.SIZE_H, scrollX := f PE.SCROLL_X, scrollY := f PE.SCROLL_Y
    x0 := f PE.WIN_X_X0, x1 := f PE.WIN_X_X1, y0 := f PE.WIN_Y_Y0, y1 := f PE.WIN_Y_Y1
    zoomX := f PE.ZOOM_X, zoomY := f PE.ZOOM_Y, stepX := f PE.STEP_X, stepY := f PE.STEP_Y
    phaseX := f PE.PHASE_X, phaseY := f PE.PHASE_Y }

/-- The latch checks a layer fails, by reason code (R109, table "Layer limits"). -/
def Layer.faults (l : Layer) : List Nat :=
  if !l.bitmap then
    (if l.base0 % 4096 = 0 then [] else [3])
    ++ (if 1 ≤ l.w ∧ l.w ≤ 4096 ∧ 1 ≤ l.h ∧ l.h ≤ 4096 then [] else [4])
    ++ (if l.w * 4 ≤ l.pitch then [] else [1])
  else
    (if l.w ≠ 0 ∧ l.h ≠ 0 then [] else [4])
    ++ (if l.w * (fmtBits l.fmt / 8) ≤ l.pitch then [] else [1])
    ++ (if ((l.fmt = 8 ∨ l.fmt = 9) ∧ (l.w % 2 ≠ 0 ∨ l.h % 2 ≠ 0)) ∨ (l.fmt = 10 ∧ l.w % 2 ≠ 0) then [2] else [])

/-- Window pixels of a layer on active line `y` (R117); none where the window misses the line. -/
def Layer.width (l : Layer) (m : Mode) (y : Nat) : Nat :=
  if l.y0 ≤ y ∧ y ≤ l.y1 ∧ y < m.vAct then min (l.x1 + 1) m.hAct - l.x0 else 0

/-- Its part of the line's cost (R117). -/
def Layer.cost (l : Layer) (m : Mode) (y : Nat) : Nat :=
  let w := l.width m y
  if w = 0 then 0 else w * (if l.bitmap && l.scale then 2 else 1) + 128

/-- One axis of a layer (R105); none = OUTSIDE. -/
def axis (c len mode : Nat) : Option Nat :=
  if c < len then some c
  else if mode = 0 then some (c % len)
  else if mode = 2 then some (len - 1)
  else none

/-- A sprite record decoded (R120). -/
structure Sprite where
  x : Int
  y : Int
  zx : Nat
  zy : Nat
  src : Nat
  fmt : Nat
  key0 : Bool
  w : Nat
  h : Nat
  sw : Nat
  hflip : Bool
  vflip : Bool
  blink : Nat
  alpha : Nat
  pal : Nat
  slot : Nat
  pplane : Bool
  rsvd : Nat
  en : Bool
deriving DecidableEq, Repr

/-- Sprite `i` from its four words. -/
def spriteOf (word : Nat → Nat) (i : Nat) : Sprite :=
  let w0 := word (4 * i)
  let w1 := word (4 * i + 1)
  let w2 := word (4 * i + 2)
  let w3 := word (4 * i + 3)
  { x := signed 14 (nfld w0 0 14), zx := 2 ^ nfld w0 14 2, y := signed 14 (nfld w0 16 14), zy := 2 ^ nfld w0 30 2
    src := nfld w1 0 28, fmt := nfld w1 28 3, key0 := nbit w1 31
    w := nfld w2 0 9, h := nfld w2 9 9, sw := nfld w2 18 9, hflip := nbit w2 27, vflip := nbit w2 28
    blink := nfld w2 29 3, alpha := nfld w3 0 8, pal := nfld w3 8 8, slot := nfld w3 16 4
    pplane := nbit w3 20, rsvd := nfld w3 21 10, en := nbit w3 31 }

/-- The checks of R127 that a record fails, by reason code. -/
def Sprite.faults (p : Sprite) : List Nat :=
  (if 6 ≤ p.fmt then [1] else []) ++ (if p.sw = 0 then [2] else []) ++ (if p.sw < p.w then [3] else [])
    ++ (if 8 < p.slot then [4] else []) ++ (if p.rsvd = 0 then [] else [5])

/-- Y and H cover line `y` (R125). -/
def Sprite.covers (p : Sprite) (y : Nat) : Bool :=
  decide (1 ≤ p.h) && decide (p.y ≤ y) && decide ((y : Int) ≤ p.y + p.h * p.zy - 1)

/-- It reaches into the active columns (R125). -/
def Sprite.inView (p : Sprite) (m : Mode) : Bool :=
  decide (1 ≤ p.w) && decide (p.x ≤ (m.hAct : Int) - 1) && decide (0 ≤ p.x + p.w * p.zx - 1)

/-- Drawn width clipped to the active area (R130). -/
def Sprite.width (p : Sprite) (m : Mode) : Nat :=
  (min (p.x + p.w * p.zx) m.hAct - max p.x 0).toNat

/-- What the composition of one line reads: the engine's latched state and its registers. -/
structure Line where
  y : Nat
  layers : List (Nat × Layer)
  sprites : List Sprite            -- index order
  blinkOff : Nat
  sprBase : Nat
  blend : Nat
  linear : Bool
  cmat : Bool
  gam : Bool
  bank : Nat
  bg : Nat
  coef : List Int
  offs : List Int

/-- The composition context of engine state `n` as its registers stand, with the latched parts of `e`. -/
def State.lineCtx (s : State) (n : Nat) (e : Engine) (y : Nat) : Line :=
  let g := fun (f : Fld) => s.r (pgPE n) f
  let count := min (g PE.PE_CFG) 8
  let ls := (List.range count).filterMap fun l =>
    if e.invalid.contains l then none
    else
      let x := layerOf g l
      if x.en && decide (x.y0 ≤ y) && decide (y ≤ x.y1) then some (l, x) else none
  let word := fun (w : Nat) => (sget (0 : W32) s.flock (n * 4096 + w)).toNat
  let c := fun (f : Fld) => signed 16 (g f)
  let o := fun (f : Fld) => signed 13 (g f)
  { y := y, layers := ls, sprites := e.sprites.map (spriteOf word), blinkOff := e.blinkOff.toNat
    sprBase := g PE.SPR_BASE, blend := g PE.BLEND, linear := g PE.COMP_CFG_LINEAR != 0
    cmat := g PE.COMP_CFG_CMAT_EN != 0, gam := g PE.COMP_CFG_GAM_EN != 0, bank := b2n e.lutBank
    bg := g PE.BG_COLOUR
    coef := [c PE.CMAT0_C00, c PE.CMAT0_C01, c PE.CMAT1_C02, c PE.CMAT1_C10, c PE.CMAT2_C11, c PE.CMAT2_C12,
             c PE.CMAT3_C20, c PE.CMAT3_C21, c PE.CMAT4]
    offs := [o PE.COFF0_O0, o PE.COFF0_O1, o PE.COFF1] }

/-- An engine's read for a line: none where it is refused or returned an error (R110); a granule written
since the line start gives its old or its new content (R112). -/
def State.fetch (s : State) (e : Engine) (a n : Nat) : Option Nat :=
  if e.bad.contains (a / 64) || !s.inPart 1 a n then none
  else
    let old := memRead e.startMem a n
    let new := memRead s.mem a n
    some (leNat (if old = new then new else if Config.granuleNew s.freeCtr (a / 64) then new else old))

/-- Pixel `col` of a row of packed pixels at address `row` (R96, R97). -/
def State.sample (s : State) (e : Engine) (row col bpp : Nat) : Option Nat :=
  if bpp < 8 then
    (s.fetch e (row + col * bpp / 8) 1).map fun v => nfld v (col % (8 / bpp) * bpp) bpp
  else s.fetch e (row + col * (bpp / 8)) (bpp / 8)

/-- An indexed value looked up (R102, R103); none = keyed out. -/
def State.indexed (s : State) (n base p : Nat) (key0 : Bool) : Option Px :=
  if key0 && p == 0 then none
  else some (paletteEntry (sget 0 s.palette (n * 4096 + (base + p) % 4096)))

/-- A stored sample as a colour, formats 0 to 5. -/
def State.toColour (s : State) (n fmt base : Nat) (key0 : Bool) (p : Nat) : Option Px :=
  if fmt ≤ 2 then s.indexed n base p key0 else some (directPixel fmt p)

/-- Coefficients in ten-thousandths: Cr in red, Cb and Cr in green, Cb in blue (table "YUV matrices"). -/
def yuvCoef (matrix : Nat) : Int × Int × Int × Int :=
  if matrix = 0 then (14020, -3441, -7141, 17720)
  else if matrix = 1 then (15748, -1873, -4681, 18556)
  else (14746, -1646, -5714, 18814)

/-- One channel within 2 units of the exact value (R107). `kb` and `kr` are its chroma coefficients. -/
def yuvChan (sel : Nat) (full : Bool) (kb kr : Int) (y cb cr : Nat) : Nat :=
  let den : Int := if full then 1023 * 10000 else 876 * 896 * 10000
  let c := kb * ((cb : Int) - 512) + kr * ((cr : Int) - 512)
  let num : Int := 4095 * (if full then (y : Int) * 10000 + c else ((y : Int) - 64) * 896 * 10000 + 876 * c)
  let v := num / den - 2 + (Config.yuvRound sel y cb cr % 5 : Nat)
  let v := if v * den + 2 * den < num then v + 1 else v
  (clampI 0 4095 v).toNat

/-- A YUV sample as a colour (R107). -/
def yuvPixel (matrix : Nat) (full : Bool) (y cb cr : Nat) : Px :=
  let k := yuvCoef matrix
  let sel := fun (c : Nat) => c + 4 * matrix + 16 * b2n full
  { r := yuvChan (sel 0) full 0 k.1 y cb cr, g := yuvChan (sel 1) full k.2.1 k.2.2.1 y cb cr
    b := yuvChan (sel 2) full k.2.2.2 0 y cb cr, a := 255 }

/-- The source pixel (sx, sy) of a bitmap layer as a colour (R102, R103, R106, R107); none = transparent. -/
def State.bitmapPixel (s : State) (n : Nat) (e : Engine) (l : Layer) (sx sy : Nat) : Option Px :=
  if l.fmt ≤ 5 then
    (s.sample e (l.base0 + sy * l.pitch) sx (fmtBits l.fmt)).bind (s.toColour n l.fmt (l.palBase * 256) l.key0)
  else
    let size := if l.fmt = 9 then 2 else 1
    let ten := fun (v : Nat) => if l.fmt = 9 then v / 64 else v * 4
    let cy := if l.fmt = 10 then sy else sy / 2
    let c := l.base1 + cy * l.pitch + sx / 2 * 2 * size
    match s.fetch e (l.base0 + sy * l.pitch + sx * size) size, s.fetch e c size, s.fetch e (c + size) size with
    | some y, some cb, some cr => some (yuvPixel l.matrix l.range (ten y) (ten cb) (ten cr))
    | _, _, _ => none

/-- Four taps weighted and rounded to nearest, halves up (R108). -/
def lerp4 (fx fy a b c d : Nat) : Nat :=
  ((a * (256 - fx) + b * fx) * (256 - fy) + (c * (256 - fx) + d * fx) * fy + 32768) / 65536

/-- A bitmap layer's pixel (R108); none = transparent. -/
def State.bitmapAt (s : State) (n : Nat) (e : Engine) (l : Layer) (x y : Nat) : Option Px :=
  let at2 := fun (cx cy : Nat) => match axis cx l.w l.wrapX, axis cy l.h l.wrapY with
    | some sx, some sy => s.bitmapPixel n e l sx sy
    | _, _ => none
  if !l.scale then at2 (l.scrollX + (x - l.x0) / l.zoomX) (l.scrollY + (y - l.y0) / l.zoomY)
  else
    let u := l.phaseX + (x - l.x0) * l.stepX
    let v := l.phaseY + (y - l.y0) * l.stepY
    let cx := l.scrollX + u / 65536
    let cy := l.scrollY + v / 65536
    let fx := u / 256 % 256
    let fy := v / 256 % 256
    let tap := fun (k : Nat) => match at2 (cx + k % 2) (cy + k / 2) with
      | some p => p
      | none => let z := fun c => Config.clearTap s.freeCtr x y (4 * k + c) % 4096
                { r := z 0, g := z 1, b := z 2, a := 0 }
    let t0 := tap 0
    let t1 := tap 1
    let t2 := tap 2
    let t3 := tap 3
    let q := lerp4 fx fy
    some { r := q t0.r t1.r t2.r t3.r, g := q t0.g t1.g t2.g t3.g, b := q t0.b t1.b t2.b t3.b, a := q t0.a t1.a t2.a t3.a }

/-- Width of a tile in pixels, and its size in bytes (R96). -/
def Layer.side (l : Layer) : Nat := 8 * 2 ^ l.tsize
def Layer.tileBytes (l : Layer) : Nat := l.side * l.side * fmtBits l.fmt / 8

/-- The map pixel under (x, y); none = OUTSIDE (R105). -/
def Layer.cell (l : Layer) (x y : Nat) : Option (Nat × Nat) :=
  match axis (x - l.x0 + l.scrollX) (l.w * l.side) l.wrapX, axis (y - l.y0 + l.scrollY) (l.h * l.side) l.wrapY with
  | some mx, some my => some (mx, my)
  | _, _ => none

/-- Address of the map entry of a map pixel (R101). -/
def Layer.entryAt (l : Layer) (mx my : Nat) : Nat := l.base1 + my / l.side * l.pitch + mx / l.side * 4

/-- The tile a map entry shows in the blink phases of the line; none = hidden (R104). -/
def Layer.shown (l : Layer) (blinkOff en : Nat) : Option Nat :=
  let cls := nfld en 29 3
  let off := cls != 0 && nbit blinkOff cls
  if off && !l.blinkMode then none
  else some (if off then nfld en 0 20 ^^^ 1 else nfld en 0 20)

/-- A tile layer's pixel and its plane (R105); none = transparent. -/
def State.tileAt (s : State) (n : Nat) (e : Engine) (blinkOff : Nat) (l : Layer) (x y : Nat) : Option (Px × Bool) :=
  let w := l.side
  match l.cell x y with
  | some (mx, my) =>
    (s.fetch e (l.entryAt mx my) 4).bind fun en =>
      let tx := if nbit en 26 then w - 1 - mx % w else mx % w
      let ty := if nbit en 27 then w - 1 - my % w else my % w
      (l.shown blinkOff en).bind fun t =>
        let bpp := fmtBits l.fmt
        let row := l.base0 + t * l.tileBytes + ty * w * bpp / 8
        ((s.sample e row tx bpp).bind
          (s.toColour n l.fmt (l.palBase * 256 + nfld en 20 6 * 2 ^ bpp) l.key0)).map fun p => (p, nbit en 28)
  | none => none

/-- Layer `l`'s pixel at (x, y) inside its window, with its alpha applied, and its plane (R99, R104). -/
def State.layerAt (s : State) (n : Nat) (e : Engine) (c : Line) (l : Layer) (x : Nat) : Option (Px × Bool) :=
  if x < l.x0 ∨ l.x1 < x then none
  else
    let p := if l.bitmap then (s.bitmapAt n e l x c.y).map (fun p => (p, l.prio)) else s.tileAt n e c.blinkOff l x c.y
    p.bind fun q =>
      let a := mulAlpha q.1.a l.alpha
      if a = 0 then none else some ({ q.1 with a := a }, q.2)

/-- Address of the graphic row a sprite shows on line `y`, and the column it shows at `x` (R121, R122). -/
def Sprite.rowAt (p : Sprite) (base y : Nat) : Nat :=
  let row := ((y : Int) - p.y).toNat / p.zy
  base + p.src * 64 + (if p.vflip then p.h - 1 - row else row) * ((p.sw * fmtBits p.fmt + 31) / 32 * 4)

def Sprite.colAt (p : Sprite) (x : Nat) : Nat :=
  let col := ((x : Int) - p.x).toNat / p.zx
  if p.hflip then p.w - 1 - col else col

/-- A sprite's pixel at (x, y) (R121 to R123). -/
def State.spriteAt (s : State) (n : Nat) (e : Engine) (c : Line) (p : Sprite) (x : Nat) : Option Px :=
  if (x : Int) < p.x ∨ p.x + p.w * p.zx ≤ (x : Int) ∨ (p.blink ≠ 0 ∧ nbit c.blinkOff p.blink) then none
  else
    let bpp := fmtBits p.fmt
    ((s.sample e (p.rowAt c.sprBase c.y) (p.colAt x) bpp).bind (s.toColour n p.fmt (p.pal * 2 ^ bpp) p.key0)).bind
      fun q =>
        let a := mulAlpha q.a p.alpha
        if a = 0 then none else some { q with a := a }

/-- Blending of one channel (R166). -/
def blend (mode src a d : Nat) : Nat :=
  if mode = 0 then (src * a + d * (255 - a) + 127) / 255
  else if mode = 1 then min 4095 (d + (src * a + 127) / 255)
  else
    let p := (src * d + 2047) / 4095
    let k := if mode = 2 then p else src + d - p
    (k * a + d * (255 - a) + 127) / 255

def Px.over (mode : Nat) (p d : Px) : Px :=
  { r := blend mode p.r p.a d.r, g := blend mode p.g p.a d.g, b := blend mode p.b p.a d.b, a := 255 }

/-- Q10 (R169). -/
def q10 (v : Nat) : Nat := (v * 1023 + 2047) / 4095

/-- An entry of a lookup table (R167, R170): bank, table, index. -/
def lutKey (n bank table i : Nat) : Nat := (n * 8 + bank * 4 + table) * 4096 + i % 4096
def State.lutAt (s : State) (n bank table i : Nat) : Nat :=
  (sget (BitVec.ofNat 12 i) s.lut (lutKey n bank table i)).toNat

/-- One output of the colour matrix (R168). -/
def matrixOut (c : List Int) (o : Int) (p : Px) : Nat :=
  (clampI 0 4095 ((c.getD 0 0 * p.r + c.getD 1 0 * p.g + c.getD 2 0 * p.b + 2048) / 4096 + o)).toNat

/-- A colour through the degamma table where LINEAR is set (R164, R167). -/
def State.toLinear (s : State) (n : Nat) (c : Line) (p : Px) : Px :=
  if c.linear then { p with r := s.lutAt n c.bank 0 p.r, g := s.lutAt n c.bank 0 p.g, b := s.lutAt n c.bank 0 p.b }
  else p

/-- The source pixels of one plane over `d`, sprites and layers by slot, lowest first (R128, R129). -/
def State.plane (s : State) (n : Nat) (c : Line) (high : Bool) (ls : List (Nat × Px × Bool)) (ps : List (Sprite × Px))
    (d : Px) : Px :=
  let sm := if high then nfld c.blend 18 2 else nfld c.blend 16 2
  (List.range 9).foldl (fun d k =>
    let d := (ps.filter (fun q => q.1.slot == k && q.1.pplane == high)).reverse.foldl
      (fun d q => (s.toLinear n c q.2).over sm d) d
    match ls.find? (fun q => q.1 == k) with
    | some q => if q.2.2 == high then (s.toLinear n c q.2.1).over (nfld c.blend (2 * k) 2) d else d
    | none => d) d

/-- One composed pixel, [29:20] red, [19:10] green, [9:0] blue (R164). -/
def State.composePixel (s : State) (n : Nat) (e : Engine) (c : Line) (x : Nat) : W32 :=
  let ls := c.layers.filterMap fun l => (s.layerAt n e c l.2 x).map fun p => (l.1, p)
  let ps := c.sprites.filterMap fun p => (s.spriteAt n e c p x).map fun q => (p, q)
  let d := s.toLinear n c (colour30 c.bg 255)
  let d := s.plane n c true ls ps (s.plane n c false ls ps d)
  let d := if c.cmat then
      { d with r := matrixOut c.coef (c.offs.getD 0 0) d, g := matrixOut (c.coef.drop 3) (c.offs.getD 1 0) d
               b := matrixOut (c.coef.drop 6) (c.offs.getD 2 0) d }
    else d
  let d := if c.gam then
      { d with r := s.lutAt n c.bank 1 d.r, g := s.lutAt n c.bank 2 d.g, b := s.lutAt n c.bank 3 d.b }
    else d
  BitVec.ofNat 32 (q10 d.r * 2 ^ 20 + q10 d.g * 2 ^ 10 + q10 d.b)

/-- The pixels of active line `y` (R164): engine state `n`, latched parts and reads of `e`. -/
def State.composeLine (s : State) (n : Nat) (e : Engine) (m : Mode) (y : Nat) : List W32 :=
  let c := s.lineCtx n e y
  (List.range m.hAct).map (s.composePixel n e c)

/-! ### The granules a line reads (R116, R124) -/

/-- One 64-byte granule a line needs: what it belongs to, its number, and the lines `lo` to `hi` of the tile it is
part of. -/
structure Need where
  kind : FetchKind
  line : Nat
  lo   : Nat
  hi   : Nat
deriving DecidableEq, Repr

/-- The granules of one pixel column of a layer. -/
def State.layerNeeds (s : State) (e : Engine) (c : Line) (l : Layer) (x : Nat) : List Need :=
  let one := fun (k : FetchKind) (a : Nat) => ({ kind := k, line := a / 64, lo := a / 64, hi := a / 64 } : Need)
  if !l.bitmap then
    match l.cell x c.y with
    | none => []
    | some (mx, my) =>
      let a := l.entryAt mx my
      one .map a :: (match (s.fetch e a 4).bind (l.shown c.blinkOff) with
        | none => []
        | some t =>
          let lo := (l.base0 + t * l.tileBytes) / 64
          let n := (l.tileBytes + 63) / 64
          (List.range n).map fun i => { kind := .tile, line := lo + i, lo := lo, hi := lo + n - 1 })
  else
    let size := fmtBits l.fmt / 8
    let at2 := fun (cx cy : Nat) => match axis cx l.w l.wrapX, axis cy l.h l.wrapY with
      | some sx, some sy =>
        if l.fmt ≤ 5 then [one .bitmap (l.base0 + sy * l.pitch + sx * size)]
        else
          let k := l.base1 + (if l.fmt = 10 then sy else sy / 2) * l.pitch + sx / 2 * 2 * size
          [one .bitmap (l.base0 + sy * l.pitch + sx * size), one .bitmap k, one .bitmap (k + size)]
      | _, _ => []
    if !l.scale then at2 (l.scrollX + (x - l.x0) / l.zoomX) (l.scrollY + (c.y - l.y0) / l.zoomY)
    else
      let cx := l.scrollX + (l.phaseX + (x - l.x0) * l.stepX) / 65536
      let cy := l.scrollY + (l.phaseY + (c.y - l.y0) * l.stepY) / 65536
      (List.range 4).flatMap fun k => at2 (cx + k % 2) (cy + k / 2)

/-- Every granule line `c` reads through the layers and sprites it composes, each once (R94, R116, R124). -/
def State.lineNeeds (s : State) (e : Engine) (m : Mode) (c : Line) : List Need :=
  let ls := c.layers.flatMap fun l =>
    (List.range (min (l.2.x1 + 1) m.hAct - l.2.x0)).flatMap fun i => s.layerNeeds e c l.2 (l.2.x0 + i)
  let ps := c.sprites.flatMap fun p =>
    if p.blink ≠ 0 ∧ nbit c.blinkOff p.blink then []
    else (List.range (p.width m)).map fun i =>
      let x := (max p.x 0).toNat + i
      let a := p.rowAt c.sprBase c.y + p.colAt x * fmtBits p.fmt / 8
      { kind := .tile, line := a / 64, lo := a / 64, hi := a / 64 }
  (ls ++ ps).eraseDups

/-- A cache holds a granule. -/
def Cache.holds (x : Cache) (d : Need) : Bool :=
  match d.kind with
  | .tile => x.tiles.contains d.line
  | .map => x.maps.contains d.line
  | .bitmap => x.rows.contains d.line

/-- Lines of the tile cache (256 KiB) and of the map cache (64 KiB). -/
def tileLines : Nat := 4096
def mapLines : Nat := 1024

/-- A granule enters its cache; the least recently used one gives way. -/
def Cache.enter (x : Cache) (d : Need) : Cache :=
  match d.kind with
  | .tile => { x with tiles := (d.line :: x.tiles).take tileLines }
  | .map => { x with maps := (d.line :: x.maps).take mapLines }
  | .bitmap => { x with rows := d.line :: x.rows }

/-- A line has used its granules: tiles by last use, and of maps and bitmaps what the line used (R116). -/
def Cache.used (x : Cache) (ds : List Need) : Cache :=
  let lines := fun (k : FetchKind) (have_ : List Nat) =>
    ((ds.filter (fun d => d.kind == k)).map (·.line)).filter (fun l => have_.contains l)
  let ts := lines .tile x.tiles
  { tiles := ts ++ x.tiles.filter (fun l => !ts.contains l), maps := lines .map x.maps, rows := lines .bitmap x.rows }

end Sys2Proof.Machine
end

