-- ==== Sys2Proof/Machine/Lines.lean ====
section
/-! DEFINITION. Line starts and completions of the pasture engines: pending copies, queues, line lists, sprite
evaluation, the latch; and the writes of the engines' pages (R109 to R117, R125 to R136, R141 to R161, R170). -/

namespace Sys2Proof.Machine

/-- The engine serving head `h` (HEAD_STAT.SERVED_BY). -/
def State.servedBy (s : State) (h : Nat) : Nat := s.r (pgHEAD h) HEAD.HEAD_STAT_SERVED_BY

/-- The relief rotation's phase and head (REL_STAT). -/
def State.relPhase (s : State) : Nat := s.r (pgPE 32) PE.REL_STAT_PHASE
def State.relHead (s : State) : Nat := s.r (pgPE 32) PE.REL_STAT_HEAD

/-- Phases of REL_STAT. -/
abbrev ph.IDLE : Nat := 0
abbrev ph.WARM : Nat := 1
abbrev ph.COMPARE : Nat := 2
abbrev ph.TEST : Nat := 3
abbrev ph.RETURN : Nat := 4
abbrev ph.PARKED : Nat := 5
abbrev ph.SELF_TEST : Nat := 6
abbrev ph.STOPPED : Nat := 7

/-- The head an engine serves. -/
def State.headOf (s : State) (e : Nat) : Option Nat :=
  if e < 32 then (if s.servedBy e = e then some e else none)
  else if s.servedBy s.relHead = 32 then some s.relHead else none

/-- The head whose lines an engine builds, serving or in parallel: engine state `n` is PEn's (R215). -/
def State.stateOf (s : State) (e : Nat) : Nat := if e < 32 then e else s.relHead

def State.beam (s : State) (h : Nat) : Nat := s.r (pgHEAD h) HEAD.BEAM_LINE

/-- The compose frame of line `c` (R142). -/
def State.composeFrame (s : State) (h c : Nat) : BitVec 48 :=
  if s.beam h ≤ c then (s.hd h).frame else (s.hd h).frame + 1

/-- The engine composing beside the serving one for line `c` (R213, R215): PE32 in WARM and COMPARE, PEn in
RETURN and, once its test has passed, for the lines of the RETURN frame that are started in TEST. -/
def State.shadowOf (s : State) (h c : Nat) : Option Nat :=
  if s.relHead ≠ h ∨ s.fenced 0 (pgPE 32) then none
  else if s.relPhase = ph.WARM ∨ s.relPhase = ph.COMPARE then (if s.servedBy h = h then some 32 else none)
  else if s.relPhase = ph.RETURN then some h
  else if s.relPhase = ph.TEST then
    (if s.servedBy h = 32 ∧ c < s.beam h ∧ s.r (pgPE h) PE.BIST_STAT_RUNNING = 0 ∧ s.r (pgPE h) PE.BIST_STAT_RESULT = 1
      then some h else none)
  else none

/-- What darkens head `h`: the serving engine fenced, disabled, or under forced test (R210, R220). -/
def State.darkCause (s : State) (h : Nat) : Bool :=
  let e := s.servedBy h
  s.fenced 0 (pgPE e) || (if e < 32 then !s.enabled (pgPE e) else !s.enabled (pgPE 32) && s.relPhase == ph.PARKED)
    || (s.eng e).forced

/-- An engine composes for the head it serves; PE32's ENABLE acts on it only where it is parked (R210, R220). -/
def State.serves (s : State) (e : Nat) : Bool :=
  s.present 0 (pgPE e) && s.domainOn 0 (pgPE e) && !s.fenced 0 (pgPE e)
    && (s.enabled (pgPE e) || (e == 32 && s.relPhase != ph.PARKED))

/-- Lines a head's composition is ahead of its beam: the last line start is that before the next one (R52, R80,
R142). -/
def State.lookahead (s : State) (h : Nat) : Nat :=
  let v := (s.mode h).vTot
  if (s.hd h).begun then ((s.hd h).startNext + 2 * v - 1 - s.beam h) % v else 0

/-- A head is hungry (R52). -/
def State.hungry (s : State) (h : Nat) : Bool :=
  s.enabled (pgHEAD h) && (s.hd h).begun && !(s.hd h).dark && decide (s.lookahead h < 2)

/-- A fetch of head `h`'s engine is granted: HUNGRY counts it while the head is hungry (R52). -/
def State.countHungry (s : State) (h : Nat) : State :=
  if s.hungry h then s.inc pMEMCTL MEMCTL.HUNGRY else s

/-! ### Registers with pending copies -/

/-- PE registers that transfer at a line start (R113, R138, R172). -/
def peComposes (off : Nat) : Bool :=
  off == 0x100 || decide (0x200 ≤ off ∧ off < 0x600) || off == 0x600 || off == 0x618
    || decide (0x700 ≤ off ∧ off ≤ 0x728)

/-- The layer a register belongs to. -/
def peLayer (off : Nat) : Option Nat := if 0x200 ≤ off ∧ off < 0x600 then some ((off - 0x200) / 0x80) else none

/-- A register as a read returns it: its pending copy while one waits (R113). -/
def State.pendReg (s : State) (page off : Nat) : W64 := sget (s.reg 0 page off) s.pend (regKey 0 page off)

/-- A pending copy put in place. It is kept even where it equals the value in force. -/
def State.setPend (s : State) (page off : Nat) (v : W64) : State :=
  let k := regKey 0 page off
  { s with pend := sinsert (serase s.pend k) k v }

/-- The pending copies of a page that `p` picks transferred (R113 step 1, R149). -/
def State.transfer (s : State) (page : Nat) (p : Nat → Bool) : State :=
  let mine := fun (k : Nat) => k / 0x1000 == regKey 0 page 0 / 0x1000 && p (k % 0x1000)
  let s' := (s.pend.filter (fun e => mine e.1)).foldl (fun t e => t.setReg 0 page (e.1 % 0x1000) e.2) s
  { s' with pend := s.pend.filter (fun e => !mine e.1) }

/-- The write checks of R109 and of PE_CFG, FLK_CFG, SPR_BASE: `g` reads the layer's other registers. -/
def peOk (g : Nat → W64) (off v : Nat) : Bool :=
  if off = 0x100 then decide (2 ≤ v % 16 ∧ v % 16 ≤ 8)
  else if off = 0x600 then decide (nfld v 16 11 ≤ 1024)
  else if off = 0x618 then v % 64 == 0
  else match peLayer off with
    | none => true
    | some l =>
      let rel := (off - 0x200) % 0x80
      if rel = 0x00 then
        let fmt := nfld v 2 4
        (if nbit v 1 then decide ((2 ≤ fmt ∧ fmt ≤ 5) ∨ (8 ≤ fmt ∧ fmt ≤ 10)) else decide (fmt ≤ 5))
          && nfld v 6 2 != 3 && nfld v 8 2 != 3 && nfld v 10 2 != 3 && nfld v 16 2 != 3
      else if rel = 0x08 ∨ rel = 0x10 ∨ rel = 0x18 then v % 64 == 0
      else if rel = 0x1C then
        !(nbit (g (0x200 + 0x80 * l)).toNat 1) || (nfld v 0 14 != 0 && nfld v 16 14 != 0)
      else if rel = 0x30 then decide (1 ≤ nfld v 0 4 ∧ nfld v 0 4 ≤ 8 ∧ 1 ≤ nfld v 8 4 ∧ nfld v 8 4 ≤ 8)
      else if rel = 0x34 ∨ rel = 0x38 then decide (0x4000 ≤ v % 2 ^ 20 ∧ v % 2 ^ 20 ≤ 0x10000)
      else true

/-- The writable bits of a PE register. -/
def peMask (off : Nat) : Nat := match specAt .kPE off with
  | some (sp, b) => if b = off then sp.rw else 0
  | none => 0

/-! ### Palette, flock, tables -/

/-- An entry of engine `n`'s palette written; bits [31:30] and [63:40] stay 0 (R103). -/
def State.setPalette (s : State) (n i : Nat) (v : W64) : State :=
  { s with palette := sset 0 s.palette (n * 4096 + i % 4096) (v &&& 0xFF3FFFFFFF) }

/-- A masked write of a flock word (R131). -/
def State.setFlock (s : State) (n i : Nat) (data mask : W32) : State :=
  let k := n * 4096 + i % 4096
  let old := sget (0 : W32) s.flock k
  { s with flock := sset 0 s.flock k ((old &&& ~~~mask) ||| (data &&& mask)) }

/-- An entry enters the palette queue at INDEX, which moves on under AUTOINC (R115). -/
def State.palEnter (s : State) (n : Nat) (entry : W64) : State :=
  let p := pgPE n
  let i := s.r p PE.PAL_ADDR_INDEX
  let e := s.eng n
  let s := s.setEng n { e with palQ := e.palQ ++ [(i, entry &&& 0xFF3FFFFFFF)] }
  if s.b p PE.PAL_ADDR_AUTOINC then s.w p PE.PAL_ADDR_INDEX (i + 1) else s

/-- The palette queue applied; the writes that waited for room complete (R113 step 2, R115). -/
def State.drainPal (s : State) (n : Nat) : State :=
  let e := s.eng n
  let s := e.palQ.foldl (fun t q => t.setPalette n q.1 q.2) s
  let s := s.setEng n { e with palQ := [], palWait := e.palWait.drop 64 }
  (e.palWait.take 64).foldl (fun t v => t.palEnter n v) s

/-- The flock queue applied for line `c` (R132). -/
def State.drainFlk (s : State) (n c : Nat) : State :=
  let e := s.eng n
  if s.b (pgPE n) PE.FLK_CFG_FRAME_SYNC && c != 0 then s
  else
    let hold := s.b (pgPE n) PE.FLK_HOLD
    let now := e.flkQ.take 256
    let s := (now.filter (fun q => !(hold && q.soft))).foldl (fun t q => t.setFlock n q.word q.data q.mask) s
    s.setEng n { e with flkQ := now.filter (fun q => hold && q.soft) ++ e.flkQ.drop 256 }

/-- An event of an engine: status bit, interrupt, and the record where `record` says so. -/
def State.peError (s : State) (e bit int : Nat) (record : Bool) (code : Nat) (detail : W32) : State :=
  let s := (s.statusBit (pgPE e) bit).pendInt (pgPE e) int
  if record then s.event (pgPE e) code detail else s

/-- The same, its record made at most once per frame under `key`. -/
def State.peOnce (s : State) (e bit int key code : Nat) (detail : W32) : State :=
  let x := s.eng e
  let first := !x.once.contains key
  let s := if first then s.setEng e { x with once := key :: x.once } else s
  s.peError e bit int first code detail

/-- A refused engine read (R46, R110). -/
def State.peDeny (s : State) (e a : Nat) : State := s.peError e 3 0 true Ev.PART_DENY (BitVec.ofNat 32 a)

/-- A read that came back with an uncorrectable error (R110). -/
def State.peFetchError (s : State) (e : Nat) : State :=
  ((s.statusBit (pgPE e) 4).pendInt (pgPE e) 1).eventOpen (pgPE e) Ev.FETCH_ERROR

/-! ### Line lists -/

/-- An LL_ERROR of head `h` (R154). -/
def State.llError (s : State) (h : Nat) (e : LLEntry) (reason : Nat) (stop : Bool) : State :=
  let x := s.hd h
  let s := (s.statusBit (pgHEAD h) 3).pendInt (pgHEAD h) 16
  let s := if x.llOnce then s else
    (s.setHd h { x with llOnce := true }).event (pgHEAD h) Ev.LL_ERROR
      (mkDetail [(nfld e.w0.toNat 0 12, 0), (reason, 12), (min e.pos 65535, 16)])
  if stop then s.w (pgHEAD h) HEAD.LL_STAT_STOPPED 1 else s

/-- An entry's operation and line (R150). -/
def LLEntry.op (e : LLEntry) : Nat := nfld e.w0.toNat 16 8
def LLEntry.line (e : LLEntry) : Nat := nfld e.w0.toNat 0 12

/-- Its operation is known and its reserved bits are 0; OFFSET of a LINK or END is not checked (R150, R151). -/
def LLEntry.clean (e : LLEntry) : Bool :=
  let w1 := e.w1.toNat
  let w2 := e.w2.toNat
  let w3 := e.w3.toNat
  nfld e.w0.toNat 12 4 == 0 && nfld e.w0.toNat 24 8 == 0 &&
    (match e.op with
     | 0x00 => w1 == 0 && w2 == 0 && w3 == 0
     | 0x01 => decide (w1 < 2 ^ 12)
     | 0x02 => decide (w1 < 2 ^ 12)
     | 0x03 => decide (w1 < 2 ^ 12) && decide (w3 < 2 ^ 8)
     | 0x04 => decide (w1 < 2 ^ 12)
     | 0x05 => decide (w1 < 8) && w3 == 0
     | 0x08 => decide (w1 < 8) && w3 == 0
     | 0x09 => decide (w1 < 8) && w3 == 0
     | 0x0A => w1 &&& 0xFFFFFCC0 == 0 && w3 == 0
     | 0x0E => decide (w1 < 2 ^ 12)
     | 0x0F => decide (w1 < 2 ^ 12) && w2 == 0 && w3 == 0
     | _ => false)

/-- A LINK's address. -/
def LLEntry.target (e : LLEntry) : Nat := e.w2.toNat + e.w3.toNat * 2 ^ 32

/-- PE registers a REG32 entry may name (R151). -/
def reg32Target (off : Nat) : Bool :=
  decide (0x100 ≤ off ∧ off ≤ 0x7FC) && off % 4 == 0 && !([0x104, 0x108, 0x604, 0x608, 0x60C, 0x610].contains off)
    && (match specAt .kPE off with | some (sp, b) => b == off && !sp.wide && sp.rw != 0 | none => false)

/-- PE registers a REG64 entry may name (R151). -/
def reg64Target (off : Nat) : Bool :=
  off == 0x618 || (decide (0x200 ≤ off ∧ off < 0x600) && ((off - 0x200) % 0x80 == 0x08 || (off - 0x200) % 0x80 == 0x10))

/-- A list write of a PE register, checked against the registers in force (R109, R151, R154). -/
def State.llReg (s : State) (h : Nat) (e : LLEntry) (off v : Nat) : State :=
  if !peOk (fun o => s.reg 0 (pgPE h) o) off v then s.llError h e 4 false
  else s.setReg 0 (pgPE h) off (BitVec.ofNat 64 v)

/-- A scan-time entry queued for its line, at most 16 (R152). -/
def State.llScan (s : State) (h : Nat) (e : LLEntry) : State :=
  let x := s.hd h
  if 16 ≤ (x.scanQ.filter (fun q => q.line == e.line)).length then s.llError h e 7 false
  else s.setHd h { x with scanQ := x.scanQ ++ [{ line := e.line, op := e.op, w1 := e.w1, w2 := e.w2 }] }

/-- One entry keyed to the line being started (R150 to R152, R154, R160). -/
def State.llOne (s : State) (h : Nat) (e : LLEntry) : State :=
  let w1 := e.w1.toNat
  if !e.clean then s.llError h e 2 false
  else match e.op with
    | 0x01 =>
      if !reg32Target w1 then s.llError h e 3 false
      else
        let old := (s.reg 0 (pgPE h) w1).toNat
        let v := (old &&& (0xFFFFFFFF ^^^ e.w3.toNat)) ||| (e.w2.toNat &&& e.w3.toNat)
        s.llReg h e w1 (v &&& peMask w1)
    | 0x02 => if !reg64Target w1 then s.llError h e 3 false else s.llReg h e w1 e.target
    | 0x03 => s.setPalette h w1 (BitVec.ofNat 64 (e.w2.toNat + e.w3.toNat * 2 ^ 32))
    | 0x04 => s.setFlock h w1 e.w2 e.w3
    | 0x05 => if w1 = 0 then s.llError h e 3 false else s.w (pgHEAD h) (HEAD.BLINK_CFG.at (4 * (w1 - 1))) e.w2.toNat
    | 0x08 => (s.pendInt (pgHEAD h) w1).w (pgHEAD h) HEAD.CEV_TAG e.w2.toNat
    | 0x09 => s.llScan h e
    | 0x0A => if nfld w1 8 2 = 3 then s.llError h e 3 false else s.llScan h e
    | _ => s

/-- The buffered entries taken in order for line `c`: those keyed to it applied, one keyed to a later line
held, an error handled when it is reached; `k` counts the entries keyed to the line (R152 to R155). Entries of
lines that were passed over are dropped (R210), so one whose line start was forced before it came is lost (R143;
log entry 133). An entry that breaks several rows gets the reason of the row found first, in the order 6, 2 and 5 of
a LINK, 1, 2, then the operation's own (log entry 134). -/
def State.llTake (s : State) (h c : Nat) : Nat → List LLEntry → State × Nat
  | k, [] =>
    let s := if (s.hd h).llRefused then s.w (pgHEAD h) HEAD.LL_STAT_STOPPED 1 else s
    (s.setHd h { s.hd h with llBuf := [] }, k)
  | k, e :: l =>
    if s.b (pgHEAD h) HEAD.LL_STAT_STOPPED then (s.setHd h { s.hd h with llBuf := [] }, k)
    else if 65536 ≤ e.pos then (s.llError h e 6 true).llTake h c k l
    else if e.op = 0x0E ∨ e.op = 0x0F then
      (if e.clean then s.llError h e 5 true else s.llError h e 2 false).llTake h c k l
    else if e.line < (s.hd h).llLast then (s.llError h e 1 true).llTake h c k l
    else if c < e.line then (s.setHd h { s.hd h with llBuf := e :: l }, k)
    else
      let s := s.setHd h { s.hd h with llLast := e.line }
      if e.line < c then s.llTake h c k l else (s.llOne h e).llTake h c (k + 1) l

/-- Among entries that have arrived, one of a later line than `c`, or one below the LINE before it, which stops the
list (R153, R154); `last` is the highest LINE so far. -/
def llPast (c : Nat) : Nat → List LLEntry → Bool
  | _, [] => false
  | last, e :: l =>
    if e.op = 0x0E ∨ e.op = 0x0F then llPast c last l
    else decide (c < e.line) || decide (e.line < last) || llPast c e.line l

/-- The entries keyed to line `c` have arrived: one of a later line has too, or no more will come (R155). -/
def State.llReady (s : State) (h c : Nat) : Bool :=
  let x := s.hd h
  !x.llActive || x.llEnded || s.b (pgHEAD h) HEAD.LL_STAT_STOPPED || llPast c x.llLast (x.llDue ++ x.llBuf)

/-- The list of the next frame taken up (R149, R154, R162). -/
def State.llSwitch (s : State) (h : Nat) : State :=
  let x := s.hd h
  let s := s.w (pgHEAD h) HEAD.LL_STAT_ENTRIES (min x.llRead 65536)
  let s := s.w (pgHEAD h) HEAD.LL_STAT_STOPPED 0
  let s := s.w (pgHEAD h) HEAD.LL_WAIT_LINES x.llWaits
  let s := s.w (pgHEAD h) HEAD.LOOK_NOW_MIN x.minLook
  let en := s.b (pgHEAD h) HEAD.LL_CTRL
  s.setHd h { x with llActive := en, llAddr := s.r (pgHEAD h) HEAD.LL_BASE, llRead := 0, llLast := 0, llEnded := false, llRefused := false
                     llBuf := [], llDue := [], llWaits := 0, minLook := 7, llOnce := false }

/-- An entry read from 16 bytes. -/
def llEntryOf (b : List Byte) (pos : Nat) : LLEntry :=
  { w0 := BitVec.ofNat 32 (fieldLE b 0 4), w1 := BitVec.ofNat 32 (fieldLE b 4 4)
    w2 := BitVec.ofNat 32 (fieldLE b 8 4), w3 := BitVec.ofNat 32 (fieldLE b 12 4), pos := pos }

/-- Up to `fuel` entries read from one granule into the buffer; LINK and END are followed (R150, R153, R155). -/
def State.llRead (s : State) (h : Nat) : Nat → Nat → State
  | 0, _ => s
  | fuel + 1, a =>
    let x := s.hd h
    let e := llEntryOf (memRead s.mem a 16) x.llRead
    let x := { x with llRead := min (x.llRead + 1) 65537, llAddr := (a + 16) % 2 ^ 64 }
    let push := fun (x : HeadSt) => { x with llBuf := x.llBuf ++ [e] }
    if 65536 ≤ e.pos then s.setHd h { push x with llEnded := true }
    else if e.clean && e.op == 0x0F then s.setHd h { x with llEnded := true }
    else if e.clean && e.op == 0x0E then
      (if e.target % 16 = 0 then s.setHd h { x with llAddr := e.target } else s.setHd h { push x with llEnded := true })
    else if e.op ≠ 0x0E ∧ e.op ≠ 0x0F ∧ (s.mode h).vTot ≤ e.line then s.setHd h { x with llEnded := true }
    else (s.setHd h (push x)).llRead h fuel (a + 16)

/-! ### Line start -/

/-- Blink class `c` of head `h` is in its on phase in frame `f` (R158). -/
def blinkOn (on off : Nat) (f : BitVec 48) : Bool :=
  off == 0 || (on != 0 && decide (f.toNat % (on + off) < on))

/-- The off phases of classes 1 to 7 for a frame, bit by class (R159). -/
def State.blinkPhases (s : State) (h : Nat) (f : BitVec 48) : BitVec 8 :=
  BitVec.ofNat 8 ((List.range 7).foldl (fun a k =>
    a + b2n (!blinkOn (s.r (pgHEAD h) (HEAD.BLINK_CFG_ON.at (4 * k))) (s.r (pgHEAD h) (HEAD.BLINK_CFG_OFF.at (4 * k))) f) * 2 ^ (k + 1)) 0)

/-- Frame counters of engine `e` published and begun anew at its line start of line 0, where no tile row and no
bitmap row of the frame before is still in hand (R116, R117, R126). -/
def State.frameCounters (s : State) (e h : Nat) : State :=
  let x := s.eng e
  let p := pgPE e
  let s := s.w p PE.FRAME_GRANULES (min x.granules 0xFFFFFFFF)
  let s := s.w p PE.PEAK_COST (min x.peakCost 0xFFFFF)
  let s := s.w p PE.SPR_DROP_LINES (min x.dropLines 0xFFFF)
  let s := s.w p PE.SPR_PEAK_COUNT x.sprPeak
  let s := s.w p PE.SPR_PEAK_LINE x.sprPeakLine
  let s := s.setCache e { s.cache e with maps := [], rows := [] }
  s.setEng e { x with granules := 0, peakCost := 0, dropLines := 0, sprPeak := 0, sprPeakLine := 0, once := []
                      sigFrame := if x.sigCount = (s.mode h).vAct then some (x.sigRun ^^^ 0xFFFFFFFF) else none
                      sigRun := 0xFFFFFFFF, sigCount := 0 }

/-- A line whose cost exceeds its budget (R117). -/
def State.overBudget (s : State) (e h c : Nat) : State :=
  let cost := (s.eng e).cost
  if 4 * (s.mode h).lineCc < cost then
    s.peOnce e 6 3 100 Ev.OVER_BUDGET (mkDetail [(cost % 2 ^ 20, 0), (c, 20)])
  else s

/-- The layers that fail a latch check, each reported; where several checks fail the reason recorded is one
of them (R109 gives no order). -/
def State.latchLayers (s : State) (e h : Nat) : State × List Nat :=
  let count := min (s.r (pgPE h) PE.PE_CFG) 8
  (List.range count).foldl (fun t l =>
    let x := layerOf (fun f => s.r (pgPE h) f) l
    let fs := x.faults
    if !x.en || fs.isEmpty then t
    else
      let reason := match fs with
        | [r] => r
        | _ => fs.getD (Config.freeNat t.1.freeCtr % fs.length) 0
      let u := if fs.length = 1 then t.1 else t.1.fresh
      (u.peOnce e 5 2 l Ev.LAYER_INVALID (mkDetail [(l, 0), (reason, 8)]), t.2 ++ [l])) (s, [])

/-- The flock entries on line `c` in index order, invalid ones reported; where several checks fail the reason
recorded is one of them (R125, R127, which give no order; log entry 64). -/
def State.evalSprites (s : State) (e h c : Nat) : State × List Nat :=
  if !s.b (pgPE h) PE.FLK_CFG_EN then (s, [])
  else
    let m := s.mode h
    let word := fun (w : Nat) => (sget (0 : W32) s.flock (h * 4096 + w)).toNat
    let r := (List.range (min (s.r (pgPE h) PE.FLK_CFG_COUNT) 1024)).foldl (fun t i =>
      let p := spriteOf word i
      if !p.en || !p.covers c then t
      else match p.faults with
        | [] => if p.inView m then (t.1, i :: t.2) else t
        | fs =>
          let reason := match fs with
            | [r] => r
            | _ => fs.getD (Config.freeNat t.1.freeCtr % fs.length) 0
          let u := if fs.length = 1 then t.1 else t.1.fresh
          (u.peOnce e 8 5 102 Ev.SPRITE_INVALID (mkDetail [(i, 0), (reason, 12)]), t.2)) (s, [])
    (r.1, r.2.reverse)

/-- What engine `e` latches for line `c` of head `h`, whose state is PEh's (R113 step 4, R117, R125, R159,
R170); `k` entries were keyed to it. A line that is started but never composed (R143) counts in PEAK_COST and in the
flock's counts like any other; a blank line evaluates no sprites, and is reported over budget here, since nothing
completes it (log entry 135). -/
def State.latch (s : State) (e h c k : Nat) (compose : Bool) : State :=
  let m := s.mode h
  let s := if c = 0 then s.frameCounters e h else s
  let blink := s.blinkPhases h (s.composeFrame h c)
  let bank := s.b (pgPE h) PE.COMP_CFG_LUT_BANK
  let s := s.w (pgPE h) PE.COMP_STAT (b2n bank)
  let r := s.latchLayers e h
  let inv := r.2
  let r := if c < m.vAct then r.1.evalSprites e h c else (r.1, [])
  let s := r.1
  let on := r.2
  let drawn := on.take 256
  let s := if 256 < on.length then
      s.peOnce e 7 4 101 Ev.SPRITE_OVERFLOW (mkDetail [(c, 0), (on.length, 16)])
    else s
  let word := fun (w : Nat) => (sget (0 : W32) s.flock (h * 4096 + w)).toNat
  let flock := (drawn.map (fun i =>
    let p := spriteOf word i
    32 + (if p.blink ≠ 0 ∧ nbit blink.toNat p.blink then 0 else p.width m))).foldl (· + ·) 0
  let layers := ((List.range (min (s.r (pgPE h) PE.PE_CFG) 8)).map (fun l =>
    let x := layerOf (fun f => s.r (pgPE h) f) l
    if x.en && !inv.contains l then x.cost m c else 0)).foldl (· + ·) 0
  let cost := layers + flock + 16 * k
  let x := s.eng e
  let active := compose && decide (c < m.vAct)
  let s := s.setEng e
    { x with blinkOff := blink, lutBank := bank, invalid := inv, sprites := drawn, cost := cost
             peakCost := max x.peakCost cost
             dropLines := if 256 < on.length then x.dropLines + 1 else x.dropLines
             sprPeak := max x.sprPeak on.length
             sprPeakLine := if x.sprPeak < on.length then c else x.sprPeakLine
             composing := if active then some c else none
             startMem := if active then s.mem else []
             lines := x.lines.filter (fun b => b.line != c)
             bad := [], hungry := s.hungry h }
  if m.vAct ≤ c then s.overBudget e h c else s

/-- The line start of line `c` of head `h`: steps 1 to 4 of R113, for the serving engine and the one that
builds the line beside it (R215); at line V_total − 1 the next frame's list is taken up (R149). A held layer's
pending copies stay pending, those written before the hold too (R113, R114; log entry 138). -/
def State.lineStartRun (s : State) (h c : Nat) (compose : Bool) : State :=
  let m := s.mode h
  let x := s.hd h
  let look := min 7 ((c + m.vTot - s.beam h) % m.vTot)
  let s := s.setHd h { x with startNext := (c + 1) % m.vTot, minLook := min x.minLook look, llWaiting := false }
  let s := s.w (pgHEAD h) HEAD.COMPOSE_LINE c
  let s := if c + 1 = m.vTot then s.transfer (pgHEAD h) (fun o => o == 0x220 || o == 0x228) else s
  let held := s.r (pgPE h) PE.LAYER_HOLD
  let s := s.transfer (pgPE h) (fun o => match peLayer o with | some l => !nbit held l | none => true)
  let s := ((s.drainPal h).drainFlk h c).brandEnter h
  let x := s.hd h
  let r := (s.setHd h { x with llDue := [] }).llTake h c 0 (x.llDue ++ x.llBuf)
  let s := if c + 1 = m.vTot then r.1.llSwitch h else r.1
  let sh := s.shadowOf h c
  let s := s.latch (s.servedBy h) h c r.2 compose
  match sh with
  | some e => s.latch e h c r.2 compose
  | none => s

/-- The moment of the next line start has come (R141, R196, R206): the head runs and is not dark, no held
line is being scanned, the engine has finished the line before, and the lookahead allows it. -/
def State.startDue (s : State) (h : Nat) : Bool :=
  let m := s.mode h
  let x := s.hd h
  s.present 0 (pgHEAD h) && s.enabled (pgHEAD h) && s.pdOn h && x.begun && (!x.dark || x.darkEnd) && !s.darkCause h
    && x.hold.isNone && (s.eng (s.servedBy h)).composing.isNone
    && decide ((x.startNext + m.vTot - s.beam h) % m.vTot ≤ s.r (pgHEAD h) HEAD.LOOKAHEAD)

/-- The line start that is due, or its wait for the list (R155). -/
def State.lineStart (s : State) (e : Nat) : State :=
  match s.headOf e with
  | none => s
  | some h =>
    let x := s.hd h
    if !s.startDue h then s
    else if s.llReady h x.startNext then s.lineStartRun h x.startNext true
    else if x.llWaiting then s
    else (s.setHd h { x with llWaiting := true, llWaits := x.llWaits + 1 }).statusBit (pgHEAD h) 4

/-! ### Reads and completion of a line -/

/-- The granules of line `c` engine `e` has neither in its caches nor been refused (R110, R116, R124). -/
def State.missing (s : State) (e c : Nat) : List Need :=
  let h := s.stateOf e
  let x := s.eng e
  (s.lineNeeds x (s.mode h) (s.lineCtx h x c)).filter fun d => !(s.cache e).holds d && !x.bad.contains d.line

/-- A granule delivers nothing to the line (R110). -/
def State.fetchLost (s : State) (e line : Nat) : State := s.setEng e { s.eng e with bad := line :: (s.eng e).bad }

/-- The miss a granule counts as: a tile one for all its granules, so none while another of them is there; a repeat
read of one invalidated granule of a larger tile is no new miss (R111, R116; log entry 136). -/
def State.countMiss (s : State) (e : Nat) (d : Need) : State :=
  match d.kind with
  | .tile => if (s.cache e).tiles.any (fun l => decide (d.lo ≤ l) && decide (l ≤ d.hi)) then s
    else s.inc (pgPE e) PE.TILE_MISSES
  | .map => s.inc (pgPE e) PE.MAP_MISSES
  | .bitmap => s

/-- One granule read for the line under way: refused, or granted and counted, and then in error or in the engine's
cache (R52, R110, R116, R124). -/
def State.granule (s : State) (e : Nat) (d : Need) (err : Bool) : State :=
  if !s.inPart 1 (d.line * 64) 64 then (s.fetchLost e d.line).peDeny e (d.line * 64)
  else
    let s := s.memWait
    let x := s.eng e
    let s := (s.countMiss e d).setEng e { x with granules := x.granules + 1 }
    let s := if x.hungry then s.inc pMEMCTL MEMCTL.HUNGRY else s
    if err then (s.fetchLost e d.line).peFetchError e else s.setCache e ((s.cache e).enter d)

/-- A granule read of engine `e` returns: one the line under way has asked for (R110, R116, R124). -/
def State.pastureFetchDone (s : State) (e : Nat) (kind : FetchKind) (addr : Nat) (err : Bool) : State :=
  match (s.eng e).composing with
  | none => s
  | some c => match (s.missing e c).find? (fun d => d.kind == kind && d.line == addr / 64) with
    | none => s
    | some d => s.granule e d err

/-- Lines the line store of 64 KiB holds, at one 32-bit word for each pixel (R94; log entry 137). -/
def storeLines (m : Mode) : Nat := 16384 / m.hAct

/-- Composition of the line under way completes: what it still had to read has come, the line is in the line store
and in the compare signature, and it is reported where it exceeded its budget (R116, R117, R214). -/
def State.lineComplete (s : State) (e : Nat) : State :=
  match (s.eng e).composing with
  | none => s
  | some c =>
    let s := (s.missing e c).foldl (fun t d => t.granule e d false) s
    let h := s.stateOf e
    let m := s.mode h
    let x := s.eng e
    let pix := s.composeLine h x m c
    let b : LineBuf := { line := c, frame := s.composeFrame h c, pix := pix }
    let sig := if x.sigCount = c then
        BitVec.ofNat 32 (crc32cRun x.sigRun.toNat (pix.flatMap (fun p => leBytes 4 p.toNat))) else x.sigRun
    let s := s.setCache e ((s.cache e).used (s.lineNeeds x m (s.lineCtx h x c)))
    let s := s.setEng e { x with composing := none, startMem := [], bad := [], lines := (b :: x.lines).take (storeLines m)
                                 sigRun := sig, sigCount := if x.sigCount = c then c + 1 else x.sigCount }
    (s.overBudget e h c).fresh

/-- A refused read or one with an error stops the list behind the entries read before it (R154, R155;
log entry 12). -/
def State.llNoMore (s : State) (h : Nat) : State :=
  let x := s.hd h
  let s := s.setHd h { x with llEnded := true, llRefused := true }
  if x.llBuf.isEmpty then s.w (pgHEAD h) HEAD.LL_STAT_STOPPED 1 else s

/-- Entries of a granule of the list arrive, up to the list buffer's 64; a line start that waited for them
begins (R154, R155). -/
def State.llFetchDone (s : State) (h : Nat) (err : Bool) : State :=
  let x := s.hd h
  let e := s.servedBy h
  if !s.serves e || !s.enabled (pgHEAD h) || !x.llActive || x.llEnded || s.b (pgHEAD h) HEAD.LL_STAT_STOPPED || (x.dark && !x.darkEnd) then s
  else
    let x := if x.llWaiting && decide (64 ≤ x.llBuf.length) then { x with llDue := x.llDue ++ x.llBuf, llBuf := [] } else x
    let s := s.setHd h x
    let room := 64 - x.llBuf.length
    if room = 0 then s
    else
      let a := x.llAddr
      let s := if !s.inPart 1 a 16 then (s.peDeny e a).llNoMore h
        else
          let s := s.memWait.countHungry h
          if err then (s.peFetchError e).llNoMore h else s.llRead h (min room ((64 - a % 64) / 16)) a
      if (s.hd h).llWaiting && s.startDue h && s.llReady h (s.hd h).startNext
      then s.lineStartRun h (s.hd h).startNext true else s

/-! ### Writes of the PE pages -/

/-- A palette entry queued; one that finds the queue full waits until the next line start has drained it (R115). A
PAL_ADDR written meanwhile applies to it (log entry 132). -/
def State.palDataWrite (s : State) (n : Nat) (entry : W64) : Eff :=
  let e := s.eng n
  done (if e.palQ.length < 64 ∧ e.palWait.isEmpty then s.palEnter n entry
    else s.setEng n { e with palWait := e.palWait ++ [entry] })

/-- A masked flock write queued, or dropped on a full queue that no line start will drain at once (R131,
R133). One that waits for room takes its mask and address when it is written (log entry 139). -/
def State.flkDataWrite (s : State) (w : Wr) (n : Nat) : Eff :=
  let p := w.page
  let i := s.r p PE.FLK_ADDR_WORD
  let e := s.eng n
  if 256 ≤ e.flkQ.length && (s.b p PE.FLK_HOLD || s.b p PE.FLK_CFG_FRAME_SYNC) then
    (s.peError n 9 6 true Ev.FLOCK_FULL (BitVec.ofNat 32 i), false)
  else
    let q : FlkWrite := { word := i, data := BitVec.ofNat 32 w.v, mask := BitVec.ofNat 32 (s.r p PE.FLK_MASK), soft := true }
    let s := s.setEng n { e with flkQ := e.flkQ ++ [q] }
    done (if s.b p PE.FLK_ADDR_AUTOINC then s.w p PE.FLK_ADDR_WORD (i + 1) else s)

/-- An entry of the idle table bank written (R170). -/
def State.lutDataWrite (s : State) (w : Wr) (n : Nat) : Eff :=
  let p := w.page
  let bank := s.r p PE.LUT_ADDR_BANK
  let i := s.r p PE.LUT_ADDR_INDEX
  w.require s (bank != s.r p PE.COMP_STAT) Ev.BAD_STATE fun s =>
    let s := { s with lut := sset (BitVec.ofNat 12 i) s.lut (lutKey n bank (s.r p PE.LUT_ADDR_TABLE) i) (BitVec.ofNat 12 w.v) }
    done (if s.b p PE.LUT_ADDR_AUTOINC then s.w p PE.LUT_ADDR_INDEX (i + 1) else s)

/-- A direct write of a register with a pending copy (R109, R113). -/
def State.pePendWrite (s : State) (w : Wr) : Eff :=
  let v := w.v &&& peMask w.off
  w.require s (peOk (fun o => s.pendReg w.page o) w.off v) Ev.BAD_VALUE fun s =>
    done (s.setPend w.page w.off (BitVec.ofNat 64 v))

end Sys2Proof.Machine
end

