-- ==== Sys2Proof/Machine/Relief.lean ====
section
/-! DEFINITION. The relief engine's rotation, self-tests, the bellwether, and fences of heads and engines
(R204, R211 to R220, R470, R471, R475). -/

namespace Sys2Proof.Machine

/-- A fence takes hold: FENCE_REQ reads 1, FENCED is recorded, and a block whose domain is not ON is FENCED
at once (R471). -/
def State.fenceMark (s : State) (func page : Nat) (req : Code) (cause : Nat) : State :=
  let s := s.setReg func page 0x008 (wset (s.reg func page 0x008) 1 1 1)
  let s := if s.domainOn func page then s else s.setReg func page 0x00C (wset (s.reg func page 0x00C) 0 2 2)
  s.accEvent func page Ev.FENCED (mkDetail [(req.toNat, 0), (cause, 16)])

/-- A capture in progress stops; BUSY stays while an earlier one is still being written (R191, R193). -/
def State.capStop (s : State) (h : Nat) : State :=
  let x := s.hd h
  (s.setHd h { x with cap := { x.cap with active := false } }).w (pgHEAD h) HEAD.WB_STAT_BUSY (b2n (!x.capWait.isEmpty))

/-- The scan-out stage of head `h` stops: idle pattern, no signature, writeback stopped (R211, R475, R476). -/
def State.scanOff (s : State) (h : Nat) : State :=
  (s.setHd h { s.hd h with idle := true, sigBroken := true, sigOpen := false }).capStop h

/-- Head `h` cannot be served in the rotation (R212). -/
def State.relSkips (s : State) (h : Nat) : Bool :=
  !s.present 0 (pgHEAD h) || !s.enabled (pgHEAD h) || s.fenced 0 (pgPE h) || !s.pdOn h
    || nbit (s.r (pgPE 32) PE.REL_SKIP) h

/-- The rotation may begin a slot (R212, R223). -/
def State.relRuns (s : State) : Bool :=
  s.devState == stRUNNING && s.b (pgPE 32) PE.REL_CTRL_EN && s.active (pgPE 32)

def State.setPhase (s : State) (p : Nat) : State := s.w (pgPE 32) PE.REL_STAT_PHASE p

/-- A self-test begins on engine `e` (R213, R216). -/
def State.testStart (s : State) (e : Nat) : State :=
  let p := pgPE e
  let x := s.eng e
  let s := s.setEng e { x with composing := none, startMem := [], bad := [] }
  (s.w p PE.BIST_STAT_QUEUED 0).w p PE.BIST_STAT_RUNNING 1

/-- The head of the next slot: one with a queued self-test first, else the next in rotation (R212, R219). -/
def State.relPick (s : State) : Option Nat :=
  match s.relief.queued.find? (fun h => !s.relSkips h) with
  | some h => some h
  | none => ((List.range 32).map (fun k => (s.relief.last + 1 + k) % 32)).find? (fun h => !s.relSkips h)

/-- Between slots: a request on PE32 itself runs, else the next head is chosen and its frame start awaited; turning
back past the last head served completes a rotation, once (R212, R219, R223). -/
def State.relNext (s : State) : State :=
  let s := s.setPhase ph.IDLE
  if s.relief.selfReq then
    let s := { s with relief := { s.relief with selfReq := false, skipCompare := false, next := none } }
    (s.testStart 32).setPhase ph.SELF_TEST
  else if !s.relRuns then { s with relief := { s.relief with next := none } }
  else match s.relPick with
    | none => { s with relief := { s.relief with next := none } }
    | some h =>
      let turned := s.relief.served && decide (h ≤ s.relief.last) && !s.relief.queued.contains h
      let s := if turned then s.inc (pgPE 32) PE.REL_ROTATIONS else s
      { s with relief := { s.relief with next := some h, served := s.relief.served && !turned } }

/-- A slot begins: WARM (R213). -/
def State.relBegin (s : State) (h : Nat) : State :=
  let r := s.relief
  let s := { s with relief := { r with next := none, compares := 0, extra := 0, skipCompare := false, testFailed := false
                                       last := if r.queued.contains h then r.last else h
                                       served := r.served || !r.queued.contains h } }
  (s.w (pgPE 32) PE.REL_STAT_HEAD h).setPhase ph.WARM

/-- The frame start of head `h` that its scan deadline of line 0 precedes. -/
def State.frameDue (s : State) (h : Nat) : Nat := (s.hd h).dotFc + (s.mode h).lineFc

/-- A slot of head `h` ends; the next one begins at once where its head's frame start falls together with
this one (R213). -/
def State.relEnd (s : State) (h : Nat) : State :=
  let s := s.relNext
  match s.relief.next with
  | none => s
  | some k =>
    if (s.hd k).deadline && s.beam k + 1 == (s.mode k).vTot && s.frameDue k == s.frameDue h then s.relBegin k else s

/-- PE32 stays on head `h` (R218, R466). -/
def State.park (s : State) (h : Nat) : State := (s.setPhase ph.PARKED).statusBit (pgPE h) 2

/-- PE32 takes over and PEh's self-test runs (R213). -/
def State.takeOver (s : State) (h : Nat) : State :=
  let s := s.w (pgHEAD h) HEAD.HEAD_STAT_SERVED_BY 32
  let r := s.relief
  let s := { s with relief := { r with queued := r.queued.filter (fun n => n != h) } }
  (s.testStart h).setPhase ph.TEST

/-- A compare mismatch (R217, R218). -/
def State.mismatch (s : State) (h : Nat) : State :=
  (s.inc (pgPE 32) PE.REL_MISMATCH).event (pgPE 32) Ev.RELIEF_MISMATCH (BitVec.ofNat 32 h)

/-- A frame that could not be compared: its phase is repeated, four times at most in a slot (R214). In RETURN
the slot then ends with the hand-back. -/
def State.relRepeat (s : State) (h : Nat) (back : Bool) : State :=
  if s.relief.extra < 4 then { s with relief := { s.relief with extra := s.relief.extra + 1 } }
  else
    let s := s.eventOpen (pgPE 32) Ev.RELIEF_BUSY
    let s := if back then s.w (pgHEAD h) HEAD.HEAD_STAT_SERVED_BY h else s
    s.relEnd h

/-- Head `h` no longer runs: awaited, it is skipped; in its slot, the slot ends and its own engine serves it again
(R212; log entry 140). -/
def State.relLeave (s : State) (h : Nat) : State :=
  let p := s.relPhase
  if s.fenced 0 (pgPE 32) then s
  else if s.relief.next = some h then s.relNext
  else if s.relHead ≠ h then s
  else if p = ph.WARM ∨ p = ph.COMPARE ∨ p = ph.TEST ∨ p = ph.RETURN then
    (s.w (pgHEAD h) HEAD.HEAD_STAT_SERVED_BY h).relNext
  else if p = ph.SELF_TEST then { s with relief := { s.relief with skipCompare := false } }
  else s

/-- At the bellwether's frame start: a head awaited or in its slot that cannot be served any more is left, and an
idle rotation tries again (R212). -/
def State.relTry (s : State) : State :=
  let s := match s.relief.next with
    | some h => if s.relSkips h then s.relLeave h else s
    | none => if s.enabled (pgHEAD s.relHead) && s.pdOn s.relHead then s else s.relLeave s.relHead
  if s.relPhase = ph.IDLE ∧ s.relief.next = none ∧ !s.fenced 0 (pgPE 32) then s.relNext else s

/-- The rotation's step at the scan deadline of line 0 of head `h` (R212 to R218). -/
def State.relStep (s : State) (h : Nat) : State :=
  if s.fenced 0 (pgPE 32) then s
  else
    let p := s.relPhase
    if p = ph.IDLE then
      (if s.relief.next = some h ∧ s.relRuns then (if s.relSkips h then s.relNext else s.relBegin h) else s)
    else if s.relHead ≠ h then s
    else
      let a := (s.eng h).sigFrame
      let b := (s.eng 32).sigFrame
      let dark := (s.hd h).dark
      if p = ph.WARM then
        (if s.relief.skipCompare then s.takeOver h else s.setPhase ph.COMPARE)
      else if p = ph.COMPARE then
        (match a, b with
         | some x, some y =>
           if dark then s.relRepeat h false
           else if x ≠ y then
             let s := s.mismatch h
             let s := { s with relief := { s.relief with skipCompare := true } }
             (s.testStart 32).setPhase ph.SELF_TEST
           else if s.relief.compares = 0 then { s with relief := { s.relief with compares := 1 } }
           else s.takeOver h
         | _, _ => s.relRepeat h false)
      else if p = ph.TEST then
        (if s.r (pgPE h) PE.BIST_STAT_RUNNING = 0 then s.setPhase ph.RETURN else s)
      else if p = ph.RETURN then
        (match a, b with
         | some x, some y =>
           if dark then s.relRepeat h true
           else if x ≠ y then (s.mismatch h).park h
           else (s.w (pgHEAD h) HEAD.HEAD_STAT_SERVED_BY h).relEnd h
         | _, _ => s.relRepeat h true)
      else if p = ph.SELF_TEST then
        (if s.relief.skipCompare && s.r (pgPE 32) PE.BIST_STAT_RUNNING == 0 then s.setPhase ph.WARM else s)
      else s

/-- An engine page is fenced (R211, R218, R476): nothing is fetched; PEn fenced while PE32 serves parks PE32;
PE32 fenced stops the rotation, a slot in which it does not serve included. -/
def State.engineFenced (s : State) (e : Nat) : State :=
  let s := s.setEng e { s.eng e with composing := none, startMem := [], bad := [] }
  if e < 32 then
    (if s.servedBy e = 32 ∧ (s.relPhase = ph.TEST ∨ s.relPhase = ph.RETURN) then s.park e else s)
  else if s.servedBy s.relHead = 32 then s
  else { (s.setPhase ph.STOPPED) with relief := { s.relief with next := none } }

/-- An engine page is unfenced: the rotation restarts at the next slot (R476). -/
def State.engineUnfenced (s : State) (e : Nat) : State :=
  if e = 32 ∧ s.relPhase = ph.STOPPED then s.relNext else s

/-- The device fences an engine after a failed self-test (R217, R218, R220); the cause the entry carries is
open, since no event code goes with it (R471; log entry 8). -/
def State.fenceEngine (s : State) (e : Nat) : State :=
  let s := s.setEng e { s.eng e with failedTest := true }
  if s.fenced 0 (pgPE e) then s
  else ((s.fenceMark 0 (pgPE e) 0 (Config.freeNat s.freeCtr % 65536)).fresh).engineFenced e

/-- A self-test finishes (R216 to R218, R220). -/
def State.bistDone (s : State) (e code : Nat) : State :=
  let p := pgPE e
  let h := s.stateOf e
  if !s.present 0 p || s.r p PE.BIST_STAT_RUNNING = 0 then s
  else
    let s := s.w p PE.BIST_STAT_RUNNING 0
    let s := s.w p PE.BIST_STAT_RESULT (if code = 0 then 1 else 2)
    let s := s.w p PE.BIST_STAT_CODE code
    let s := s.w p PE.BIST_FRAME (s.hd h).frame.toNat
    let s := s.setEng e { s.eng e with lines := [], sigCount := 0, sigRun := 0xFFFFFFFF, sigFrame := none }
    let s := s.setCache e {}
    if code = 0 then
      let s := s.setEng e { s.eng e with failedTest := false, forced := false }
      if e = 32 ∧ s.relPhase = ph.SELF_TEST ∧ !s.relief.skipCompare then s.relNext else s
    else
      let slot := decide (e < 32) && s.relHead == e && s.servedBy e == 32
        && (s.relPhase == ph.TEST || s.relPhase == ph.RETURN)
      let s := if slot then { (s.park e) with relief := { s.relief with testFailed := true } } else s
      let s := s.fenceEngine e
      if e = 32 then s.setPhase ph.STOPPED else s

/-- A self-test request (R219): queued for the engine's next slot, or on PE32 run between slots, at once where the
rotation rests. -/
def State.bistReq (s : State) (e : Nat) : State :=
  let p := pgPE e
  if s.b p PE.BIST_STAT_QUEUED || s.b p PE.BIST_STAT_RUNNING then s
  else if e = 32 ∧ s.relPhase = ph.STOPPED then s.testStart e
  else
    let s := s.w p PE.BIST_STAT_QUEUED 1
    if e < 32 then { s with relief := { s.relief with queued := s.relief.queued ++ [e] } }
    else
      let s := { s with relief := { s.relief with selfReq := true } }
      if s.relPhase = ph.IDLE then s.relNext else s

/-- A forced self-test (R220, R474). -/
def State.bistForce (s : State) (e : Nat) : State :=
  if !s.fenced 0 (pgPE e) && (e == 32 || s.servedBy e == 32) then s.bistReq e
  else if s.b (pgPE e) PE.BIST_STAT_RUNNING then s
  else
    let s := { s with relief := { s.relief with queued := s.relief.queued.filter (fun n => n != e) } }
    (s.setEng e { s.eng e with forced := s.servedBy e == e }).testStart e

/-- REL_CTRL.RESUME is accepted: TEST and RETURN run for the parked head (R218). -/
def State.resumeOk (s : State) : Bool :=
  let h := s.relHead
  s.relPhase == ph.PARKED && !s.fenced 0 (pgPE h)
    && (!s.relief.testFailed || (!(s.eng h).failedTest && s.r (pgPE h) PE.BIST_STAT_RESULT == 1))

def State.relResume (s : State) : State :=
  let h := s.relHead
  let s := { s with relief := { s.relief with testFailed := false, extra := 0 } }
  (s.testStart h).setPhase ph.TEST

/-- A write to a PE page's block-specific registers (R95, R137, R171, R219, R220, R223). -/
def State.peWrite (s : State) (w : Wr) (n : Nat) : Eff :=
  let o := w.off
  if n = 32 ∧ o < 0x900 then w.drop s Ev.BAD_STATE
  else if peComposes o then s.pePendWrite w
  else if o = 0x110 then s.palDataWrite n w.value
  else if o = 0x610 then s.flkDataWrite w n
  else if o = 0x804 then s.lutDataWrite w n
  else if o = 0x900 then
    let s := if nbit w.v 1 then s.bistForce n else s
    done (if nbit w.v 0 then s.bistReq n else s)
  else if o = 0x980 ∧ n = 32 then
    if nbit w.v 1 then
      w.require s s.resumeOk Ev.BAD_STATE fun s => done ((s.plain w).1.relResume)
    else s.plain w
  else if 0x980 ≤ o ∧ n < 32 then (s, false)
  else s.plain w

/-! ### The bellwether -/

/-- SYNC_CFG in force (R221). -/
def HeadSt.source (x : HeadSt) : Nat := nfld x.syncCfg.toNat 0 3
def HeadSt.syncOffset (x : HeadSt) : Nat := nfld x.syncCfg.toNat 16 12
def HeadSt.slew (x : HeadSt) : Nat := nfld x.syncCfg.toNat 8 4
def HeadSt.jump (x : HeadSt) : Bool := nbit x.syncCfg.toNat 5

/-- The heads that are enabled, lowest index first. -/
def State.enabledHeads (s : State) : List Nat :=
  (List.range 32).filter (fun h => s.present 0 (pgHEAD h) && s.enabled (pgHEAD h))

/-- The bellwether (R204). -/
def State.bellwether (s : State) : Option Nat :=
  match s.enabledHeads.find? (fun h => nbit (s.hd h).syncCfg.toNat 6) with
  | some h => some h
  | none => s.enabledHeads.head?

/-- The running head's mode has other ticks per frame than the bellwether's, or than the partner marker's (R204,
R337). -/
def State.rateMismatch (s : State) (h : Nat) : Bool :=
  let x := s.hd h
  (x.source == 4 && x.partnerMm) || (match s.bellwether with
    | some b => b != h && s.enabled (pgHEAD h) && (s.mode b).frameTicks != (s.mode h).frameTicks
    | none => false)

/-- The head runs free: SOURCE = FREE, the bellwether itself, a rate mismatch, or a partner source on a
device that is ACTIVE or ISOLATED (R204, R207, R337). -/
def State.runsFree (s : State) (h : Nat) : Bool :=
  let x := s.hd h
  x.source == 0 || s.rateMismatch h || (x.source == 1 && s.bellwether == some h) || (x.source == 4 && s.appendRole)

end Sys2Proof.Machine
end

