-- ==== Sys2Proof/Machine/MirrorRole.lean ====
section
/-! DEFINITION. Roles and authority of the mirror pair: epochs, role changes and their scheduling, ISOLATED,
owners of mirrored pages, HEARTBEAT_OUT, line-sync markers (R327 to R333, R336, R337, R340). -/

namespace Sys2Proof.Machine

/-- The pages MIR_HEADS and MIR_AUDIO name (R333). -/
def State.mirroredPages (s : State) : List Nat :=
  ((List.range 32).filter (fun n => nbit (s.r pMIRROR MIRROR.MIR_HEADS) n && s.present 0 (pgHEAD n))).flatMap
      (fun n => [pgHEAD n, pgPE n])
    ++ (if s.b pMIRROR MIRROR.MIR_AUDIO then [pAUDIO] else [])

/-- Mirrored pages are owned by 0x7E while the device follows; on leaving, their owners come back. A page
whose owner is 0xFF keeps it (R34, R333). -/
def State.syncOwners (s : State) : State :=
  if s.following then
    s.mirroredPages.foldl (fun t p =>
      let o := t.owner 0 p
      if o == 0xFF || o == 0x7E then t
      else { (t.setOwner 0 p 0x7E) with mirror := { t.mirror with saved := sinsert (serase t.mirror.saved p) p o } }) s
  else
    let s' := s.mirror.saved.foldl (fun (t : State) e => if t.owner 0 e.1 == 0x7E then t.setOwner 0 e.1 e.2 else t) s
    { s' with mirror := { s'.mirror with saved := [] } }

/-- The smallest epoch above the device's own and its partner's whose bit 0 is its side (R330). -/
def State.newEpoch (s : State) : Nat :=
  let m := max s.epoch (s.r pMIRROR MIRROR.PARTNER_EPOCH) + 1
  if m % 2 = s.r pMIRROR MIRROR.CFG_SIDE then m else m + 1

/-- Authority taken under a new epoch, its EPOCH entry first (R315, R330). -/
def State.takeEpoch (s : State) (reason : Nat) : State :=
  let prev := s.epoch
  let e := s.newEpoch
  let s := s.w pMIRROR MIRROR.EPOCH e
  let s := { s with mirror := { s.mirror with arbHeld := false } }
  let s := s.jFirst JK.EPOCH (leBytes 4 e ++ leBytes 1 (s.r pMIRROR MIRROR.CFG_SIDE) ++ leBytes 1 reason ++ leBytes 2 0
    ++ leBytes 4 prev)
  s.setAuthority true

/-- The hold after entry into ISOLATED is over (R329). -/
def State.endHold (s : State) : State := s.w pMIRROR MIRROR.STATUS_HOLDING 0

/-- No role change is scheduled or in view any longer. -/
def State.dropGoal (s : State) : State :=
  { (s.w pMIRROR MIRROR.ROLE_SCHEDULED 0) with
      mirror := { s.mirror with goal := none, scheduled := none, takeFc := none, relFc := none } }

/-- Mirrored transactions that the partner left before FEEDBACK_WAIT end with FAILOVER; the others are the
device's own from now on (R309). -/
def State.failover (s : State) : State :=
  s.openTxns.foldl (fun t n =>
    let x := t.txn n
    if !x.mirrored then t
    else if (1 ≤ x.state ∧ x.state ≤ 5) ∨ x.state = 8 then t.endTxn n 18
    else t.setTxn n { x with mirrored := false }) s

/-- The role becomes ACTIVE under a new epoch (R332). -/
def State.promote (s : State) (reason : Nat) : State :=
  let s := s.dropGoal.endHold
  let s := { s with mirror := { s.mirror with stopAppend := false } }
  let s := (s.w pMIRROR MIRROR.ROLE 0).syncOwners
  ((s.takeEpoch reason).failover.pendInt pMIRROR 0).hbLevel

/-- What the role leaves behind when it stops appending: a pending USER record (R317), entries that waited
(R285, R331). -/
def State.leaveAppend (s : State) : State :=
  let s := s.dropUser
  { s with journal := { s.journal with waiting := [] }, mirror := { s.mirror with stopAppend := false } }

/-- The last entry of the journal, for RESYNC_REQ: its sequence and its CRC word; before any entry the word is
open. -/
def State.lastEntryCrc (s : State) : Nat :=
  let q := s.nextSeq - 1
  match s.journal.buf.find? (fun e => e.seq.toNat == q) with
  | some e => fieldLE e.bytes 60 4
  | none =>
    if q = 0 then Config.freeNat s.freeCtr % 2 ^ 32
    else leNat (memRead s.mem (s.r pJOURNAL JOURNAL.STAGE_BASE + q % s.stageCap * 64 + 60) 4)

/-- A paired device in RESYNC with the link up asks for the partner's state (R340). -/
def State.askResync (s : State) : State :=
  if !(s.b pMIRROR MIRROR.CFG_PAIRED && s.linkOpen) then s
  else
    let s := if s.pwEn then
        (s.cacheWrite (s.r pJOURNAL JOURNAL.CP_HOST0) (List.replicate 64 0)).cacheWrite (s.r pJOURNAL JOURNAL.CP_HOST1) (List.replicate 64 0)
      else s
    let crc := s.lastEntryCrc
    let s := (s.fresh).sendFrame 7 (leBytes 8 (s.nextSeq - 1) ++ leBytes 4 crc ++ leBytes 4 0)
    { s with mirror := { s.mirror with resyncing := true, resyncTo := none, cpWait := false, held := [], chain := [] },
             journal := { s.journal with cpNext := none } }

/-- The role becomes STANDBY or RESYNC (R331, R332, R339). -/
def State.follow (s : State) (role : Nat) : State :=
  let s := s.dropGoal.endHold
  let s := ((s.setAuthority false).w pMIRROR MIRROR.ROLE role).leaveAppend
  let s := (s.syncOwners.pendInt pMIRROR 0).hbLevel
  if role = 3 then s.askResync else { s with mirror := { s.mirror with resyncing := false } }

/-- STATUS.ARB_IN: MP112's accepted level under CFG.ARB_INV; deasserted while the pin is not held by ARB_IN (R329, R482,
R484). -/
def State.arbIn (s : State) : Bool := s.pinIn 112 && (s.mirror.arbRaw != s.b pMIRROR MIRROR.CFG_ARB_INV)

/-- Without a hold, or at its end, authority stays only with ARB_IN asserted (R329). -/
def State.arbDecides (s : State) : State :=
  if s.b pMIRROR MIRROR.CFG_ARB_EN && s.arbIn then
    { s with mirror := { s.mirror with arbHeld := true } }
  else s.setAuthority false

/-- The device enters ISOLATED at once (R329, R336). -/
def State.isolate (s : State) : State :=
  let was := s.role
  let s := s.dropGoal
  if was = 2 then s.hbLevel
  else
    let s := { s with mirror := { s.mirror with stopAppend := false, holdFc := s.fc, resyncing := false } }
    let s := (s.w pMIRROR MIRROR.ROLE 2).syncOwners
    let s := ((s.statusBit pMIRROR 3).pendInt pMIRROR 1).pendInt pMIRROR 0
    let s := if was = 0 then
        (if s.r pMIRROR MIRROR.ISOLATE_HOLD = 0 then s.arbDecides else s.w pMIRROR MIRROR.STATUS_HOLDING 1)
      else s.setAuthority false
    s.hbLevel

/-- A scheduled role change takes effect (R332). -/
def State.roleTake (s : State) : State :=
  match s.mirror.scheduled with
  | none => s
  | some (0, reason) => s.promote reason
  | some (1, _) =>
    let resynced := s.role == 3
    let s := s.follow 1
    if resynced then s.pendInt pMIRROR 3 else s
  | some (r, _) => s.follow r

/-- A role change is scheduled at the bellwether's line V_active if its conditions hold; HEARTBEAT_OUT in
level mode changes with it (R332). -/
def State.roleSchedule (s : State) : State :=
  match s.mirror.goal, s.mirror.scheduled with
  | some g, none =>
    let s := s.w pMIRROR MIRROR.ROLE_SCHEDULED 1
    ({ s with mirror := { s.mirror with goal := none, scheduled := some g } } : State).hbLevel
  | _, _ => s

/-- The conditions of a role change hold from now on. With no head enabled no bellwether exists, and the
change is made at once. -/
def State.setGoal (s : State) (role reason : Nat) : State :=
  let s := { s with mirror := { s.mirror with goal := some (role, reason) } }
  if s.bellwether.isNone then s.roleSchedule.roleTake else s

/-- The role change at the frame start of the bellwether. -/
def State.roleChange (s : State) : State :=
  match s.bellwether with
  | none => s.roleTake
  | some b => if s.beam b = 0 then s.roleTake else s

/-- A line-sync marker leaves while the device is ACTIVE (R337). -/
def State.sendMarker (s : State) (h : Nat) : State :=
  if s.role == 0 && s.linkOpen then
    { s with mirror := { s.mirror with marker := some (s.r (pgHEAD h) HEAD.MODE, (s.hd h).frame), markers := s.mirror.markers + 1 } }
  else s

/-- The hold of R329 ends: authority stays only with ARB_IN. -/
def State.holdEnd (s : State) : State :=
  if s.role = 2 ∧ s.b pMIRROR MIRROR.STATUS_HOLDING then
    let s := s.advanceFc (s.mirror.holdFc + s.r pMIRROR MIRROR.ISOLATE_HOLD * msFc)
    s.endHold.arbDecides.hbLevel
  else s

/-- A change of MP112's level that has held 100 µs is taken as ARB_IN; in ISOLATED, after the hold, its first
deassertion ends authority (R329). -/
def State.arbChange (s : State) (level : Bool) : State :=
  let s := { s with mirror := { s.mirror with arbRaw := level } }
  if s.role = 2 ∧ !s.b pMIRROR MIRROR.STATUS_HOLDING ∧ !s.arbIn ∧ s.mirror.arbHeld then
    (s.setAuthority false).hbLevel
  else s

end Sys2Proof.Machine
end

