-- ==== Sys2Proof/Machine/Port.lean ====
section
/-! DEFINITION. Video ports: training, streams, hot plug, AUX, and the writes of the VP pages (R197 to R203,
R222). -/

namespace Sys2Proof.Machine

/-- Payload of a link in Mbit/s by rate and lane code (R197, table "Stream and link figures"). -/
def linkPayload (rate lanes : Nat) : Nat :=
  (([[6380, 12760, 25520], [9670, 19340, 38690], [13060, 26110, 52220], [19340, 38690, 77370]].getD rate []).getD lanes 0)

/-- Half megabits per second a head's stream needs: dot clock × 3 × bpc (R197). -/
def State.streamRate (s : State) (h : Nat) : Nat :=
  6 * (if s.b (pgHEAD h) HEAD.MODE_BPC then 10 else 8) * 1782 / (s.mode h).dot

abbrev lk.DOWN : Nat := 0
abbrev lk.TRAINING : Nat := 1
abbrev lk.UP : Nat := 2
abbrev lk.FAILED : Nat := 3

def State.linkState (s : State) (p : Nat) : Nat := s.r (pgVP p) VP.LINK_STAT_STATE

/-- The enabled heads of port `p`, 4p first. -/
def State.portHeads (s : State) (p : Nat) : List Nat :=
  (List.range 4).filterMap (fun k => if s.present 0 (pgHEAD (4 * p + k)) && s.enabled (pgHEAD (4 * p + k)) then some (4 * p + k) else none)

/-- Streams that fit, taken in order: a stream past the payload is left out and later ones still tried (R198). -/
def State.fitStreams (s : State) (cap : Nat) : Nat → List Nat → List Nat
  | _, [] => []
  | sum, h :: l =>
    let r := s.streamRate h
    if sum + r ≤ 2 * cap then h :: s.fitStreams cap (sum + r) l else s.fitStreams cap sum l

/-- Streams allocated anew (R198). Without a link nothing is carried, and nothing is short. -/
def State.allocate (s : State) (p : Nat) : State :=
  let page := pgVP p
  let want := s.portHeads p
  let up := s.linkState p = lk.UP
  let cap := s.r page VP.PAYLOAD_CAP
  let tried := if nbit (s.port p).cfg.toNat 9 then want else want.take 1
  let got := if up then s.fitStreams cap 0 tried else []
  let mask := fun (l : List Nat) => (l.map (fun h => 2 ^ (h % 4))).foldl (· + ·) 0
  let used := ((got.map s.streamRate).foldl (· + ·) 0 + 1) / 2
  let s' := (s.w page VP.STREAMS_CARRIED (mask got)).w page VP.STREAMS_REQUESTED (mask want)
  let s' := s'.w page VP.PAYLOAD_USED used
  let s' := (List.range 4).foldl (fun t k =>
    if t.present 0 (pgHEAD (4 * p + k)) then t.w (pgHEAD (4 * p + k)) HEAD.HEAD_STAT_CARRIED (b2n (got.contains (4 * p + k))) else t) s'
  if decide up && decide (got.length < want.length) then
    (s'.statusBit page 4).event page Ev.BW_SHORT (BitVec.ofNat 32 (mask want))
  else s'

/-- The link's state set; without a link its rate, lanes and payload read 0. -/
def State.linkTo (s : State) (p st rate lanes : Nat) : State :=
  let page := pgVP p
  let s := s.w page VP.LINK_STAT_STATE st
  let s := (s.w page VP.LINK_STAT_RATE rate).w page VP.LINK_STAT_LANES lanes
  (s.w page VP.PAYLOAD_CAP (if st = lk.UP then linkPayload rate lanes else 0)).allocate p

/-- A video port acts: present, its domain ON, not fenced. The start sequence trains the ports without setting
their CTRL.ENABLE (R91, R224), so that bit gates nothing (log entry 31). -/
def State.portActs (s : State) (p : Nat) : Bool :=
  s.present 0 (pgVP p) && s.domainOn 0 (pgVP p) && !s.fenced 0 (pgVP p)

/-- Training starts under the present LINK_CFG (R201, R222). -/
def State.linkBegin (s : State) (p : Nat) : State :=
  if !s.portActs p then s
  else
    let s := s.setPort p { s.port p with trainFc := s.fc, cfg := BitVec.ofNat 32 (s.r (pgVP p) VP.LINK_CFG) }
    s.linkTo p lk.TRAINING 0 0

/-- A port asked to train: before RUNNING it stays untrained, but for the start sequence's own step (R90, R91). -/
def State.linkTrain (s : State) (p : Nat) : State := if s.devState = stRUNNING then s.linkBegin p else s

/-- Training ends: at a rate it may use and within 500 ms it is up, else it has failed (R201). -/
def State.trainingDone (s : State) (p : Nat) (rate : Option Nat) : State :=
  let page := pgVP p
  let x := s.port p
  if s.linkState p ≠ lk.TRAINING ∨ !s.portActs p then s
  else
    let late := decide (x.trainFc + 500 * msFc < s.fc)
    match rate with
    | some r =>
      if !late && decide (r ≤ nfld x.cfg.toNat 0 3) then
        (s.linkTo p lk.UP r (nfld x.cfg.toNat 4 2)).pendInt page 0
      else (((s.linkTo p lk.FAILED 0 0).statusBit page 3).pendInt page 1).eventOpen page Ev.LINK_FAIL
    | none => (((s.linkTo p lk.FAILED 0 0).statusBit page 3).pendInt page 1).eventOpen page Ev.LINK_FAIL

/-- The link is dropped on HPD low or lost link status (R202). -/
def State.linkLost (s : State) (p : Nat) : State :=
  let page := pgVP p
  ((s.linkTo p lk.DOWN 0 0).statusBit page 5).eventOpen page Ev.LINK_LOST

/-- LINK_STAT.HPD shows the input's level again, after a time without the port's clock (R72, R201). -/
def State.hpdSettle (s : State) (p : Nat) : State :=
  if s.present 0 (pgVP p) then s.w (pgVP p) VP.LINK_STAT_HPD (b2n (s.pins.hpd.contains p)) else s

/-- HPD has changed; a low has held for more than 2 ms (R201, R202). -/
def State.hpdChange (s : State) (p : Nat) (level : Bool) : State :=
  let page := pgVP p
  let rest := s.pins.hpd.filter (fun q => q != p)
  let s := { s with pins := { s.pins with hpd := if level then p :: rest else rest } }
  if !s.present 0 page || !s.domainOn 0 page || s.b page VP.LINK_STAT_HPD == level then s
  else
    let s := (s.w page VP.LINK_STAT_HPD (b2n level)).pendInt page 2
    if level then (if s.b page VP.LINK_CFG_AUTO then s.linkTrain p else s) else s.linkLost p

/-- A short pulse on HPD: the port reads the sink's link status itself (R201, R202). -/
def State.hpdIrq (s : State) (p : Nat) (statusLost : Bool) : State :=
  let page := pgVP p
  if !s.present 0 page || !s.domainOn 0 page then s
  else
    let s := s.pendInt page 3
    if statusLost then
      let s := s.linkLost p
      if s.b page VP.LINK_CFG_AUTO then s.linkTrain p else s
    else s

/-- AUX_CMD written (R203, R222). -/
def State.auxWrite (s : State) (w : Wr) (p : Nat) : Eff :=
  w.require s (!s.b w.page VP.AUX_STAT_BUSY) Ev.BAD_STATE fun s =>
    let s := (s.plain w).1
    if nbit w.v 31 && s.portActs p then
      done ((s.setPort p { s.port p with aux := BitVec.ofNat 32 w.v }).w w.page VP.AUX_STAT_BUSY 1)
    else done s

/-- The AUX transaction completes (R203); only an ACK to a read brings data. -/
def State.auxDone (s : State) (p result : Nat) (data : List Byte) : State :=
  let page := pgVP p
  let cmd := (s.port p).aux.toNat
  if !s.present 0 page || !s.b page VP.AUX_STAT_BUSY || decide (3 < result) then s
  else
    let s := (s.w page VP.AUX_STAT_BUSY 0).w page VP.AUX_STAT_RESULT result
    let s := s.pendInt page 4
    if result ≠ 0 then s.statusBit page 6
    else if nbit cmd 0 then s
    else
      let n := nfld cmd 4 4 + 1
      ((data.take n).zip (List.range n)).foldl (fun t e =>
        t.w page ⟨0x130 + e.2 / 4 * 4, 8 * (e.2 % 4), 8⟩ e.1.toNat) s

/-- A write to a VP page's block-specific registers (R201 to R203, R222). -/
def State.vpWrite (s : State) (w : Wr) (p : Nat) : Eff :=
  if w.off = 0x100 then
    w.require s (w.f VP.LINK_CFG_LANES != 3 && decide (w.f VP.LINK_CFG_MAX_RATE ≤ 3)) Ev.BAD_VALUE (·.plain w)
  else if w.off = 0x104 then
    let s := if nbit w.v 1 && s.linkState p != lk.DOWN then s.linkTo p lk.DOWN 0 0 else s
    done (if nbit w.v 0 then s.linkTrain p else s)
  else if w.off = 0x120 then s.auxWrite w p
  else s.plain w

/-- A VP page is fenced: lanes and AUX idle, link dropped (R476). -/
def State.portFenced (s : State) (p : Nat) : State :=
  (s.linkTo p lk.DOWN 0 0).w (pgVP p) VP.AUX_STAT_BUSY 0

/-- After the unfence the port trains under R201: by itself where AUTO is 1 and HPD is high (R476). -/
def State.portUnfenced (s : State) (p : Nat) : State :=
  if s.b (pgVP p) VP.LINK_CFG_AUTO && s.b (pgVP p) VP.LINK_STAT_HPD then s.linkTrain p else s

end Sys2Proof.Machine
end

