-- ==== Sys2Proof/Machine/Scan.lean ====
section
/-! DEFINITION. The scan stage: the Sapphire overlay, quantisation, the per-frame signature, writeback, and
the writes of the SAPPHIRE and writeback registers (R173 to R193). -/

namespace Sys2Proof.Machine

/-- Sapphire RAM of head `h`, 512 KiB (R173). -/
def sapAddr (h off : Nat) : Nat := h * 0x80000 + off % 0x80000

/-- Map entry of a cell in map bank `b` (R173, R174). -/
def sapCellOff (b cx cy : Nat) : Nat := b * 0x10000 + (cy * 240 + cx) * 2
def State.sapCell (s : State) (h b cx cy : Nat) : Nat := leNat (memRead s.sapRam (sapAddr h (sapCellOff b cx cy)) 2)

/-- A Sapphire palette entry (R174). -/
def State.spal (s : State) (h b e : Nat) : W64 := s.reg 1 (pgSAP h) (0x400 + 0x200 * b + 8 * e)

/-- The Sapphire pixel at (x, y) of the scanned frame; none = transparent (R174, R175). -/
def State.sapPixel (s : State) (h : Nat) (x : HeadSt) (px py : Nat) : Option Px :=
  let b := b2n x.bank
  let e := s.sapCell h b (px / 16) (py / 16)
  let t := nfld e 0 12
  if !x.show_ || !nbit e 15 || decide (3072 ≤ t) || (nbit e 14 && !x.phaseOn) then none
  else
    let byte := (memByte s.sapRam (sapAddr h (0x20000 + t * 128 + py % 16 * 8 + px % 16 / 2))).toNat
    let p := if px % 2 = 0 then byte % 16 else byte / 16
    if p = 0 then none
    else
      let c := paletteEntry (s.spal h b (nfld e 12 2 * 16 + p))
      if c.a = 0 then none else some c

/-- The dither matrix (R177). -/
def ditherAt (x y : Nat) : Nat :=
  (([[0, 8, 2, 10], [12, 4, 14, 6], [3, 11, 1, 9], [15, 7, 13, 5]].getD (y % 4) []).getD (x % 4) 0)

/-- One channel at the head's output depth (R177). -/
def quantise (ten dither : Bool) (x y v : Nat) : Nat :=
  if ten then q10 v
  else if dither then min 255 ((v * 255 + 256 * ditherAt x y) / 4095)
  else (v * 255 + 2047) / 4095

/-- A pixel as sent: its channels at the output depth in [29:20], [19:10], [9:0]. -/
def quantPx (ten dither : Bool) (x y : Nat) (p : Px) : Nat :=
  quantise ten dither x y p.r * 2 ^ 20 + quantise ten dither x y p.g * 2 ^ 10 + quantise ten dither x y p.b

/-- The overlay over a line-store pixel (R176). -/
def overlaid (o : Option Px) (store : W32) : Px :=
  let d := colour30 store.toNat 255
  match o with
  | some p => p.over 0 d
  | none => d

/-- The signature's input word (R183). -/
def sigWord (ten : Bool) (o : Option Px) (sent : Nat) : Nat :=
  match o with
  | some p => if p.a = 255 then 0x80000000 + (if ten then sent else sent * 4) else 0
  | none => 0

/-- A window register clipped to the active area: first and one past the last (R183, R189). -/
def windowOf (v : Nat) (act : Nat) : Nat × Nat := (nfld v 0 12, min (nfld v 16 12 + 1) act)
def inWin (p : Nat × Nat) (v : Nat) : Bool := decide (p.1 ≤ v) && decide (v < p.2)

/-- The line at which a frame's signature is due (R184). -/
def HeadSt.sigLine (x : HeadSt) (m : Mode) : Nat :=
  let wx := windowOf x.winX.toNat m.hAct
  let wy := windowOf x.winY.toNat m.vAct
  if wx.1 < wx.2 ∧ wy.1 < wy.2 then wy.2 - 1 else m.vAct - 1

/-- Entries of a cell row that name no tile: STATUS on each line, the record once a frame, with the entry's offset in
its map bank (R173, R174). -/
def State.badEntries (s : State) (h y : Nat) : State :=
  let x := s.hd h
  let m := s.mode h
  match (List.range ((m.hAct + 15) / 16)).find? (fun cx =>
      let e := s.sapCell h (b2n x.bank) cx (y / 16)
      nbit e 15 && decide (3072 ≤ nfld e 0 12)) with
  | none => s
  | some cx =>
    let s := s.statusBit1 (pgSAP h) 4
    if x.sapOnce then s
    else (s.setHd h { s.hd h with sapOnce := true }).event1 (pgSAP h) Ev.BAD_ENTRY
      (BitVec.ofNat 32 (sapCellOff 0 cx (y / 16)))

/-- A captured pixel as written (R190). -/
def wbPixel (ten fmt : Bool) (v : Nat) : Nat :=
  let ch := fun (lo : Nat) => nfld v lo 10
  if !fmt then
    let w := fun (c : Nat) => if ten then c else c * 4 + c / 64
    3 * 2 ^ 30 + w (ch 20) * 2 ^ 20 + w (ch 10) * 2 ^ 10 + w (ch 0)
  else
    let w := fun (c : Nat) => if ten then (c * 255 + 511) / 1023 else c
    0xFF * 2 ^ 24 + w (ch 20) * 2 ^ 16 + w (ch 10) * 2 ^ 8 + w (ch 0)

/-- The capture in progress is over; EVERY = 0 then clears EN, a BUSY that no further capture holds goes (R189,
R191, R192). -/
def State.capEnd (s : State) (h : Nat) : State :=
  let c := (s.hd h).cap
  let s := (s.capStop h)
  if c.single then s.w (pgHEAD h) HEAD.WB_CTRL_EN 0 else s

/-- Line `y` offered to the writeback queue (R190 to R192). Whether it finds room is not stated: a free
choice. `pix` are the pixels the capture takes. -/
def State.wbLine (s : State) (h y : Nat) (ten : Bool) (pix : List Nat) : State :=
  let x := s.hd h
  let c := x.cap
  let p := pgHEAD h
  if !c.active || decide (y < c.y0) || decide (c.y1 < y) then s
  else
    let last := fun (s : State) =>
      let c := (s.hd h).cap
      if y < c.y1 then s
      else
        let z := s.hd h
        (s.setHd h { z with capWait := if c.dropped = 0 then z.capWait ++ [c] else z.capWait }).capEnd h
    if Config.freeBool s.freeCtr then
      let s := s.fresh
      let s := s.setHd h { s.hd h with cap := { c with dropped := c.dropped + 1 }, wbOnce := true }
      let s := s.w p HEAD.WB_STAT_LINES_DROPPED (c.dropped + 1)
      let s := (s.statusBit p 5).pendInt p 18
      last (if x.wbOnce then s else s.event p Ev.WB_DROP (BitVec.ofNat 32 y))
    else
      let s := s.fresh
      let a := c.base.toNat + (y - c.y0) * c.pitch
      let bytes := ((pix.drop c.x0).take (c.x1 + 1 - c.x0)).flatMap (fun v => leBytes 4 (wbPixel ten c.fmt v))
      if !s.canWrite .writeback a bytes.length then
        ((s.capEnd h).statusBit p 6).event p Ev.PART_DENY (BitVec.ofNat 32 a)
      else last (s.devWrite .writeback a bytes)

/-- Active line `y` scanned from `nextPix`: overlay, signature, writeback (R176, R177, R183, R190). -/
def State.scanLine (s : State) (h y : Nat) : State :=
  let x := s.hd h
  let m := s.mode h
  if x.idle then s.setHd h { x with sigBroken := true, sent := [] }
  else
    let ten := s.b (pgHEAD h) HEAD.MODE_BPC
    let cols := List.range m.hAct
    let trip := cols.zip x.nextPix |>.map fun q =>
      let o := s.sapPixel h x q.1 y
      (o, quantPx ten x.outCfg q.1 y (overlaid o q.2), quantPx ten x.outCfg q.1 y (overlaid none q.2))
    let wx := windowOf x.winX.toNat m.hAct
    let wy := windowOf x.winY.toNat m.vAct
    let crc := if inWin wy y then
        BitVec.ofNat 32 (crc32cRun x.sigCrc.toNat
          (((trip.drop wx.1).take (wx.2 - wx.1)).flatMap (fun t => leBytes 4 (sigWord ten t.1 t.2.1))))
      else x.sigCrc
    let s := s.setHd h { x with sent := trip.map (fun t => BitVec.ofNat 32 t.2.1), sigCrc := crc
                                sigOpen := x.sigOpen || (y == x.sigLine m && !x.sigBroken) }
    let s := s.badEntries h y
    s.wbLine h y ten (trip.map (fun t => if x.cap.src then t.2.2 else t.2.1))

/-- A cell that could blink lies in the signature window (R184). -/
def State.couldBlink (s : State) (h bank : Nat) (winX winY : Nat) : Bool :=
  let m := s.mode h
  let wx := windowOf winX m.hAct
  let wy := windowOf winY m.vAct
  decide (wx.1 < wx.2) && decide (wy.1 < wy.2) &&
    (List.range 135).any (fun cy => decide (wy.1 < 16 * cy + 16) && decide (16 * cy < wy.2) &&
      (List.range 240).any (fun cx => decide (wx.1 < 16 * cx + 16) && decide (16 * cx < wx.2) &&
        (let e := s.sapCell h bank cx cy
         nbit e 15 && nbit e 14 && decide (nfld e 0 12 < 3072))))

/-- What the overlay and the signature take over at a frame start; a learn in progress awaits each phase that R184
can assign now and it has not captured (R175, R176, R181, R184, R186). -/
def State.sapFrameStart (s : State) (h : Nat) : State :=
  let p := pgSAP h
  let x := s.hd h
  let flip := s.b1 p SAPPHIRE.SAP_BANK_FLIP_PENDING && x.armed
  let s := if flip then
      let s := s.w1 p SAPPHIRE.SAP_BANK_ACTIVE (1 - s.r1 p SAPPHIRE.SAP_BANK_ACTIVE)
      let s := s.w1 p SAPPHIRE.SIG_REF_ON (s.r1 p SAPPHIRE.SIG_NEXT_ON)
      let s := s.w1 p SAPPHIRE.SIG_REF_OFF (s.r1 p SAPPHIRE.SIG_NEXT_OFF)
      (s.w1 p SAPPHIRE.SAP_BANK_FLIP_PENDING 0).pendInt1 p 2
    else s
  let blink := BitVec.ofNat 32 (s.r1 p SAPPHIRE.SAP_BLINK)
  let on := nfld blink.toNat 0 16
  let off := nfld blink.toNat 16 16
  let bank := s.r1 p SAPPHIRE.SAP_BANK_ACTIVE
  let winX := s.r1 p SAPPHIRE.SIG_WIN_X
  let winY := s.r1 p SAPPHIRE.SIG_WIN_Y
  let phaseOn := blinkOn on off x.frame
  let could := s.couldBlink h bank winX winY
  let learn := s.b1 p SAPPHIRE.SAP_CTRL_LEARN
  let restart := learn && (!x.learning || flip || blink != x.blink)
  let gotOn := x.gotOn && !restart
  let gotOff := x.gotOff && !restart
  let on := learn && !gotOn && !(could && on == 0 && off != 0)
  let off := learn && !gotOff && could && off != 0
  let s := if learn && !on && !off then (s.w1 p SAPPHIRE.SAP_CTRL_LEARN 0).pendInt1 p 3 else s
  s.setHd h
    { x with show_ := s.b1 p SAPPHIRE.SAP_CTRL_SHOW, bank := bank != 0, blink := blink
             winX := BitVec.ofNat 32 winX, winY := BitVec.ofNat 32 winY
             refOn := BitVec.ofNat 32 (s.r1 p SAPPHIRE.SIG_REF_ON), refOff := BitVec.ofNat 32 (s.r1 p SAPPHIRE.SIG_REF_OFF)
             phaseOn := phaseOn, sigPhase := phaseOn || !could, armed := false
             learning := on || off, learnOn := on, learnOff := off, gotOn := gotOn, gotOff := gotOff
             sigCrc := 0xFFFFFFFF, sigOpen := false, sigBroken := x.idle, sapOnce := false }

/-- A capture begins at a frame start that matches EVERY; a window wider than the pitch makes none, and leaves a
single capture's EN as it is (R189, R190, R192). -/
def State.wbFrameStart (s : State) (h : Nat) : State :=
  let p := pgHEAD h
  let x := s.hd h
  let m := s.mode h
  let every := s.r p HEAD.WB_CTRL_EVERY
  let s := s.setHd h { x with wbOnce := false }
  if !s.b p HEAD.WB_CTRL_EN || x.idle || (every != 0 && x.frame.toNat % every != 0) then s
  else
    let raw := s.r p HEAD.WB_WIN_X
    let wx := windowOf (s.r p HEAD.WB_WIN_X) m.hAct
    let wy := windowOf (s.r p HEAD.WB_WIN_Y) m.vAct
    let pitch := s.r p HEAD.WB_PITCH
    let buf := s.b p HEAD.WB_CTRL_ALTERNATE && !s.b p HEAD.WB_STAT_LAST
    if pitch / 4 < nfld raw 16 12 + 1 - nfld raw 0 12 then s.statusBit p 6
    else if wx.2 ≤ wx.1 ∨ wy.2 ≤ wy.1 then s
    else
      let c : Capture :=
        { active := true, buf := buf, base := BitVec.ofNat 64 (s.r p (HEAD.WB_BASE.at (8 * b2n buf))), pitch := pitch
          x0 := wx.1, x1 := wx.2 - 1, y0 := wy.1, y1 := wy.2 - 1, src := s.b p HEAD.WB_CTRL_SRC
          fmt := s.b p HEAD.WB_CTRL_FORMAT, single := every == 0, dropped := 0, frame := BitVec.ofNat 32 x.frame.toNat }
      let s := (s.w p HEAD.WB_STAT_BUSY 1).w p HEAD.WB_STAT_LINES_DROPPED 0
      s.setHd h { s.hd h with cap := c }

/-- The last write of the oldest complete capture is in device memory (R191). -/
def State.wbDone (s : State) (h : Nat) : State :=
  let p := pgHEAD h
  let x := s.hd h
  match x.capWait with
  | [] => s
  | c :: l =>
    let s := s.setHd h { x with capWait := l }
    let s := s.w p HEAD.WB_STAT_LAST (b2n c.buf)
    let s := s.w p HEAD.WB_STAT_BUSY (b2n (x.cap.active || !l.isEmpty))
    let s := s.w p HEAD.WB_LAST_FRAME c.frame.toNat
    (s.inc p HEAD.WB_CAPTURES).pendInt p 17

/-- The device fences the scan-out stage of head `h` (R184, R211). -/
def State.fenceScan (s : State) (h : Nat) : State :=
  if s.fenced 0 (pgHEAD h) then s
  else
    let s := (s.fenceMark 0 (pgHEAD h) 0 Ev.SIG_MISMATCH).scanOff h
    s.setHd h { s.hd h with sigFenced := true }

/-- A captured reference of a learn in progress (R186). -/
def State.learnTake (s : State) (h : Nat) (sig : Nat) : State :=
  let p := pgSAP h
  let x := s.hd h
  if !x.learning then s
  else
    let s := if x.sigPhase ∧ x.learnOn then s.w1 p SAPPHIRE.SIG_REF_ON sig
      else if !x.sigPhase ∧ x.learnOff then s.w1 p SAPPHIRE.SIG_REF_OFF sig else s
    let on := x.learnOn && !x.sigPhase
    let off := x.learnOff && x.sigPhase
    let s := s.setHd h { s.hd h with learnOn := on, learnOff := off, learning := on || off
                                     gotOn := x.gotOn || x.sigPhase, gotOff := x.gotOff || !x.sigPhase }
    if on || off then s else (s.w1 p SAPPHIRE.SAP_CTRL_LEARN 0).pendInt1 p 3

/-- The signature of the frame written and compared (R184 to R186). -/
def State.signatureCheck (s : State) (h : Nat) : State :=
  let p := pgSAP h
  let x := s.hd h
  if !x.sigOpen then s
  else
    let sig := (x.sigCrc ^^^ 0xFFFFFFFF).toNat
    let checked := s.b1 p SAPPHIRE.SAP_CTRL_CHECK && !x.learning
    let ok := decide (sig = (if x.sigPhase then x.refOn else x.refOff).toNat)
    let s := s.setHd h { x with sigOpen := false }
    let s := s.w1 p SAPPHIRE.SIG_LAST sig
    let s := s.w1 p SAPPHIRE.SIG_INFO_FRAME x.frame.toNat
    let s := s.w1 p SAPPHIRE.SIG_INFO_PHASE (b2n x.sigPhase)
    let s := s.w1 p SAPPHIRE.SIG_INFO_CHECKED (b2n checked)
    let s := s.w1 p SAPPHIRE.SIG_INFO_MATCH (b2n (checked && ok))
    let s := s.learnTake h sig
    if !checked then s
    else if ok then (s.w1 p SAPPHIRE.SIG_RUN 0).pendInt1 p 1
    else
      let run := satInc 255 (s.r1 p SAPPHIRE.SIG_RUN)
      let s := (s.w1 p SAPPHIRE.SIG_RUN run).inc1 p SAPPHIRE.SIG_FAILS
      let s := ((s.statusBit1 p 3).pendInt1 p 0).pendInt1 p 1
      let s := s.event1 p Ev.SIG_MISMATCH (mkDetail [(x.frame.toNat % 65536, 0), (b2n x.sigPhase, 16)])
      if s.r1 p SAPPHIRE.SAP_CTRL_LIMIT ≤ run ∧ s.b1 p SAPPHIRE.SAP_CTRL_ACTION then s.fenceScan h else s

/-! ### Writes of the SAPPHIRE pages -/

/-- A bank that SAP_DATA and palette writes may not touch (R179, R180). -/
def State.sapBarred (s : State) (p b : Nat) : Bool :=
  s.b1 p SAPPHIRE.SAP_BANK_COPYING || s.b1 p SAPPHIRE.SAP_BANK_FLIP_PENDING || b == s.r1 p SAPPHIRE.SAP_BANK_ACTIVE

/-- A write dropped under R179 or R180. -/
def State.activeWrite (s : State) (p off : Nat) : Eff :=
  ((s.statusBit1 p 5).accEvent 1 p Ev.ACTIVE_WRITE (BitVec.ofNat 32 off), false)

/-- SAP_ADDR after an access (R179). -/
def State.sapAdvance (s : State) (p : Nat) : State :=
  if s.b1 p SAPPHIRE.SAP_ADDR_AUTOINC then
    s.w1 p SAPPHIRE.SAP_ADDR_OFFSET ((s.r1 p SAPPHIRE.SAP_ADDR_OFFSET + 4) % 0x80000) else s

/-- A word of Sapphire RAM written (R179). -/
def State.sapDataWrite (s : State) (w : Wr) (h : Nat) : Eff :=
  let p := w.page
  let o := s.r1 p SAPPHIRE.SAP_ADDR_OFFSET / 4 * 4
  let s := s.sapAdvance p
  if o < 0x20000 ∧ s.sapBarred p (o / 0x10000) then s.activeWrite p o
  else done { s with sapRam := memWrite s.sapRam (sapAddr h o) (leBytes 4 w.v) }

/-- A Sapphire palette entry written whole (R180). The detail is its offset on the page. -/
def State.spalWrite (s : State) (w : Wr) : Eff :=
  let b := (w.off - 0x400) / 0x200
  if s.sapBarred w.page b then s.activeWrite w.page w.off
  else done (s.setReg 1 w.page w.off (w.value &&& 0xFF3FFFFFFF))

/-- A write of SAP_CTRL (R181, R182, R186, R188). -/
def State.sapCtrlWrite (s : State) (w : Wr) (h : Nat) : Eff :=
  let p := w.page
  let flip := w.f SAPPHIRE.SAP_CTRL_FLIP != 0
  let copy := w.f SAPPHIRE.SAP_CTRL_COPY != 0
  let busy := s.b1 p SAPPHIRE.SAP_BANK_FLIP_PENDING || s.b1 p SAPPHIRE.SAP_BANK_COPYING
  w.require s (w.f SAPPHIRE.SAP_CTRL_LIMIT != 0) Ev.BAD_VALUE fun s =>
    w.require s (!(flip && copy) && !((flip || copy) && busy)) Ev.BAD_STATE fun s =>
      let learn := s.b1 p SAPPHIRE.SAP_CTRL_LEARN || w.f SAPPHIRE.SAP_CTRL_LEARN != 0
      let s := s.w1 p SAPPHIRE.SAP_CTRL (w.v &&& 0xF31)
      let s := s.w1 p SAPPHIRE.SAP_CTRL_LEARN (b2n learn)
      let x := s.hd h
      let s := if flip then (s.w1 p SAPPHIRE.SAP_BANK_FLIP_PENDING 1).setHd h { x with armed := false } else s
      done (if copy then (s.w1 p SAPPHIRE.SAP_BANK_COPYING 1).setHd h { x with copyFc := s.fc } else s)

/-- The copy completes: active map and palette banks stand in the inactive ones (R182). -/
def State.sapCopyDone (s : State) (h : Nat) : State :=
  let p := pgSAP h
  if !s.b1 p SAPPHIRE.SAP_BANK_COPYING then s
  else
    let s := s.advanceFc ((s.hd h).copyFc + 16512)
    let a := s.r1 p SAPPHIRE.SAP_BANK_ACTIVE
    let i := 1 - a
    let lo := sapAddr h (i * 0x10000)
    let src := sapAddr h (a * 0x10000)
    let kept := s.sapRam.filter (fun c => !(decide (lo ≤ c.1) && decide (c.1 < lo + 0x10000)))
    let moved := (s.sapRam.filter (fun c => decide (src ≤ c.1) && decide (c.1 < src + 0x10000))).map (fun c => (c.1 - src + lo, c.2))
    let s := { s with sapRam := moved.foldl (fun (m : Mem) (c : Host.Cell) => memSetByte m c.1 c.2) kept }
    let s := (List.range 64).foldl (fun t e =>
      t.setReg 1 p (0x400 + 0x200 * i + 8 * e) (t.reg 1 p (0x400 + 0x200 * a + 8 * e))) s
    (s.w1 p SAPPHIRE.SAP_BANK_COPYING 0).pendInt1 p 4

/-- A write to a SAPPHIRE page's block-specific registers (R178 to R188). -/
def State.sapWrite (s : State) (w : Wr) (h : Nat) : Eff :=
  if w.off = 0x100 then s.sapCtrlWrite w h
  else if w.off = 0x10C then w.require s (w.v % 4 == 0) Ev.BAD_VALUE (·.plain w)
  else if w.off = 0x110 then s.sapDataWrite w h
  else if 0x400 ≤ w.off ∧ w.off < 0x800 then s.spalWrite w
  else s.plain w

end Sys2Proof.Machine
end

