-- ==== Sys2Proof/Machine/Beam.lean ====
section
/-! DEFINITION. The beam: scan deadlines, dot 0 of a line, frame starts, sync, enabling a head, and the
writes of the HEAD pages (R140 to R148, R160, R161, R195, R196, R204 to R211, R221). -/

namespace Sys2Proof.Machine

/-- A head's pixels of an active line for the scan stage: those of its serving engine, if they are complete
for the frame (R142, R143). -/
def State.storedLine (s : State) (h l : Nat) : Option (List W32) :=
  let f := if l = 0 then (s.hd h).frame + 1 else (s.hd h).frame
  ((s.eng (s.servedBy h)).lines.find? (fun b => b.line == l && b.frame == f)).map (·.pix)

/-- Composition of line `l` given up, in the serving engine and in the one beside it (R143). -/
def State.abandon (s : State) (h l : Nat) : State :=
  let drop := fun (s : State) (e : Nat) =>
    let x := s.eng e
    if x.composing = some l ∧ s.stateOf e = h then s.setEng e { x with composing := none, startMem := [], bad := [] } else s
  let s := drop s (s.servedBy h)
  match s.shadowOf h l with
  | some e => drop s e
  | none => s

/-- The underrun reaction for active line `l` (R209). -/
def State.underrun (s : State) (h l : Nat) : State :=
  let p := pgHEAD h
  let x := s.hd h
  let black := List.replicate (s.mode h).hAct (0 : W32)
  let s := s.setHd h { x with nextPix := x.lastLine.getD black
                              lateFirst := if x.lateCount = 0 then l else x.lateFirst
                              lateCount := x.lateCount + 1 }
  ((s.inc p HEAD.LATE_LINES).statusBit p 7).pendInt p 19

/-- The lines an error measured in the frame adds or leaves out at its end (R206). -/
def HeadSt.slewLines (x : HeadSt) : Nat := min x.corr.natAbs x.slew

/-- The lines to leave out at the end of this frame: those of the error measured in it, else those the frame before
had scanned already when its error was measured (R206; log entry 141). -/
def HeadSt.leaves (x : HeadSt) : Nat :=
  if x.evtUsed then (if x.corr < 0 then x.slewLines else 0) else x.short

/-- The line after the present one, and whether lines are left out before it (R206). -/
def State.nextLine (s : State) (h : Nat) : Nat × Bool :=
  let x := s.hd h
  let v := (s.mode h).vTot
  let b := s.beam h
  if v ≤ b + 2 + x.leaves ∧ b + 2 < v then (v - 1, true)
  else if b + 1 < v then (b + 1, false) else (0, false)

/-- Line starts of lines that the beam leaves out, made without composing (R206). -/
def State.skipStarts (s : State) (h : Nat) : Nat → State
  | 0 => s
  | fuel + 1 =>
    let n := (s.hd h).startNext
    if n + 1 < (s.mode h).vTot ∧ s.beam h < n then (s.lineStartRun h n false).skipStarts h fuel else s

/-- The beam repeats its line: further scans of line V_total − 1, or a hold at its last dot (R206, R208). -/
def State.beamHolds (s : State) (h : Nat) : Bool :=
  let x := s.hd h
  let last := s.beam h + 1 == (s.mode h).vTot
  last && ((match x.hold with
    | some n => n != 0
    | none => decide (0 < x.corr) && x.slewLines != 0)
    || (x.jumping && x.jumpAt.isNone && !s.runsFree h))

/-- The scan deadline of the next line (R143, R209, R210, R213). -/
def State.scanDeadline (s : State) (h : Nat) : State :=
  let x := s.hd h
  if !s.present 0 (pgHEAD h) || !s.enabled (pgHEAD h) || !s.pdOn h || !x.begun || x.deadline then s
  else
    let s := s.setHd h { x with deadline := true }
    if s.beamHolds h then s
    else
      let m := s.mode h
      let nl := s.nextLine h
      let l := nl.1
      let black := List.replicate m.hAct (0 : W32)
      let s := if l = 0 then s.setHd h { s.hd h with armed := s.b1 (pgSAP h) SAPPHIRE.SAP_BANK_FLIP_PENDING } else s
      let dark := x.dark && !(x.darkEnd && l == 0)
      if (x.dark && !x.darkEnd) || s.darkCause h then
        let s := s.setHd h { s.hd h with nextPix := black }
        if l = 0 then s.relStep h else s
      else
        let s := if nl.2 then s.skipStarts h 16 else s
        let s := if (s.hd h).startNext = l then s.lineStartRun h l false else s
        let s := if l = 0 then s.relStep h else s
        if m.vAct ≤ l then s
        else if dark then s.setHd h { s.hd h with nextPix := black }
        else match s.storedLine h l with
          | some pix => s.setHd h { s.hd h with nextPix := pix, lastLine := some pix }
          | none => (s.abandon h l).underrun h l

/-! ### Sync -/

/-- Acquisition begins (R207, R208). -/
def State.acquire (s : State) (h : Nat) : State :=
  let x := s.hd h
  (s.setHd h { x with zeroRun := 0, jumping := x.jump, jumpHeld := false, jumpAt := none }).w (pgHEAD h) HEAD.SYNC_STAT_STATE 1

/-- SYNC_CFG and the mode taken into force at a frame start, and what they make of the sync state (R204,
R207, R221). -/
def State.syncLatch (s : State) (h : Nat) : State :=
  let p := pgHEAD h
  let x := s.hd h
  let cfg := BitVec.ofNat 32 (s.r p HEAD.SYNC_CFG)
  let mode := s.r p HEAD.MODE
  let changed := nfld cfg.toNat 0 3 != x.source || nfld cfg.toNat 16 12 != x.syncOffset || mode != x.syncMode
  let s := s.setHd h { x with syncCfg := cfg, syncMode := mode }
  if s.runsFree h then
    (s.setHd h { s.hd h with zeroRun := 0, jumping := false, jumpHeld := false, jumpAt := none }).w p HEAD.SYNC_STAT_STATE 0
  else if changed || s.r p HEAD.SYNC_STAT_STATE == 0 then s.acquire h
  else s

/-- E of R205: the beam against the line OFFSET lines before the frame's end, as a signed value. -/
def syncError (b v off : Nat) : Int :=
  let e := (b + off) % v
  if e ≤ v / 2 then e else (e : Int) - v

/-- A sync event reaches head `h` (R205 to R208). One that ends a jump is measured and counted like any other, but
the jump alone places that frame's end (log entry 142). -/
def State.syncEvent (s : State) (h : Nat) : State :=
  let p := pgHEAD h
  let x := s.hd h
  if !s.present 0 p || !s.enabled p || !s.pdOn h || !x.begun || s.runsFree h then s
  else
    let v := (s.mode h).vTot
    let s := if s.r p HEAD.SYNC_STAT_STATE = 3 then s.acquire h else s
    let x := s.hd h
    let ends := x.jumpHeld && x.jumpAt.isNone
    let x := if ends then { x with jumping := false, jumpAt := some (s.fc + x.syncOffset * (s.mode h).lineFc) } else x
    let s := s.setHd h x
    if x.evtUsed then s.incSat p HEAD.SYNC_COUNT_EXTRA
    else
      let e := syncError (s.beam h) v x.syncOffset
      let run := if e = 0 then x.zeroRun + 1 else 0
      let s := s.setHd h { x with evtUsed := true, corr := if ends then 0 else e, zeroRun := run }
      let s := s.w p HEAD.SYNC_STAT_ERROR (unsigned 12 e)
      if s.r p HEAD.SYNC_STAT_STATE = 1 ∧ 2 ≤ run then (s.w p HEAD.SYNC_STAT_STATE 2).pendInt p 20 else s

/-- No event for three nominal frame periods (R207); a head that held for its first event goes on. -/
def State.syncLost (s : State) (h : Nat) : State :=
  let p := pgHEAD h
  let x := s.hd h
  let st := s.r p HEAD.SYNC_STAT_STATE
  if !s.present 0 p || !s.enabled p || !s.pdOn h || s.runsFree h || !(st == 1 || st == 2) then s
  else
    let s := s.setHd h { x with zeroRun := 0, jumping := false, jumpAt := if x.jumpHeld && x.jumpAt.isNone then some s.fc else x.jumpAt }
    let s := s.w p HEAD.SYNC_STAT_STATE 3
    let s := ((s.statusBit p 8).pendInt p 21).eventOpen p Ev.SYNC_LOST
    s.incSat p HEAD.SYNC_COUNT_MISSED

/-- A line-sync marker arrives (R337). -/
def State.markerIn (s : State) (mode : Nat) (frame : BitVec 48) : State :=
  if !s.following || !s.active pMIRROR || !s.mirror.trained then s
  else s.enabledHeads.foldl (fun t h =>
    let x := t.hd h
    if x.source ≠ 4 then t
    else if (modeOf mode).frameTicks ≠ (t.mode h).frameTicks ∨ mode = 0 ∨ 10 < mode then
      t.setHd h { x with partnerMm := true }
    else (t.setHd h { x with partnerMm := false, partner := some frame }).syncEvent h) s

/-! ### Dot 0 of a line -/

/-- The scan-time entries of the lines from `lo` to `l` fire, in list order (R152, R160, R161, R206). A dark
head's do not (R210). -/
def State.fireScan (s : State) (h lo l : Nat) : State :=
  let x := s.hd h
  let now := x.scanQ.filter (fun q => decide (lo ≤ q.line ∧ q.line ≤ l))
  let s := s.setHd h { x with scanQ := x.scanQ.filter (fun q => !(decide (lo ≤ q.line ∧ q.line ≤ l))) }
  if x.dark && !(x.darkEnd && l == 0) then s
  else now.foldl (fun t q =>
    let w1 := q.w1.toNat
    if q.op = 0x09 then (t.pendInt (pgHEAD h) (8 + w1 % 8)).w (pgHEAD h) HEAD.SEV_TAG q.w2.toNat
    else t.submitAction (w1 % 64) (nfld w1 8 2) q.w2 (t.owner 0 (pgHEAD h)) (2 + h)) s

/-- The dark state begins once its cause is there, and its end is prepared at dot 0 of line V_total − 1 −
LOOKAHEAD, or of the line after it where it is left out: the beam passes the lines `lo` to `l` (R206, R210). -/
def State.darkStep (s : State) (h lo l : Nat) : State :=
  let p := pgHEAD h
  let x := s.hd h
  let v := (s.mode h).vTot
  if s.darkCause h then
    let s := s.setHd h { x with dark := true, darkEnd := false, scanQ := if x.dark then x.scanQ else [] }
    s.w p HEAD.HEAD_STAT_DARK 1
  else if x.dark && !x.darkEnd && decide (lo + 1 + s.r p HEAD.LOOKAHEAD ≤ v) && decide (v ≤ l + 1 + s.r p HEAD.LOOKAHEAD) then
    let s := s.setHd h { x with darkEnd := true, startNext := v - 1, llBuf := [], llEnded := true, llRefused := false }
    s.lineStartRun h (v - 1) false
  else s

/-- Lines already composed for the frame that begins are lines of it under the number it gets (R142, R337). -/
def State.retag (s : State) (h : Nat) (old new : BitVec 48) : State :=
  let one := fun (s : State) (e : Nat) =>
    let x := s.eng e
    s.setEng e { x with lines := x.lines.map (fun b => if b.frame = old then { b with frame := new } else b) }
  if old = new then s
  else
    let s := one s h
    if s.relHead = h then one s 32 else s

/-- A frame start (R116, R140, R176, R189, R193, R209, R210, R337, R475). -/
def State.frameStart (s : State) (h : Nat) : State :=
  let p := pgHEAD h
  let s := s.syncLatch h
  let x := s.hd h
  let frame := match x.partner with
    | some f => f + 1
    | none => x.frame + 1
  let ends := x.dark && x.darkEnd
  let idle := x.idle && (s.fenced 0 p || s.fenced 1 (pgSAP h))
  let s := s.setHd h
    { x with frame := frame, partner := none, dark := x.dark && !ends, darkEnd := false, idle := idle
             outCfg := s.b p HEAD.OUT_CFG, evtUsed := false, corr := 0, hold := none, jumpHeld := false, jumpAt := none
             left := 0, short := if x.evtUsed && !s.runsFree h then x.leaves - x.left else 0
             lateFirst := 0, lateCount := 0, linesThisFrame := 0 }
  let s := s.retag h (x.frame + 1) frame
  let s := s.w p HEAD.FRAME_LINES x.linesThisFrame
  let s := if ends then s.w p HEAD.HEAD_STAT_DARK 0 else s
  let s := s.pendInt p 22
  let s := if x.lateCount = 0 then s
    else s.event p Ev.LATE_LINE (mkDetail [(x.lateFirst, 0), (min x.lateCount 65535, 16)])
  (s.sapFrameStart h).wbFrameStart h

/-- What the bellwether's beam sets off: a role change scheduled at its first blank line, markers, a waiting
audio start, a retrain's count of frames, the relief engine's next try (R80, R212, R332, R337, R396). -/
def State.bellLine (s : State) (h l : Nat) : State :=
  let m := s.mode h
  if s.bellwether ≠ some h then s
  else
    let s := if l = m.vAct then s.roleSchedule else s
    let s := if l + 8 = m.vTot then s.sendMarker h else s
    if l ≠ 0 then s
    else
      let s := if s.audio.waitAlign
        then { s with audio := { s.audio with waitAlign := false, dueFc := (s.hd h).dotFc } } else s
      let s := if s.b pMEMCTL MEMCTL.TRAIN_STAT_PENDING then s.incSat pMEMCTL MEMCTL.TRAIN_STAT_DEFERRED_FRAMES else s
      s.relTry

/-- The beam at dot 0 of line `l`, reached at fabric cycle `due` (R140, R145, R146). -/
def State.beamAt (s : State) (h l due : Nat) (lo : Nat) : State :=
  let p := pgHEAD h
  let s := s.advanceFc due
  let s := s.setHd h { s.hd h with dotFc := due, deadline := false, left := (s.hd h).left + (l - lo) }
  let s := s.w p HEAD.BEAM_LINE l
  let s := if l = 0 then s.frameStart h else s
  let s := s.setHd h { s.hd h with linesThisFrame := (s.hd h).linesThisFrame + 1 }
  let f := (s.hd h).frame.toNat
  let s := s.w p HEAD.BEAM_FRAME f
  let s := s.w p HEAD.BEAM_SNAP (f * 65536 + l)
  let s := (s.darkStep h lo l).fireScan h lo l
  let s := if (s.hd h).dark then s.setHd h { s.hd h with nextPix := List.replicate (s.mode h).hAct 0 } else s
  let s := s.bellLine h l
  if l < (s.mode h).vAct then s.scanLine h l else s.setHd h { s.hd h with sent := [] }

/-- Dot 0 of the next line of head `h`; a head held in a jump that comes to run free goes on at once (R140, R196,
R204, R206, R208, R337). -/
def State.beamLine (s : State) (h : Nat) : State :=
  let p := pgHEAD h
  let x := s.hd h
  let m := s.mode h
  if !s.present 0 p || !s.pdOn h then s
  else if !s.enabled p then
    (if x.stopping then
      (s.advanceFc (x.dotFc + m.lineFc)).setHd h { x with idle := true, stopping := false, sigBroken := true, sigOpen := false, sent := [] }
     else s)
  else if !x.begun then
    (s.setHd h { x with begun := true }).beamAt h (m.vTot - 8) s.fc (m.vTot - 8)
  else
    let s := if x.deadline then s else s.scanDeadline h
    let x := s.hd h
    let due := x.dotFc + m.lineFc
    let b := s.beam h
    if b + 1 = m.vTot then
      match x.hold with
      | some (n + 1) =>
        let s := s.advanceFc due
        s.setHd h { s.hd h with hold := some n, dotFc := due, deadline := false, linesThisFrame := x.linesThisFrame + 1 }
      | hold =>
        if hold.isNone && decide (0 < x.corr) && x.slewLines != 0 then
          let s := s.advanceFc due
          s.setHd h { s.hd h with hold := some (x.slewLines - 1), dotFc := due, deadline := false, linesThisFrame := x.linesThisFrame + 1 }
        else match x.jumpAt with
          | some f => s.beamAt h 0 (max f due) 0
          | none =>
            if x.jumping && !s.runsFree h then s.setHd h { x with jumpHeld := true, deadline := false }
            else s.beamAt h 0 (if x.jumpHeld then max due s.fc else due) 0
    else
      let nl := s.nextLine h
      s.beamAt h nl.1 due (b + 1)

/-! ### Enabling, and the writes of the HEAD pages -/

/-- A head is enabled (R196). -/
def State.headOn (s : State) (h : Nat) : State :=
  let x := s.hd h
  let v := (s.mode h).vTot
  let e := s.eng (s.servedBy h)
  let s := s.setEng (s.servedBy h) { e with composing := none, startMem := [], bad := [], lines := [], sigCount := 0
                                            sigRun := 0xFFFFFFFF, sigFrame := none }
  let s := s.setHd h
    { x with begun := false, startNext := v - 7, deadline := false, stopping := false
             idle := s.fenced 0 (pgHEAD h) || s.fenced 1 (pgSAP h)
             llActive := false, llBuf := [], llEnded := true, llRefused := false, llWaiting := false, scanQ := []
             lastLine := none, nextPix := [], sent := [], lateFirst := 0, lateCount := 0, linesThisFrame := 0
             dark := false, darkEnd := false, evtUsed := false, corr := 0, left := 0, short := 0, hold := none, zeroRun := 0
             jumping := false, jumpHeld := false, jumpAt := none, sigBroken := true, sigOpen := false }
  s.allocate (h / 4)

/-- A head is disabled: it composes nothing further, its list and its capture stop, and the relief engine leaves it
(R193, R196, R212). -/
def State.headOff (s : State) (h : Nat) : State :=
  let drop := fun (s : State) (e : Nat) => s.setEng e { s.eng e with composing := none, startMem := [], bad := [] }
  let x := s.hd h
  let s := drop s (s.servedBy h)
  let s := if s.relHead = h ∧ s.relPhase ≠ ph.IDLE then drop s (if s.servedBy h = 32 then h else 32) else s
  let s := s.setHd h { x with stopping := x.begun, idle := x.idle || !x.begun, llActive := false, llBuf := [], llEnded := true, llRefused := false
                              llWaiting := false, scanQ := [], dark := false, darkEnd := false }
  let s := ((s.capStop h).w (pgHEAD h) HEAD.HEAD_STAT_DARK 0).relLeave h
  let s := s.allocate (h / 4)
  if s.bellwether.isNone then s.roleSchedule.roleTake else s

/-- A write to a HEAD page's block-specific registers (R144, R149, R189, R192, R195, R221). -/
def State.headWrite (s : State) (w : Wr) (h : Nat) : Eff :=
  let o := w.off
  if o = 0x100 then
    w.require s (!s.enabled w.page) Ev.BAD_STATE fun s =>
      w.require s (decide (1 ≤ w.f HEAD.MODE ∧ w.f HEAD.MODE ≤ 10)) Ev.BAD_VALUE (·.plain w)
  else if o = 0x218 then w.require s (decide (2 ≤ w.v % 8 ∧ w.v % 8 ≤ 4)) Ev.BAD_VALUE (·.plain w)
  else if o = 0x220 then
    w.require s (w.v % 16 == 0) Ev.BAD_VALUE fun s => done (s.setPend w.page o w.value)
  else if o = 0x228 then done (s.setPend w.page o (w.value &&& 1))
  else if o = 0x308 ∨ o = 0x310 then w.require s (w.v % 64 == 0) Ev.BAD_VALUE (·.plain w)
  else if o = 0x318 then w.require s (w.v % 64 == 0) Ev.BAD_VALUE (·.plain w)
  else if o = 0x400 then
    w.require s (decide (w.f HEAD.SYNC_CFG_SOURCE ≤ 4) && decide (w.f HEAD.SYNC_CFG_OFFSET < (s.mode h).vTot)) Ev.BAD_VALUE
      (·.plain w)
  else s.plain w

/-- Dot of the beam at the moment of a read (R145). -/
def State.beamDot (s : State) (h : Nat) : Nat :=
  let x := s.hd h
  let m := s.mode h
  if x.begun && s.enabled (pgHEAD h) then min ((s.fc - x.dotFc) / m.dot) (m.hTot - 1) else 0

end Sys2Proof.Machine
end

