-- ==== Sys2Proof/Machine/Blitter.lean ====
section
/-! DEFINITION. The blitter: submission, list commands, rectangles, waiting for the beam, watermarks, pacing,
faults (R225 to R242). -/

namespace Sys2Proof.Machine

def State.bltCls (s : State) (c : BltClass) : BltCls := match c with
  | .race => s.blt.race
  | .batch => s.blt.batch

def State.setBltCls (s : State) (c : BltClass) (x : BltCls) : State := match c with
  | .race => { s with blt := { s.blt with race := x } }
  | .batch => { s with blt := { s.blt with batch := x } }

/-- A class's number in FAULT_INFO and in details (R226, R240). -/
def clsCode (c : BltClass) : Nat := match c with
  | .race => 0
  | .batch => 1

/-- STATUS.RACE_HALT and BATCH_HALT. -/
def clsHalt (c : BltClass) : Fld := match c with
  | .race => BLITTER.STATUS_RACE_HALT
  | .batch => BLITTER.STATUS_BATCH_HALT

/-- A class with nothing running takes the next list of its queue (R226, R241). -/
def State.bltStart (s : State) (c : BltClass) : State :=
  let x := s.bltCls c
  if !s.active pBLITTER || s.b pBLITTER (clsHalt c) || x.cur.isSome then s
  else match x.queue with
    | [] => s
    | l :: q => s.setBltCls c { x with queue := q, cur := some l }

/-- The RACE class has a command to run (R237). -/
def State.raceRunnable (s : State) : Bool :=
  !s.b pBLITTER BLITTER.STATUS_RACE_HALT && (match s.blt.race.cur with
    | some l => !l.waiting
    | none => !s.blt.race.queue.isEmpty)

/-- A list submitted (R225, R226, R238). -/
def State.bltSubmit (s : State) (w : Wr) (c : BltClass) : Eff :=
  let a := w.value.toNat
  let x := s.bltCls c
  w.require s (a % 64 == 0 && s.inPart 1 a 64) Ev.BAD_VALUE fun s =>
    if 16 ≤ x.queue.length then
      ((s.statusBit pBLITTER 5).event pBLITTER Ev.QUEUE_FULL (BitVec.ofNat 32 (clsCode c)), false)
    else
      let race := c == .race
      let l : BltList := { addr := a, pc := a, wmEn := race && s.b pBLITTER BLITTER.RACE_WMARK_EN
                           wmHead := s.r pBLITTER BLITTER.RACE_WMARK_HEAD, wmLine := s.r pBLITTER BLITTER.RACE_WMARK_LINE }
      done ((s.setBltCls c { x with queue := x.queue ++ [l] }).bltStart c)

/-- A fault stops the list and halts its class (R240). -/
def State.bltFault (s : State) (c : BltClass) (code : Nat) : State :=
  let x := s.bltCls c
  let pc := match x.cur with
    | some l => l.pc
    | none => 0
  let s := (s.setBltCls c { x with cur := none }).w pBLITTER (clsHalt c) 1
  let s := s.w pBLITTER BLITTER.FAULT_ADDR pc
  let s := (s.w pBLITTER BLITTER.FAULT_INFO_CODE code).w pBLITTER BLITTER.FAULT_INFO_CLASS (clsCode c)
  ((s.statusBit pBLITTER 3).pendInt pBLITTER 3).event pBLITTER Ev.BLT_FAULT (mkDetail [(code, 0), (clsCode c, 8)])

/-- An access refused under R46: recorded with its address, and the list faults (R240). -/
def State.bltDeny (s : State) (c : BltClass) (a : Nat) : State :=
  (s.event pBLITTER Ev.PART_DENY (BitVec.ofNat 32 a)).bltFault c 6

/-- A pause under way passes (R239). -/
def State.pacePass (s : State) (c : BltClass) : State :=
  match (s.bltCls c).pause with
  | none => s
  | some f => (s.advanceFc f).setBltCls c { s.bltCls c with pause := none }

/-- `n` requests issued, each whole burst of them followed by a pause: those within the `n` pass, the one after the
last stays to be waited out. A burst keeps the PACE setting it began with (R239). -/
def State.bltPace (s : State) (c : BltClass) (n : Nat) : State :=
  let s := s.pacePass c
  let x := s.bltCls c
  let reg := BitVec.ofNat 32 (s.r pBLITTER (if c = .race then BLITTER.PACE_RACE else BLITTER.PACE_BATCH))
  let pace := if x.burst = 0 then reg else x.pace
  let burst := fun (p : W32) => nfld p.toNat 0 7
  let dead := fun (p : W32) => nfld p.toNat 16 16
  let b := x.burst + n
  if b < burst pace then s.setBltCls c { x with burst := b, pace := pace }
  else
    let past := b - burst pace
    let q := past / burst reg
    let r := past % burst reg
    let inner := if past = 0 then 0 else if r = 0 then dead pace + (q - 1) * dead reg else dead pace + q * dead reg
    let last := if r ≠ 0 then 0 else if q = 0 then dead pace else dead reg
    let s := if inner = 0 then s else s.advanceFc (s.fc + inner)
    s.setBltCls c { x with burst := r, pace := if past = 0 then pace else reg
                           pause := if last = 0 then none else some (s.fc + last) }

/-- The list of a class changed. -/
def State.bltCur (s : State) (c : BltClass) (f : BltList → BltList) : State :=
  let x := s.bltCls c
  s.setBltCls c { x with cur := x.cur.map f }

/-- A command boundary: the next command is read at `pc`, unless the list was flushed, when the class goes on to its
next list (R235, R241). -/
def State.bltTo (s : State) (c : BltClass) (pc : Nat) : State :=
  match (s.bltCls c).cur with
  | none => s
  | some l =>
    if l.stop then (s.setBltCls c { s.bltCls c with cur := none }).bltStart c
    else s.setBltCls c { s.bltCls c with cur := some { l with pc := pc, waiting := false, words := [], rowAt := 0 } }

/-- The command is complete: the next one follows it in memory. -/
def State.bltNext (s : State) (c : BltClass) : State :=
  match (s.bltCls c).cur with
  | none => s
  | some l => s.bltTo c (l.pc + 64)

/-- The command words at `a`. -/
def State.bltWords (s : State) (a : Nat) : List Nat := (List.range 16).map fun i => leNat (memRead s.mem (a + 4 * i) 4)

/-- Operations of the table under R227. -/
def bltKnown (op : Nat) : Bool := decide (op ≤ 8) || op == 0x0E || op == 0x0F

/-- The first command of a list begins: its watermark's line, where the beam is on it already, is that of the next
frame (R238). -/
def State.bltBegin (s : State) (l : BltList) : BltList :=
  if l.begun then l
  else { l with begun := true, onLine := if s.beam l.wmHead = l.wmLine then some (s.hd l.wmHead).frame else none }

/-- The next command of a class, whose operation is `op`, runs: `eff` is what it does once read. A read of the
list that is refused or fails, a reserved bit, and (with NOP) an operation the table does not hold, fault. A rectangle
that stopped between two rows goes on with the words it was read with (R227, R235, R237, R240). -/
def State.bltCommand (s : State) (c : BltClass) (op : Nat) (listErr : Bool) (eff : State → List Nat → State) : State :=
  let x := s.bltCls c
  match x.cur with
  | none => s
  | some l =>
    if !s.active pBLITTER || s.b pBLITTER (clsHalt c) || x.pause.isSome || l.waiting || (c == .batch && s.raceRunnable) then s
    else if l.rowAt ≠ 0 then (if l.words.getD 0 0 = op then eff s.memWait l.words else s)
    else if !s.canRead .blitter l.pc 64 then s.bltDeny c l.pc
    else
      let ws := s.bltWords l.pc
      let w0 := ws.getD 0 0
      let mine := w0 % 256 == op || (op == 0 && !bltKnown (w0 % 256))
      if !mine then s
      else
        let s := ((s.memWait.snoop l.pc 64).bltCur c s.bltBegin).bltPace c 1
        if listErr then s.bltFault c 7
        else if 256 ≤ w0 ∨ !bltKnown (w0 % 256) then s.bltFault c 1
        else eff s ws

/-! ### Rectangles -/

/-- A rectangle command's fields (table "Rectangle command layout"). -/
structure Rect where
  op : Nat
  dfmt : Nat
  sfmt : Nat
  mode : Nat
  tbg : Bool
  alpha : Nat
  pbank : Nat
  dbase : Nat
  sbase : Nat
  dpitch : Nat
  spitch : Nat
  dx : Nat
  dy : Nat
  sx : Nat
  sy : Nat
  w : Nat
  h : Nat
  c0 : Nat
  c1 : Nat

def rectOf (ws : List Nat) : Rect :=
  let g := fun (i : Nat) => ws.getD i 0
  { op := g 0 % 256, dfmt := nfld (g 1) 0 4, sfmt := nfld (g 1) 4 4, mode := nfld (g 1) 8 2, tbg := nbit (g 1) 10
    alpha := nfld (g 1) 16 8, pbank := nfld (g 1) 24 6, dbase := g 2 + g 3 * 2 ^ 32, sbase := g 4 + g 5 * 2 ^ 32
    dpitch := nfld (g 6) 0 20, spitch := nfld (g 7) 0 20, dx := nfld (g 8) 0 14, dy := nfld (g 8) 16 14
    sx := nfld (g 9) 0 14, sy := nfld (g 9) 16 14, w := nfld (g 10) 0 14, h := nfld (g 10) 16 14, c0 := g 11, c1 := g 12 }

/-- Bits per pixel of a blitter format (R228). -/
def bltBits (fmt : Nat) : Nat := if fmt = 7 then 1 else fmtBits fmt

/-- The operation reads a source. -/
def Rect.src (r : Rect) : Bool := r.op != 2

/-- A reserved bit is not 0 (R227, table "Rectangle command layout"); a colour's bits above the pixel where
the operation uses that colour. -/
def rectReserved (ws : List Nat) : Bool :=
  let g := fun (i : Nat) => ws.getD i 0
  let r := rectOf ws
  let high := fun (v : Nat) => decide (r.dfmt ≤ 5) && decide (2 ^ bltBits r.dfmt ≤ v)
  nfld (g 1) 11 5 != 0 || nfld (g 1) 30 2 != 0 || nfld (g 6) 20 12 != 0 || nfld (g 7) 20 12 != 0
    || [8, 9, 10].any (fun i => nfld (g i) 14 2 != 0 || nfld (g i) 30 2 != 0)
    || g 13 != 0 || g 14 != 0 || g 15 != 0
    || ((r.op == 2 || r.op == 3) && high r.c0) || (r.op == 3 && !r.tbg && high r.c1)

/-- Pixels of a format lie on whole bytes (R229). -/
def pixAligned (fmt x w : Nat) : Bool :=
  if fmt = 0 then x % 4 == 0 && w % 4 == 0 else if fmt = 1 then x % 2 == 0 && w % 2 == 0 else true

/-- The check of R229 a command fails; format, alignment, pitch in the order of their codes. -/
def Rect.fault (r : Rect) : Option Nat :=
  let fmtOk :=
    if r.op = 1 then r.sfmt == r.dfmt && decide (r.dfmt ≤ 5)
    else if r.op = 2 then decide (r.dfmt ≤ 5)
    else if r.op = 3 then r.sfmt == 7 && decide (r.dfmt ≤ 5)
    else decide (r.sfmt ≤ 5) && decide (3 ≤ r.dfmt) && decide (r.dfmt ≤ 5)
  let alOk := r.dbase % 4 == 0 && r.dpitch % 4 == 0 && pixAligned r.dfmt r.dx r.w &&
    (!r.src || (r.sbase % 4 == 0 && r.spitch % 4 == 0 && pixAligned r.sfmt r.sx r.w && (r.sfmt != 7 || r.sx % 8 == 0)))
  let pitchOk := decide (ceilDiv ((r.dx + r.w) * bltBits r.dfmt) 8 ≤ r.dpitch) &&
    (!r.src || decide (ceilDiv ((r.sx + r.w) * bltBits r.sfmt) 8 ≤ r.spitch))
  if !fmtOk then some 2 else if !alOk then some 3 else if !pitchOk then some 4 else none

/-- First and last byte of a rectangle (R236). -/
def rectSpan (base pitch x y w h bpp : Nat) : Nat × Nat :=
  (base + y * pitch + x * bpp / 8, base + (y + h - 1) * pitch + ceilDiv ((x + w) * bpp) 8 - 1)

def Rect.dspan (r : Rect) : Nat × Nat := rectSpan r.dbase r.dpitch r.dx r.dy r.w r.h (bltBits r.dfmt)
def Rect.sspan (r : Rect) : Nat × Nat := rectSpan r.sbase r.spitch r.sx r.sy r.w r.h (bltBits r.sfmt)

def Rect.overlaps (r : Rect) : Bool :=
  r.src && decide (r.dspan.1 ≤ r.sspan.2) && decide (r.sspan.1 ≤ r.dspan.2)

/-- An overlap the command may not have (R236). -/
def Rect.badOverlap (r : Rect) : Bool :=
  r.overlaps && !((r.op == 1 || r.op == 4) && r.dpitch == r.spitch && r.dfmt == r.sfmt)

/-- Rows are scanned from the bottom, and each from the right (R236). -/
def Rect.backward (r : Rect) : Bool := r.overlaps && decide (r.sspan.1 < r.dspan.1)

/-- Row `j` of a rectangle: address and bytes. -/
def Rect.drow (r : Rect) (j : Nat) : Nat × Nat :=
  (r.dbase + (r.dy + j) * r.dpitch + r.dx * bltBits r.dfmt / 8, ceilDiv (r.w * bltBits r.dfmt) 8)
def Rect.srow (r : Rect) (j : Nat) : Nat × Nat :=
  (r.sbase + (r.sy + j) * r.spitch + r.sx * bltBits r.sfmt / 8, ceilDiv (r.w * bltBits r.sfmt) 8)

/-- Pixel `i` of packed bytes (R97, R228). -/
def pixAt (bpp : Nat) (bs : List Byte) (i : Nat) : Nat :=
  if bpp < 8 then nfld (bs.getD (i * bpp / 8) 0).toNat (i % (8 / bpp) * bpp) bpp
  else fieldLE bs (i * (bpp / 8)) (bpp / 8)

/-- A palette entry of the blitter (R231). -/
def State.bltPalette (s : State) (i : Nat) : W64 := sget 0 s.blt.pal (i % 256)

/-- A source pixel as colour and alpha (R231). -/
def State.bltColour (s : State) (r : Rect) (v : Nat) : Px :=
  if r.sfmt ≤ 2 then paletteEntry (s.bltPalette (r.pbank * 2 ^ bltBits r.sfmt + v)) else directPixel r.sfmt v

/-- A colour in a destination format (R232). -/
def packColour (fmt : Nat) (p : Px) : Nat :=
  let ch := fun (n v : Nat) => (v * (2 ^ n - 1) + 2047) / 4095
  if fmt = 3 then ch 5 p.r * 2 ^ 11 + ch 6 p.g * 2 ^ 5 + ch 5 p.b
  else if fmt = 4 then p.a * 2 ^ 24 + ch 8 p.r * 2 ^ 16 + ch 8 p.g * 2 ^ 8 + ch 8 p.b
  else (p.a * 3 + 127) / 255 * 2 ^ 30 + ch 10 p.r * 2 ^ 20 + ch 10 p.g * 2 ^ 10 + ch 10 p.b

/-- BLEND of one pixel (R232). -/
def bltBlend (mode alpha : Nat) (src d : Px) : Px :=
  let a := (src.a * alpha + 127) / 255
  { r := blend mode src.r a d.r, g := blend mode src.g a d.g, b := blend mode src.b a d.b
    a := a + (d.a * (255 - a) + 127) / 255 }

/-- The new value of destination pixel `i` of a row; none = left as it is (R227, R230, R232). -/
def State.bltPixel (s : State) (r : Rect) (src dst : List Byte) (i : Nat) : Option Nat :=
  if r.op = 2 then some r.c0
  else if r.op = 3 then (if pixAt 1 src i = 1 then some r.c0 else if r.tbg then none else some r.c1)
  else
    let p := s.bltColour r (pixAt (bltBits r.sfmt) src i)
    if r.op = 4 then some (packColour r.dfmt (bltBlend r.mode r.alpha p (directPixel r.dfmt (pixAt (bltBits r.dfmt) dst i))))
    else some (packColour r.dfmt p)

/-- A row's new bytes from its pixels. -/
def packRow (bpp w : Nat) (old : List Byte) (px : Nat → Option Nat) : List Byte :=
  if bpp < 8 then
    (List.range (ceilDiv (w * bpp) 8)).map fun k =>
      BitVec.ofNat 8 ((List.range (8 / bpp)).foldl (fun acc q => match px (k * (8 / bpp) + q) with
        | some v => nset acc (q * bpp) bpp v
        | none => acc) (old.getD k 0).toNat)
  else (List.range w).flatMap fun i => match px i with
    | some v => leBytes (bpp / 8) v
    | none => (old.drop (i * (bpp / 8))).take (bpp / 8)

/-- Row `j` as the command leaves it: its address and its bytes. -/
def State.bltRow (s : State) (r : Rect) (j : Nat) : Nat × List Byte :=
  let d := r.drow j
  let sr := r.srow j
  let src := if r.src then memRead s.mem sr.1 sr.2 else []
  if r.op = 1 then (d.1, src)
  else
    let old := memRead s.mem d.1 d.2
    (d.1, packRow (bltBits r.dfmt) r.w old (s.bltPixel r src old))

/-- The rows in scan order (R236). -/
def Rect.rows (r : Rect) : List Nat := if r.backward then (List.range r.h).reverse else List.range r.h

/-- 64-byte requests a span takes. -/
def spanRequests (a n : Nat) : Nat := if n = 0 then 0 else (a + n - 1) / 64 - a / 64 + 1

/-- Requests of row `j`: BLEND reads the destination too (R232, R239). -/
def Rect.requests (r : Rect) (j : Nat) : Nat :=
  let d := spanRequests (r.drow j).1 (r.drow j).2
  d + (if r.op = 4 then d else 0) + (if r.src then spanRequests (r.srow j).1 (r.srow j).2 else 0)

/-- The unit a row is worked in: a pixel, or the pixels of one byte (R229); how many units make a row. -/
def Rect.unit (r : Rect) : Nat := if bltBits r.dfmt < 8 then 8 / bltBits r.dfmt else 1
def Rect.units (r : Rect) : Nat := r.w / r.unit

/-- Destination bytes of a unit; first source byte of unit `i` of a row and how many it takes. -/
def Rect.unitBytes (r : Rect) : Nat := r.unit * bltBits r.dfmt / 8
def Rect.unitSrc (r : Rect) (j i : Nat) : Nat × Nat :=
  let b := r.unit * bltBits r.sfmt
  ((r.srow j).1 + i * b / 8, ceilDiv ((i + 1) * b) 8 - i * b / 8)

/-- Unit `k` of a row in scan order is unit `i` from the left (R236). -/
def Rect.place (r : Rect) (k : Nat) : Nat := if r.backward then r.units - 1 - k else k

/-- The refused access of unit `k` of row `j`, its source read before its destination (R45, R46). -/
def State.bltUnitDenied (s : State) (r : Rect) (j k : Nat) : Option Nat :=
  let sr := r.unitSrc j (r.place k)
  let d := (r.drow j).1 + r.place k * r.unitBytes
  if r.src && !s.canRead .blitter sr.1 sr.2 then some sr.1
  else if !s.canWrite .blitter d r.unitBytes then some d else none

/-- The first refused access of row `j`: the units done before it, its address. -/
def State.bltRowDenied (s : State) (r : Rect) (j : Nat) : Option (Nat × Nat) :=
  (List.range r.units).findSome? fun k => (s.bltUnitDenied r j k).map fun a => (k, a)

/-- The first `n` units of row `j` in scan order done: their source read, their bytes written (R45, R111, R236). -/
def State.bltRowPart (s : State) (r : Rect) (j n : Nat) : State :=
  if n = 0 then s
  else
    let q := s.bltRow r j
    let k := n * r.unitBytes
    let lo := r.unitSrc j (r.place 0)
    let hi := r.unitSrc j (r.place (n - 1))
    let s := if r.src then s.snoop (min lo.1 hi.1) (max (lo.1 + lo.2) (hi.1 + hi.2) - min lo.1 hi.1) else s
    if r.backward then s.devWrite .blitter (q.1 + (q.2.length - k)) (q.2.drop (q.2.length - k))
    else s.devWrite .blitter q.1 (q.2.take k)

/-- Rows done in scan order until one meets a refusal or, after `err` further units, a read that fails; the list then
faults with what precedes written (R240). The flag says that all rows were done. -/
def State.bltRows (s : State) (c : BltClass) (r : Rect) : Option Nat → List Nat → State × Bool
  | _, [] => (s, true)
  | err, j :: l =>
    let s := s.bltPace c (r.requests j)
    match s.bltRowDenied r j with
    | some (k, a) => match err with
      | some n => if n < k then ((s.bltRowPart r j n).bltFault c 7, false) else ((s.bltRowPart r j k).bltDeny c a, false)
      | none => ((s.bltRowPart r j k).bltDeny c a, false)
    | none => match err with
      | some n => if n < r.units then ((s.bltRowPart r j n).bltFault c 7, false)
        else (s.bltRowPart r j r.units).bltRows c r (some (n - r.units)) l
      | none => (s.bltRowPart r j r.units).bltRows c r none l

/-- The check a rectangle command fails before any access of its own (R227, R229, R236). -/
def rectFault (ws : List Nat) : Option Nat :=
  let r := rectOf ws
  if rectReserved ws then some 1
  else if r.w = 0 ∨ r.h = 0 then none
  else match r.fault with
    | some code => some code
    | none => if r.badOverlap then some 5 else none

/-- A rectangle command: the checks, then the rows that are left, of a BATCH command at most `rows` of them; it then
stands at a row boundary (R228 to R232, R236, R237, R240). -/
def State.bltRect (s : State) (c : BltClass) (err : BltErr) (rows : Option Nat) (ws : List Nat) : State :=
  let r := rectOf ws
  match rectFault ws with
  | some code => s.bltFault c code
  | none =>
    if r.w = 0 ∨ r.h = 0 then s.bltNext c
    else match (s.bltCls c).cur with
      | none => s
      | some l =>
        let todo := r.rows.drop l.rowAt
        let now := match c, rows with
          | .batch, some n => todo.take n
          | _, _ => todo
        let e := match err with
          | .data n => some n
          | _ => none
        let t := s.bltRows c r e now
        if !t.2 then t.1
        else if now.length = todo.length then t.1.bltNext c
        else t.1.bltCur c fun l => { l with rowAt := l.rowAt + now.length, words := ws }

/-! ### The commands -/

def State.bltNop (s : State) (c : BltClass) (err : Bool) : State := s.bltCommand c 0 err fun s _ => s.bltNext c
def State.bltCopyCmd (s : State) (c : BltClass) (err : BltErr) (rows : Option Nat) : State :=
  s.bltCommand c 1 (err == .list) fun s ws => s.bltRect c err rows ws
def State.bltFillCmd (s : State) (c : BltClass) (err : BltErr) (rows : Option Nat) : State :=
  s.bltCommand c 2 (err == .list) fun s ws => s.bltRect c .none rows ws
def State.bltExpandCmd (s : State) (c : BltClass) (err : BltErr) (rows : Option Nat) : State :=
  s.bltCommand c 3 (err == .list) fun s ws => s.bltRect c err rows ws
def State.bltBlendCmd (s : State) (c : BltClass) (err : BltErr) (rows : Option Nat) : State :=
  s.bltCommand c 4 (err == .list) fun s ws => s.bltRect c err rows ws
def State.bltConvertCmd (s : State) (c : BltClass) (err : BltErr) (rows : Option Nat) : State :=
  s.bltCommand c 5 (err == .list) fun s ws => s.bltRect c err rows ws

/-- The window of a WAITLINE holds the beam (R234). -/
def inWindow (l0 l1 b : Nat) : Bool := if l0 ≤ l1 then decide (l0 ≤ b ∧ b ≤ l1) else decide (l0 ≤ b ∨ b ≤ l1)

/-- A WAITLINE's head and window. -/
def waitOf (ws : List Nat) : Nat × Nat × Nat := (nfld (ws.getD 1 0) 0 5, nfld (ws.getD 2 0) 0 12, nfld (ws.getD 2 0) 16 12)

/-- WAITLINE (R234). -/
def State.bltWait (s : State) (c : BltClass) (err : Bool) : State := s.bltCommand c 6 err fun s ws =>
  let q := waitOf ws
  let v := (s.mode q.1).vTot
  if !s.present 0 (pgHEAD q.1) || !s.enabled (pgHEAD q.1) || decide (v ≤ q.2.1) || decide (v ≤ q.2.2) then s.bltFault c 8
  else if inWindow q.2.1 q.2.2 (s.beam q.1) then s.bltNext c
  else s.bltCur c fun l => { l with waiting := true, words := ws }

/-- The beam has entered the window a list waits for (R234, R237). -/
def State.bltWaitDone (s : State) (c : BltClass) : State :=
  match (s.bltCls c).cur with
  | none => s
  | some l =>
    let q := waitOf l.words
    if l.waiting && s.active pBLITTER && inWindow q.2.1 q.2.2 (s.beam q.1) then s.bltNext c else s

/-- A head was disabled: a list that waits for its beam faults (R234). -/
def State.bltHeadOff (s : State) (h : Nat) : State :=
  [BltClass.race, BltClass.batch].foldl (fun t c => match (t.bltCls c).cur with
    | some l => if l.waiting ∧ (waitOf l.words).1 = h then t.bltFault c 8 else t
    | none => t) s

/-- The first of the 32 requests for a palette that is refused (R45, R46, R233). -/
def State.palDenied (s : State) (a : Nat) : Option Nat :=
  ((List.range 32).map (fun k => a + 64 * k)).find? (fun x => !s.canRead .blitter x 64)

/-- PALETTE (R233). -/
def State.bltPaletteCmd (s : State) (c : BltClass) (err : BltErr) : State := s.bltCommand c 7 (err == .list) fun s ws =>
  let a := ws.getD 2 0 + ws.getD 3 0 * 2 ^ 32
  if a % 64 ≠ 0 then s.bltFault c 3
  else match s.palDenied a with
    | some x => s.bltDeny c x
    | none =>
      let s := (s.snoop a 2048).bltPace c 32
      if err ≠ .none then s.bltFault c 7
      else
        let pal := (List.range 256).foldl (fun (p : Sparse W64) i =>
          sset 0 p i (BitVec.ofNat 64 (leNat (memRead s.mem (a + 8 * i) 8)))) []
        ({ s with blt := { s.blt with pal := pal } } : State).bltNext c

/-- SIGNAL. -/
def State.bltSignal (s : State) (c : BltClass) (err : Bool) : State := s.bltCommand c 8 err fun s ws =>
  ((s.pendInt pBLITTER 4).w pBLITTER BLITTER.SIG_TAG (ws.getD 1 0)).bltNext c

/-- LINK (R227, R240). -/
def State.bltLink (s : State) (c : BltClass) (err : Bool) : State := s.bltCommand c 0x0E err fun s ws =>
  let a := ws.getD 2 0 + ws.getD 3 0 * 2 ^ 32
  if a % 64 ≠ 0 ∨ !s.inPart 1 a 64 then s.bltFault c 9 else s.bltTo c a

/-- END completes the list (R235, R238); the next one of the class follows. -/
def State.bltEnd (s : State) (c : BltClass) (err : Bool) : State := s.bltCommand c 0x0F err fun s _ =>
  let x := s.bltCls c
  match x.cur with
  | none => s
  | some l =>
    let s := s.setBltCls c { x with cur := none }
    let s := match c with
      | .race =>
        let s := (s.w pBLITTER BLITTER.RACE_LAST l.addr).inc pBLITTER BLITTER.LISTS_DONE_RACE
        (s.w pBLITTER BLITTER.RACE_STAT (b2n (l.wmEn && !l.late))).pendInt pBLITTER 0
      | .batch => ((s.w pBLITTER BLITTER.BATCH_LAST l.addr).inc pBLITTER BLITTER.LISTS_DONE_BATCH).pendInt pBLITTER 1
    s.bltStart c

/-- The watermark of the running RACE list comes before its END (R238). -/
def State.raceLateEv (s : State) : State :=
  match s.blt.race.cur with
  | none => s
  | some l =>
    if l.begun && l.wmEn && !l.late && s.present 0 (pgHEAD l.wmHead) && s.enabled (pgHEAD l.wmHead) && s.beam l.wmHead == l.wmLine
        && l.onLine != some (s.hd l.wmHead).frame then
      let s := s.bltCur .race fun l => { l with late := true }
      let s := ((s.statusBit pBLITTER 4).pendInt pBLITTER 2).inc pBLITTER BLITTER.RACE_LATE_COUNT
      s.event pBLITTER Ev.RACE_LATE (mkDetail [(l.wmHead, 0), (l.wmLine, 16)])
    else s

/-- The pause after a burst ends, DEADTIME fc after it (R239). -/
def State.paceEnd (s : State) (c : BltClass) : State := s.pacePass c

/-- The list of a flushed class ends at its next command boundary: at once, but for a rectangle between two rows
(R241). -/
def BltCls.flushed (x : BltCls) : BltCls :=
  { x with queue := [], cur := match x.cur with
      | some l => if l.rowAt = 0 then none else some { l with stop := true }
      | none => none }

/-- QCTRL (R241). -/
def State.qctrl (s : State) (v : Nat) : State :=
  let flush := fun (s : State) (c : BltClass) => (s.setBltCls c (s.bltCls c).flushed).w pBLITTER (clsHalt c) 0
  let resume := fun (s : State) (c : BltClass) => (s.w pBLITTER (clsHalt c) 0).bltStart c
  let s := if nbit v 2 then flush s .race else s
  let s := if nbit v 3 then flush s .batch else s
  let s := if nbit v 0 then resume s .race else s
  if nbit v 1 then resume s .batch else s

/-- A write to the BLITTER page's block-specific registers (R225, R241, R242). -/
def State.blitterWrite (s : State) (w : Wr) : Eff :=
  if w.off = 0x108 then s.bltSubmit w .race
  else if w.off = 0x110 then s.bltSubmit w .batch
  else if w.off = 0x11C then done (s.qctrl w.v)
  else if w.off = 0x120 ∨ w.off = 0x124 then
    w.require s (decide (1 ≤ nfld w.v 0 7 ∧ nfld w.v 0 7 ≤ 64)) Ev.BAD_VALUE (·.plain w)
  else s.plain w

/-- The blitter is enabled: waiting lists start (R226). -/
def State.bltGo (s : State) : State := (s.bltStart .race).bltStart .batch

/-- The BLITTER page is fenced: the running lists stop, both queues halt until QCTRL resumes them (R476). -/
def State.bltFenced (s : State) : State :=
  let stop := fun (s : State) (c : BltClass) => (s.setBltCls c { s.bltCls c with cur := none }).w pBLITTER (clsHalt c) 1
  stop (stop s .race) .batch

end Sys2Proof.Machine
end

