-- ==== Sys2Proof/Machine/Device.lean ====
section
/-! DEFINITION. Memory training, arbitration registers, the watchdog, and the START key (R38, R39, R53, R80
to R82, R85). -/

namespace Sys2Proof.Machine

/-! ### Retraining -/

/-- A retrain starts (R80, R81). -/
def State.trainStart (s : State) (forced limited : Bool) : State :=
  let p := pMEMCTL
  let s := ((s.w p MEMCTL.TRAIN_STAT_RUNNING 1).w p MEMCTL.TRAIN_STAT_PENDING 0).w p MEMCTL.TRAIN_STAT_DEFERRED_FRAMES 0
  let s := (s.w p MEMCTL.TRAIN_STAT_LAST_FORCED (b2n forced)).w p MEMCTL.TRAIN_STAT_LAST_LIMITED (b2n limited)
  { s with trainFc := s.fc }

/-- A retrain becomes pending; with no head enabled it starts at once (R80). One that runs already takes no
further request (R81). -/
def State.trainPend (s : State) : State :=
  if s.b pMEMCTL MEMCTL.TRAIN_STAT_RUNNING then s
  else if s.enabledHeads.isEmpty then s.trainStart false false
  else s.w pMEMCTL MEMCTL.TRAIN_STAT_PENDING 1

/-- TRAIN_CTRL.FORCE (R81). -/
def State.trainForce (s : State) : State :=
  if s.b pMEMCTL MEMCTL.TRAIN_STAT_RUNNING then s else s.trainStart true false

/-- The die has drifted by `d` °C since the last training (R80). -/
def State.driftRetrain (s : State) (d : Nat) : State :=
  let lim := s.r pMEMCTL MEMCTL.TRAIN_CTRL_DRIFT_LIMIT
  if s.mainUp && lim != 0 && decide (lim < d) then s.trainPend else s

/-- An enabled head is ready for a retrain: the lower of 3 lines and its own LOOKAHEAD (R80). -/
def State.trainReady (s : State) (h : Nat) : Bool :=
  decide (min 3 (s.r (pgHEAD h) HEAD.LOOKAHEAD) ≤ s.lookahead h)

/-- DEFERRED_FRAMES has reached DEFER_LIMIT (R80). -/
def State.trainLimited (s : State) : Bool :=
  let l := s.r pMEMCTL MEMCTL.TRAIN_CTRL_DEFER_LIMIT
  l != 0 && decide (l ≤ s.r pMEMCTL MEMCTL.TRAIN_STAT_DEFERRED_FRAMES)

/-- A pending retrain starts at the first blank line of the bellwether once every head is ready, or at the
limit; with no head enabled at once (R80). -/
def State.retrainStart (s : State) : State :=
  if !s.b pMEMCTL MEMCTL.TRAIN_STAT_PENDING || s.b pMEMCTL MEMCTL.TRAIN_STAT_RUNNING then s
  else match s.bellwether with
    | none => s.trainStart false false
    | some b =>
      if s.r (pgHEAD b) HEAD.BEAM_LINE ≠ (s.mode b).vAct then s
      else if s.enabledHeads.all (fun h => s.trainReady h) then s.trainStart false false
      else if s.trainLimited then s.trainStart false true
      else s

/-- A write to a block-specific register of MEMCTL (R53, R81, R82). -/
def State.memctlWrite (s : State) (w : Wr) : Eff :=
  if 0x120 ≤ w.off ∧ w.off < 0x13C then
    let c := w.f ⟨0, 0, 14⟩
    w.require s (decide (1 ≤ c) && decide (c ≤ 8192)) Ev.BAD_VALUE (·.plain w)
  else if w.off = 0x200 then
    let s := (s.plain w).1
    let s := if nbit w.v 1 then s.trainForce else s
    done (if nbit w.v 0 then s.trainPend else s)
  else s.plain w

/-! ### Watchdog -/

/-- The count starts again from PERIOD (R39). -/
def State.wdogRestart (s : State) : State := { s with wdog := s.r1 pSAFETY SAFETY.WDOG_CFG_PERIOD * msFc }

/-- The watchdog expires, once its count has run down (R39). -/
def State.wdogExpired (s : State) : State :=
  if s.r1 pSAFETY SAFETY.WDOG_CFG_PERIOD = 0 then s
  else
    let s := s.advanceFc (s.fc + s.wdog)
    let s := ((s.w1 pSAFETY SAFETY.STATUS_WDOG_EXPIRED 1).pendInt1 pSAFETY 0).inc1 pSAFETY SAFETY.WDOG_EXPIRIES
    let s := s.accEventOpen 1 pSAFETY Ev.WDOG_EXPIRED
    let s := if s.b1 pSAFETY SAFETY.WDOG_CFG_VOX_EN
      then s.submitAction (s.r1 pSAFETY SAFETY.WDOG_CFG_VOX) 0 (BitVec.ofNat 32 (s.r1 pSAFETY SAFETY.WDOG_PARAM)) 0x02 (actionRank 0x02)
      else s
    s.wdogRestart

/-- A write to a block-specific register of SAFETY (R38, R39). -/
def State.safetyWrite (s : State) (w : Wr) : Eff :=
  if w.off = 0x100 then let r := s.plain w; (r.1.wdogRestart, r.2)
  else if w.off = 0x108 then w.require s (w.v == 0x4B43494B) Ev.BAD_VALUE fun s => done s.wdogRestart
  else s.plain w

/-! ### START -/

/-- A write to a block-specific register of DEVICE: START, which leaves REJECT_REASON and REJECT_DETAIL as
they are, and BEHAVIOUR_LOCK, which is START's alone (R8, R85). -/
def State.deviceWrite (s : State) (w : Wr) : Eff :=
  if w.off = 0x118 then
    w.require s (w.v == 0x53545254) Ev.BAD_VALUE fun s =>
      w.require s (s.devState == stWAIT_IMAGE || s.devState == stIMAGE_REJECTED) Ev.BAD_STATE fun s =>
        done (s.w pDEVICE DEVICE.STATE stVALIDATING)
  else if w.off = 0x108 then w.drop s Ev.OWNER_DENY
  else s.plain w

end Sys2Proof.Machine
end

