-- ==== Sys2Proof/Machine/Drover.lean ====
section
/-! DEFINITION. Drover channels: descriptors, GO and its checks, STOP, faults, fences, the DVnn page, and which
channel a beat serves (R429 to R436). -/

namespace Sys2Proof.Machine

abbrev dv.IDLE : Nat := 0
abbrev dv.RUNNING : Nat := 1
abbrev dv.DONE : Nat := 2
abbrev dv.FAULT : Nat := 3
abbrev dv.STOPPED : Nat := 4

def State.dvState (s : State) (n : Nat) : Nat := s.r (pgDV n) DV.STATE

/-- One side of a transfer: its space, address and three signed strides. -/
structure DvSide where
  space : Nat
  addr  : Nat
  st0   : Int
  st1   : Int
  st2   : Int

def State.dvSide (s : State) (n : Nat) (dst : Bool) : DvSide :=
  let p := pgDV n
  let st := fun (i : Nat) => signed 32 (s.r p ((if dst then DV.DS else DV.SS).at (4 * i)))
  { space := s.r p (if dst then DV.CFG_DSPACE else DV.CFG_SSPACE), addr := s.r p (if dst then DV.DST else DV.SRC)
    st0 := st 0, st1 := st 1, st2 := st 2 }

def State.dvElem (s : State) (n : Nat) : Nat := s.r (pgDV n) DV.ELEM
def State.dvCount (s : State) (n i : Nat) : Nat := s.r (pgDV n) (DV.C.at (4 * i))

/-- Bytes of the whole transfer. -/
def State.dvTotal (s : State) (n : Nat) : Nat := s.dvElem n * s.dvCount n 0 * s.dvCount n 1 * s.dvCount n 2

/-- Address of the byte at position `k` of the transfer on a side (R430). -/
def State.dvAddr (s : State) (n : Nat) (d : DvSide) (k : Nat) : Nat :=
  let e := s.dvElem n
  let i := k / e
  let i0 := i % s.dvCount n 0
  let i1 := i / s.dvCount n 0 % s.dvCount n 1
  let i2 := i / s.dvCount n 0 / s.dvCount n 1
  unsigned 64 ((d.addr : Int) + i2 * d.st2 + i1 * d.st1 + i0 * d.st0 + (k % e : Nat))

/-- Lowest and highest byte address of a side over the loop corners (R431). -/
def State.dvSpan (s : State) (n : Nat) (d : DvSide) : Int × Int :=
  let reach := fun (i : Nat) (st : Int) => ((s.dvCount n i : Int) - 1) * st
  let r0 := reach 0 d.st0
  let r1 := reach 1 d.st1
  let r2 := reach 2 d.st2
  ((d.addr : Int) + min 0 r0 + min 0 r1 + min 0 r2,
   (d.addr : Int) + max 0 r0 + max 0 r1 + max 0 r2 + s.dvElem n - 1)

/-- A space 2 or 3 side off its words (R431). -/
def State.dvMisaligned (s : State) (n : Nat) (d : DvSide) : Bool :=
  decide (2 ≤ d.space) && (d.addr % 4 != 0 || s.dvElem n % 4 != 0
    || d.st0 % 4 != 0 || d.st1 % 4 != 0 || d.st2 % 4 != 0)

/-- A side names an absent cluster (R431). -/
def State.dvAbsent (s : State) (d : DvSide) : Bool :=
  d.space == 1 && !s.present 0 (pgPK (nfld d.addr 20 3))

/-- The first check of GO that fails (table "Drover fault codes"). -/
def State.dvRefusal (s : State) (n : Nat) : Option Nat :=
  let a := s.dvSide n false
  let b := s.dvSide n true
  let sa := s.dvSpan n a
  let sb := s.dvSpan n b
  if s.dvAbsent a || s.dvAbsent b then some 1
  else if s.dvTotal n = 0 then some 2
  else if s.dvMisaligned n a || s.dvMisaligned n b then some 3
  else if a.space = b.space ∧ (a.space ≠ 1 ∨ nfld a.addr 20 3 = nfld b.addr 20 3) ∧ sa.1 ≤ sb.2 ∧ sb.1 ≤ sa.2 then some 4
  else none

/-- A channel faults: it stops as STOP does and enters FAULT (R435). -/
def State.dvFault (s : State) (n code addr : Nat) : State :=
  let p := pgDV n
  let s := s.setDv n { s.dvst n with staging := [], starved := false, moved := 0 }
  let s := ((s.w p DV.STATE dv.FAULT).w p DV.FAULT_INFO code).w p DV.FAULT_ADDR addr
  ((s.w p DV.STATUS_FAULT 1).pendInt p 1).event p Ev.DV_FAULT (BitVec.ofNat 32 code)

/-- CMD.GO (R431). -/
def State.dvGo (s : State) (n : Nat) : State :=
  let p := pgDV n
  match s.dvRefusal n with
  | some code => s.dvFault n code 0
  | none =>
    let s := s.setDv n { servedFc := s.fc }
    (s.w p DV.STATE dv.RUNNING).w p DV.REMAIN (s.dvTotal n)

/-- CMD.STOP, and what a fence of the channel does: staged data is dropped; REMAIN tells what was not written
(R434, R435). -/
def State.dvHalt (s : State) (n : Nat) : State :=
  if s.dvState n = dv.RUNNING then
    (s.setDv n { s.dvst n with staging := [], starved := false, moved := 0 }).w (pgDV n) DV.STATE dv.STOPPED
  else s

/-- A write to the DVnn page (R434, table "DVnn registers"). -/
def State.dvWrite (s : State) (w : Wr) (n : Nat) : Eff :=
  let run := s.dvState n == dv.RUNNING
  if w.off = 0x140 then
    if nbit w.v 0 && run then w.drop s Ev.BAD_STATE
    else
      let s := if nbit w.v 0 then s.dvGo n else s
      done (if nbit w.v 1 then s.dvHalt n else s)
  else if 0x100 ≤ w.off ∧ w.off < 0x140 ∧ run then w.drop s Ev.BAD_STATE
  else if 0x118 ≤ w.off ∧ w.off < 0x128 then w.require s (decide (w.v % 131072 ≤ 65536)) Ev.BAD_VALUE (·.plain w)
  else s.plain w

/-- A channel the engine can serve. -/
def State.dvRunnable (s : State) (n : Nat) : Bool :=
  s.active pDROVER && !s.fenced 0 (pgDV n) && s.dvState n == dv.RUNNING && s.r (pgDV n) DV.REMAIN != 0

/-- The channel has gone unserved for longer than its PATIENCE (R433). -/
def State.dvStarving (s : State) (n : Nat) : Bool :=
  let p := s.r (pgDV n) DV.PATIENCE
  s.dvRunnable n && ((s.dvst n).starved || (p != 0 && decide ((s.dvst n).servedFc + p < s.fc)))

/-- The channel a beat serves (R433). -/
def State.dvPick (s : State) : Option Nat :=
  let run := (List.range 32).filter s.dvRunnable
  match sortBy (fun a b => decide ((s.dvst a).servedFc ≤ (s.dvst b).servedFc)) (run.filter s.dvStarving) with
  | n :: _ => some n
  | [] =>
    let top := (run.map (fun n => s.r (pgDV n) DV.CFG_PRIO)).foldl max 0
    let eq := run.filter (fun n => s.r (pgDV n) DV.CFG_PRIO == top)
    if eq.contains s.dvLast && decide ((s.dvst s.dvLast).moved < 256) then some s.dvLast
    else ((List.range 32).map (fun k => (s.dvLast + 1 + k) % 32)).find? (fun n => eq.contains n)

/-- The bytes of one beat from position `k` on a side: one run inside one granule, at most `lim` (R432). -/
def State.dvChunk (s : State) (n : Nat) (d : DvSide) (k lim : Nat) : Nat :=
  let a := s.dvAddr n d k
  let g := if d.space < 2 then 64 else 4
  let most := min (min lim (g - a % g)) (s.dvTotal n - k)
  ((List.range most).takeWhile (fun i => s.dvAddr n d (k + i) == a + i)).length

/-- An access beyond its space (R431: DV_RANGE). -/
def DvSide.outside (d : DvSide) (a n : Nat) : Bool :=
  if d.space = 1 then decide (a / 0x100000 ≠ nfld d.addr 20 3) || decide ((a + n - 1) / 0x100000 ≠ nfld d.addr 20 3)
  else if d.space = 2 then decide (0x1000000 < a + n)
  else if d.space = 3 then decide (0x100000 < a + n) else false

end Sys2Proof.Machine
end

