-- ==== Sys2Proof/Machine/FieldPort.lean ====
section
/-! DEFINITION. Field ports: receiving, delivering, keying and sending; relay frames through a channel's
assist (R243 to R262, R270 to R274). -/

namespace Sys2Proof.Machine

/-- The registers of a receive ring: a field port's, or a FIELD relay ring's (R252, R274). -/
structure RingRegs where
  page    : Nat
  cluster : Fld
  dBase   : Fld
  dSize   : Fld
  eBase   : Fld
  eCount  : Fld
  head    : Fld
  tail    : Fld
deriving DecidableEq, Repr

def fpRing (n : Nat) : RingRegs :=
  ⟨pgFP n, FP.RING, FP.RX_DATA_BASE, FP.RX_DATA_SIZE, FP.RX_DESC_BASE, FP.RX_DESC_COUNT, FP.RX_HEAD, FP.RX_TAIL⟩

def relayRing (r : Nat) : RingRegs :=
  let f := fun (x : Fld) => x.at (0x20 * r)
  ⟨pFIELD, f FIELD.RING, f FIELD.DATA_BASE, f FIELD.DATA_SIZE, f FIELD.DESC_BASE, f FIELD.DESC_COUNT, f FIELD.HEAD, f FIELD.TAIL⟩

/-- A frame ready to be delivered (R253). -/
structure RxFrame where
  bytes   : List Byte
  status  : Nat
  time    : W64
  channel : Nat
  tally   : Nat
  result  : Nat
deriving DecidableEq, Repr

/-- Descriptors written and not consumed. -/
def State.rxLevel (s : State) (g : RingRegs) : Nat := (s.r g.page g.head + 65536 - s.r g.page g.tail) % 65536

/-- A frame put into a receive ring: its bytes, its descriptor, then HEAD. `none` where there is too little
room, no free descriptor, or the paddock refuses (R252 to R254). -/
def State.rxPut (s : State) (g : RingRegs) (x : RxRing) (f : RxFrame) : Option (State × RxRing) :=
  let cl := s.r g.page g.cluster
  let size := 2 ^ s.r g.page g.dSize
  let count := 2 ^ s.r g.page g.eCount
  let level := s.rxLevel g
  let used := (x.lens.take level).foldl (· + ·) 0
  if count ≤ level ∨ size < used + f.bytes.length ∨ !s.padUp cl then none
  else
    let head := s.r g.page g.head
    let desc := leBytes 4 (x.pos % size) ++ leBytes 2 f.bytes.length ++ leBytes 2 f.status ++ leBytes 8 f.time.toNat
      ++ leBytes 2 f.channel ++ leBytes 2 f.tally ++ leBytes 1 f.result ++ List.replicate 11 0
    let s := s.padRingWrite cl (s.r g.page g.dBase) size x.pos f.bytes
    let s := s.padWrite cl (s.r g.page g.eBase + 32 * (head % count)) desc
    some (s.w g.page g.head (head + 1),
      { pos := (x.pos + f.bytes.length) % size, lens := f.bytes.length :: x.lens.take level })

/-- The line's part of a frame's status (R253). -/
structure LineErr where
  framing : Bool
  parity  : Bool
  gap     : Bool
  format  : Bool
  aborted : Bool
  trunc   : Bool
  brk     : Bool
deriving DecidableEq, Repr

/-- STATUS of a receive descriptor (table "Receive descriptor"). -/
def rxStatus (good cvBad : Bool) (result : Nat) (e : LineErr) : Nat :=
  b2n good + 2 * b2n cvBad + 4 * b2n (result == 3) + 8 * b2n (result == 4) + 16 * b2n e.framing + 32 * b2n e.parity
    + 64 * b2n e.gap + 128 * b2n e.format + 256 * b2n e.aborted + 512 * b2n e.trunc + 1024 * b2n e.brk

/-- A whole raw frame judged: last compare, tally, GOOD or not (R254, R261, R262, R266, R267). The answer is
the frame as delivered, whether it is GOOD, and its stripped form. -/
def State.judge (s : State) (a : Assist) (raw : List Byte) (cvBad : Bool) (e : LineErr) (channel : Nat) (time : W64) :
    State × RxFrame × Bool × List Byte :=
  let nb := s.nCheck a a.rx
  let short := (a.kind == 4 || (a.kind == 0 && a.cvEn)) && decide (raw.length ≤ nb)
  let oddLen := a.kind == 2 && !(decide (4 ≤ raw.length) && decide (raw.length ≤ 256))
  let e := { e with format := e.format || short || oddLen, trunc := decide (a.rxMax < raw.length) }
  let (s, mis) := s.cvEndCompare a a.rx raw
  let bad := cvBad || mis || (a.cvEn && !s.cvRuns a)
  let tally := if s.cvRuns a && s.tallyEn a.unit a.rx then (s.tallyField a.unit a.rx raw).getD 0 else 0
  let (s, result, rej) := if s.cvRuns a then s.tallyJudge a.unit a.rx raw bad else (s, 0, false)
  let good := !(bad || rej || e.framing || e.parity || e.gap || e.format || e.aborted || e.trunc || e.brk)
  let cut := raw.take a.rxMax
  let stripped := s.strippedOf a a.rx cut raw.length
  let bytes := if a.strip then stripped else cut
  (s, { bytes := bytes, status := rxStatus good bad result e, time := time, channel := channel
        tally := tally, result := result }, good, stripped)

/-- Pin-clock cycles of `n` half bits at a bit rate (R245). -/
def halfBits (inc n : Nat) : Nat := n * 2 ^ 32 / (2 * inc)

/-- Bits of one asynchronous character (R246, R259). -/
def State.charBits (s : State) (n : Nat) : Nat :=
  let p := pgFP n
  1 + (s.r p FP.LINE_CFG_DATA + 5) + b2n (s.r p FP.LINE_CFG_PARITY != 0) + 1 + s.r p FP.LINE_CFG_STOP

/-- The time base `pc` pin clocks ago, all ones while PD48 is not ON (R437). -/
def State.ago (s : State) (pc : Nat) : W64 := if s.pdOn 48 then s.tb - BitVec.ofNat 64 pc else s.stamp

/-- The port's receiver takes what is on the line: it runs, is not deaf in half duplex while PTT is
asserted, and has carrier where CD_GATE asks for it (R248, R250). Without a pin RXD stays at mark (R484). -/
def State.rxOpen (s : State) (n : Nat) : Bool :=
  let p := pgFP n
  s.active p && s.pinIn (4 * n + 1) && (s.b p FP.LINE_CFG_DUPLEX || !s.b p FP.STATUS_PTT) && (!s.b p FP.LINE_CFG_CD_GATE || s.b p FP.STATUS_CD)

/-- Field-port transmitters are open (R90) and the port may send (R249). -/
def State.txOpen (s : State) (n : Nat) : Bool :=
  s.active (pgFP n) && s.devState == stRUNNING && !s.b (pgFP n) FP.STATUS_TX_TIMEOUT

/-- The bits of a byte, least significant first. -/
def byteBits (n : Nat) (b : Byte) : List Bool := (List.range n).map (fun i => nbit b.toNat i)

/-- One asynchronous character: a start bit of 0, `data` bits, a parity bit where there is one, stop bits of 1 (R246). -/
def asyncChar (data parity stop : Nat) (b : Byte) : List Bool :=
  let d := byteBits data b
  let ones := (d.filter id).length
  let par := match parity with
    | 0 => []
    | 1 => [ones % 2 == 1]
    | 2 => [ones % 2 == 0]
    | 3 => [true]
    | _ => [false]
  false :: d ++ par ++ List.replicate (stop + 1) true

/-- Zero insertion: a 0 after five consecutive 1s; `k` of them stand before (R247). -/
def zeroInsert : Nat → List Bool → List Bool
  | _, [] => []
  | _, false :: l => false :: zeroInsert 0 l
  | k, true :: l => if k = 4 then true :: false :: zeroInsert 0 l else true :: zeroInsert (k + 1) l

/-- The flag 0x7E. -/
def flagBits : List Bool := byteBits 8 0x7E

/-- NRZI: a 0 is a transition, a 1 keeps the level (R247). -/
def nrzi : Bool → List Bool → List Bool
  | _, [] => []
  | v, b :: l => (if b then v else !v) :: nrzi (if b then v else !v) l

/-- The TXD levels of a frame, from the level before it: characters one after another, or opening flags, the bytes with
zeros inserted and one closing flag (R246, R247). -/
def State.lineBits (s : State) (n : Nat) (raw : List Byte) : List Bool :=
  let p := pgFP n
  let mode := s.r p FP.LINE_CFG_MODE
  if mode = 0 then
    raw.flatMap (asyncChar (s.r p FP.LINE_CFG_DATA + 5) (s.r p FP.LINE_CFG_PARITY) (s.r p FP.LINE_CFG_STOP))
  else
    let open_ := (List.replicate (max 1 (s.r p FP.ASSIST_PREAMBLE)) flagBits).flatten
    let bits := open_ ++ zeroInsert 0 (raw.flatMap (byteBits 8)) ++ flagBits
    if mode = 2 then nrzi (s.fp n).txd bits else bits

/-- t3.5 in pin clocks (R259). -/
def State.t35 (s : State) (n : Nat) : Nat :=
  let inc := s.r (pgFP n) FP.BAUD_INC
  if 148500000 * inc ≤ 19200 * 2 ^ 32 then halfBits inc (7 * s.charBits n) else 259875

/-- A Modbus RTU frame begins no earlier than t3.5 after the last character on the line (R259). -/
def State.lineSilence (s : State) (n : Nat) : State :=
  match (s.fp n).lineFc with
  | some f => if (s.fpAssist n).kind = 2 then s.advanceFc (f + 12 * s.t35 n) else s
  | none => s

/-- TX_TAIL passes the descriptor in hand (R255). -/
def State.txPass (s : State) (n flags : Nat) : State :=
  let s := s.inc (pgFP n) FP.TX_TAIL
  if nbit flags 3 then s.pendInt (pgFP n) 1 else s

/-- The frame in hand is put down. -/
def FieldPort.clearTx (x : FieldPort) (ph : TxPhase) : FieldPort :=
  { x with phase := ph, txFlags := 0, txTime := 0, txIn := [], txBytes := [], txLine := [], txTxn := none }

/-- R255 bars the frame in hand: it has INSERT_CV, and the assist's unit is not attached to the port. -/
def State.txBarred (s : State) (n : Nat) : Bool :=
  let a := s.fpAssist n
  nbit (s.fp n).txFlags 0 && a.cvEn && !s.cvAttached a

/-- The frame in hand is not sent: TX_TAIL passes it with TX_BAD, or its transaction ends with SEND_FAULT; PTT keyed for
it falls after the tail (R255, R306; log entry 144). -/
def State.txUnsent (s : State) (n : Nat) : State :=
  let p := pgFP n
  let x := s.fp n
  let ph : TxPhase := if x.phase = .keyup then .tail else if s.b p FP.STATUS_PTT then .held else .idle
  let s := (s.setFp n (x.clearTx ph)).statusBit p 7
  match x.txTxn with
  | some t => s.endTxn t 19
  | none => (s.txPass n x.txFlags).statusBit p 6

/-- The frame in hand is sent: built, put on the line bit by bit, its transmit context mid-frame (R247, R248, R257,
R268). A frame without INSERT_CV whose unit is not attached goes as it stands, with CV_FAULT (R266). -/
def State.txSend (s : State) (n : Nat) : State :=
  if s.txBarred n then s.txUnsent n
  else
    let s := s.lineSilence n
    let x := s.fp n
    let a := s.fpAssist n
    let s := if a.cvEn && !s.cvAttached a then s.statusBit (pgFP n) 7 else s
    let (s, raw, tally, sent) := s.txBuild a (nbit x.txFlags 0) x.txIn
    let s := match x.txTxn with
      | some t => s.frameBuilt t tally sent
      | none => s
    let s := s.setFp n { s.fp n with phase := .sending, txBytes := raw, txLine := s.lineBits n raw }
    (s.txMid n true).w (pgFP n) FP.STATUS_TX_ACTIVE 1

/-- PTT is asserted for the frame in hand, or kept from a held one: the key-up wait, or, where it may be
left out, the frame at once (R248). -/
def State.txKey (s : State) (n : Nat) : State :=
  let x := s.fp n
  if s.txBarred n then s.txUnsent n
  else if s.b (pgFP n) FP.STATUS_PTT && !nbit x.txFlags 1 then s.txSend n
  else (s.w (pgFP n) FP.STATUS_PTT 1).setFp n { x with phase := .keyup }

/-- A frame past NOT_BEFORE goes on once no receive frame is in progress in half duplex; with LBT it then
waits for the quiet (R248). -/
def State.txProceed (s : State) (n : Nat) : State :=
  let p := pgFP n
  let x := s.fp n
  if x.phase = .quiet && s.txOpen n && (s.b p FP.LINE_CFG_DUPLEX || !x.inFrame) && !s.b p FP.LINE_CFG_LBT
  then s.txKey n else s

/-- The receiver's record of a frame cleared. -/
def FieldPort.clearRx (x : FieldPort) : FieldPort :=
  { x with rx := [], rxT := [], rxE := [], inFrame := false, format := false, aborted := false, brk := false
           cvBad := false }

/-- A frame of field port `n` ends: it is judged, delivered or discarded, counted, and offered as a
confirmation (R253, R254, R305). -/
def State.rxEnd (s : State) (n : Nat) : State :=
  let p := pgFP n
  let x := s.fp n
  let a := s.fpAssist n
  let e : LineErr := ⟨x.rxE.any (·.framing), x.rxE.any (·.parity), (x.rxE.drop 1).any (·.gap), x.format, x.aborted,
    false, x.brk⟩
  let time := if s.r p FP.LINE_CFG_MODE = 0 then x.rxT.headD s.stamp else x.flagT
  let (s, f, good, stripped) := s.judge a x.rx x.cvBad e n time
  let s := if a.cvEn && !s.cvAttached a then s.statusBit p 7 else s
  let s := if a.cvEn && s.cvAttached a then s.ctxMid a.unit a.rx false else s
  let s := if good then s else ((s.inc p FP.RX_BAD).statusBit p 3).pendInt p 2
  let s := s.setFp n { (s.fp n).clearRx with needIdle := a.kind == 3 && !good }
  let s := s.w p FP.STATUS_RX_ACTIVE 0
  if good || a.keepBad then
      match s.rxPut (fpRing n) (s.fp n).ring f with
      | some (s', ring) =>
        let s' := ((s'.setFp n { s'.fp n with ring := ring }).inc p FP.RX_FRAMES).pendInt p 0
        if good then s'.confirm n stripped time else s'
      | none => ((s.inc p FP.RX_DROPPED).statusBit p 4).eventOpen p Ev.RX_OVERRUN
    else s

/-- The frame in progress ends, and a frame to be sent that waited for its end goes on (R248). -/
def State.rxFinish (s : State) (n : Nat) : State := (s.rxEnd n).txProceed n

/-- The frame in progress is dropped without a trace: the start that was taken was none. -/
def State.rxForget (s : State) (n : Nat) : State :=
  let a := s.fpAssist n
  let s := if a.cvEn && s.cvAttached a then s.ctxMid a.unit a.rx false else s
  (s.setFp n (s.fp n).clearRx).w (pgFP n) FP.STATUS_RX_ACTIVE 0

/-- What a byte makes of the frame in progress. -/
inductive RxCut where
  | more                          -- the frame goes on
  | none                          -- no frame begins here; search on with the bytes after the first
  | finish (format : Bool)        -- the frame ends with this byte
  | resync                        -- header check mismatch: search on with the bytes after the first (R258)
deriving DecidableEq, Repr

/-- How the bytes so far are cut (table "Protocol assists", R258, R260). `headBad` tells a mismatch of the
DNP3 header check. Unequal L bytes and a wrong second 0x68 end the frame where they stand (log entry 38). -/
def rxCut (a : Assist) (raw : List Byte) (headBad : Bool) : RxCut :=
  let n := raw.length
  let b := fun k => (raw.getD k 0).toNat
  if a.kind = 1 then
    if b 0 ≠ 0x05 then .none
    else if n = 2 ∧ b 1 ≠ 0x64 then .none
    else if n = 10 ∧ headBad then .resync
    else if n = 10 ∧ b 2 < 5 then .finish true
    else if 10 ≤ n ∧ n = 10 + (b 2 - 5) + 2 * ceilDiv (b 2 - 5) 16 then .finish false
    else .more
  else if a.kind = 3 then
    if b 0 = 0xE5 then .finish false
    else if b 0 = 0x10 then
      if n = a.addrLen + 4 then .finish (b (n - 1) != 0x16) else .more
    else if b 0 = 0x68 then
      if n = 2 ∧ b 1 = 0 then .finish true
      else if n = 3 ∧ b 2 ≠ b 1 then .finish true
      else if n = 4 ∧ b 3 ≠ 0x68 then .finish true
      else if n = b 1 + 6 ∧ 4 < n then .finish (b (n - 1) != 0x16)
      else .more
    else .none
  else .more

/-- A received byte with the time base at its start and what the line marked on it. -/
structure RxIn where
  byte : Byte
  time : W64
  mark : LineMark := {}
deriving DecidableEq, Repr

/-- The bytes of the frame in progress after its first, to be searched again (R258). -/
def FieldPort.rest (x : FieldPort) : List RxIn :=
  (List.range (x.rx.length - 1)).map (fun i => ⟨x.rx.getD (i + 1) 0, x.rxT.getD (i + 1) 0, x.rxE.getD (i + 1) {}⟩)

/-- One byte into the frame in progress; the answer names the bytes to search on with. -/
def State.rxByte (s : State) (n : Nat) (c : RxIn) : State × List RxIn :=
  let a := s.fpAssist n
  let x := s.fp n
  let s := s.setFp n { x with rx := x.rx ++ [c.byte], rxT := x.rxT ++ [c.time], rxE := x.rxE ++ [c.mark], inFrame := true }
  let s := s.w (pgFP n) FP.STATUS_RX_ACTIVE 1
  let s := if s.cvRuns a then s.ctxMid a.unit a.rx true else s
  let x := s.fp n
  let (s, mis) := s.cvPass a a.rx x.rx
  let s := s.setFp n { s.fp n with cvBad := x.cvBad || mis }
  match rxCut a x.rx (x.cvBad || mis) with
  | .more => (s, [])
  | .none => (s.rxForget n, x.rest)
  | .finish fmt => ((s.setFp n { s.fp n with format := (s.fp n).format || fmt }).rxEnd n, [])
  | .resync => (s.rxEnd n, x.rest)

/-- Bytes into the receiver one after another; `fuel` bounds the searches of R258. -/
def State.rxBytes (s : State) (n : Nat) : Nat → List RxIn → State
  | 0, _ => s
  | _ + 1, [] => s
  | fuel + 1, c :: l =>
    let r := s.rxByte n c
    r.1.rxBytes n fuel (r.2 ++ l)

/-- A byte into the receiver: the searches it starts, then a frame to be sent that waited for the line (R248, R258). -/
def State.rxTake (s : State) (n fuel : Nat) (c : RxIn) : State := (s.rxBytes n fuel [c]).txProceed n

/-- Silence longer than t1.5 of R259, measured in pin clocks before a character. -/
def State.overT15 (s : State) (n idle : Nat) : Bool :=
  let inc := s.r (pgFP n) FP.BAUD_INC
  if 148500000 * inc ≤ 19200 * 2 ^ 32 then decide (halfBits inc (3 * s.charBits n) < idle)
  else decide (111375 < idle)

/-- The gap a character ends: t1.5 under Modbus RTU, GAP_BITS under FT1.2 (R259, R260). -/
def State.gapBefore (s : State) (n idle : Nat) : Bool :=
  let inc := s.r (pgFP n) FP.BAUD_INC
  match (s.fpAssist n).kind with
  | 2 => s.overT15 n idle
  | 3 => decide (halfBits inc (2 * s.r (pgFP n) FP.ASSIST_GAP_BITS) < idle)
  | _ => false

/-- An asynchronous character (R246): the byte is taken as it stands, with what the line marked on it. -/
def State.rxChar (s : State) (n : Nat) (b : Byte) (framing parity : Bool) (idle : Nat) : State :=
  let x := s.fp n
  let inc := s.r (pgFP n) FP.BAUD_INC
  if x.needIdle ∧ idle < halfBits inc 66 then s
  else
    let s := s.setFp n { x with needIdle := false, lineFc := some s.fc }
    s.rxTake n 64 ⟨b, s.ago (halfBits inc (2 * s.charBits n - 1)), ⟨framing, parity, s.gapBefore n idle⟩⟩

/-- A zero is stuffed inside a byte: five 1s end before its last bit (R247). -/
def stuffed (b : Byte) : Bool := (List.range 3).any (fun i => nfld b.toNat i 5 == 31)

/-- A flag of the HDLC-style modes: it closes the frame in progress and opens the next, whose first bit follows it at
once (R247, R253, R261). -/
def State.rxFlag (s : State) (n extra : Nat) : State :=
  let x := s.fp n
  let s := if x.opened ∧ (x.inFrame ∨ extra ≠ 0) then
      (s.setFp n { x with format := x.format || extra != 0 }).rxFinish n else s
  s.setFp n { s.fp n with opened := true, flagT := s.stamp }

/-- What the receiver takes from the line (R246, R247): characters in MODE 0, bytes and flags in the
HDLC-style modes. A load of the receive context that runs completes first (R268). -/
def State.rxCharacter (s : State) (n : Nat) (ch : RxChar) (idle : Nat) : State :=
  if 16 ≤ n ∨ !s.rxOpen n then s
  else
    let a := s.fpAssist n
    let hold := a.cvEn && (s.cv a.unit).ctxCmd == some (a.rx, false)
    let s := if hold then s.ctxDone a.unit else s
    let async := s.r (pgFP n) FP.LINE_CFG_MODE == 0
    match ch with
    | .char b framing parity => if async then s.rxChar n b framing parity idle else s
    | .byte b =>
      if async || !(s.fp n).opened then s
      else s.rxTake n 1 ⟨b, s.ago (halfBits (s.r (pgFP n) FP.BAUD_INC) (if stuffed b then 18 else 16)), {}⟩
    | .flag extra => if async then s else s.rxFlag n extra

/-- A break ends the frame in progress (R246). -/
def State.rxBreak (s : State) (n : Nat) : State :=
  let x := s.fp n
  if 16 ≤ n ∨ !s.rxOpen n ∨ !x.inFrame ∨ s.r (pgFP n) FP.LINE_CFG_MODE ≠ 0 then s
  else (s.setFp n { x with brk := true }).rxFinish n

/-- The raw assist finds the line idle for GAP_BITS (table "Protocol assists"). -/
def State.rxGapTimeout (s : State) (n : Nat) : State :=
  if 16 ≤ n ∨ !s.rxOpen n ∨ !(s.fp n).inFrame ∨ (s.fpAssist n).kind ≠ 0 then s else s.rxFinish n

/-- A silence of t3.5 ends a Modbus RTU frame (R259). -/
def State.t35Silence (s : State) (n : Nat) : State :=
  if 16 ≤ n ∨ !s.rxOpen n ∨ !(s.fp n).inFrame ∨ (s.fpAssist n).kind ≠ 2 then s else s.rxFinish n

/-- An abort ends the frame in progress, marked ABORT; a new flag must open the next (R247, R261). -/
def State.hdlcAbort (s : State) (n : Nat) : State :=
  let x := s.fp n
  if 16 ≤ n ∨ !s.rxOpen n ∨ s.r (pgFP n) FP.LINE_CFG_MODE = 0 then s
  else
    let s := if x.inFrame then (s.setFp n { x with aborted := true }).rxFinish n else s
    s.setFp n { s.fp n with opened := false }

/-- One pin holds the port's CD/CTS input: MP(4n + 3), or the second one of FP12 to FP15; with none, or with both at once,
the input is deasserted (R484). -/
def State.cdPin (s : State) (n : Nat) : Bool :=
  if n < 12 then s.pinIn (4 * n + 3)
  else (s.pinIn (4 * n + 3) || s.pinIn (108 + n)) && !s.pinClash (n - 12)

/-- A CD change that has held for CD_FILTER (R250). -/
def State.cdChange (s : State) (n : Nat) (level : Bool) : State :=
  let p := pgFP n
  let level := level && s.cdPin n
  if 16 ≤ n ∨ !s.active p ∨ s.b p FP.STATUS_CD = level then s
  else
    let ends := s.b p FP.LINE_CFG_CD_GATE && !level && (s.fp n).inFrame
    let s := (s.w p FP.STATUS_CD (b2n level)).pendInt p 4
    if ends then (s.setFp n { s.fp n with format := true }).rxFinish n else s

/-- A frame in hand becomes the port's: it waits for NOT_BEFORE, then goes on (R248). -/
def State.txBegin (s : State) (n : Nat) (bytes : List Byte) (flags nb : Nat) (txn : Option Nat) : State :=
  let x := { s.fp n with txIn := bytes, txFlags := flags, txTime := nb, txTxn := txn }
  if nb ≠ 0 ∧ s.stamp.toNat < nb then s.setFp n { x with phase := .notBefore }
  else (s.setFp n { x with phase := .quiet }).txProceed n

/-- Why a descriptor is skipped (R255, R258): not at all, bare (LENGTH, a reserved bit, or bytes the paddock
does not give), or as a frame that could not be sent. -/
def State.txQueue (s : State) (n : Nat) : Nat → State
  | 0 => s
  | k + 1 =>
    let p := pgFP n
    let cl := s.r p FP.RING
    let tail := s.r p FP.TX_TAIL
    let a := s.fpAssist n
    if !s.padUp cl then (s.inc p FP.TX_TAIL).statusBit p 6
    else
      let d := s.padRead cl (s.r p FP.TX_DESC_BASE + 16 * (tail % 2 ^ s.r p FP.TX_DESC_COUNT)) 16
      let len := fieldLE d 4 2
      let flags := fieldLE d 6 2
      if len = 0 ∨ 4096 < len ∨ 16 ≤ flags then ((s.inc p FP.TX_TAIL).statusBit p 6).txQueue n k
      else
        let insert := nbit flags 0 && a.cvEn
        if insert && !s.cvAttached a then (((s.txPass n flags).statusBit p 6).statusBit p 7).txQueue n k
        else if insert && !frameable a len then ((s.txPass n flags).statusBit p 6).txQueue n k
        else
          let bytes := s.padRingRead cl (s.r p FP.TX_DATA_BASE) (2 ^ s.r p FP.TX_DATA_SIZE) (fieldLE d 0 4) len
          s.txBegin n bytes flags (fieldLE d 8 8) none

/-- R255 bars a dispatcher's frame now: the assist's unit is not attached, or it cannot frame it (R306). -/
def State.dispBarred (s : State) (n : Nat) (d : Nat × List Byte) : Bool :=
  let a := s.fpAssist n
  a.cvEn && (!s.cvAttached a || !frameable a d.2.length)

/-- Frames the dispatcher passed that are barred when their turn comes: their transactions end with SEND_FAULT (R306). -/
def State.dispDrop (s : State) (n : Nat) (bad : List (Nat × List Byte)) : State :=
  let s := if s.cvAttached (s.fpAssist n) then s else s.statusBit (pgFP n) 7
  let s := s.setFp n { s.fp n with dispQ := (s.fp n).dispQ.drop bad.length }
  bad.foldl (fun t d => t.endTxn d.1 19) s

/-- The port takes the next frame: one the dispatcher passed, else the next descriptor, past bad ones
(R248, R255, R306). -/
def State.txTake (s : State) (n : Nat) : State :=
  let x := s.fp n
  if 16 ≤ n ∨ !s.txOpen n ∨ !(x.phase = .idle ∨ x.phase = .held) then s
  else
    let bad := x.dispQ.takeWhile (s.dispBarred n)
    let s := if bad.isEmpty then s else s.dispDrop n bad
    let x := s.fp n
    match x.dispQ with
    | (t, bytes) :: l => (s.setFp n { x with dispQ := l }).txBegin n bytes 3 0 (some t)
    | [] => s.txQueue n ((s.r (pgFP n) FP.TX_HEAD + 65536 - s.r (pgFP n) FP.TX_TAIL) % 65536)

/-- NOT_BEFORE is reached (R248). -/
def State.txNotBefore (s : State) (n : Nat) : State :=
  let x := s.fp n
  if 16 ≤ n ∨ x.phase ≠ .notBefore ∨ !s.txOpen n then s
  else
    let s := s.advanceTb x.txTime
    (s.setFp n { s.fp n with phase := .quiet }).txProceed n

/-- Carrier has been away for LBT_QUIET: PTT is asserted (R248). -/
def State.lbtQuiet (s : State) (n : Nat) : State :=
  let p := pgFP n
  let x := s.fp n
  if 16 ≤ n ∨ x.phase ≠ .quiet ∨ !s.txOpen n ∨ s.b p FP.STATUS_CD ∨ (!s.b p FP.LINE_CFG_DUPLEX ∧ x.inFrame) then s
  else s.txKey n

/-- The key-up wait ends (R248). -/
def State.keyupEnd (s : State) (n : Nat) : State :=
  if 16 ≤ n ∨ (s.fp n).phase ≠ .keyup ∨ !s.txOpen n then s else s.txSend n

/-- The frame's last bit has left (R248, R254, R304). -/
def State.txLastBit (s : State) (n : Nat) : State :=
  let p := pgFP n
  let x := s.fp n
  if 16 ≤ n ∨ x.phase ≠ .sending ∨ !s.active p then s
  else
    let hold := nbit x.txFlags 2 && x.txTxn.isNone
    let s := s.txMid n false
    let s := s.setFp n { x.clearTx (if hold then .held else .tail) with
      sentLast := x.txBytes, lineLast := x.txLine, txd := s.r p FP.LINE_CFG_MODE != 2 || x.txLine.getLastD true, lineFc := some s.fc }
    let s := (s.w p FP.STATUS_TX_ACTIVE 0).inc p FP.TX_FRAMES
    match x.txTxn with
    | some t => s.frameSent t
    | none => s.txPass n x.txFlags

/-- The tail ends: PTT is deasserted (R248). -/
def State.tailEnd (s : State) (n : Nat) : State :=
  let x := s.fp n
  if 16 ≤ n ∨ x.phase ≠ .tail then s
  else (s.setFp n { x with phase := .idle }).w (pgFP n) FP.STATUS_PTT 0

/-- TX_MAX runs out: the frame in progress is cut and passed, PTT deasserted, the port blocked; frames of
the dispatcher that wait end with SEND_FAULT (R249, R306). -/
def State.txTimeout (s : State) (n : Nat) : State :=
  let p := pgFP n
  let x := s.fp n
  if 16 ≤ n ∨ !s.active p ∨ !s.b p FP.STATUS_PTT ∨ s.r p FP.TX_LIMITS_TX_MAX = 0 then s
  else
    let inProgress := x.phase == .keyup || x.phase == .sending
    let waiting := x.phase == .notBefore || x.phase == .quiet
    let s := ((s.txCut n).w p FP.STATUS_PTT 0).w p FP.STATUS_TX_ACTIVE 0
    let s := ((s.statusBit p 5).pendInt p 3).eventOpen p Ev.TX_TIMEOUT
    let ts := (if (inProgress || waiting) then x.txTxn.toList else []) ++ x.dispQ.map (·.1)
    let s := if inProgress && x.txTxn.isNone then s.txPass n x.txFlags else s
    let s := s.setFp n (if waiting && x.txTxn.isNone then { s.fp n with dispQ := [] }
      else { (s.fp n).clearTx .idle with dispQ := [] })
    ts.foldl (fun t k => t.endTxn k 19) s

/-- The port stops: a frame in progress is cut, TX_TAIL stays at it, PTT falls at once, a receive frame is
discarded; frames of the dispatcher end with SEND_FAULT (R251, R476). -/
def State.fpStop (s : State) (n : Nat) : State :=
  let p := pgFP n
  let x := s.fp n
  let ts := x.txTxn.toList ++ x.dispQ.map (·.1)
  let s := (s.txCut n).rxForget n
  let s := s.setFp n { (s.fp n).clearTx .idle with dispQ := [], opened := false, needIdle := false, txd := true }
  let s := (s.w p FP.STATUS_PTT 0).w p FP.STATUS_TX_ACTIVE 0
  ts.foldl (fun t k => t.endTxn k 19) s

/-- A ring of `bytes` bytes at a paddock offset keeps R252. -/
def padRingOk (base bytes : Nat) : Bool := base % 64 == 0 && decide (base + bytes ≤ 0x100000)

/-- The rings, rate and assist of a port may be enabled (R245, R252, R257). -/
def State.fpEnableOk (s : State) (n : Nat) : Bool :=
  let p := pgFP n
  let a := s.fpAssist n
  let mode := s.r p FP.LINE_CFG_MODE
  s.present 0 (pgPK (s.r p FP.RING))
    && padRingOk (s.r p FP.RX_DATA_BASE) (2 ^ s.r p FP.RX_DATA_SIZE)
    && padRingOk (s.r p FP.RX_DESC_BASE) (32 * 2 ^ s.r p FP.RX_DESC_COUNT)
    && padRingOk (s.r p FP.TX_DATA_BASE) (2 ^ s.r p FP.TX_DATA_SIZE)
    && padRingOk (s.r p FP.TX_DESC_BASE) (16 * 2 ^ s.r p FP.TX_DESC_COUNT)
    && decide (0x400 ≤ s.r p FP.BAUD_INC) && decide (s.r p FP.BAUD_INC ≤ 0x10000000)
    && (if a.kind = 4 then mode != 0 else mode == 0)
    && (!(decide (1 ≤ a.kind) && decide (a.kind ≤ 3)) || s.r p FP.LINE_CFG_DATA == 3)

/-- A port is enabled: its ring indices are 0 (R272). -/
def State.fpStart (s : State) (n : Nat) : State :=
  let p := pgFP n
  let s := (((s.w p FP.RX_HEAD 0).w p FP.RX_TAIL 0).w p FP.TX_HEAD 0).w p FP.TX_TAIL 0
  s.setFp n { s.fp n with ring := {}, txd := true, lineFc := none }

/-- A ring placement register: log2 bytes 8 to 16, log2 entries 1 to 12 (R256). -/
def ringSizeOk (w : Wr) (data : Bool) : Bool :=
  let z := w.f ⟨0, 24, 5⟩
  if data then decide (8 ≤ z) && decide (z ≤ 16) else decide (1 ≤ z) && decide (z ≤ 12)

/-- A write to a block-specific register of a field port (R249, R256, table "FPnn registers"). -/
def State.fpWrite (s : State) (w : Wr) (n : Nat) : Eff :=
  let p := pgFP n
  let o := w.off
  if 0x100 ≤ o ∧ o < 0x130 ∧ s.enabled p then w.drop s Ev.BAD_STATE
  else if o = 0x100 then w.require s (w.v % 4 != 3 && decide (nfld w.v 4 3 < 5)) Ev.BAD_VALUE (·.plain w)
  else if o = 0x110 then w.require s (decide (w.v % 8 < 5)) Ev.BAD_VALUE (·.plain w)
  else if o = 0x114 then w.require s (decide (4 ≤ w.f FP.RX_MAX) && decide (w.f FP.RX_MAX ≤ 4096)) Ev.BAD_VALUE (·.plain w)
  else if o = 0x120 ∨ o = 0x128 then w.require s (ringSizeOk w true) Ev.BAD_VALUE (·.plain w)
  else if o = 0x124 ∨ o = 0x12C then w.require s (ringSizeOk w false) Ev.BAD_VALUE (·.plain w)
  else if o = 0x134 then
    w.require s (decide ((s.r p FP.RX_HEAD + 65536 - w.v % 65536) % 65536 ≤ s.rxLevel (fpRing n))) Ev.BAD_VALUE (·.plain w)
  else if o = 0x138 then
    w.require s (decide ((w.v % 65536 + 65536 - s.r p FP.TX_TAIL) % 65536 ≤ 2 ^ s.r p FP.TX_DESC_COUNT)) Ev.BAD_VALUE (·.plain w)
  else s.plain w

/-- A write to a block-specific register of FIELD (R256, R274; log entry 34). -/
def State.fieldWrite (s : State) (w : Wr) : Eff :=
  let o := w.off
  if o = 0x100 then w.require s (w.v % 64 == 0) Ev.BAD_VALUE (·.plain w)
  else if o = 0x108 then w.require s (decide (w.v % 4096 ≤ 4080)) Ev.BAD_VALUE (·.plain w)
  else if 0x200 ≤ o ∧ o < 0x400 then
    let r := (o - 0x200) / 0x20
    let rel := (o - 0x200) % 0x20
    if rel = 0x10 then
      let g := relayRing r
      w.require s (decide ((s.r pFIELD g.head + 65536 - w.v % 65536) % 65536 ≤ s.rxLevel g)) Ev.BAD_VALUE (·.plain w)
    else if s.enabled pFIELD then w.drop s Ev.BAD_STATE
    else if rel = 4 then w.require s (ringSizeOk w true) Ev.BAD_VALUE (·.plain w)
    else if rel = 8 then w.require s (ringSizeOk w false) Ev.BAD_VALUE (·.plain w)
    else s.plain w
  else s.plain w

/-- FIELD is enabled: the relay rings start empty (R272, R274; log entry 39). -/
def State.fieldStart (s : State) : State :=
  let s := (List.range 16).foldl (fun t r =>
    (t.w pFIELD (relayRing r).head 0).w pFIELD (relayRing r).tail 0) s
  { s with relayRx := [] }

/-- The rings of FIELD may be enabled (R252, R274). -/
def State.fieldEnableOk (s : State) : Bool :=
  (List.range 16).all (fun r =>
    let g := relayRing r
    s.present 0 (pgPK (s.r pFIELD g.cluster)) && padRingOk (s.r pFIELD g.dBase) (2 ^ s.r pFIELD g.dSize)
      && padRingOk (s.r pFIELD g.eBase) (32 * 2 ^ s.r pFIELD g.eCount))

/-- A relay channel's context record loaded into a context of its unit (R271); false where the paddock
refuses it. -/
def State.relayLoad (s : State) (e : ChanEnt) (c off : Nat) : State :=
  if s.padUp e.ctxCluster then s.ctxTake e.assist.unit c (s.padRead e.ctxCluster off 64)
  else (s.statusBit (pgCV e.assist.unit) 4).eventOpen (pgCV e.assist.unit) Ev.CTX_FAULT

def State.relaySave (s : State) (e : ChanEnt) (c off : Nat) : State :=
  if s.padUp e.ctxCluster then s.padWrite e.ctxCluster off (s.ctxRecord e.assist.unit c)
  else (s.statusBit (pgCV e.assist.unit) 4).eventOpen (pgCV e.assist.unit) Ev.CTX_FAULT

/-- Whether a relay frame is what its assist cuts: the cut falls at its last byte, without FORMAT (R271). -/
def relayFormat (a : Assist) (raw : List Byte) : Bool :=
  if a.kind = 1 ∨ a.kind = 3 then
    !(rxCut a raw false == .finish false &&
      (List.range (raw.length - 1)).all (fun i => rxCut a (raw.take (i + 1)) false == .more))
  else false

/-- A received relay frame of channel `k`: judged under the channel's assist and put into its relay ring, or
discarded where the channel is invalid, and then counted in the ring its entry names (R243, R254, R271). -/
def State.relayReceive (s : State) (k : Nat) (raw : List Byte) : State :=
  if !s.chanValid k then
    let s := ((s.chanDeny k).statusBit pFIELD 3).event pFIELD Ev.CHAN_INVALID (BitVec.ofNat 32 k)
    if s.chanListed k && (s.chanEnt k).read && decide ((s.chanEnt k).ring < 16)
    then s.inc pFIELD (FIELD.DROPPED.at (0x20 * (s.chanEnt k).ring)) else s
  else
    let e := s.chanEnt k
    let a := e.assist
    let s := if s.cvRuns a then s.relayLoad e 0 e.ctxOff else s
    let (s, bad) := s.cvFeed a a.rx raw
    let err : LineErr := ⟨false, false, false, relayFormat a raw, false, false, false⟩
    let time := s.stamp
    let (s, f, good, stripped) := s.judge a raw bad err k time
    let s := if s.cvRuns a then s.relaySave e 0 e.ctxOff else s
    if good || a.keepBad then
      match s.rxPut (relayRing e.ring) (sget {} s.relayRx e.ring) f with
      | some (s', ring) =>
        let s' := { s' with relayRx := sset {} s'.relayRx e.ring ring }
        if good then s'.confirm k stripped time else s'
      | none => ((s.inc pFIELD (FIELD.DROPPED.at (0x20 * e.ring))).statusBit pFIELD 4).eventOpen pFIELD Ev.RX_OVERRUN
    else s.inc pFIELD (FIELD.DROPPED.at (0x20 * e.ring))

/-- A relay frame to be sent: the raw bytes, the tally, the stripped form as sent; with or without INSERT_CV the
channel's transmit record is loaded, used and saved back (R271, R460). -/
def State.relayBuild (s : State) (k : Nat) (insert : Bool) (bytes : List Byte) :
    State × List Byte × Option Nat × List Byte :=
  let e := s.chanEnt k
  let a := e.assist
  let use := s.cvRuns a
  let s := if use then s.relayLoad e 1 (e.ctxOff + 64) else s
  let (s, raw, t, sent) := s.txBuild a insert bytes
  (if use then s.relaySave e 1 (e.ctxOff + 64) else s, raw, t, sent)

end Sys2Proof.Machine
end

