-- ==== Sys2Proof/Machine/CrookCode.lean ====
section
/-! DEFINITION. Crook code as bytes: prefixes, opcodes, forms and operand fields, what raises ILLEGAL or FETCH_FAULT by
its bytes, and the fetch window of a core (R348, R354 to R357, R374, R384, R385). -/

namespace Sys2Proof.Machine

/-! ### Encoding -/

/-- What bytes of code come to: an instruction and its length, ILLEGAL (R355, R356, R364) in so many bytes, or
FETCH_FAULT (R348). -/
inductive Coded where
  | op (i : Instr) (len : Nat)
  | illegal (len : Nat)
  | outside
deriving DecidableEq, Repr

/-- The prefixes of an instruction (R355). -/
structure Prefixes where
  size : AccSize := .w
  sx   : Bool := false
  ord  : Bool := false
  n    : Nat := 0
deriving DecidableEq, Repr

/-- The prefixes and the bytes from the opcode on; none where a prefix kind is repeated (R355). -/
def takePrefixes : List Byte → Prefixes → Option (Prefixes × List Byte)
  | [], p => some (p, [])
  | b :: bs, p =>
    let k := b.toNat
    if k = 0xF0 ∨ k = 0xF1 then
      if p.size = .w then takePrefixes bs { p with size := if k = 0xF0 then .b else .h, n := p.n + 1 } else none
    else if k = 0xF2 then (if p.sx then none else takePrefixes bs { p with sx := true, n := p.n + 1 })
    else if k = 0xF3 then (if p.ord then none else takePrefixes bs { p with ord := true, n := p.n + 1 })
    else some (p, b :: bs)

/-- The forms of R354. -/
inductive Form where
  | n | r | i8 | i32 | k8 | k16 | k32 | s | m16 | m32 | mi | b8 | b32
deriving DecidableEq, Repr

/-- Bytes after the opcode (R354). -/
def Form.bytes : Form → Nat
  | .n => 0 | .r => 1 | .i8 => 2 | .i32 => 5 | .k8 => 1 | .k16 => 2 | .k32 => 4 | .s => 2
  | .m16 => 3 | .m32 => 5 | .mi => 9 | .b8 => 1 | .b32 => 4

/-- The form of an opcode; none for an undefined one (R356, R357). -/
def opForm (op : Nat) : Option Form :=
  if op ≤ 0x0B then some .n
  else if op = 0x0C then some .k8
  else if 0x10 ≤ op ∧ op ≤ 0x1F then some .r
  else if 0x20 ≤ op ∧ op ≤ 0x2D then some .i8
  else if 0x30 ≤ op ∧ op ≤ 0x3D then some .i32
  else if 0x40 ≤ op ∧ op ≤ 0x46 ∨ 0x48 ≤ op ∧ op ≤ 0x4D ∨ 0x50 ≤ op ∧ op ≤ 0x53 then some .r
  else if op = 0x58 ∨ op = 0x59 then some .s
  else if op = 0x5A then some .r
  else if op = 0x60 ∨ op = 0x61 then some .m16
  else if op = 0x62 ∨ op = 0x63 then some .m32
  else if op = 0x64 then some .mi
  else if 0x70 ≤ op ∧ op ≤ 0x7F then some .b8
  else if 0x80 ≤ op ∧ op ≤ 0x90 then some .b32
  else if 0x91 ≤ op ∧ op ≤ 0x94 then some .r
  else if op = 0x95 then some .k32
  else if op = 0x96 ∨ op = 0x97 then some .k16
  else none

/-- An opcode whose access takes size and ORD prefixes: LD, ST, STI (R355). -/
def opAccess (op : Nat) : Bool := decide (0x60 ≤ op ∧ op ≤ 0x64)

/-- The prefixes an instruction does not accept: SX is for LD with SZB or SZH alone (R355). -/
def Prefixes.accepted (p : Prefixes) (op : Nat) : Bool :=
  (p.n == 0 || opAccess op) && (!p.sx || ((op == 0x60 || op == 0x62) && decide (p.size ≠ .w)))

/-- The fields of an instruction's first operand byte that must be 0 (R354, R357): none, [7:4], [3:0] or both. -/
def zeroFields (op hi lo : Nat) : Bool :=
  match opForm op with
  | some .i8 | some .i32 | some .mi => lo == 0
  | some .s => if op = 0x58 then lo == 0 else hi == 0
  | some .r => if op = 0x53 ∨ op = 0x94 then lo == 0 else if 0x91 ≤ op ∧ op ≤ 0x93 then hi == 0 else true
  | _ => true

/-- An ALU instruction of rows 0x10 to 0x1D with its operand (R357). -/
def codedAlu (c row d : Nat) (b : Opnd) : Option Instr :=
  match row with
  | 0x0 => some (.mov c d b) | 0x1 => some (.add c d b) | 0x2 => some (.sub c d b) | 0x3 => some (.adc c d b)
  | 0x4 => some (.sbc c d b) | 0x5 => some (.and c d b) | 0x6 => some (.or c d b) | 0x7 => some (.xor c d b)
  | 0x8 => some (.shl c d b) | 0x9 => some (.shr c d b) | 0xA => some (.sar c d b) | 0xB => some (.rol c d b)
  | 0xC => some (.cmp c d b) | 0xD => some (.tst c d b)
  | _ => none

/-- A form N instruction (R357). -/
def codedPlain (c op : Nat) : Option Instr :=
  match op with
  | 0x00 => some (.nop c) | 0x01 => some (.halt c) | 0x02 => some (.iflush c) | 0x03 => some (.fence c)
  | 0x04 => some (.ret c) | 0x05 => some (.reti c) | 0x06 => some (.dup c) | 0x07 => some (.drop c)
  | 0x08 => some (.swap c) | 0x09 => some (.over c) | 0x0A => some (.ei c) | 0x0B => some (.di c)
  | _ => none

/-- A form R instruction above 0x1D, its fields [7:4] and [3:0] (R357). -/
def codedReg (c op hi lo : Nat) : Option Instr :=
  match op with
  | 0x1E => some (.not c hi lo) | 0x1F => some (.neg c hi lo)
  | 0x40 => some (.mul c hi lo) | 0x41 => some (.mulhu c hi lo) | 0x42 => some (.mulhs c hi lo)
  | 0x43 => some (.divu c hi lo) | 0x44 => some (.divs c hi lo) | 0x45 => some (.remu c hi lo)
  | 0x46 => some (.rems c hi lo) | 0x48 => some (.par c hi lo) | 0x49 => some (.brev c hi lo)
  | 0x4A => some (.brevb c hi lo) | 0x4B => some (.clz c hi lo) | 0x4C => some (.popc c hi lo)
  | 0x4D => some (.bswap c hi lo) | 0x50 => some (.crcb c hi lo) | 0x51 => some (.crcw c hi lo)
  | 0x52 => some (.crcf c hi lo) | 0x53 => some (.crci c hi) | 0x5A => some (.waitl c hi lo)
  | 0x91 => some (.callr c lo) | 0x92 => some (.jmpr c lo) | 0x93 => some (.push c lo) | 0x94 => some (.pop c hi)
  | _ => none

/-- A load or store of form M16 or M32 (R357, R360). -/
def codedAccess (c op hi lo : Nat) (disp : Disp) (p : Prefixes) : Instr :=
  if op % 2 = 0 then .ld c hi lo disp p.size p.sx p.ord else .st c hi disp lo p.size p.ord

/-- The instruction an opcode, its operand bytes and its prefixes stand for, fields that must be 0 aside. -/
def codedOp (c op : Nat) (bs : List Byte) (p : Prefixes) : Option Instr :=
  let hi := leNat (bs.take 1) / 16
  let lo := leNat (bs.take 1) % 16
  let at_ := fun (i n : Nat) => leNat ((bs.drop i).take n)
  match opForm op with
  | some .n => codedPlain c op
  | some .r => if op ≤ 0x1D then codedAlu c (op % 16) hi (.reg lo) else codedReg c op hi lo
  | some .i8 => codedAlu c (op % 16) hi (.imm8 (BitVec.ofNat 8 (at_ 1 1)))
  | some .i32 => codedAlu c (op % 16) hi (.imm32 (BitVec.ofNat 32 (at_ 1 4)))
  | some .k8 => some (.trap c (BitVec.ofNat 8 (at_ 0 1)))
  | some .k16 =>
    let mask := BitVec.ofNat 16 (at_ 0 2)
    some (if op = 0x96 then .pushm c mask else .popm c mask)
  | some .k32 => some (.pushi c (BitVec.ofNat 32 (at_ 0 4)))
  | some .s =>
    let index := BitVec.ofNat 8 (at_ 1 1)
    some (if op = 0x58 then .mfs c hi index else .mts c index lo)
  | some .m16 => some (codedAccess c op hi lo (.d16 (BitVec.ofNat 16 (at_ 1 2))) p)
  | some .m32 => some (codedAccess c op hi lo (.d32 (BitVec.ofNat 32 (at_ 1 4))) p)
  | some .mi => some (.sti c hi (BitVec.ofNat 32 (at_ 1 4)) (BitVec.ofNat 32 (at_ 5 4)) p.size p.ord)
  | some .b8 => some (.bcc c (BitVec.ofNat 4 op) (.r8 (BitVec.ofNat 8 (at_ 0 1))))
  | some .b32 =>
    if op = 0x90 then some (.call c (BitVec.ofNat 32 (at_ 0 4)))
    else some (.bcc c (BitVec.ofNat 4 op) (.r32 (BitVec.ofNat 32 (at_ 0 4))))
  | none => none

/-- What core `c` finds in bytes of code that end where the instruction RAM does (R348, R354 to R357). -/
def crookDecode (c : Nat) (bytes : List Byte) : Coded :=
  match takePrefixes bytes {} with
  | none => .illegal 2
  | some (_, []) => .outside
  | some (p, b :: rest) =>
    let op := b.toNat
    match opForm op with
    | none => .illegal (p.n + 1)
    | some f =>
      let len := p.n + 1 + f.bytes
      if rest.length < f.bytes then .outside
      else if !p.accepted op || !zeroFields op (leNat (rest.take 1) / 16) (leNat (rest.take 1) % 16) then .illegal len
      else match codedOp c op (rest.take f.bytes) p with
        | some i => .op i len
        | none => .illegal len

/-- Bytes of what was found. -/
def Coded.len : Coded → Nat
  | .op _ n => n
  | .illegal n => n
  | .outside => 0

/-! ### The fetch window -/

/-- Bytes of the window (R384). -/
def windowBytes : Nat := 16

/-- The code of core `c` from an address on as its instruction RAM holds it, at most `n` bytes, none beyond
0x1_FFFF (R348). -/
def State.codeAt (s : State) (c pc n : Nat) : List Byte := s.iramRead (c / 8) pc (min n (0x20000 - pc))

/-- The fetch window of core `c`. -/
def State.window (s : State) (c : Nat) : List Byte := sget [] s.windows c

/-- The window filled from the instruction RAM behind the `kept` bytes it holds from `pc` on (R384, R385). -/
def State.fillWindow (s : State) (c pc : Nat) (kept : List Byte) : State :=
  { s with windows := sset [] s.windows c (kept ++ s.codeAt c (pc + kept.length) (windowBytes - kept.length)) }

/-- The window emptied and fetched again at the core's PC (R374, R384). -/
def State.refetch (s : State) (c : Nat) : State := s.fillWindow c (s.core c).pc []

/-- What core `c` issues next by the bytes of its window. -/
def State.coded (s : State) (c : Nat) : Coded := crookDecode c (s.window c)

/-- The cc of a refetch at `pc`: 1, and 1 more where the first instruction there extends across a 16-byte boundary
(R374). -/
def State.refetchCc (s : State) (c pc : Nat) : Nat :=
  1 + b2n (decide (16 < pc % 16 + (crookDecode c (s.codeAt c pc windowBytes)).len))

end Sys2Proof.Machine
end

