-- ==== Sys2Proof/Machine/CrookCore.lean ====
section
/-! DEFINITION. A shepherd core as its page shows it: running and stopping, HALT and WAITL ends, LOCKUP, the
SCnn page (R345, R362 to R370, R394), and one paddock cycle (R386 to R393). -/

namespace Sys2Proof.Machine

/-- The unit of a kind is on the part: index in range and present on the variant. -/
def State.has (s : State) (func page : Nat) (k : Kind) (n : Nat) : Bool :=
  pageKind func page == some (k, n) && unitPresent s.variant k n

/-- Core `c` is on the part and its cluster's domain is ON. -/
def State.coreUp (s : State) (c : Nat) : Bool := s.has 0 (pgSC c) .kSC c && s.domainOn 0 (pgSC c)

/-- Core `c` issues instructions: released, not fenced, not waiting, no delivered interrupt to enter first
(R363, R366, R368, R369, R476). -/
def State.coreIssues (s : State) (c : Nat) : Bool :=
  let x := s.core c
  s.coreUp c && x.running && !s.fenced 0 (pgSC c) && !x.halted && !x.lockup
    && x.waiting.isNone && x.irq.isNone

/-- General register `r` and its write (R345). -/
def Core.get (x : Core) (r : Nat) : W32 := sget 0 x.g (r % 16)
def Core.put (x : Core) (r : Nat) (v : W32) : Core := { x with g := sset 0 x.g (r % 16) v }

/-- An instruction of core `c` has completed: RETIRED, CYCLES by its issue cycles and its waits, and what its
fetch waited for banks; R13 leaves both waits open (log entry 40). -/
def State.retire (s : State) (c cc : Nat) : State :=
  let x := s.core c
  let s := s.setCore c { x with cycles := x.cycles + BitVec.ofNat 32 (cc + Config.stallCc s.freeCtr) }
  let s := s.fresh.inc (pgSC c) SC.FETCH_CONFLICT_CC (Config.stallCc (s.freeCtr + 1))
  s.fresh.inc (pgSC c) SC.RETIRED

/-- An instruction of `len` bytes has completed in `cc`, and the window moves on past it (R384). -/
def State.complete (s : State) (c len cc : Nat) : State :=
  let x := s.core c
  let pc := (x.pc + len) % 0x20000
  ((s.setCore c { x with pc := pc }).fillWindow c pc ((s.window c).drop len)).retire c cc

/-- A redirect has completed in `cc`, the first cc of its refetch counted in them (R374). -/
def State.redirect (s : State) (c pc cc : Nat) : State :=
  let s := (s.setCore c { s.core c with pc := pc % 0x20000 }).refetch c
  s.retire c (cc + (s.refetchCc c (s.core c).pc - 1))

/-- A core stops: at a boundary, or out of WAITL or HALT; a stopped WAITL runs again when the core resumes
(R369, log entry 41). -/
def State.coreStop (s : State) (c : Nat) : State :=
  let x := s.core c
  s.setCore c { x with running := false, halted := false, waiting := none }

/-- A core resumes at SCnn.PC with its state unchanged; CYCLES counts from here (R369, R345). A core in
LOCKUP is not restarted (R368). -/
def State.coreStart (s : State) (c : Nat) : State :=
  let x := s.core c
  if x.running || x.lockup then s else (s.setCore c { x with running := true, cycles := 0 }).refetch c

/-- A halted core resumes at the instruction after HALT (R363). -/
def State.nudgeCore (s : State) (c : Nat) : State :=
  let x := s.core c
  if x.halted then s.setCore c { x with halted := false } else s

/-- The length of WAITL, a form R instruction (R354). -/
def waitlLen : Nat := 2

/-- WAITL completes with Z (R362). -/
def State.waitlEnd (s : State) (c : Nat) (z : Bool) : State :=
  let x := s.core c
  (s.setCore c { x with waiting := none, z := z }).complete c waitlLen 2

/-- A disabled head ends every WAITL on it with Z = 0 (R362). -/
def State.waitlHeadOff (s : State) (h : Nat) : State :=
  (List.range 64).foldl (fun s c => match (s.core c).waiting with
    | some (hh, _, _) => if hh = h then s.waitlEnd c false else s
    | none => s) s

/-- Clearing STATUS.LOCKUP empties both stacks (R368). -/
def State.lockupClear (s : State) (c : Nat) : State :=
  let x := s.core c
  s.setCore c { x with lockup := false, ds := [], dsp := x.dsLo, rs := [], rsp := x.rsLo }

/-- STATUS.RUN of a core: it runs, or its requests have not completed (R369, R382). -/
def Core.busy (x : Core) : Bool := x.running || !x.stores.isEmpty || !x.loads.isEmpty

/-- A write to the SCnn page outside CTRL (R370, R394). -/
def State.coreWrite (s : State) (w : Wr) (c : Nat) : Eff :=
  let x := s.core c
  if w.off = 0x00C then
    let r := s.plain w
    if w.f SC.STATUS_LOCKUP = 1 && x.lockup then (r.1.lockupClear c, r.2) else r
  else if w.off = 0x100 then
    w.require s (!x.busy) Ev.BAD_STATE (fun s => done (s.setCore c { s.core c with pc := w.f SC.PC }))
  else if w.off = 0x118 then (if w.f SC.NUDGE = 1 then done (s.nudgeCore c) else done s)
  else s.plain w

/-- The SCnn registers that show the core itself (R370, R394). -/
def State.coreRead (s : State) (c off : Nat) : Option W32 :=
  let x := s.core c
  if off = 0x00C then
    let st := (s.reg 0 (pgSC c) 0x00C).toNat
    let st := nset st 0 1 (b2n x.busy)
    let st := nset st 16 1 (b2n x.halted)
    some (BitVec.ofNat 32 (nset st 17 1 (b2n x.waiting.isSome)))
  else if off = 0x100 then some (BitVec.ofNat 32 x.pc)
  else if off = 0x104 then
    some (mkDetail [(b2n x.ie, 0), (x.rprio, 1), (x.ds.length, 4), (x.rs.length, 8)])
  else if off = 0x108 then some x.ecause
  else if off = 0x10C then some x.eaddr
  else if off = 0x110 then some x.cycles
  else if off = 0x138 then some (BitVec.ofNat 32 x.stores.length)
  else none

/-- A core loses a paddock write: it sets K and counts (R390). -/
def State.coreCollided (s : State) (c : Nat) : State :=
  (s.setCore c { s.core c with k := true }).inc (pgSC c) SC.COLLIDED

/-- A write paddock `p` discards: counted, shown, and recorded where COLL_CFG.LOG asks (R390). -/
def State.padCollision (s : State) (p off port : Nat) : State :=
  let g := pgPK p
  let s := (s.inc g PK.COLLISIONS).w g PK.STATUS_COLLISION 1
  let s := s.pendInt g 1
  if s.b g PK.COLL_CFG_LOG then s.event g Ev.COLLIDED (mkDetail [(off % 0x100000, 0), (port, 20)]) else s

/-- A read meets a double-bit error (R392). -/
def State.padUncorr (s : State) (p off : Nat) : State :=
  let g := pgPK p
  let s := (s.w g PK.STATUS_ECC_UNCORR 1).w g PK.ECC_LAST off
  (s.pendInt g 0).event g Ev.PADDOCK_ECC (BitVec.ofNat 32 off)

/-- One plain write to one paddock word, as a bank takes it: its port, its bytes and their enables. -/
structure WordWrite where
  port : Nat
  en   : Nat           -- byte enables, bit i = byte i
  data : Nat
  core : Option Nat := none   -- the core a fabric write comes from
deriving DecidableEq, Repr

/-- What a request has for the word at byte offset `wo` (a multiple of 4): the enables and the bytes. -/
def padPart (q : PadReq) (wo : Nat) : Nat × Nat :=
  (List.range 4).foldl (fun a i =>
    let k := wo + i - q.off
    if wo + i < q.off then a
    else match q.data[k]? with
      | some (some b) => (a.1 + 2 ^ i, a.2 + b.toNat * 256 ^ i)
      | _ => a) (0, 0)

/-- The words (byte offsets, multiples of 4) a request touches. -/
def padWords (q : PadReq) : List Nat :=
  let n := if q.kind = .read then q.len else q.data.length
  let a := q.off / 4
  let b := (q.off + n + 3) / 4
  (List.range (b - a)).map (fun i => (a + i) * 4)

/-- A request has a part in the word. -/
def padTouches (q : PadReq) (wo : Nat) : Bool := (padWords q).contains wo

/-- The bank of a word (R386). -/
def bankOf (wo : Nat) : Nat := wo / 4 % 16

/-- The word each bank serves in this fc: that of the first port, round-robin after the one served last,
that requests in the bank (R388). -/
def bankChoice (last : Nat) (reqs : List PadReq) (bank : Nat) : Option (Nat × Nat) :=
  ((List.range 9).map (fun i => (last + 1 + i) % 9)).findSome? (fun p =>
    (reqs.find? (fun q => q.port == p && (padWords q).any (fun wo => bankOf wo == bank))).bind (fun q =>
      ((padWords q).find? (fun wo => bankOf wo == bank)).map (fun wo => (p, wo))))

/-- Rank of a port among plain writes (R389): 0 is highest. -/
def padRank (fabricFirst : Bool) (p : Nat) : Nat :=
  if fabricFirst then (if p = 8 then 0 else p + 1) else p

/-- A 32-bit word with the enabled bytes replaced. -/
def mergeBytes (old en data : Nat) : Nat :=
  (List.range 4).foldl (fun v i => if nbit en i then nset v (8 * i) 8 (nfld data (8 * i) 8) else v) old

/-- Masks of the enabled bytes. -/
def enMask (en data : Nat) : Nat := mergeBytes 0 en data

/-- The plain writes in rank order onto a word: the word they leave, the enables taken, and the writes that
lose (R389 rule 1). -/
def plainCombine : List WordWrite → Nat → Nat → Nat × List WordWrite
  | [], word, _ => (word, [])
  | w :: ws, word, taken =>
    if w.en &&& taken = 0 then plainCombine ws (mergeBytes word w.en w.data) (taken ||| w.en)
    else
      let r := plainCombine ws word taken
      (r.1, w :: r.2)

/-- The stored word as a read-modify-write finds it: other bytes 0xFF under a double-bit error (R392). -/
def State.padWord (s : State) (p wo : Nat) : Nat :=
  s.padNat p wo 4

/-- The word as the plain writes of R389 rule 1 and then the alias operations of rule 2 leave it: bits set,
then bits cleared. -/
def aliasCombine (sets clears word : Nat) : Nat := (word ||| sets) &&& (0xFFFFFFFF ^^^ clears)

/-- One word of one bank in one fc: every request to it is served under R389, with R390 and R392. -/
def State.padServe (s : State) (p wo : Nat) (reqs : List PadReq) : State :=
  let g := pgPK p
  let here := reqs.filter (fun q => padTouches q wo)
  let rank := padRank (s.b g PK.COLL_CFG_MODE)
  let writes := (sortBy (fun a b => decide (rank a.port ≤ rank b.port))
    (here.filter (fun q => q.kind == .write))).filterMap (fun q =>
      let e := padPart q wo
      if e.1 = 0 then none else some { port := q.port, en := e.1, data := e.2, core := q.core })
  let masks := fun k => (here.filter (fun q => decide (q.kind = k) && q.port != 8)).foldl
    (fun m q => let e := padPart q wo; m ||| enMask e.1 e.2) 0
  let sets := masks .set
  let clears := masks .clear
  let modifies := here.any (fun q => q.kind != .read)
  let r := plainCombine writes (s.padWord p wo) 0
  let s := if modifies
    then ({ s with pad := memWrite s.pad (padAddr p wo) (leBytes 4 (aliasCombine sets clears r.1)) } : State).setPadErr p wo 0
    else s
  let s := r.2.foldl (fun s w =>
    let s := s.padCollision p wo w.port
    match if w.port < 8 then some (8 * p + w.port) else w.core with
    | some c => s.coreCollided c
    | none => s) s
  let reads := here.filter (fun q => q.kind == .read)
  if reads.isEmpty then s
  else if s.padErrAt p wo = 2 then reads.foldl (fun s _ => s.padUncorr p wo) s
  else if s.padErrAt p wo = 1 then s.inc g PK.ECC_CORRECTED reads.length
  else s

/-- One fc of a paddock: words that fall into error, each bank's choice, the service of the chosen words,
and the waits of the others (R386 to R392). A fenced paddock refuses every port (R472). -/
def State.paddockFc (s : State) (p : Nat) (reqs : List PadReq) (ecc : List (Nat × Bool)) : State :=
  if !(s.has 0 (pgPK p) .kPK p && s.padUp p) then s
  else
    let s := ecc.foldl (fun s e => s.setPadErr p (e.1 / 4 * 4) (if e.2 then 2 else 1)) s
    let chosen := (List.range 16).filterMap (fun b =>
      (bankChoice (sget 8 s.bankLast (16 * p + b)) reqs b).map (fun c => (b, c.1, c.2)))
    let s := chosen.foldl (fun s c =>
      let s := s.padServe p c.2.2 reqs
      { s with bankLast := sset 8 s.bankLast (16 * p + c.1) c.2.1 }) s
    let served := chosen.map (fun c => c.2.2)
    let waits := ((reqs.map (fun q => ((padWords q).filter (fun wo => !served.contains wo)).length)).foldl (· + ·) 0)
    let s := s.inc (pgPK p) PK.BANK_WAITS waits
    match reqs.find? (fun q => q.kind == .read) with
    | some q => { s with resp := .data (s.padRead p q.off q.len) }
    | none => s

def execPaddockCycle (pk : Nat) (reqs : List PadReq) (ecc : List (Nat × Bool)) (s : State) :
    Host.Outcome State Fault Refusal :=
  .next (s.paddockFc pk reqs ecc)

end Sys2Proof.Machine
end

