-- ==== Sys2Proof/Machine/Power.lean ====
section
/-! DEFINITION. Clock sources, power domains, performance levels, wake events (R62 to R78, R439, R501). -/

namespace Sys2Proof.Machine

/-- A field of domain `d`'s registers. -/
def pdFld (f : Fld) (d : Nat) : Fld := f.at (0x10 * d)

/-- The block pages that lie in a domain (table "Subsystems"; log entry 11). -/
def domainPages (d : Nat) : List (Nat × Nat) :=
  if d < 32 then [(0, pgHEAD d), (0, pgPE d), (1, pgSAP d)]
  else if d = 32 then [(0, pgPE 32)]
  else if d < 41 then (0, pgPK (d - 33)) :: (List.range 8).map (fun i => (0, pgSC (8 * (d - 33) + i)))
  else if d = 41 then [(0, pBLITTER)]
  else if d = 42 then (0, pDROVER) :: (List.range 32).map (fun n => (0, pgDV n))
  else if d = 43 then [(0, pAUDIO), (0, pAUDIOR), (1, pPROTR)]
  else if d = 44 then [(0, pFIELD), (0, pPOINTS), (0, pBRANDS), (0, pCOMMANDS), (0, pHISTORY)]
      ++ (List.range 16).map (fun n => (0, pgFP n)) ++ (List.range 16).map (fun n => (0, pgCV n))
  else if d = 45 then [(0, pJOURNAL), (0, pMIRROR)]
  else if d = 46 then (List.range 4).map (fun n => (0, pgVP n))
  else if d = 47 then (List.range 4).map (fun n => (0, pgVP (4 + n)))
  else if d = 48 then [(0, pTIMEBASE)]
  else []

/-- A page lets its domain be quiet: ENABLE = 0, or FENCED; a core also while halted (R69, R368). -/
def State.pageQuiet (s : State) (func page : Nat) : Bool :=
  wfld (s.reg func page 0x008) 0 1 == 0 || wfld (s.reg func page 0x00C) 1 1 == 1
    || (match pageKind func page with
        | some (.kSC, n) => (s.core n).halted || (s.core n).lockup
        | _ => false)

/-- Every memory request the units of a domain have issued has completed: fetches of a line, captures being written,
stores and loads of cores, transfers of check-value contexts, window and checkpoint writes of the journal (R69). -/
def State.requestsDone (s : State) (d : Nat) : Bool :=
  if d < 32 then (s.eng d).composing.isNone && (s.hd d).capWait.isEmpty
  else if d = 32 then (s.eng 32).composing.isNone
  else if d < 41 then
    (List.range 8).all (fun i => let x := s.core (8 * (d - 33) + i); x.stores.isEmpty && x.loads.isEmpty)
  else if d = 44 then (List.range 16).all (fun n => (s.cv n).ctxCmd.isNone)
  else if d = 45 then s.journal.cpBusy.isNone && s.journal.buf.all (fun e => !e.issued || e.windowed)
  else true

/-- Every page quiet, every request completed (R69). -/
def State.domainQuiet (s : State) (d : Nat) : Bool :=
  (domainPages d).all (fun p => !s.present p.1 p.2 || s.pageQuiet p.1 p.2) && s.requestsDone d

/-- SRAM of a domain in KiB (table "Domain wake times"). -/
def domainKiB (d : Nat) : Nat :=
  if d < 32 then 912 else if d = 32 then 400 else if d < 41 then 1152
  else if d = 41 then 64 else if d = 42 then 8 else if d = 43 then 64 else if d = 44 then 256
  else if d = 45 then 128 else if d = 49 then 64 else 0

/-- fc from the start of a wake to ON (table "Domain wake times", R72). -/
def wakeFcs (d : Nat) (fromOff : Bool) : Nat :=
  if fromOff then 4 * usFc + ceilDiv (domainKiB d * 18 * usFc) 1024
  else if domainKiB d < 64 then 2 * usFc else 6 * usFc

/-- A table without the keys of one range. -/
def dropRange {α : Type} (m : Sparse α) (lo n : Nat) : Sparse α :=
  m.filter (fun e => !(decide (lo ≤ e.1) && decide (e.1 < lo + n)))

/-- A register key lies in a page of the domain, from offset 0x100 upward. -/
def keyInDomain (d key : Nat) : Bool :=
  pageDomain (key / 0x1000000) (key / 0x1000 % 0x1000) == some d && decide (0x100 ≤ key % 0x1000)

/-- State of the units of a domain that is no register: what a head and its engine hold. -/
def State.dropHead (s : State) (n : Nat) : State :=
  { s with
    heads := dropRange s.heads n 1
    sapRam := dropRange s.sapRam (n * 0x80000) 0x80000 }

def State.dropEngine (s : State) (n : Nat) : State :=
  { s with
    engines := dropRange s.engines n 1
    caches := dropRange s.caches n 1
    palette := dropRange s.palette (n * 4096) 4096
    flock := dropRange s.flock (n * 4096) 4096
    lut := dropRange s.lut (n * 8 * 4096) (8 * 4096) }

def State.dropCluster (s : State) (c : Nat) : State :=
  { s with
    cores := dropRange s.cores (8 * c) 8
    windows := dropRange s.windows (8 * c) 8
    pad := dropRange s.pad (c * 0x100000) 0x100000
    padErr := dropRange s.padErr (c * 0x40000) 0x40000
    iram := dropRange s.iram (c * 0x20000) 0x20000
    bankLast := dropRange s.bankLast (16 * c) 16 }

/-- The content a domain loses in OFF: after the wake every register holds its reset value, every SRAM word
zero and every gamma table the identity (R66, R72, R138, R170, R188). TB, RATIO and the make-up registers
stay (R437). -/
def State.loseDomain (s : State) (d : Nat) : State :=
  let keep := fun (k : Nat) => !keyInDomain d k
    || (d == 48 && decide (k % 0x1000 < 0x120))
  let s := { s with
    regs := s.regs.filter (fun e => keep e.1)
    pend := s.pend.filter (fun e => keep e.1)
    held := s.held.filter (fun e => keep (e.1 / 256)) }
  if d < 32 then (s.dropHead d).dropEngine d
  else if d = 32 then { s.dropEngine 32 with relief := {} }
  else if d < 41 then s.dropCluster (d - 33)
  else if d = 41 then { s with blt := {} }
  else if d = 42 then { s with dv := [], dvLast := 0, dvNext := 0 }
  else if d = 43 then { s with audio := {} }
  else if d = 44 then { s with fps := [], relayRx := [], cvs := [], points := {}, txns := [] }
  else if d = 45 then { s with journal := {}, mirror := {} }
  else if d = 46 then { s with ports := dropRange s.ports 0 4 }
  else if d = 47 then { s with ports := dropRange s.ports 4 4 }
  else s

/-- The product of R439: acc = N × RATIO + MAKEUP_FRAC. -/
def State.makeup (s : State) (n : Nat) : State :=
  let acc := n * s.r pTIMEBASE TIMEBASE.RATIO + s.r pTIMEBASE TIMEBASE.MAKEUP_FRAC
  let s := (s.w pTIMEBASE TIMEBASE.MAKEUP_FRAC acc).w pTIMEBASE TIMEBASE.LAST_MAKEUP (acc / 2 ^ 32)
  { s with tb := s.tb + BitVec.ofNat 64 (acc / 2 ^ 32), tbFrac := 0, clocks := { s.clocks with tbStopped := false } }

/-- Entry commits: the domain is no longer ON; PD48 stops the time base (R69, R439). -/
def State.entryCommitNow (s : State) (d : Nat) (toOff : Bool) : State :=
  let s := (s.w pPOWER (pdFld POWER.PD_STATUS_ENTRY_PENDING d) 0).w pPOWER (pdFld POWER.PD_STATUS_STATE d) 1
  let s := s.setDom d { s.dom d with commitFc := s.fc, toOff := toOff, latched := false, onReq := false }
  if d = 48 then { s with clocks := { s.clocks with tbStopped := true } } else s

def State.entryCommit (s : State) (d : Nat) : State :=
  if s.b pPOWER (pdFld POWER.PD_STATUS_ENTRY_PENDING d) && s.domainQuiet d then
    s.entryCommitNow d (s.r pPOWER (pdFld POWER.PD_CTRL_TARGET d) == 2)
  else s

/-- A wake begins from RETENTION or OFF (R72, R74). -/
def State.startWake (s : State) (d cause : Nat) : State :=
  let st := s.pdState d
  if st = 2 ∨ st = 3 then
    let s := (s.w pPOWER (pdFld POWER.PD_STATUS_STATE d) 4).w pPOWER (pdFld POWER.PD_STATUS_LAST_WAKE d) cause
    s.setDom d { s.dom d with fromOff := st == 3, wakeFc := s.fc }
  else s

/-- A wake pin whose mode is a level that is now asserted (WAKE_PIN_CFG). -/
def State.pinLevel (s : State) (k : Nat) : Bool :=
  let m := nfld (s.r pPOWER POWER.WAKE_PIN_CFG) (2 * k) 2
  let v := nbit (s.r pPOWER POWER.WAKE_PIN_STATE) k
  (m == 2 && v) || (m == 3 && !v)

/-- A waiting source whose target set lies wholly within cluster `c`'s cores (R74). -/
def State.intcPending (s : State) (c : Nat) : Bool :=
  s.groups.any (fun e => e.2.waiting.any (fun x =>
    let t := s.r (pgINTCG e.1) (INTCG.TARGET.at (0x10 * x.1))
    !s.srcHost e.1 x.1 && t != 0 && nfld t (8 * c) 8 * 2 ^ (8 * c) == t))

/-- A level-type wake condition that holds now, as its LAST_WAKE code (R70, R74, R75). -/
def State.levelWake (s : State) (d : Nat) : Option Nat :=
  let pins := s.r pPOWER (pdFld POWER.PD_WAKE_PINS d)
  if (List.range 16).any (fun k => nbit pins k && s.pinLevel k) then some 2
  else if s.b pPOWER (pdFld POWER.PD_WAKE_ALARM d) && s.b pPOWER POWER.ALARM_CTRL_FIRED then some 3
  else if 33 ≤ d ∧ d < 41 ∧ s.b pPOWER (pdFld POWER.PD_WAKE_INTC d) = true ∧ s.intcPending (d - 33) = true then some 4
  else none

/-- A domain at rest wakes where a level-type condition holds. -/
def State.levelSettle (s : State) (d : Nat) : State :=
  match s.levelWake d with
  | some c => if pdPresent s.variant d then s.startWake d c else s
  | none => s

/-- Every domain, after a level or a pending source has changed. -/
def State.levelSettleAll (s : State) : State := (List.range 50).foldl (fun s d => s.levelSettle d) s

/-- Entry completes: RETENTION, or OFF with every content lost; then a TARGET = ON, a latched edge or a level
starts the wake (R66, R70, R71). -/
def State.entryComplete (s : State) (d : Nat) : State :=
  if s.pdState d != 1 then s
  else
    let x := s.dom d
    let s := s.advanceFc (x.commitFc + (if x.toOff then 2 else 1) * usFc)
    let s := s.w pPOWER (pdFld POWER.PD_STATUS_STATE d) (if x.toOff then 3 else 2)
    let s := if x.toOff then s.loseDomain d else s
    if x.onReq then s.startWake d 1
    else if x.latched then s.startWake d 5
    else s.levelSettle d

/-- The performance level the domain is to run at: P3 while CRIT holds (R77, R501). -/
def State.levelAim (s : State) (d : Nat) : Nat :=
  if s.b pPOWER POWER.THERM_CRIT then 3 else s.r pPOWER (pdFld POWER.PD_CTRL_PLEVEL d)

/-- A waking domain reports ON (R72, R77, R439). The SLOW periods of PD48's rest are not the block's to state
(log entry 3). -/
def State.wakeComplete (s : State) (d : Nat) : State :=
  if s.pdState d != 4 then s
  else
    let x := s.dom d
    let s := s.advanceFc (x.wakeFc + wakeFcs d x.fromOff)
    let s := if d = 48 then (s.makeup (Config.freeNat s.freeCtr)).fresh else s
    let s := s.w pPOWER (pdFld POWER.PD_STATUS_STATE d) 0
    if 33 ≤ d ∧ d < 42
    then (s.w pPOWER (pdFld POWER.PD_STATUS_PLEVEL_NOW d) (s.levelAim d)).w pPOWER (pdFld POWER.PD_STATUS_PLEVEL_BUSY d) 0
    else s

/-- PLEVEL_DONE: the level in force is the last one written (R77). -/
def State.plevelDone (s : State) (d : Nat) : State :=
  if s.b pPOWER (pdFld POWER.PD_STATUS_PLEVEL_BUSY d) && s.pdOn d then
    (s.w pPOWER (pdFld POWER.PD_STATUS_PLEVEL_NOW d) (s.levelAim d)).w pPOWER (pdFld POWER.PD_STATUS_PLEVEL_BUSY d) 0
  else s

/-- TARGET written (R69, R70, R74). RETENTION or OFF written while the domain is entering, waking, or for RETENTION in
OFF, is stored and nothing more: the rule has an entry begin only where the domain is ON, or from RETENTION to OFF (log
entry 118). -/
def State.targetTo (s : State) (d t : Nat) : State :=
  let st := s.pdState d
  if t = 0 then
    let s := s.w pPOWER (pdFld POWER.PD_STATUS_ENTRY_PENDING d) 0
    if st = 1 then s.setDom d { s.dom d with onReq := true } else s.startWake d 1
  else if st = 0 then s.w pPOWER (pdFld POWER.PD_STATUS_ENTRY_PENDING d) 1
  else if st = 2 ∧ t = 2 then s.entryCommitNow d true
  else s

/-- PLEVEL written (R77). -/
def State.plevelTo (s : State) (d : Nat) : State :=
  if s.pdState d = 0 ∧ s.levelAim d ≠ s.r pPOWER (pdFld POWER.PD_STATUS_PLEVEL_NOW d)
  then s.w pPOWER (pdFld POWER.PD_STATUS_PLEVEL_BUSY d) 1 else s

/-- A request is refused with REFUSED: PD48 while SLOW_OK is 0, PD43 under protection (R64, R414). -/
def State.targetRefused (s : State) (w : Wr) (d t : Nat) : Bool :=
  t != 0 && ((d == 48 && !s.b pCLOCKS CLOCKS.STATUS_SLOW_OK)
    || (d == 43 && s.anyProt && w.code != 0x02))

/-- A write to PDnn_CTRL: absent domains ignore it (R3); illegal TARGET and PLEVEL are dropped (R78). -/
def State.pdCtrlWrite (s : State) (w : Wr) (d : Nat) : Eff :=
  let t := w.f POWER.PD_CTRL_TARGET
  let l := w.f POWER.PD_CTRL_PLEVEL
  if !pdPresent s.variant d then (s, false)
  else if t = 3 ∨ (l ≠ 0 ∧ ¬(33 ≤ d ∧ d < 42)) then w.drop s Ev.BAD_VALUE
  else if s.targetRefused w d t then (s.w pPOWER (pdFld POWER.PD_STATUS_REFUSED d) 1, false)
  else
    let r := s.plain w
    ((r.1.targetTo d t).plevelTo d, r.2)

/-- A write to a POWER register past the checks of the page (R68, R74, R78). -/
def State.powerWrite (s : State) (w : Wr) : Eff :=
  if 0x100 ≤ w.off ∧ w.off < 0x420 then
    let d := (w.off - 0x100) / 16
    let rel := (w.off - 0x100) % 16
    if rel = 0 then s.pdCtrlWrite w d
    else if rel = 8 then
      if !pdPresent s.variant d then (s, false)
      else if nbit w.v 17 && !(decide (33 ≤ d ∧ d < 41)) then w.drop s Ev.BAD_VALUE
      else let r := s.plain w; (r.1.levelSettle d, r.2)
    else if rel = 12 then s.changeItemOwner pPOWER (pdFld POWER.PD_OWNER d) (BitVec.ofNat 8 w.v) w
    else s.plain w
  else if w.off = 0x500 then let r := s.plain w; (r.1.levelSettleAll, r.2)
  else s.plain w

/-- The edge the pin just made is the one its mode names. -/
def edgeMade (mode : Nat) (old new : Bool) : Bool := (mode == 0 && !old && new) || (mode == 1 && old && !new)

/-- One domain and one edge: lost in the first 4 fc of an entry, latched later in it, else a wake (R70). -/
def State.edgeWake (s : State) (d k : Nat) : State :=
  if !(pdPresent s.variant d && nbit (s.r pPOWER (pdFld POWER.PD_WAKE_PINS d)) k) then s
  else if s.pdState d = 1 then
    if s.fc < (s.dom d).commitFc + 4 then s else s.setDom d { s.dom d with latched := true }
  else s.startWake d 2

/-- Wake pin MP(096 + k) changes level (R70, R74). -/
def State.wakePin (s : State) (k : Nat) (level : Bool) : State :=
  if 16 ≤ k then s
  else
    let old := nbit (s.r pPOWER POWER.WAKE_PIN_STATE) k
    let m := nfld (s.r pPOWER POWER.WAKE_PIN_CFG) (2 * k) 2
    let s := s.w pPOWER POWER.WAKE_PIN_STATE (nset (s.r pPOWER POWER.WAKE_PIN_STATE) k 1 (b2n level))
    let s := if edgeMade m old level then (List.range 50).foldl (fun s d => s.edgeWake d k) s else s
    s.levelSettleAll

/-- The count equals ALARM_AT: FIRED, where the alarm is armed and the SLOW clock checked (R64, R75). -/
def State.alarmMatch (s : State) : State :=
  if s.b pPOWER POWER.ALARM_CTRL_EN && s.b pCLOCKS CLOCKS.STATUS_SLOW_OK then
    ((s.w pPOWER POWER.ALARM_NOW (s.r pPOWER POWER.ALARM_AT)).w pPOWER POWER.ALARM_CTRL_FIRED 1).levelSettleAll
  else s

/-- The reference is lost: holdover, in which the PLL is not locked and RUN reads 0 (R63, R65). -/
def State.refLoss (s : State) : State :=
  if s.b pCLOCKS CLOCKS.STATUS_REF_OK then
    let s := s.w pCLOCKS CLOCKS.STATUS_REF_OK 0
    if s.b pCLOCKS CLOCKS.STATUS_PLL_LOCK then
      let s := (s.w pCLOCKS CLOCKS.STATUS_PLL_LOCK 0).w pCLOCKS CLOCKS.STATUS_RUN 0
      let s := (s.w pCLOCKS CLOCKS.STATUS_HOLDOVER 1).w pCLOCKS STATUS_DEGRADED 1
      s.eventOpen pCLOCKS Ev.REF_LOSS
    else s
  else s

/-- The reference is back and lock is regained: HOLDOVER clears, DEGRADED stays (R63). -/
def State.refReturn (s : State) : State :=
  if s.b pCLOCKS CLOCKS.STATUS_HOLDOVER then
    let s := (s.w pCLOCKS CLOCKS.STATUS_REF_OK 1).w pCLOCKS CLOCKS.STATUS_PLL_LOCK 1
    (s.w pCLOCKS CLOCKS.STATUS_RUN 1).w pCLOCKS CLOCKS.STATUS_HOLDOVER 0
  else s

/-- DEGRADED cleared while HOLDOVER is 1 sets again, which counts as one occurrence (R466). -/
def State.clocksCondition (s : State) : State :=
  if s.b pCLOCKS CLOCKS.STATUS_HOLDOVER && !s.b pCLOCKS STATUS_DEGRADED
  then (s.w pCLOCKS STATUS_DEGRADED 1).eventOpen pCLOCKS Ev.REF_LOSS else s

/-- The domains the DVFS supply feeds go to the level in force (R501). -/
def State.critLevels (s : State) : State :=
  (List.range 9).foldl (fun s i =>
    let d := 33 + i
    if s.pdOn d then s.w pPOWER (pdFld POWER.PD_STATUS_PLEVEL_NOW d) (s.levelAim d) else s) s

/-- A junction temperature in 0.25 °C, signed, is at or above / below a bound in °C. -/
def tempAtLeast (t : BitVec 12) (deg : Int) : Bool := decide (4 * deg ≤ signed 12 t.toNat)

/-- HOT: set at 105 °C or above, clear below 100 °C (R501). -/
def State.hot (s : State) (t : BitVec 12) : State :=
  let s := s.w pPOWER POWER.THERM_TEMP t.toNat
  if tempAtLeast t 105 then
    if s.b pPOWER POWER.THERM_HOT then s else (s.w pPOWER POWER.THERM_HOT 1).pendInt pPOWER 0
  else if tempAtLeast t 100 then s else s.w pPOWER POWER.THERM_HOT 0

/-- CRIT: set at 120 °C or above with PD33 to PD41 at P3, clear below 110 °C with PLEVEL back (R501). -/
def State.crit (s : State) (t : BitVec 12) : State :=
  let s := s.w pPOWER POWER.THERM_TEMP t.toNat
  if tempAtLeast t 120 then
    if s.b pPOWER POWER.THERM_CRIT then s
    else ((s.w pPOWER POWER.THERM_CRIT 1).pendInt pPOWER 1).critLevels
  else if tempAtLeast t 110 then s
  else if s.b pPOWER POWER.THERM_CRIT then (s.w pPOWER POWER.THERM_CRIT 0).critLevels else s

end Sys2Proof.Machine
end

