-- ==== Sys2Proof/Machine/Intc.lean ====
section
/-! DEFINITION. The interrupt controller: doorbells, delivery to cores and host vectors, hold-off, promotion
and coalescing (R421 to R428), and the host's vectors (R449). -/

namespace Sys2Proof.Machine

/-- A field of source `i` of a group. -/
def srcFld (f : Fld) (i : Nat) : Fld := f.at (0x10 * i)

/-- Bus Master Enable and MSI-X Enable are set and Function Mask is clear in a function's configuration space (R449;
the places of the bits are PRESUMED, log entry 131). -/
def State.fnOpen (s : State) (func : Nat) : Bool :=
  let msix := (sget 0 s.host.cfg (2 * func + 1) : W32).toNat
  nbit (sget 0 s.host.cfg (2 * func) : W32).toNat 2 && nbit msix 15 && !nbit msix 14

/-- A vector is not masked: its own bit and its function's (R449). -/
def State.vectorOpen (s : State) (v : Nat) : Bool :=
  s.host.open_.contains v && s.fnOpen (if v < 1792 then 0 else 1)

/-- A host vector takes an event: the message is sent, or the PBA bit set while it is masked (R423, R449). -/
def State.sendVector (s : State) (v : Nat) : State :=
  if s.vectorOpen v then { s with host := { s.host with sentMsi := s.host.sentMsi ++ [v] } }
  else if s.host.pba.contains v then s
  else { s with host := { s.host with pba := s.host.pba ++ [v] } }

/-- Messages that waited for their vectors to be unmasked are sent, in the order they came (R449; the order is the
model's choice, log entry 131). -/
def State.sendPending (s : State) : State :=
  { s with host := { s.host with
    sentMsi := s.host.sentMsi ++ s.host.pba.filter s.vectorOpen
    pba := s.host.pba.filter (fun v => !s.vectorOpen v) } }

/-- A vector's mask bit is cleared; a pending message of an unmasked vector is sent (R449). -/
def State.vectorUnmask (s : State) (v : Nat) : State :=
  if 2048 ≤ v ∨ s.host.open_.contains v then s
  else ({ s with host := { s.host with open_ := s.host.open_ ++ [v] } } : State).sendPending

/-- A vector is masked again. -/
def State.vectorMask (s : State) (v : Nat) : State :=
  { s with host := { s.host with open_ := s.host.open_.filter (fun x => x != v) } }

/-- Sources no block uses (table "Interrupt source numbers", R428). -/
def srcReserved (n : Nat) : Bool :=
  decide (1344 ≤ n ∧ n < 1408) || decide (2220 ≤ n ∧ n < 2240) || decide (2296 ≤ n ∧ n < 2560)

/-- Sources of Function 1 pages (R423). -/
def srcFunc1 (n : Nat) : Bool := decide (1408 ≤ n ∧ n < 1664) || decide (2152 ≤ n ∧ n < 2176)

/-- DB_PEND of a group. -/
def State.dbPend (s : State) (g : Nat) : Nat := s.r (pgINTCG g) INTCG.DB_PEND

/-- A doorbell rings (R421). -/
def State.doorbell (s : State) (w : Wr) : Eff :=
  let n := w.f INTC.DOORBELL
  if n < 2560 then w.drop s Ev.BAD_VALUE
  else
    let g := n / 64
    let i := n % 64
    let ringer := s.r (pgINTCG g) (srcFld INTCG.SCFG_RINGER i)
    if ringer ≠ 0 ∧ ringer ≠ w.code.toNat then w.drop s Ev.OWNER_DENY
    else if nbit (s.dbPend g) i then done (s.inc (pgINTCG g) INTCG.DB_MERGED)
    else done (s.w (pgINTCG g) INTCG.DB_PEND (s.dbPend g ||| 2 ^ i))

/-- fc a source has waited while the group's timer ran (R425). -/
def Group.ranFor (x : Group) (fc since ran : Nat) : Nat := ran + (min fc x.freeFc - max since x.timerFc)

/-- A group whose hold-off timer no longer runs: what its sources waited under it is kept (R425, R426). -/
def Group.timerStop (x : Group) (fc : Nat) : Group :=
  { x with waiting := x.waiting.map (fun e => (e.1, e.2.1, x.ranFor fc e.2.1 e.2.2)), freeFc := fc, timerFc := fc }

/-- SERVICE written: into NORMAL every timer counts as expired; into SERVICE waiting sources open a window
(R426). -/
def State.serviceWrite (s : State) (w : Wr) : Eff :=
  let old := s.b pINTC INTC.SERVICE
  let new := w.f INTC.SERVICE = 1
  let r := s.plain w
  if old ∧ ¬new then
    (r.1.groups.foldl (fun s e => s.setGroup e.1 { (s.group e.1).timerStop s.fc with window := none, draining := false }) r.1, r.2)
  else if ¬old ∧ new then
    (r.1.groups.foldl (fun s e =>
      let x := (s.group e.1).timerStop s.fc
      s.setGroup e.1 { x with promoted := [], window := if x.waiting.isEmpty then none else some s.fc }) r.1, r.2)
  else r

/-- A write to an INTC page past the checks of the page (R421, R423, R426, R428). -/
def State.intcWrite (s : State) (w : Wr) : Eff :=
  if w.off = 0x100 then s.doorbell w else if w.off = 0x104 then s.serviceWrite w else s.plain w

def State.intcgWrite (s : State) (w : Wr) (g : Nat) : Eff :=
  if w.off = 0x100 then
    w.require s (decide (1 ≤ w.f INTCG.GCFG_COAL_COUNT ∧ w.f INTCG.GCFG_COAL_COUNT ≤ 64)) Ev.BAD_VALUE (fun s => s.plain w)
  else if w.off = 0x104 then w.require s (w.f INTCG.COAL_TIME != 0) Ev.BAD_VALUE (fun s => s.plain w)
  else if w.off = 0x118 then (if 40 ≤ g then s.plain w else (s, false))
  else if 0x400 ≤ w.off then
    let i := (w.off - 0x400) / 0x10
    let n := 64 * g + i
    if srcReserved n then w.drop s Ev.BAD_VALUE
    else if (w.off - 0x400) % 0x10 = 0 then
      let v := nfld w.v 4 11
      let host := nbit w.v 3
      if host && (srcFunc1 n != decide (1792 ≤ v)) then w.drop s Ev.BAD_VALUE else s.plain w
    else s.plain w
  else s.plain w

/-- Core `c` can accept priority `p` (R424, R366). -/
def State.coreAccepts (s : State) (c p : Nat) : Bool :=
  let x := s.core c
  s.coreUp c && s.enabled (pgSC c) && x.running && !s.fenced 0 (pgSC c) && !x.lockup && x.irq.isNone
    && x.ie && decide (x.rprio < p)

/-- The core of a target set that takes priority `p`: lowest RPRIO, ties round-robin after `last` (R424). -/
def State.pickCore (s : State) (target p last : Nat) : Option Nat :=
  let order := (List.range 64).map (fun i => (last + 1 + i) % 64)
  let able := order.filter (fun c => nbit target c && s.coreAccepts c p)
  able.foldl (fun best c => match best with
    | none => some c
    | some b => if (s.core c).rprio < (s.core b).rprio then some c else some b) none

/-- Where source `i` of group `g` would be delivered now: a core, or a host vector. -/
inductive Dest where
  | core (c : Nat)
  | vector (v : Nat)
deriving DecidableEq, Repr

def State.destOf (s : State) (g i : Nat) : Option Dest :=
  let p := s.r (pgINTCG g) (srcFld INTCG.SCFG_PRIO i)
  if p = 0 then none
  else if s.srcHost g i then some (.vector (s.r (pgINTCG g) (srcFld INTCG.SCFG_VECTOR i)))
  else (s.pickCore (s.r (pgINTCG g) (srcFld INTCG.TARGET i)) p (s.group g).lastCore).map .core

/-- Sources whose wait has passed their PATIENCE are promoted, oldest first (R425). -/
def State.promoteSources (s : State) (g : Nat) : State :=
  let x := s.group g
  let due := x.waiting.filter (fun e =>
    let p := s.r (pgINTCG g) (srcFld INTCG.SCFG_PATIENCE e.1)
    !x.promoted.contains e.1 && p != 0 && decide (p * usFc < x.ranFor s.fc e.2.1 e.2.2))
  let due := sortBy (fun a b => decide (a.2.1 ≤ b.2.1)) due
  if due.isEmpty then s
  else (s.setGroup g { x with promoted := x.promoted ++ due.map (·.1) }).inc (pgINTCG g) INTCG.PROMOTED due.length

/-- The order of R425: promoted first, then priority, then number. -/
def State.deliveryOrder (s : State) (g : Nat) : List Nat :=
  let x := s.group g
  let prio := fun i => s.r (pgINTCG g) (srcFld INTCG.SCFG_PRIO i)
  let rest := (x.waiting.map (·.1)).filter (fun i => !x.promoted.contains i)
  x.promoted ++ sortBy (fun a b => decide (prio b < prio a ∨ (prio a = prio b ∧ a ≤ b))) rest

/-- The first source of that order that has a target able to accept it. -/
def State.nextDelivery (s : State) (g : Nat) : Option (Nat × Dest) :=
  (s.deliveryOrder g).findSome? (fun i => (s.destOf g i).map (fun d => (i, d)))

/-- One source is delivered: it stops waiting, a doorbell clears, counts go up, the hold-off timer starts
(R421, R422, R425). -/
def State.deliver (s : State) (g i : Nat) (d : Dest) : State :=
  let x := s.group g
  let page := pgINTCG g
  let old := x.waiting
  let x := { x with
    waiting := (old.filter (fun e => e.1 != i)).map (fun e => (e.1, e.2.1, x.ranFor s.fc e.2.1 e.2.2))
    promoted := x.promoted.filter (fun j => j != i)
    timerFc := s.fc
    freeFc := s.fc + (if s.b pINTC INTC.SERVICE then 0 else s.r page INTCG.GCFG_HOLDOFF * usFc)
    slotFc := s.fc + 1
    lastCore := match d with
      | .core c => c
      | .vector _ => x.lastCore
    seen := if 40 ≤ g then BitVec.ofNat 64 (nset x.seen.toNat i 1 0) else x.seen }
  let s := s.setGroup g x
  let s := if 40 ≤ g then s.w page INTCG.DB_PEND (nset (s.dbPend g) i 1 0) else s
  let s := (s.inc page INTCG.DELIVERED).inc pINTC INTC.DELIVERIES
  match d with
  | .core c => s.setCore c { s.core c with irq := some (64 * g + i, s.r page (srcFld INTCG.SCFG_PRIO i)) }
  | .vector v => s.sendVector v

/-- The coalescing window has closed: enough sources wait, or it has lasted COAL_TIME (R426). -/
def State.coalClosed (s : State) (g : Nat) : Bool :=
  let x := s.group g
  x.draining || decide (s.r (pgINTCG g) INTCG.GCFG_COAL_COUNT ≤ x.waiting.length)
    || (match x.window with
        | some t => decide (t + s.r (pgINTCG g) INTCG.COAL_TIME * usFc ≤ s.fc)
        | none => false)

/-- After a delivery in SERVICE: with nothing more to deliver the sources left open the next window (R426). -/
def State.coalRest (s : State) (g : Nat) : State :=
  let x := s.group g
  if (s.nextDelivery g).isSome then s.setGroup g { x with draining := true }
  else s.setGroup g { x with draining := false, window := if x.waiting.isEmpty then none else some s.fc }

/-- One delivery slot of a group, at most one in an fc (R425, R426); a waiting source also wakes a cluster (R74). -/
def State.interruptDelivery (s : State) (g : Nat) : State :=
  if 64 ≤ g then s
  else
    let s := s.scanSources.levelSettleAll
    if s.fc < (s.group g).slotFc then s
    else if s.b pINTC INTC.SERVICE then
      if !s.coalClosed g then s
      else match s.nextDelivery g with
        | some (i, d) => (s.deliver g i d).coalRest g
        | none => s.coalRest g
    else if s.fc < (s.group g).freeFc then s
    else
      let s := s.promoteSources g
      match s.nextDelivery g with
      | some (i, d) => s.deliver g i d
      | none => s

/-- The hold-off timer expires (R425). -/
def State.holdoffEnd (s : State) (g : Nat) : State :=
  if 64 ≤ g ∨ s.b pINTC INTC.SERVICE = true then s else (s.advanceFc (s.group g).freeFc).promoteSources g

/-- The coalescing window closes after COAL_TIME (R426). -/
def State.coalWindowEnd (s : State) (g : Nat) : State :=
  if 64 ≤ g ∨ s.b pINTC INTC.SERVICE = false then s
  else match (s.group g).window with
    | none => s
    | some t =>
      let s := s.advanceFc (t + s.r (pgINTCG g) INTCG.COAL_TIME * usFc)
      s.setGroup g { s.group g with draining := true }

end Sys2Proof.Machine
end

