-- ==== Sys2Proof/Machine/Host.lean ====
section
/-! DEFINITION. The host attachment: link and resets, HDM, the snoop filter, relay rings (R444 to R463), and
the memory classes' promotions (R50, R51). -/

namespace Sys2Proof.Machine

/-- The rate STRAP[3:2] caps the link at, in the code of LINK_STAT.RATE (R492). -/
def strapRate (straps : Nat) : Nat := if straps / 4 % 4 = 0 then 3 else if straps / 4 % 4 = 1 then 2 else 1

/-- The CXL link trains (R444, R445, R447). -/
def State.cxlLinkUp (s : State) (rate width : Nat) (flit256 cacheMem ideIo ideCm : Bool) : State :=
  if s.phase = .held ∨ s.phase = .tripped ∨ rate = 0 ∨ 3 < rate ∨ width = 0 ∨ 3 < width then s
  else
    let rate := min rate (strapRate s.straps.toNat)
    let v := rate + width * 16 + b2n (flit256 || rate == 3) * 256 + b2n cacheMem * 512 + b2n cacheMem * 1024
      + b2n ideIo * 2048 + b2n (ideCm && cacheMem) * 4096
    let s := (s.w pHOST HOST.LINK_STAT v).w pHOST HOST.STATUS_CXL_UP (b2n cacheMem)
    let s := s.pendInt pHOST 2
    { s with host := { s.host with wake := false } }

/-- HOST registers that PERST#, a hot reset and a link down leave: the relay transmit queue (R456). -/
def hostKeeps (off : Nat) : Bool := decide (off < 0x100) || decide (0x400 ≤ off ∧ off < 0x418)

/-- PERST#, a hot reset, or the link going down (R456). -/
def State.cxlReset (s : State) : State :=
  let up := !s.linkDown
  let gone := fun (key : Nat) => key / 0x1000 == pHOST && !hostKeeps (key % 0x1000)
  let s := { s with
    regs := s.regs.filter (fun e => !gone e.1)
    held := s.held.filter (fun e => !gone (e.1 / 256))
    host := { s.host with committed := false, decSize := 0, commitErr := false, tracked := [], open_ := [], pba := [],
                            msix := [], bars := [], cfg := [], cacheEn := false } }
  let s := (s.w pHOST HOST.STATUS_CXL_UP 0).w pHOST HOST.STATUS_HDM_ON 0
  if up then s.statusBit pHOST 5 else s

/-- An IDE integrity failure: recorded, and the link goes down (R455, R456). -/
def State.ideFault (s : State) : State :=
  if s.linkDown then s
  else ((s.statusBit pHOST 6).eventOpen pHOST Ev.IDE_FAULT).cxlReset


/-- OPEN in GiB, the history window in GiB, and their sum (R47, R450). -/
def State.openGiB (s : State) : Nat := s.r pPARTITIONS PARTITIONS.PART_SIZE
def State.winGiB (s : State) : Nat := s.r pPARTITIONS PARTITIONS.HIST_WIN_SIZE
def State.hdmSize (s : State) : Nat := s.openGiB + s.winGiB

/-- Writable address bits and type bits of a base address register: 64-bit memory, non-prefetchable, of the size its
function's table gives; the other slots are unimplemented (R22; the coding is PRESUMED, log entry 131). -/
def barMask (func slot : Nat) : Nat × Nat :=
  if func = 0 ∧ slot = 0 then (0xFF000000, 4)
  else if func = 0 ∧ slot = 2 then (0xFFF00000, 4)
  else if func = 1 ∧ slot = 0 then (0xFFFC0000, 4)
  else if slot = 1 ∨ (func = 0 ∧ slot = 3) then (0xFFFFFFFF, 0) else (0, 0)

/-- What a configuration read returns (R22, R446, R449, R450, R453; log entry 131). -/
def State.cfgRead (s : State) (func : Nat) : CfgReg → List Byte
  | .bar i => leBytes 4 ((sget 0 s.host.bars (8 * func + i) : W32).toNat + (barMask func i).2)
  | .command => leBytes 4 (sget 0 s.host.cfg (2 * func) : W32).toNat
  | .msix => leBytes 4 ((sget 0 s.host.cfg (2 * func + 1) : W32).toNat + (if func = 0 then 1791 else 255))
  | .cacheCtl => leBytes 4 (if func = 0 then b2n s.host.cacheEn else 0)
  | .range1 => leBytes 8 (if func = 0 then s.hdmSize * GiB + b2n s.host.memInfo + 2 * b2n s.host.memActive else 0)
  | .other _ => leBytes 4 (Config.freeNat s.freeCtr)

/-- A configuration write: BAR bases, the command bits, MSI-X control and Cache_Enable; a message that is unmasked by it is sent
(R22, R449, R453). -/
def State.cfgWrite (s : State) (func : Nat) (r : CfgReg) (x : Nat) : State :=
  match r with
  | .bar i => { s with host := { s.host with
      bars := sset 0 s.host.bars (8 * func + i) (BitVec.ofNat 32 (x &&& (barMask func i).1)) } }
  | .command => ({ s with host := { s.host with
      cfg := sset 0 s.host.cfg (2 * func) (BitVec.ofNat 32 (x &&& 0x6)) } } : State).sendPending
  | .msix => ({ s with host := { s.host with
      cfg := sset 0 s.host.cfg (2 * func + 1) (BitVec.ofNat 32 (x &&& 0xC000)) } } : State).sendPending
  | .cacheCtl => if func = 0 then { s with host := { s.host with cacheEn := nbit x 0 } } else s
  | .range1 => s
  | .other _ => s

/-- A configuration request to a function: retry until MAIN has left reset, then its answer (R457). -/
def State.configRequest (s : State) (func : Nat) (r : CfgReg) (data : Option W32) : State :=
  if !s.mainUp then { s with resp := .retry }
  else match data with
    | none => ({ s with resp := .data (s.cfgRead func r) } : State).fresh
    | some x => { s.cfgWrite func r x.toNat with resp := .none }

/-- The decoder is committed, or refuses with Error Not Committed (R450). Its size is a multiple of 256 MiB
(R446). -/
def State.hdmCommit (s : State) (base : W64) (size : Nat) : State :=
  if s.linkDown ∨ size % 0x10000000 ≠ 0 then s
  else if !s.host.memActive || decide (s.hdmSize * GiB < size)
  then { s with host := { s.host with commitErr := true } }
  else
    let s := { s with host := { s.host with committed := true, commitErr := false, decSize := size, tracked := [] } }
    (s.w pHOST HOST.HDM_BASE base.toNat).w pHOST HOST.STATUS_HDM_ON (b2n (s.devState == stRUNNING))

/-- An HDM access is denied: outside the decoder, or not RUNNING (R451). -/
def State.hdmDenied (s : State) (a n : Nat) : Bool :=
  let base := s.r pHOST HOST.HDM_BASE
  !(s.b pHOST HOST.LINK_STAT_MEM && s.host.committed && s.devState == stRUNNING
    && decide (base ≤ a) && decide (a + n ≤ base + s.host.decSize))

/-- The denial is shown and recorded (R451). -/
def State.hdmDeny (s : State) (a : Nat) : State :=
  ((s.statusBit pHOST 3).pendInt pHOST 3).event pHOST Ev.HDM_DENY (BitVec.ofNat 32 a)

/-- The device address an HDM offset shows, and whether it lies in the history window (R47, R48). -/
def State.hdmAddr (s : State) (o : Nat) : Nat × Bool :=
  let openBytes := s.openGiB * GiB
  if o < openBytes then (s.partBase 0 + o, false)
  else
    let win := if s.b pPARTITIONS PARTITIONS.HIST_WIN_STATUS then s.host.winOld else s.r pPARTITIONS PARTITIONS.HIST_WIN_BASE
    (s.partBase 3 + win + (o - openBytes), true)

/-- Lines the snoop filter holds (R452). -/
def filterLines : Nat := 2097152

/-- The filter admits a line, after its least recently used one has gone (R452). -/
def State.track (s : State) (line : Nat) : State :=
  let l := s.host.tracked.filter (fun x => x != line)
  if l.length < filterLines then { s with host := { s.host with tracked := l ++ [line] } }
  else ({ s with host := { s.host with tracked := l.drop 1 ++ [line] } } : State).inc pHOST HOST.BISNP

/-- A CXL.mem read; `poison` tells whether it finds an uncorrectable error (R47, R48, R450 to R452). -/
def State.hdmRead (s : State) (a n : Nat) (poison : Bool) : State :=
  if s.fenced 0 pHOST then { s with resp := .poison (List.replicate n 0xFF) }
  else if s.hdmDenied a n then { s.hdmDeny a with resp := .poison (List.replicate n 0xFF) }
  else
    let s := s.memWait
    let d := (s.hdmAddr (a - s.r pHOST HOST.HDM_BASE)).1
    let s := { s with resp := if poison then .poison (memRead s.mem d n) else .data (memRead s.mem d n) }
    (List.range ((d + n + 63) / 64 - d / 64)).foldl (fun s i => s.track (d / 64 + i)) s

/-- A CXL.mem write: into OPEN; onto the window it is discarded and recorded (R47, R451). -/
def State.hdmWrite (s : State) (a : Nat) (bs : List Byte) : State :=
  if s.fenced 0 pHOST then s
  else if s.hdmDenied a bs.length then s.hdmDeny a
  else
    let s := s.memWait
    let d := s.hdmAddr (a - s.r pHOST HOST.HDM_BASE)
    if d.2 then s.eventOpen pPARTITIONS Ev.RO_WRITE else { s with mem := memWrite s.mem d.1 bs }

/-- HIST_WIN_BASE written: the old window is back-invalidated (R48). -/
def State.partitionsWrite (s : State) (w : Wr) : Eff :=
  if w.off = 0x188 then
    let bad := w.v % GiB != 0 || decide (s.partBytes 3 < w.v + s.winGiB * GiB)
    if bad then w.drop s Ev.BAD_VALUE
    else
      let moving := s.b pPARTITIONS PARTITIONS.HIST_WIN_STATUS
      let old := if moving then s.host.winOld else s.r pPARTITIONS PARTITIONS.HIST_WIN_BASE
      let r := s.plain w
      (({ r.1 with host := { r.1.host with winOld := old } } : State).w pPARTITIONS PARTITIONS.HIST_WIN_STATUS 1, r.2)
  else s.plain w

/-- Every window line the host may hold has been back-invalidated (R48). -/
def State.windowMoveDone (s : State) : State :=
  if s.b pPARTITIONS PARTITIONS.HIST_WIN_STATUS then
    (s.snoop (s.partBase 3) (s.partBytes 3)).w pPARTITIONS PARTITIONS.HIST_WIN_STATUS 0
  else s

/-- A request of class `cls` has waited `waited` fc: it is promoted past the class's PATIENCE, a drover
request past the lower of the class's and its channel's (R51). -/
def State.patiencePromotion (s : State) (cls waited : Nat) (chan : Option Nat) : State :=
  if 7 ≤ cls then s
  else
    let p := s.r pMEMCTL (MEMCTL.CLASS_CTRL_PATIENCE.at (4 * cls))
    let q := match chan with
      | some n => if cls = 2 then s.r (pgDV n) DV.PATIENCE else 0
      | none => 0
    let bound := if q = 0 then p else min p q
    if p ≠ 0 ∧ bound < waited then s.inc pMEMCTL (MEMCTL.CLASS_URGENT.at (4 * cls)) else s

/-! ### Relay rings -/

def irFld (f : Fld) (n : Nat) : Fld := f.at (0x20 * n)

/-- The relay engine runs: PD49 ON, HOST not fenced, FIELD acting (R459, R476). -/
def State.relayRuns (s : State) : Bool := s.pdOn 49 && !s.fenced 0 pHOST && s.active pFIELD

/-- RELAY_BROKEN: counted, recorded at most once per 1 ms (R459). -/
def State.relayBroken (s : State) : State :=
  let s := s.inc pHOST HOST.BROKEN
  let due := match s.host.brokenFc with
    | none => true
    | some t => decide (t + msFc ≤ s.fc)
  if due then ({ s with host := { s.host with brokenFc := some s.fc } } : State).eventOpen pHOST Ev.RELAY_BROKEN else s

/-- An inbound entry is malformed: LEN 0 or above 56, or a reserved bit set (R458, R459). -/
def relayBad (l : RelayLine) : Bool :=
  let len := fieldLE l 4 1
  decide (len = 0) || decide (56 < len) || decide (8 ≤ fieldLE l 2 2) || decide (fieldLE l 5 3 ≠ 0)

/-- The entries taken from a ring, one after another; `open_` is the open frame: its channel and its bytes
(R459). -/
def State.relayEntries (s : State) : List RelayLine → Option (Nat × List Byte) → State
  | [], _ => s
  | l :: ls, open_ =>
    let flags := fieldLE l 2 2
    let data := (l.drop 8).take (fieldLE l 4 1)
    if relayBad l then s.relayBroken.relayEntries ls none
    else
      let first := nbit flags 0
      let s := if first && open_.isSome then s.relayBroken else s
      let cur := if first then some (fieldLE l 0 2, data) else open_.map (fun o => (o.1, o.2 ++ data))
      match cur with
      | none => s.relayBroken.relayEntries ls none
      | some o =>
        if nbit flags 1 then ((s.inc pHOST HOST.IN_FRAMES).relayReceive o.1 o.2).relayEntries ls none
        else s.relayEntries ls (some o)

/-- One frame of inbound ring `n` is taken: `lines` are its entries as read; a failed read disables the ring
(R453, R459). -/
def State.relayInbound (s : State) (n : Nat) (lines : List RelayLine) (fail : Bool) : State :=
  let p := pHOST
  let have_ := (s.r p (irFld HOST.IR_HEAD n) + 65536 - s.r p (irFld HOST.IR_TAIL n)) % 65536
  let whole := match lines.getLast? with
    | some l => nbit (fieldLE l 2 2) 1 || relayBad l
    | none => false
  if 8 ≤ n ∨ !s.relayRuns ∨ !s.b p (irFld HOST.IR_CFG_EN n) ∨ have_ = 0 then s
  else if fail || !s.cacheUp then
    let s := (s.w p (irFld HOST.IR_CFG_EN n) 0).statusBit p 4
    (s.pendInt p 1).event p Ev.RELAY_FAULT (BitVec.ofNat 32 n)
  else if have_ < lines.length ∨ whole = false then s
  else
    let s := s.relayEntries lines none
    let tail := (s.r p (irFld HOST.IR_TAIL n) + lines.length) % 65536
    let s := s.w p (irFld HOST.IR_TAIL n) tail
    let a := s.r p (irFld HOST.IR_TAIL_ADDR n)
    if a ≠ 0 then s.hostWrite a (leBytes 8 tail) else s

/-- The entries of a raw frame (R458). -/
def relayLines (k : Nat) (cmd : Bool) (raw : List Byte) : List (List Byte) :=
  let n := ceilDiv raw.length 56
  (List.range n).map (fun i =>
    let d := (raw.drop (56 * i)).take 56
    leBytes 2 k ++ leBytes 2 (b2n (i == 0) + 2 * b2n (i + 1 == n) + 4 * b2n cmd) ++ leBytes 1 d.length
      ++ leBytes 3 0 ++ d ++ List.replicate (56 - d.length) 0)

/-- The frame next for an outbound ring: one the dispatcher passed, else the head of the relay transmit queue
where its channel belongs to the ring (R460, R461). -/
structure OutFrame where
  txn    : Option Nat
  chan   : Nat
  insert : Bool
  time   : Nat
  bytes  : List Byte
deriving DecidableEq, Repr

/-- The descriptor at RTX_TAIL, where one is queued and its paddock answers. -/
def State.rtxDesc (s : State) : Option (List Byte) :=
  let p := pHOST
  let cl := s.r p HOST.RTX_CFG_CLUSTER
  let tail := s.r p HOST.RTX_TAIL
  if !s.b p HOST.RTX_CFG_EN || s.r p HOST.RTX_HEAD == tail || !s.padUp cl then none
  else some (s.padRead cl (s.r p HOST.RTX_DESC_BASE + 16 * (tail % 2 ^ s.r p HOST.RTX_DESC_COUNT)) 16)

/-- A descriptor of the relay transmit queue may be sent: its channel valid, LENGTH legal, and, with INSERT_CV, a frame
the channel's assist can frame (R255, R258, R461). -/
def State.rtxSends (s : State) (d : List Byte) : Bool :=
  let len := fieldLE d 4 2
  let k := fieldLE d 6 2 / 16
  let a := (s.chanEnt k).assist
  s.chanValid k && decide (1 ≤ len ∧ len ≤ 4096) && (!(nbit (fieldLE d 6 2) 0 && a.cvEn) || frameable a len)

/-- Descriptors that name a channel below 16, an invalid channel, an illegal LENGTH or a frame that cannot be framed are
skipped, and RELAY_FAULT is set (R255, R258, R461). -/
def State.rtxSkip (s : State) : Nat → State
  | 0 => s
  | n + 1 => match s.rtxDesc with
    | none => s
    | some d =>
      if s.rtxSends d then s
      else (((s.chanDeny (fieldLE d 6 2 / 16)).inc pHOST HOST.RTX_TAIL).statusBit pHOST 4).rtxSkip n

def State.outFrame (s : State) (o : Nat) : Option OutFrame :=
  match sget [] s.host.orQ o with
  | (t, k, bytes) :: _ => some ⟨some t, k, true, 0, bytes⟩
  | [] => match s.rtxDesc with
    | none => none
    | some d =>
      let k := fieldLE d 6 2 / 16
      if k / 512 = o then
        some ⟨none, k, nbit (fieldLE d 6 2) 0, fieldLE d 8 8,
          s.padRingRead (s.r pHOST HOST.RTX_CFG_CLUSTER) (s.r pHOST HOST.RTX_DATA_BASE)
            (2 ^ s.r pHOST HOST.RTX_DATA_SIZE) (fieldLE d 0 4) (fieldLE d 4 2)⟩
      else none

/-- The source of a sent frame moves on: the dispatcher's queue, or RTX_TAIL. -/
def State.outDone (s : State) (o : Nat) (f : OutFrame) (tally : Option Nat) (sent : List Byte) : State :=
  match f.txn with
  | some t =>
    let q := (sget [] s.host.orQ o).drop 1
    (({ s with host := { s.host with orQ := sset [] s.host.orQ o q } } : State).frameBuilt t tally sent).frameSent t
  | none => s.inc pHOST HOST.RTX_TAIL

/-- A dispatcher's frame whose channel is disabled, invalid or cannot frame it is not sent (R306). -/
def State.relayBarred (s : State) (d : Nat × Nat × List Byte) : Bool :=
  let a := (s.chanEnt d.2.1).assist
  !s.chanUp d.2.1 || (a.cvEn && (!s.cvAttached a || !frameable a d.2.2.length))

/-- Barred frames at the front of an outbound ring's queue: their transactions end with SEND_FAULT (R306). -/
def State.relayDrop (s : State) (o : Nat) (bad : List (Nat × Nat × List Byte)) : State :=
  let s := { s with host := { s.host with orQ := sset [] s.host.orQ o ((sget [] s.host.orQ o).drop bad.length) } }
  bad.foldl (fun t d => (t.chanDeny d.2.1).endTxn d.1 19) s

/-- One frame leaves through outbound ring `o` (R460). A write that fails, and a ring without room, leave
the frame waiting. -/
def State.relayOutbound (s : State) (o : Nat) (fail : Bool) : State :=
  let p := pHOST
  let s := if s.relayRuns then s.rtxSkip ((s.r p HOST.RTX_HEAD + 65536 - s.r p HOST.RTX_TAIL) % 65536) else s
  let bad := (sget [] s.host.orQ o).takeWhile s.relayBarred
  let s := if !s.relayRuns || bad.isEmpty then s else s.relayDrop o bad
  if 8 ≤ o ∨ !s.relayRuns ∨ !s.b p (irFld HOST.OR_CFG_EN o) ∨ fail = true ∨ !s.cacheUp then s
  else match s.outFrame o with
    | none => s
    | some f =>
      let s := s.advanceTb f.time
      if s.stamp.toNat < f.time then s
      else
        let (t, raw, tally, sent) := s.relayBuild f.chan f.insert f.bytes
        let lines := relayLines f.chan f.txn.isSome raw
        let size := 2 ^ s.r p (irFld HOST.OR_CFG_SIZE o)
        let head := s.r p (irFld HOST.OR_HEAD o)
        let used := (head + 65536 - s.r p (irFld HOST.OR_TAIL o)) % 65536
        if size < used + lines.length then s
        else
          let base := s.r p (irFld HOST.OR_BASE o)
          let t := (List.range lines.length).foldl (fun t i =>
            t.hostWrite (base + 64 * ((head + i) % size)) (lines.getD i [])) t
          let head' := (head + lines.length) % 65536
          let t := (t.w p (irFld HOST.OR_HEAD o) head').inc p HOST.OUT_FRAMES
          let a := t.r p (irFld HOST.OR_HEAD_ADDR o)
          let t := if a ≠ 0 then t.hostWrite a (leBytes 8 head') else t
          let t := if t.b p (irFld HOST.OR_CFG_INT o) then t.pendInt p 0 else t
          t.outDone o f tally sent

/-- A write of a relay ring's registers (R459, R462, R463). -/
def State.ringRegWrite (s : State) (w : Wr) (n rel : Nat) (out : Bool) : Eff :=
  let p := pHOST
  let base := if out then 0x300 else 0x200
  let cfg : Fld := ⟨base + 8 + 0x20 * n, 0, 32⟩
  let en := nbit (s.r p cfg) 8
  let size := 2 ^ nfld (s.r p cfg) 0 5
  if rel = 0 ∨ rel = 0x18 then
    if en then w.drop s Ev.BAD_STATE
    else w.require s (w.v % (if rel = 0 then 0x1000 else 8) == 0) Ev.BAD_VALUE (fun s => s.plain w)
  else if rel = 8 then
    let sz := nfld w.v 0 5
    if sz < 4 ∨ 15 < sz then w.drop s Ev.BAD_VALUE
    else if en && (decide (sz ≠ nfld (s.r p cfg) 0 5)) then w.drop s Ev.BAD_STATE
    else
      let r := s.plain w
      if !en && nbit w.v 8 then
        ((r.1.w p ⟨base + 0x0C + 0x20 * n, 0, 16⟩ 0).w p ⟨base + 0x10 + 0x20 * n, 0, 16⟩ 0, r.2)
      else r
  else if rel = 0x0C && !out then
    let tail := s.r p (irFld HOST.IR_TAIL n)
    w.require s (decide ((w.f HOST.IR_HEAD + 65536 - tail) % 65536 ≤ size)) Ev.BAD_VALUE (fun s => s.plain w)
  else if rel = 0x10 && out then
    let used := (s.r p (irFld HOST.OR_HEAD n) + 65536 - s.r p (irFld HOST.OR_TAIL n)) % 65536
    let step := (w.f HOST.OR_TAIL + 65536 - s.r p (irFld HOST.OR_TAIL n)) % 65536
    w.require s (decide (step ≤ used)) Ev.BAD_VALUE (fun s => s.plain w)
  else s.plain w

/-- A write of the relay transmit queue's registers (R255, R461 to R463). -/
def State.rtxWrite (s : State) (w : Wr) : Eff :=
  let p := pHOST
  let en := s.b p HOST.RTX_CFG_EN
  if w.off = 0x400 then
    if en && w.f HOST.RTX_CFG_CLUSTER != s.r p HOST.RTX_CFG_CLUSTER then w.drop s Ev.BAD_STATE
    else if !en && nbit w.v 8 && !(s.present 0 (pgPK (w.f HOST.RTX_CFG_CLUSTER))
        && padRingOk (s.r p HOST.RTX_DATA_BASE) (2 ^ s.r p HOST.RTX_DATA_SIZE)
        && padRingOk (s.r p HOST.RTX_DESC_BASE) (16 * 2 ^ s.r p HOST.RTX_DESC_COUNT)) then w.drop s Ev.BAD_VALUE
    else
      let r := s.plain w
      if !en && nbit w.v 8 then ((r.1.w p HOST.RTX_HEAD 0).w p HOST.RTX_TAIL 0, r.2) else r
  else if w.off = 0x404 ∨ w.off = 0x408 then
    if en then w.drop s Ev.BAD_STATE
    else w.require s (ringSizeOk w (w.off == 0x404) && w.v % 64 == 0) Ev.BAD_VALUE (fun s => s.plain w)
  else if w.off = 0x40C then
    let used := (w.f HOST.RTX_HEAD + 65536 - s.r p HOST.RTX_TAIL) % 65536
    w.require s (decide (used ≤ 2 ^ s.r p HOST.RTX_DESC_COUNT)) Ev.BAD_VALUE (fun s => s.plain w)
  else if w.off = 0x414 then s.changeItemOwner p HOST.RTX_OWNER (BitVec.ofNat 8 w.v) w
  else s.plain w

/-- A write to a HOST register past the checks of the page. -/
def State.hostRegWrite (s : State) (w : Wr) : Eff :=
  if 0x200 ≤ w.off ∧ w.off < 0x300 then s.ringRegWrite w ((w.off - 0x200) / 0x20) ((w.off - 0x200) % 0x20) false
  else if 0x300 ≤ w.off ∧ w.off < 0x400 then s.ringRegWrite w ((w.off - 0x300) / 0x20) ((w.off - 0x300) % 0x20) true
  else if 0x400 ≤ w.off ∧ w.off < 0x418 then s.rtxWrite w
  else s.plain w

end Sys2Proof.Machine
end

