-- ==== Sys2Proof/Machine/MirrorCmd.lean ====
section
/-! DEFINITION. Commands of the journal and the mirror: USER records, checkpoints, replay and their registers
(R317, R321 to R326, R342), AUTHORITY, handover, the link's frames as they are sent, and the MIRROR page (R329
to R341, R343). -/

namespace Sys2Proof.Machine

/-! ### JOURNAL page -/

/-- Bytes of USER_BUF from byte `off` up (R317). -/
def State.userBuf (s : State) (off n : Nat) : List Byte :=
  let all := (List.range 72).flatMap (fun i => leBytes 4 (s.r pJOURNAL (JOURNAL.USER_BUF.at (4 * i))))
  (all.drop off).take n

/-- USER_CMD (R317). -/
def State.userCmdWrite (s : State) (w : Wr) : Eff :=
  w.require s (s.appendRole && !s.journal.user && s.enabled pJOURNAL && !s.fenced 0 pJOURNAL
      && !s.b pJOURNAL JOURNAL.STATUS_GPF) Ev.BAD_STATE fun s =>
    let s := (s.plain w).1
    if nbit w.v 31 then
      let chain := (List.range (w.v % 8 + 1)).map (fun i => s.userBuf (36 * i) 36)
      let s := { s with journal := { s.journal with user := true, userChain := chain } }
      done (s.w pJOURNAL JOURNAL.USER_CMD_PENDING 1).jUser
    else done s

/-- The time base at which the running timer of an open transaction runs out (R304, R315). A transaction that
is sending runs no timer, and what stands there then is open. -/
def State.txnExpiry (s : State) (t : Nat) : Nat :=
  let x := s.txn t
  let c := s.cmdObj x.object
  if x.state = 1 ∨ x.state = 3 then timerDue x c.selectTo
  else if x.state = 4 then x.window.toNat + (c.window - c.margin) * msTick
  else if x.state = 6 ∨ x.state = 8 then timerDue x c.operateTo
  else if x.state = 7 then timerDue x (10 * c.fbTo)
  else Config.freeNat s.freeCtr

/-- The TXN_STATE payload of an open transaction (R315). -/
def State.txnState (s : State) (t : Nat) : List Byte :=
  let x := s.txn t
  leBytes 2 t ++ leBytes 1 x.state ++ leBytes 1 0 ++ leBytes 2 x.object ++ leBytes 2 x.tally.toNat ++ leBytes 4 x.tag.toNat
    ++ leBytes 8 (s.txnExpiry t) ++ leBytes 1 x.ring ++ leBytes 1 x.opener.toNat

/-- CP_CMD.MARK: CP_MARK and one TXN_STATE for each open transaction, with nothing between (R323). -/
def State.cpMark (s : State) : State :=
  if !s.appendRole then s
  else
    let ts := s.openTxns
    let es := (JK.CP_MARK, leBytes 2 ts.length) :: ts.map (fun t => (JK.TXN_STATE, s.txnState t))
    (s.fresh).jDrain (s.journal.waiting ++ es)

/-- A MARK is still being appended. -/
def State.marking (s : State) : Bool := s.journal.waiting.any (fun e => e.1 == JK.CP_MARK || e.1 == JK.TXN_STATE)

/-- CP_CMD.GO is refused (R324). -/
def State.cpBad (s : State) : Bool :=
  let len := s.r pJOURNAL JOURNAL.CP_LEN
  s.r pJOURNAL JOURNAL.CP_SEQ != s.r pJOURNAL JOURNAL.CP_MARK_SEQ || len % 64 != 0
    || decide (s.r pJOURNAL JOURNAL.CP_SLOT_MIB * 0x100000 < len + 64)
    || !s.inPart 4 (s.r pJOURNAL JOURNAL.CP_SRC) (max len 1)

/-- Host address of checkpoint slot `k`. -/
def State.cpHost (s : State) (k : Nat) : Nat := s.r pJOURNAL (JOURNAL.CP_HOST0.at (8 * k))

/-- A checkpoint slot as R325 judges it: its sequence and length. -/
def State.slotValid (s : State) (k : Nat) : Option (Nat × Nat) :=
  let d := memRead s.hostMem (s.cpHost k) 64
  let len := fieldLE d 24 8
  if fieldLE d 0 4 = 0x54504B43 ∧ fieldLE d 60 4 = (crc32c (d.take 60)).toNat then
    (if fieldLE d 32 4 = (crc32c (memRead s.hostMem (s.cpHost k + 64) len)).toNat then some (fieldLE d 8 8, len) else none)
  else none

/-- The latest valid checkpoint: its slot, sequence and length (R325). -/
def State.latestCp (s : State) : Option (Nat × Nat × Nat) :=
  match s.slotValid 0, s.slotValid 1 with
  | some a, some b => if a.1 < b.1 then some (1, b.1, b.2) else some (0, a.1, a.2)
  | some a, none => some (0, a.1, a.2)
  | none, some b => some (1, b.1, b.2)
  | none, none => none

/-- The slot a checkpoint is written to: the one that does not hold the latest valid checkpoint; with none valid, the one
not written last (R324). -/
def State.cpSlot (s : State) : Nat :=
  match s.latestCp with
  | some c => 1 - c.1
  | none => 1 - s.r pJOURNAL JOURNAL.CP_LAST_SLOT

/-- A checkpoint write begins: the slot that does not hold the latest one is made invalid (R324). -/
def State.cpBegin (s : State) (src len seq : Nat) (own : Bool) : State :=
  let k := s.cpSlot
  let s := s.cacheWrite (s.cpHost k) (List.replicate 64 0)
  { s with journal := { s.journal with cpBusy := some (k, src, len, seq), cpOwn := own } }

/-- CP_CMD (R323, R324). A GO while a checkpoint is being written is dropped. -/
def State.cpCmdWrite (s : State) (w : Wr) : Eff :=
  let mark := nbit w.v 0
  let go := nbit w.v 1
  if (mark && s.marking) || (go && s.journal.cpBusy.isSome) then w.drop s Ev.BAD_STATE
  else if go && s.cpBad then w.drop s Ev.BAD_VALUE
  else
    let s := if go then s.cpBegin (s.r pJOURNAL JOURNAL.CP_SRC) (s.r pJOURNAL JOURNAL.CP_LEN) (s.r pJOURNAL JOURNAL.CP_SEQ) false
      else s
    done (if mark then s.cpMark else s)

/-- The checkpoint descriptor (table "Checkpoint descriptor"). -/
def State.cpDescriptor (s : State) (k seq len : Nat) (body : List Byte) : List Byte :=
  let d := leBytes 4 0x54504B43 ++ leBytes 1 k ++ leBytes 3 0 ++ leBytes 8 seq ++ leBytes 4 s.epoch
    ++ leBytes 4 s.journal.cpGen.toNat ++ leBytes 8 len ++ leBytes 4 (crc32c body).toNat ++ leBytes 8 s.stamp.toNat
    ++ List.replicate 16 0
  d ++ leBytes 4 (crc32c d).toNat

/-- The checkpoint is written, or a write of it failed (R324, R341, R453). -/
def State.cpDone (s : State) (ok : Bool) : State :=
  match s.journal.cpBusy with
  | none => s
  | some (k, src, len, seq) =>
    let s := { s with journal := { s.journal with cpBusy := none } }
    if !ok || !s.cacheUp then (s.statusBit pJOURNAL 6).eventOpen pJOURNAL Ev.CP_FAULT
    else
      let s := { s with journal := { s.journal with cpGen := s.journal.cpGen + 1 } }
      let body := s.devRead .journal src len
      let s := s.hostWrite (s.cpHost k + 64) body
      let s := s.hostWrite (s.cpHost k) (s.cpDescriptor k seq len body)
      let s := (s.w pJOURNAL JOURNAL.CP_LAST_SEQ seq).w pJOURNAL JOURNAL.CP_LAST_SLOT k
      let s := s.jAppend JK.CHECKPOINT (leBytes 1 k ++ leBytes 3 0 ++ leBytes 8 seq ++ leBytes 4 s.journal.cpGen.toNat)
      (s.pendInt pJOURNAL 0).jResume

/-- REPLAY_CMD (R326): the entries are applied when the replay finishes. -/
def State.replayCmdWrite (s : State) (w : Wr) : Eff :=
  if w.v % 4 = 0 then done s
  else w.require s (s.role == 3 && !s.journal.replay) Ev.BAD_STATE fun s =>
    let s := if nbit w.v 0 then s.w pJOURNAL JOURNAL.NEXT_SEQ (s.r pJOURNAL JOURNAL.REPLAY_FROM) else s
    if nbit w.v 1 then
      done { (s.w pJOURNAL JOURNAL.STATUS_REPLAYING 1) with journal := { s.journal with replay := true, replayAt := 0 } }
    else done s

/-- The value checks of the JOURNAL registers (table "JOURNAL registers", R342). -/
def journalValueOk (w : Wr) : Bool :=
  let v := w.v
  if w.off = 0x110 ∨ w.off = 0x150 ∨ w.off = 0x188 then v % 64 == 0
  else if w.off = 0x118 then decide (10 ≤ v % 32) && decide (v % 32 ≤ 25)
  else if w.off = 0x120 ∨ w.off = 0x130 ∨ w.off = 0x138 then v % 4096 == 0
  else if w.off = 0x128 then decide (10 ≤ v % 32) && decide (v % 32 ≤ 30)
  else if w.off = 0x140 then v % 65536 != 0
  else if w.off = 0x148 then
    let b := w.f JOURNAL.CFG_FLUSH_BATCH
    decide (1 ≤ b) && decide (b ≤ 64) && w.f JOURNAL.CFG_FLUSH_WAIT != 0
  else if w.off = 0x190 then decide (1 ≤ v % 2 ^ 25) && decide (v % 2 ^ 25 ≤ 16777216)
  else true

/-- A write to a block-specific register of JOURNAL (R317, R323, R324, R326, R342). CP_LEN is judged at GO
(R324), so a length that is no multiple of 64 is taken here. -/
def State.journalRegWrite (s : State) (w : Wr) : Eff :=
  let o := w.off
  let cfg := decide (0x110 ≤ o ∧ o < 0x150)
  if o = 0x168 then s.cpCmdWrite w
  else if o = 0x1A0 then s.replayCmdWrite w
  else if o = 0x320 then s.userCmdWrite w
  else if o = 0x158 then s.plain w
  else if cfg && s.enabled pJOURNAL then w.drop s Ev.BAD_STATE
  else w.require s (journalValueOk w) Ev.BAD_VALUE (·.plain w)

/-- The staging ring lies inside JOURNAL (R342). -/
def State.stageInside (s : State) : Bool := s.inPart 4 (s.r pJOURNAL JOURNAL.STAGE_BASE) (s.stageCap * 64)

/-- The engine runs out of host reach: what is not durable is issued and appending stops (R321, R322). -/
def State.gpfStop (s : State) : State :=
  let s := s.dropUser
  (s.w pJOURNAL JOURNAL.STATUS_GPF 1).flushWait

/-- The device hands over to its STANDBY partner (R331). -/
def State.handOver (s : State) : State :=
  let s := s.setAuthority false
  let s := { s with mirror := { s.mirror with stopAppend := true } }
  let last := s.nextSeq - 1
  let s := s.sendFrame 6 (leBytes 1 1 ++ leBytes 3 0 ++ leBytes 4 s.epoch ++ leBytes 8 last)
  let s := { s with mirror := { s.mirror with relFc := some s.fc } }
  s.setGoal 1 2

/-- An ACTIVE device with a STANDBY partner on the link. -/
def State.mayHandOver (s : State) : Bool :=
  s.role == 0 && s.linkOpen && s.r pMIRROR MIRROR.PARTNER_ROLE == 1 && !s.mirror.stopAppend

/-- Global Persistent Flush, phase 1 (R321, R331). The device's cache agent holds no modified line, since its
host writes complete whole. -/
def State.gpf1 (s : State) : State :=
  let s := if s.mayHandOver then s.handOver else s
  if s.domainOn 0 pJOURNAL then s.gpfStop.pendInt pJOURNAL 3 else s

/-- The falling edge of PWRFAIL_N (R322, R331). -/
def State.pwrfail (s : State) : State :=
  let s := if s.b pMIRROR MIRROR.CFG_PF_RELINQUISH && s.mayHandOver then s.handOver else s
  if s.b pJOURNAL JOURNAL.CFG_PWRFAIL_FLUSH && s.domainOn 0 pJOURNAL then s.gpfStop else s

/-! ### AUTHORITY and the MIRROR page -/

/-- The link is up and its heartbeats current (STATUS.LINK_UP). -/
def State.pairUp (s : State) : Bool := s.linkOpen && s.b pMIRROR MIRROR.STATUS_LINK_UP

/-- CLAIM in the roles that take it (R330). -/
def State.claimOp (s : State) : Option (State → State) :=
  let paired := s.b pMIRROR MIRROR.CFG_PAIRED
  if !s.enabled pJOURNAL || decide (0xFFFFFFFD < s.newEpoch) then none
  else if s.role = 3 then
    (if !paired || (s.pairUp && s.r pMIRROR MIRROR.PARTNER_ROLE == 3) then some (fun s => s.setGoal 0 1) else none)
  else if s.role = 2 then some (fun s => (s.endHold.takeEpoch 1).hbLevel)
  else if s.role = 1 ∧ s.pairUp then
    some (fun s =>
      let s := s.sendFrame 6 (leBytes 1 3 ++ leBytes 3 0 ++ leBytes 4 s.epoch ++ leBytes 8 (s.nextSeq - 1))
      { s with mirror := { s.mirror with takeFc := some s.fc } })
  else none

/-- HANDOVER in the role that takes it (R330). -/
def State.handoverOp (s : State) : Option (State → State) :=
  if s.mayHandOver && s.pairUp then some (·.handOver) else none

/-- MIRROR.AUTHORITY (R330). -/
def State.authorityWrite (s : State) (w : Wr) : Eff :=
  if w.v / 256 ≠ 0x415554 then w.drop s Ev.BAD_VALUE
  else if s.b pMIRROR MIRROR.ROLE_SCHEDULED then w.drop s Ev.BAD_STATE
  else
    match (if w.v % 256 = 1 then s.claimOp else if w.v % 256 = 2 then s.handoverOp else none) with
    | some f => done (f s)
    | none => w.drop s Ev.BAD_STATE

/-- No RELINQUISH within 100 ms of TAKE (R330). -/
def State.claimTimeout (s : State) : State :=
  match s.mirror.takeFc with
  | none => s
  | some t =>
    if s.mirror.relFc.isSome then s
    else
    let s := s.advanceFc (t + 100 * msFc)
    { (s.statusBit pMIRROR 6) with mirror := { s.mirror with takeFc := none } }

/-- The partner has not applied every entry within 100 ms: it stays STANDBY (R331). -/
def State.promotionTimeout (s : State) : State :=
  match s.mirror.relFc with
  | some t => if s.role = 1 then
      let s := s.advanceFc (t + 100 * msFc)
      s.dropGoal
    else s
  | none => s

/-- RESYNC_CMD.LOADED (R341): the checkpoint is written to the device's own slot, once a checkpoint write that runs has
ended. -/
def State.loadedWrite (s : State) (w : Wr) : Eff :=
  if w.v % 2 = 0 then done s
  else w.require s (s.role == 3 && s.mirror.cpWait) Ev.BAD_STATE fun s =>
    let s := { s with mirror := { s.mirror with cpWait := false } }
    let src := s.r pMIRROR MIRROR.RX_CP_BASE
    let len := s.mirror.cpLen.toNat
    let seq := s.mirror.cpSeq.toNat
    if s.journal.cpBusy.isSome then done { s with journal := { s.journal with cpNext := some (src, len, seq) } }
    else done (s.cpBegin src len seq true)

/-- A write to a block-specific register of MIRROR (R330, R341, R343). -/
def State.mirrorWrite (s : State) (w : Wr) : Eff :=
  let o := w.off
  if o = 0x108 then s.authorityWrite w
  else if o = 0x140 then s.loadedWrite w
  else if (decide (0x10C ≤ o ∧ o < 0x120) || o == 0x138) && s.enabled pMIRROR then w.drop s Ev.BAD_STATE
  else if o = 0x110 then
    w.require s (decide (1 ≤ w.f MIRROR.HB_PERIOD ∧ w.f MIRROR.HB_PERIOD ≤ 1000) && w.f MIRROR.HB_MISS != 0) Ev.BAD_VALUE (·.plain w)
  else if o = 0x138 then w.require s (w.v % 64 == 0) Ev.BAD_VALUE (·.plain w)
  else if o = 0x118 ∨ o = 0x11C then
    -- pages no longer mirrored get their owners back before the new set is taken
    let back := s.mirror.saved.foldl (fun (t : State) e => if t.owner 0 e.1 == 0x7E then t.setOwner 0 e.1 e.2 else t) s
    let s := { back with mirror := { back.mirror with saved := [] } }
    done (s.plain w).1.syncOwners
  else s.plain w

/-! ### The link -/

/-- A HELLO frame (R334). -/
def State.sendHello (s : State) : State :=
  let s := { s with mirror := { s.mirror with helloFc := s.fc } }
  s.sendFrame 1 (leBytes 1 (s.r pMIRROR MIRROR.CFG_SIDE) ++ leBytes 1 s.behaviour.toNat ++ leBytes 1 s.role
    ++ leBytes 1 (b2n s.authority) ++ leBytes 4 s.epoch ++ leBytes 8 s.nextSeq)

/-- HELLO again, 1 ms after the last one, while the link is up and none has been received (R334). -/
def State.helloDue (s : State) : State :=
  if s.mirror.trained && !s.mirror.helloIn && s.active pMIRROR && decide (s.mirror.helloFc + msFc ≤ s.fc)
  then s.sendHello else s

/-- One fabric cycle with no command waiting: the counters run, and a HELLO that falls due goes out (log entry 4; R334). -/
def State.idle (s : State) : State := (tick s).helloDue

/-- The link has trained (R334). -/
def State.linkTrained (s : State) : State :=
  if s.active pMIRROR && s.b pMIRROR MIRROR.CFG_PAIRED && !s.mirror.trained then
    ({ s with mirror := { s.mirror with trained := true, helloIn := false } } : State).sendHello
  else s

/-- The link is down. -/
def State.mirrorDown (s : State) : State :=
  let s := s.w pMIRROR MIRROR.STATUS_LINK_UP 0
  { s with mirror := { s.mirror with trained := false, helloIn := false, resyncing := false, cpSent := none } }

/-- MIRROR is fenced: the link is dropped, a scheduled role change cancelled, ISOLATED entered at once (R332,
R476). -/
def State.mirrorFenced (s : State) : State := s.mirrorDown.isolate.hbLevel

/-- MIRROR is enabled: heartbeats are awaited from now on (R336). -/
def State.mirrorStart (s : State) : State :=
  ({ s with mirror := { s.mirror with lastHbFc := s.fc, heardFc := s.fc, lastSendFc := s.fc } } : State).syncOwners

/-- HEARTBEAT every HB_PERIOD ms; in toggle mode HEARTBEAT_OUT toggles with it while AUTHORITY is 1. Until a HELLO has
been received only HELLO goes, every 1 ms (R332, R334, R335). -/
def State.heartbeatSend (s : State) : State :=
  if !s.linkOpen then
    (if s.mirror.trained && s.active pMIRROR then (s.advanceFc (s.mirror.helloFc + msFc)).helloDue else s)
  else
    let s := s.advanceFc (s.mirror.lastSendFc + s.r pMIRROR MIRROR.HB_PERIOD * msFc)
    let s := s.sendFrame 2 (leBytes 1 s.role ++ leBytes 1 (b2n s.authority) ++ leBytes 1 (b2n s.arbIn)
      ++ leBytes 1 0 ++ leBytes 4 s.epoch ++ leBytes 8 s.nextSeq ++ leBytes 8 (s.r pMIRROR MIRROR.APPLIED_NEXT))
    let toggled := if s.b pMIRROR MIRROR.CFG_HB_MODE then s.mirror.hbOut else s.authority && !s.mirror.hbOut
    { s with mirror := { s.mirror with lastSendFc := s.fc, hbOut := toggled } }

/-- A period has passed without a heartbeat; after HB_MISS of them the device enters ISOLATED (R336). The link waits for a
HELLO again once neither HELLO nor HEARTBEAT has come for as long (log entry 84). -/
def State.heartbeatMiss (s : State) : State :=
  if !(s.active pMIRROR && s.b pMIRROR MIRROR.CFG_PAIRED) then s
  else
    let p := s.r pMIRROR MIRROR.HB_PERIOD * msFc
    let k := (s.fc - s.mirror.lastHbFc) / p + 1
    let s := s.advanceFc (s.mirror.lastHbFc + k * p)
    let s := s.incSat pMIRROR MIRROR.HB_MISSED
    if s.r pMIRROR MIRROR.HB_MISS ≤ k then
      (if s.fc < s.mirror.heardFc + s.r pMIRROR MIRROR.HB_MISS * p then s
       else
        let s := s.w pMIRROR MIRROR.STATUS_LINK_UP 0
        let again := s.mirror.trained && s.mirror.helloIn
        let s := { s with mirror := { s.mirror with helloIn := false } }
        if again then s.sendHello else s).isolate
    else s

/-- A frame that arrives: a bad CRC discards it (R334); frames other than HELLO pass only after a HELLO
(R335). -/
def State.frameIn (s : State) (crcOk hello : Bool) (eff : State → State) : State :=
  if !s.mirror.trained || !s.active pMIRROR then s
  else if !crcOk then (s.inc pMIRROR MIRROR.CRC_ERRORS).pendInt pMIRROR 4
  else if hello || s.mirror.helloIn then eff s else s

/-- What a HELLO or HEARTBEAT tells about the partner. -/
def State.partnerIs (s : State) (role : Nat) (authority : Bool) (epoch : Nat) : State :=
  let s := s.w pMIRROR MIRROR.PARTNER_ROLE role
  let s := (s.w pMIRROR MIRROR.PARTNER_VALID 1).w pMIRROR MIRROR.PARTNER_AUTHORITY (b2n authority)
  let s := s.w pMIRROR MIRROR.PARTNER_EPOCH epoch
  let s := s.w pMIRROR MIRROR.STATUS_LINK_UP 1
  { s with mirror := { s.mirror with heardFc := s.fc } }

/-- Roles settled when HELLOs are exchanged after a split (R339): by epoch, then by side; a device in RESYNC
never wins. -/
def State.settleRoles (s : State) (role epoch : Nat) : State :=
  let leads := fun (r : Nat) => r == 0 || r == 2
  if s.role = 3 then (if leads role then s.askResync else s)
  else if s.role = 2 then
    let mine := s.epoch
    let wins := if leads role then
        decide (epoch < mine) || (mine == epoch && s.r pMIRROR MIRROR.CFG_SIDE == mine % 2)
      else true
    if wins then s.setGoal 0 5 else s.follow 3
  else if s.role = 0 ∧ role = 2 then
    (if epoch < s.epoch ∨ (epoch = s.epoch ∧ s.r pMIRROR MIRROR.CFG_SIDE = s.epoch % 2) then s else s.follow 3)
  else s

/-- HELLO received (R335, R339). -/
def State.helloFrame (s : State) (side compat role : Nat) (authority : Bool) (epoch : Nat) : State :=
  if side % 2 = s.r pMIRROR MIRROR.CFG_SIDE ∨ compat ≠ s.behaviour.toNat then
    let s := (s.statusBit pMIRROR 4).w pMIRROR MIRROR.STATUS_LINK_UP 0
    { s with mirror := { s.mirror with helloIn := false } }
  else
    let first := !s.mirror.helloIn
    let s := s.partnerIs (role % 4) authority epoch
    let s := { s with mirror := { s.mirror with helloIn := true, ackFc := s.fc, lastSendFc := if first then s.fc else s.mirror.lastSendFc } }
    if first then s.settleRoles (role % 4) epoch else s

/-- An entry that the buffer or the staging ring still holds (R335, R340). -/
def State.entryAt (s : State) (q : Nat) : Option (List Byte) :=
  match s.journal.buf.find? (fun e => e.seq.toNat == q) with
  | some e => some e.bytes
  | none =>
    let b := s.devRead .journal (s.r pJOURNAL JOURNAL.STAGE_BASE + q % s.stageCap * 64) 64
    if q ≠ 0 ∧ q < s.nextSeq ∧ fieldLE b 0 8 = q then some b else none

/-- JOURNAL frames with the entries from `q` up, at most 16 in one (R334); the count says how many entries
were resent. -/
def State.sendFrom (s : State) (q : Nat) : State :=
  let es := (List.range (s.nextSeq - q)).filterMap (fun i => s.entryAt (q + i))
  (List.range ((es.length + 15) / 16)).foldl (fun t i => t.sendFrame 3 ((es.drop (16 * i)).take 16).flatten) s

/-- ACK received (R335). -/
def State.ackFrame (s : State) (acked : Nat) : State :=
  if s.r pMIRROR MIRROR.ACKED_NEXT < acked ∧ acked ≤ s.nextSeq then
    let s := s.w pMIRROR MIRROR.ACKED_NEXT acked
    let cp := match s.mirror.cpSent with
      | some c => if c.2.1 < acked then none else some c
      | none => none
    { s with mirror := { s.mirror with ackFc := s.fc, cpSent := cp } }
  else s

/-- A checkpoint's bytes sent as CP_DATA and CP_END; without CXL.cache they cannot be read (R334, R340, R453). -/
def State.sendCp (s : State) (k seq len : Nat) : State :=
  if !s.cacheUp then s else
  let body := memRead s.hostMem (s.cpHost k + 64) len
  let s := (List.range ((len + 1023) / 1024)).foldl (fun t i =>
    t.sendFrame 8 (leBytes 8 (1024 * i) ++ (body.drop (1024 * i)).take 1024)) s
  s.sendFrame 9 (leBytes 8 seq ++ leBytes 8 len ++ leBytes 4 (crc32c body).toNat ++ leBytes 4 0)

/-- No ACK has advanced ACKED_NEXT for 200 µs (R335): a checkpoint whose sequence it has not passed is sent again from its
first byte, since an ACK names no CP_DATA offset; the entries from ACKED_NEXT on are sent again where the staging ring still
holds them, each counted; where it holds them no longer the partner is taken to be in RESYNC (log entry 84). -/
def State.ackTimeout (s : State) : State :=
  let a := s.r pMIRROR MIRROR.ACKED_NEXT
  if !s.linkOpen || decide (s.nextSeq ≤ a) && s.mirror.cpSent.isNone || !(s.appendRole || s.mirror.stopAppend) then s
  else
    let s := s.advanceFc (s.mirror.ackFc + 200 * usFc)
    let s := { s with mirror := { s.mirror with ackFc := s.fc } }
    match s.mirror.cpSent with
    | some (k, seq, len) =>
      ((s.inc pMIRROR MIRROR.RETRANSMITS (s.nextSeq - (seq + 1))).sendCp k seq len).sendFrom (seq + 1)
    | none =>
      if (s.entryAt a).isNone then s.w pMIRROR MIRROR.PARTNER_ROLE 3
      else (s.inc pMIRROR MIRROR.RETRANSMITS (s.nextSeq - a)).sendFrom a

/-- ACK sent, with the next sequence expected (R334). -/
def State.sendAck (s : State) (next : Nat) : State := s.sendFrame 4 (leBytes 8 next)

/-- The answer by checkpoint: until an ACK passes its sequence it counts as not acknowledged; without a valid one the device sends what its ring holds (R340). -/
def State.cpAnswer (s : State) : State := match (if s.cacheUp then s.latestCp else none) with
  | some (k, seq, len) =>
    let s := { s with mirror := { s.mirror with cpSent := some (k, seq, len) } }
    ((s.sendCp k seq len).w pMIRROR MIRROR.ACKED_NEXT seq).sendFrom (seq + 1)
  | none => s.sendFrom 1

/-- RESYNC_REQ answered by the ACTIVE partner (R340). -/
def State.resyncReqFrame (s : State) (last crc : Nat) : State :=
  if s.role ≠ 0 then s
  else
    let s := { s with mirror := { s.mirror with ackFc := s.fc } }
    match s.entryAt last with
    | some b => if fieldLE b 60 4 = crc then (s.w pMIRROR MIRROR.ACKED_NEXT (last + 1)).sendFrom (last + 1) else s.cpAnswer
    | none => s.cpAnswer

/-- An entry's sequence number. -/
def entrySeq (e : List Byte) : Nat := fieldLE e 0 8

/-- Received entries wait: for a checkpoint to be loaded and written, or behind entries that wait themselves (R341). -/
def State.rxHolds (s : State) : Bool :=
  s.mirror.cpWait || s.journal.cpOwn || s.journal.cpNext.isSome || !s.mirror.held.isEmpty

/-- The sequence number the next received entry must have. -/
def State.rxNext (s : State) : Nat :=
  match s.mirror.held.getLast? with
  | some e => entrySeq e + 1
  | none => if s.rxHolds then s.mirror.cpSeq.toNat + 1 else s.nextSeq + s.mirror.chain.length

/-- CP_DATA received (R341). -/
def State.cpDataFrame (s : State) (off : Nat) (bytes : List Byte) : State :=
  if s.role ≠ 3 then s
  else
    let s := s.devWrite .journal (s.r pMIRROR MIRROR.RX_CP_BASE + off) bytes
    s.sendAck s.rxNext

/-- RESYNC fails and is asked for again (R341). -/
def State.resyncFail (s : State) : State := (s.statusBit pMIRROR 5).askResync

/-- CP_END received (R341): the checkpoint waits for software where its CRC is right. -/
def State.cpEndFrame (s : State) (seq len crc : Nat) : State :=
  if s.role ≠ 3 then s
  else
    let body := s.devRead .journal (s.r pMIRROR MIRROR.RX_CP_BASE) len
    if (crc32c body).toNat = crc then
      ({ s with mirror := { s.mirror with cpWait := true, cpSeq := BitVec.ofNat 64 seq, cpLen := BitVec.ofNat 64 len
                                          held := [], chain := [] } } : State).pendInt pMIRROR 5
    else s.resyncFail

/-- A device in RESYNC that has applied what its partner had appended becomes STANDBY (R341). -/
def State.resyncCheck (s : State) : State :=
  match s.mirror.resyncTo with
  | some n => if s.role = 3 ∧ s.mirror.resyncing ∧ !s.rxHolds ∧ n.toNat ≤ s.nextSeq ∧ s.mirror.goal.isNone
        ∧ s.mirror.scheduled.isNone then
      s.setGoal 1 0
    else s
  | none => s

/-- A paired device in RESYNC that has not asked asks an ACTIVE partner (R330, R340). -/
def State.askActive (s : State) (role : Nat) : State :=
  if s.role = 3 ∧ role = 0 ∧ s.mirror.resyncing = false then s.askResync else s

/-- The first HEARTBEAT an ACTIVE partner sends after a RESYNC_REQ tells how far the device has to come (R341). -/
def State.resyncGoal (s : State) (role next : Nat) : State :=
  if s.role = 3 ∧ s.mirror.resyncing = true ∧ role = 0 ∧ s.mirror.resyncTo = none
  then { s with mirror := { s.mirror with resyncTo := some (BitVec.ofNat 64 next) } } else s

/-- HEARTBEAT received (R336). -/
def State.heartbeatFrame (s : State) (role : Nat) (authority : Bool) (epoch next : Nat) : State :=
  let s := s.partnerIs (role % 4) authority epoch
  let t : State := { s with mirror := { s.mirror with lastHbFc := s.fc } }
  ((t.resyncGoal (role % 4) next).askActive (role % 4)).resyncCheck

/-- A STANDBY device that has applied every entry up to L is promoted (R331, R332). -/
def State.promoteCheck (s : State) : State :=
  if s.role = 1 ∧ s.mirror.relFc.isSome ∧ s.mirror.lastSeq.toNat < s.nextSeq ∧ s.mirror.goal.isNone ∧ s.mirror.scheduled.isNone
  then s.setGoal 0 (if s.mirror.takeFc.isSome then 4 else 3) else s

/-- RELINQUISH received (R331). -/
def State.relinquishFrame (s : State) (last : Nat) : State :=
  if s.role ≠ 1 then s
  else ({ s with mirror := { s.mirror with relFc := some s.fc, lastSeq := BitVec.ofNat 64 last } } : State).promoteCheck

/-- TAKE received (R330, R331). -/
def State.takeFrame (s : State) : State := if s.mayHandOver then s.handOver else s

end Sys2Proof.Machine
end

