-- ==== Sys2Proof/Machine/Ctrl.lean ====
section
/-! DEFINITION. The common registers of a block page: CTRL with enabling, fencing and unfencing, STATUS and its
condition bits, INT_EN, INT_PEND, OWNER, LOCK, HIST_CTRL; and the OWNERSHIP page (R26, R29, R30, R34 to R37,
R466, R470 to R476). -/

namespace Sys2Proof.Machine

/-! ### Enabling -/

/-- What a block does when its CTRL.ENABLE goes to 1 (R196, R226, R272, R336, R369, R396). -/
def State.enableEffect (s : State) (k : Kind) (n : Nat) : State :=
  match k with
  | .kHEAD => s.headOn n
  | .kFP => s.fpStart n
  | .kFIELD => s.fieldStart
  | .kAUDIO => s.audioStart
  | .kBLITTER => s.bltGo
  | .kJOURNAL => s.jResume
  | .kMIRROR => s.mirrorStart
  | _ => s

/-- What a block does when its CTRL.ENABLE goes to 0 (R196, R234, R251, R362, R405). -/
def State.disableEffect (s : State) (k : Kind) (n : Nat) : State :=
  match k with
  | .kHEAD => ((s.headOff n).bltHeadOff n).waitlHeadOff n
  | .kPE => if s.serves n then s else s.setEng n { s.eng n with composing := none, startMem := [], bad := [] }
  | .kFP => s.fpStop n
  | .kAUDIO => s.audioStop true
  | .kMIRROR => s.mirrorDown
  | _ => s

/-- A rising ENABLE the block's chapter refuses (R245, R252, R257, R274, R318). -/
def State.enableOk (s : State) (k : Kind) (n : Nat) : Bool :=
  match k with
  | .kFP => s.fpEnableOk n
  | .kFIELD => s.fieldEnableOk
  | .kJOURNAL => s.stageInside
  | _ => true

/-- CTRL.ENABLE takes the value written, with what the change of it does; a core is released by every write of
1 (R369). -/
def State.setEnable (s : State) (func page : Nat) (k : Kind) (n : Nat) (on : Bool) : State :=
  let old := wfld (s.reg func page 0x008) 0 1 != 0
  let s := s.setReg func page 0x008 (wset (s.reg func page 0x008) 0 1 (b2n on))
  match k with
  | .kSC => if on then (if s.fenced 0 page then s else s.coreStart n) else s.coreStop n
  | _ => if on && !old then s.enableEffect k n else if old && !on then s.disableEffect k n else s

/-! ### Fences -/

/-- The pages R470 lets be fenced. -/
def fenceable (k : Kind) : Bool :=
  match k with
  | .kDEVICE => false | .kCLOCKS => false | .kPOWER => false | .kPINS => false | .kMEMCTL => false
  | .kPARTITIONS => false | .kTIMEBASE => false | .kINTC => false | .kINTCG => false | .kSAFETY => false
  | .kOWNERSHIP => false | .kPROTR => false | .kSAPV => false
  | .hostMem => false | .hostVec => false
  | _ => true

/-- The transactions whose frames wait for a host ring end with SEND_FAULT (R476, row FIELD). -/
def State.fieldFenced (s : State) : State :=
  let ts := s.host.orQ.flatMap (fun e => e.2.map (·.1))
  let s := { s with host := { s.host with orQ := [] } }
  ts.foldl (fun t k => t.endTxn k 19) s

/-- The safe state a fence takes a block to (R471, R475, R476, table "Blocks, fault classes and containment"). -/
def State.fenceEffect (s : State) (k : Kind) (n : Nat) (req : Code) : State :=
  match k with
  | .kHEAD => s.scanOff n
  | .kSAPPHIRE => s.scanOff n
  | .kPE => s.engineFenced n
  | .kVP => s.portFenced n
  | .kBLITTER => s.bltFenced
  | .kFP => s.fpStop n
  | .kFIELD => s.fieldFenced
  | .kCOMMANDS => s.dispatchFence
  | .kJOURNAL => s.dropUser
  | .kMIRROR => s.mirrorFenced
  | .kSC => s.coreStop n
  | .kDV => s.dvHalt n
  | .kDROVER => (List.range 32).foldl (fun t d =>
      if t.fenced 0 (pgDV d) then t else (t.fenceMark 0 (pgDV d) req 0).dvHalt d) s
  | .kAUDIO => s.audioStop true
  | .kAUDIOR => s.audioStop true
  | _ => s

/-- A fence request takes hold; on a block already fenced it changes nothing (R471). -/
def State.fencePage (s : State) (func page : Nat) (k : Kind) (n : Nat) (req : Code) : State :=
  if s.fenced func page then s else (s.fenceMark func page req 0).fenceEffect k n req

/-- The conditions of an unfence (R474). -/
def State.unfenceOk (s : State) (func page : Nat) (k : Kind) (n : Nat) : Bool :=
  let st := (s.reg func page 0x00C).toNat
  let parked := k == .kPE && decide (n < 32) && s.relPhase == ph.PARKED && s.relHead == n
  nfld st 3 13 == 0 && (!nbit st 2 || parked)
    && !(k == .kPE && (s.eng n).failedTest)
    && !(k == .kHEAD && (s.hd n).sigFenced && s.b1 (pgSAP n) SAPPHIRE.STATUS_SIG_MISMATCH)

/-- A head's scan-out stage is unfenced (R474). -/
def State.scanOn (s : State) (n : Nat) : State :=
  (s.w1 (pgSAP n) SAPPHIRE.SIG_RUN 0).setHd n { s.hd n with sigFenced := false }

/-- A block resumes with its present configuration (R474 to R476). -/
def State.unfenceEffect (s : State) (k : Kind) (n : Nat) : State :=
  match k with
  | .kHEAD => s.scanOn n
  | .kSAPPHIRE => s.scanOn n
  | .kPE => s.engineUnfenced n
  | .kVP => s.portUnfenced n
  | .kBLITTER => s.bltGo
  | .kAUDIO => s.audioResume
  | .kAUDIOR => s.audioResume
  | .kJOURNAL => s.jResume
  | .kMIRROR => s.hbLevel
  | .kSC => if s.enabled (pgSC n) then s.coreStart n else s
  | _ => s

/-- FENCE_REQ and FENCED clear, UNFENCED is recorded, the block resumes (R474); the detail is open (log
entry 8). -/
def State.unfencePage (s : State) (func page : Nat) (k : Kind) (n : Nat) : State :=
  let s := s.setReg func page 0x008 (wset (s.reg func page 0x008) 1 1 0)
  let s := s.setReg func page 0x00C (wset (s.reg func page 0x00C) 1 1 0)
  (s.accEventOpen func page Ev.UNFENCED).unfenceEffect k n

/-- The last request of a fenced block has completed (R471). -/
def State.fenceComplete (s : State) (func page : Nat) : State :=
  match pageKind func page with
  | none => s
  | some (k, n) =>
    let waits := k == .kSC && (s.core n).busy
    if s.present func page && s.fenced func page && !waits
    then s.setReg func page 0x00C (wset (s.reg func page 0x00C) 0 2 2) else s

/-! ### CTRL -/

/-- A CTRL write by Function 1 to a Function 1 page it does not own acts on FENCE_REQ and UNFENCE alone (R33). -/
def State.fencesOnly (s : State) (w : Wr) : Bool :=
  w.func == 1 && w.code == 0x02 && s.owner 1 w.page != 0x02 && s.owner 1 w.page != 0x00

/-- A write to CTRL (R33, R414, R470, R474). -/
def State.ctrlWrite (s : State) (w : Wr) (k : Kind) (n : Nat) : Eff :=
  let fence := nbit w.v 1
  let unfence := nbit w.v 2 && !fence && s.fenced w.func w.page
  let old := wfld (s.reg w.func w.page 0x008) 0 1 != 0
  let on := if s.fencesOnly w then old else nbit w.v 0
  let audio := k == .kAUDIO || k == .kAUDIOR
  if fence && !fenceable k then w.drop s Ev.BAD_STATE
  else if audio && s.anyProt && (!on || fence) && !s.protExempt w.code then w.protDrop s
  else if on && !old && !s.enableOk k n then w.drop s Ev.BAD_VALUE
  else if unfence && !s.unfenceOk w.func w.page k n then w.drop s Ev.BAD_STATE
  else
    let s := if s.fencesOnly w then s else s.setEnable w.func w.page k n on
    let s := if fence then s.fencePage w.func w.page k n w.code else s
    done (if unfence then s.unfencePage w.func w.page k n else s)

/-! ### STATUS, INT_EN, INT_PEND, OWNER, LOCK, HIST_CTRL -/

/-- A condition bit whose condition still holds sets again, which counts as one occurrence of its code (R466; the code
of DEGRADED is DEDUCED, log entry 153). -/
def State.reassert (s : State) (k : Kind) (n : Nat) : State :=
  match k with
  | .kCLOCKS => s.clocksCondition
  | .kHEAD =>
    if s.r (pgHEAD n) HEAD.SYNC_STAT_STATE = 3 ∧ !s.b (pgHEAD n) HEAD.STATUS_SYNC_LOST
    then (s.statusBit (pgHEAD n) 8).eventOpen (pgHEAD n) Ev.SYNC_LOST else s
  | .kVP =>
    if s.linkState n = lk.FAILED ∧ !s.b (pgVP n) VP.STATUS_LINK_FAIL
    then (s.statusBit (pgVP n) 3).eventOpen (pgVP n) Ev.LINK_FAIL else s
  | .kPE =>
    if n < 32 ∧ s.relPhase = ph.PARKED ∧ s.relHead = n ∧ !s.b (pgPE n) STATUS_DEGRADED
    then (s.w (pgPE n) STATUS_DEGRADED 1).event (pgPE n) Ev.RELIEF_MISMATCH (BitVec.ofNat 32 n) else s
  | _ => s

/-- A write to STATUS: bits [15:2] clear where 1 is written (R26, R465, R466). -/
def State.statusWrite (s : State) (w : Wr) (k : Kind) (n : Nat) : Eff :=
  let old := (s.reg w.func w.page 0x00C).toNat
  let s := s.setReg w.func w.page 0x00C (BitVec.ofNat 64 (mergeWrite old w.v 0 0xFFFC))
  let s := if k == .kSC && nbit w.v 3 && (s.core n).lockup then s.lockupClear n else s
  done (s.reassert k n)

/-- The INT_PEND bits a kind has. -/
def intMask (k : Kind) : Nat :=
  match specAt k 0x014 with
  | some (sp, _) => sp.w1c
  | none => 0

/-- HIST_CTRL.CLEAR: the queue is empty and both counts are 0; the sequence number stays (R30). -/
def PageHist.clear (h : PageHist) : PageHist := { h with entries := [], overflow := 0, lastN := 0 }

/-- A write to HIST_CTRL (R30). -/
def State.histCtrl (s : State) (w : Wr) : Eff :=
  if nbit w.v 31 then
    let hp := histPage w.func w.page
    done (s.setHist hp.1 hp.2 (((s.histOf hp.1 hp.2).settle s.fc s.stamp).clear))
  else done s

/-- LOCK takes its key alone (R29). -/
def State.lockWrite (s : State) (w : Wr) : Eff :=
  if w.v = 0x4C4B then done { s with locks := sset false s.locks (regKey w.func w.page 0) true } else (s, false)

/-- A write to the common part of a block page (R26). -/
def State.commonWrite (s : State) (w : Wr) (k : Kind) (n : Nat) : Eff :=
  if w.off = 0x008 then s.ctrlWrite w k n
  else if w.off = 0x00C then s.statusWrite w k n
  else if w.off = 0x010 then done (s.setReg w.func w.page 0x010 (BitVec.ofNat 64 (w.v &&& intMask k)))
  else if w.off = 0x014 then
    done (s.setReg w.func w.page 0x014
      (BitVec.ofNat 64 (mergeWrite (s.reg w.func w.page 0x014).toNat w.v 0 (intMask k))))
  else if w.off = 0x018 then s.changeOwner w.func w.page (BitVec.ofNat 8 w.v) w
  else if w.off = 0x01C then s.lockWrite w
  else if w.off = 0x020 then s.histCtrl w
  else (s, false)

/-! ### OWNERSHIP -/

/-- What OWN_SEL names. -/
inductive OwnItem where
  | page (p : Nat)
  | port (n : Nat)
  | pin (k : Nat)
  | domain (d : Nat)
  | sapphire (h : Nat)
deriving DecidableEq, Repr

/-- The item OWN_SEL names: `none` = an invalid class, an index out of range, an unlisted page, an absent unit
(table "OWN_STATUS"). -/
def State.ownItem (s : State) : Option OwnItem :=
  let i := s.r1 pOWNERSHIP OWNERSHIP.OWN_SEL_INDEX
  let c := s.r1 pOWNERSHIP OWNERSHIP.OWN_SEL_CLASS
  if c = 0 then
    match pageKind 0 i with
    | some (k, n) => if k.isBlock && unitPresent s.variant k n then some (.page i) else none
    | none => none
  else if c = 1 ∧ i < 16 then some (.port i)
  else if c = 2 ∧ i < 128 then some (.pin i)
  else if c = 3 ∧ i < 50 ∧ pdPresent s.variant i then some (.domain i)
  else if c = 4 ∧ i < 32 ∧ s.present 1 (pgSAP i) then some (.sapphire i)
  else none

/-- The owner of the item, as OWN_VALUE reads it. -/
def State.ownValue (s : State) : OwnItem → Code
  | .page p => s.owner 0 p
  | .port n => s.itemOwner pDATAPORTS (DATAPORTS.DAT_OWNER.at (0x40 * n))
  | .pin k => s.itemOwner pPINS (PINS.MP_CFG_OWNER.at (4 * k))
  | .domain d => s.itemOwner pPOWER (pdFld POWER.PD_OWNER d)
  | .sapphire h => s.owner 1 (pgSAP h)

/-- A selection that is not good: BAD_SEL, the access dropped (R37). -/
def State.badSel (s : State) : Eff := (s.w1 pOWNERSHIP OWNERSHIP.OWN_STATUS 1, false)

/-- The write an OWNERSHIP register makes on an item's page: what it drops is recorded there, at the offset of
the item's own register (R29, R464; log entry 10). -/
def Wr.onItem (w : Wr) (func page off : Nat) : Wr := { w with func := func, page := page, off := off }

/-- A write to OWN_VALUE (R34, R35, R178, R187). -/
def State.ownValueWrite (s : State) (w : Wr) : Eff :=
  let c := BitVec.ofNat 8 w.v
  match s.ownItem with
  | none => s.badSel
  | some (.page p) =>
    let w := w.onItem 0 p 0x018
    if (match pageKind 0 p with | some (.kSAPV, _) => true | _ => false) then w.drop s Ev.OWNER_DENY
    else s.changeOwner 0 p c w
  | some (.port n) =>
    let f := DATAPORTS.DAT_OWNER.at (0x40 * n)
    s.changeItemOwner pDATAPORTS f c (w.onItem 0 pDATAPORTS f.off)
  | some (.pin k) =>
    let f := PINS.MP_CFG_OWNER.at (4 * k)
    if s.itemOwner pPINS f == 0xFF || !s.validOwner c then (s.pinDeny (w.onItem 0 pPINS f.off) k, false)
    else (s.w pPINS f c.toNat, true)
  | some (.domain d) =>
    let f := pdFld POWER.PD_OWNER d
    s.changeItemOwner pPOWER f c (w.onItem 0 pPOWER f.off)
  | some (.sapphire h) => s.changeOwner 1 (pgSAP h) c (w.onItem 1 (pgSAP h) 0x018)

/-- A write to OWN_FENCE: class 0 alone, LOCK and owner notwithstanding (R29, R37, R470, R474). -/
def State.ownFenceWrite (s : State) (w : Wr) : Eff :=
  match s.ownItem with
  | some (.page p) =>
    match pageKind 0 p with
    | none => s.badSel
    | some (k, n) =>
      let w := w.onItem 0 p 0x008
      if nbit w.v 0 then
        if !fenceable k then w.drop s Ev.BAD_STATE else done (s.fencePage 0 p k n 0x02)
      else if nbit w.v 1 && s.fenced 0 p then
        w.require s (s.unfenceOk 0 p k n) Ev.BAD_STATE fun s => done (s.unfencePage 0 p k n)
      else done s
  | _ => s.badSel

/-- A write to a block-specific register of OWNERSHIP (R37). -/
def State.ownershipWrite (s : State) (w : Wr) : Eff :=
  if w.off = 0x104 then s.ownValueWrite w
  else if w.off = 0x108 then s.ownFenceWrite w
  else s.plain w

/-! ### Domains and the pages in them -/

/-- Entry commits; a head whose domain leaves ON sends idle pattern and drops out of the relief rotation, the links of a
video-port group drop with their domain (R69, R73, R212). -/
def State.domainEntry (s : State) (d : Nat) : State :=
  let s' := s.entryCommit d
  if (d = 46 ∨ d = 47) ∧ s.pdOn d ∧ !s'.pdOn d then
    (List.range 4).foldl (fun t i => let p := 4 * (d - 46) + i
      if t.linkState p = lk.DOWN then t else t.linkTo p lk.DOWN 0 0) s'
  else if d < 32 ∧ s.pdOn d ∧ !s'.pdOn d then
    (s'.setHd d { s'.hd d with idle := true, sent := [], stopping := false }).relLeave d
  else s'

/-- A domain reports ON: a page that is enabled starts from its reset values where the domain was OFF, and the
ports of a group train again (R72, R73, R201). -/
def State.domainWake (s : State) (d : Nat) : State :=
  let off := (s.dom d).fromOff
  let s' := s.wakeComplete d
  if s.pdState d ≠ 4 then s
  else
    let t := if off then (domainPages d).foldl (fun t p => match pageKind p.1 p.2 with
        | some (k, n) =>
          if t.present p.1 p.2 && wfld (t.reg p.1 p.2 0x008) 0 1 != 0 then
            (if k == .kSC then (if t.fenced 0 p.2 then t else t.coreStart n) else t.enableEffect k n)
          else t
        | none => t) s' else s'
    if d = 46 ∨ d = 47 then
      (List.range 4).foldl (fun t i => let p := 4 * (d - 46) + i
        let t := t.hpdSettle p
        if t.portActs p then t.portUnfenced p else t) t
    else t

end Sys2Proof.Machine
end

