-- ==== Sys2Proof/Machine/DataPort.lean ====
section
/-! DEFINITION. Data ports: aperture accesses, the advance, the DATAPORTS page (R56 to R61, R472). -/

namespace Sys2Proof.Machine

def dpFld (f : Fld) (n : Nat) : Fld := f.at (0x40 * n)

/-- An error of port `n`: its own bit and DATAPORTS.STATUS[3] (R61). -/
def State.portError (s : State) (n : Nat) (f : Fld) : State := (s.w pDATAPORTS (dpFld f n) 1).statusBit pDATAPORTS 3

/-- The port accepts accesses at all: enabled, a partition named, and the state of start-up (R57, R60). In RUNNING DAT00
is a port like the others: R60 names WAIT_IMAGE and IMAGE_REJECTED for it, and BOOT, VALIDATING and STARTING as the states
that refuse (log entry 29). -/
def State.portOpen (s : State) (n : Nat) : Bool :=
  let part := s.r pDATAPORTS (dpFld DATAPORTS.DAT_CTRL_PART n)
  let st := s.devState
  s.b pDATAPORTS (dpFld DATAPORTS.DAT_CTRL_EN n) && decide (1 ≤ part) && decide (part ≤ 4)
    && (st == stRUNNING || (n == 0 && (st == stWAIT_IMAGE || st == stIMAGE_REJECTED)))

/-- Device address of aperture offset `off`. -/
def State.portAddr (s : State) (n off : Nat) : Nat := (s.r pDATAPORTS (dpFld DATAPORTS.DAT_ADDR n) + off) % 2 ^ 64

/-- An access outside the table of R45 is recorded with its address (R46). -/
def State.portDeny (s : State) (a : Nat) : State := s.event pDATAPORTS Ev.PART_DENY (BitVec.ofNat 32 a)

/-- The checks of R57 and R56 on an access to bytes `off` to `off + n − 1` of port `p`: the state with the
errors it sets, and whether it is performed. While DAT00 refuses every access, RANGE is set for each (R60). -/
def State.portCheck (s : State) (p off n : Nat) (code : Code) : State × Bool :=
  let o := s.itemOwner pDATAPORTS (dpFld DATAPORTS.DAT_OWNER p)
  if s.fenced 0 pDATAPORTS then (s.accEventOpen 0 pDATAPORTS Config.refusalCode.toNat, false)
  else if o ≠ 0 ∧ code ≠ o then
    let t := if p = 0 && (s.devState == stBOOT || s.devState == stVALIDATING || s.devState == stSTARTING)
      then s.portError p DATAPORTS.DAT_STATUS_RANGE else s
    ((t.portError p DATAPORTS.DAT_STATUS_DENY).accEvent 0 pDATAPORTS Ev.OWNER_DENY (denyDetail code (0x100 + 0x40 * p)), false)
  else
    let a := s.portAddr p off
    let inside := s.inPart (s.r pDATAPORTS (dpFld DATAPORTS.DAT_CTRL_PART p)) a n
    let range := !s.portOpen p || !inside
    let align := decide (s.r pDATAPORTS (dpFld DATAPORTS.DAT_BURST p) < off + n)
    let t := if range then s.portError p DATAPORTS.DAT_STATUS_RANGE else s
    let t := if s.portOpen p && !s.canRead .ports a n then t.portDeny a else t
    let t := if align then t.portError p DATAPORTS.DAT_STATUS_ALIGN else t
    (t, !range && !align)

/-- `n` bytes have passed: the count, and the advance at the end of a burst (R56). -/
def State.portCount (s : State) (p n : Nat) : State :=
  let c := s.r pDATAPORTS (dpFld DATAPORTS.DAT_STATUS_COUNT p) + n
  if s.r pDATAPORTS (dpFld DATAPORTS.DAT_BURST p) ≤ c then
    let a := s.r pDATAPORTS (dpFld DATAPORTS.DAT_ADDR p)
    let st := signed 32 (s.r pDATAPORTS (dpFld DATAPORTS.DAT_STEP p))
    let s := s.w pDATAPORTS (dpFld DATAPORTS.DAT_ADDR p) (unsigned 64 ((a : Int) + st))
    let s := s.w pDATAPORTS (dpFld DATAPORTS.DAT_STATUS_COUNT p) 0
    s.inc pDATAPORTS (dpFld DATAPORTS.DAT_ADVANCES p)
  else s.w pDATAPORTS (dpFld DATAPORTS.DAT_STATUS_COUNT p) c

/-- A write through port `p` (R56, R57). -/
def State.portWrite (s : State) (p off : Nat) (bytes : List (Option Byte)) (code : Code) : State :=
  let lead := (bytes.takeWhile Option.isNone).length
  let core := ((bytes.drop lead).reverse.dropWhile Option.isNone).reverse
  if core.isEmpty then s
  else
    let x := s.portCheck p (off + lead) core.length code
    if !x.2 then x.1
    else
      let a := x.1.portAddr p (off + lead)
      let s := x.1.memWait.snoop a core.length
      let s := ({ s with mem := memWriteEn s.mem a core } : State).invalidate a core.length
      s.portCount p (core.filter Option.isSome).length

/-- A read through port `p`: the state after it and the bytes, all ones where it is refused (R56, R57). -/
def State.portRead (s : State) (p off n : Nat) (code : Code) : State × List Byte × Bool :=
  if n = 0 then (s, [], true)
  else
    let x := s.portCheck p off n code
    if !x.2 then (x.1, List.replicate n 0xFF, false)
    else
      let a := x.1.portAddr p off
      let s := x.1.memWait.snoop a n
      (s.portCount p n, memRead s.mem a n, true)

/-- A host's read through an aperture, as the bus answers it: a fenced DATAPORTS aborts (R472). -/
def State.portReadHost (s : State) (p off n : Nat) (code : Code) : State :=
  let fenced := s.fenced 0 pDATAPORTS
  let r := s.portRead p off n code
  { r.1 with resp := if fenced then .abort else .data r.2.1 }

/-- A write to the DATAPORTS page (R59, R61). -/
def State.dataportsWrite (s : State) (w : Wr) : Eff :=
  if w.off < 0x100 ∨ 0x500 ≤ w.off then s.plain w
  else
    let p := (w.off - 0x100) / 0x40
    let rel := (w.off - 0x100) % 0x40
    let zero := fun (s : State) => s.w pDATAPORTS (dpFld DATAPORTS.DAT_STATUS_COUNT p) 0
    if rel = 0 then w.require s (w.v % 4 == 0) Ev.BAD_VALUE fun s => done (zero (s.plain w).1)
    else if rel = 8 then w.require s (w.v % 4 == 0) Ev.BAD_VALUE (·.plain w)
    else if rel = 12 then
      let b := w.f DATAPORTS.DAT_BURST
      w.require s (b % 4 == 0 && decide (4 ≤ b) && decide (b ≤ 65536)) Ev.BAD_VALUE fun s => done (zero (s.plain w).1)
    else if rel = 0x18 then s.changeItemOwner pDATAPORTS (dpFld DATAPORTS.DAT_OWNER p) (BitVec.ofNat 8 w.v) w
    else s.plain w

/-- DAT00 at the settings of R60, ADVANCES kept; a low half of DAT00_ADDR held for its high half is forgotten (R60,
R505; log entry 18). -/
def State.dat00Reset (s : State) : State :=
  let base := fun (off : Nat) (s : State) => s.setReg 0 pDATAPORTS off (resetVal 0 pDATAPORTS off)
  let s := base 0x118 (base 0x114 (base 0x110 (base 0x10C (base 0x108 (base 0x100 s)))))
  { s with held := s.held.filter (fun e => e.1 / 256 != regKey 0 pDATAPORTS 0x100) }

end Sys2Proof.Machine
end

