-- ==== Sys2Proof/Machine/TimeBase.lean ====
section
/-! DEFINITION. The time base's calibration and its compare channels (R437 to R443). -/

namespace Sys2Proof.Machine

/-- A field of compare channel `n`. -/
def cmpFld (f : Fld) (n : Nat) : Fld := f.at (0x20 * n)

/-- A calibration window ends with `count` reference edges (R438). -/
def State.calWindowEnd (s : State) (count : Nat) : State :=
  if !s.pdOn 48 then s
  else
    let s := s.w pTIMEBASE TIMEBASE.CAL_COUNT count
    if s.b pCLOCKS CLOCKS.STATUS_HOLDOVER || decide (count < 26986500) || decide (27013500 < count)
    then s.pendInt pTIMEBASE 1
    else ((s.w pTIMEBASE TIMEBASE.RATIO (count * 720896)).w pCLOCKS CLOCKS.STATUS_SLOW_OK 1).pendInt pTIMEBASE 0

/-- COMPARE goes up by INTERVAL (R440). -/
def State.cmpAdd (s : State) (n : Nat) : State :=
  s.w pTIMEBASE (cmpFld TIMEBASE.CMP_COMPARE n)
    (s.r pTIMEBASE (cmpFld TIMEBASE.CMP_COMPARE n) + s.r pTIMEBASE (cmpFld TIMEBASE.CMP_INTERVAL n))

/-- CATCHING while COMPARE has not passed TB (R441). -/
def State.cmpCatching (s : State) (n : Nat) : State :=
  s.w pTIMEBASE (cmpFld TIMEBASE.CMP_STATUS_CATCHING n)
    (b2n (decide (s.r pTIMEBASE (cmpFld TIMEBASE.CMP_COMPARE n) ≤ s.tb.toNat)))

/-- The channel's match: its moment has come, or comes now (R440, R441). -/
def State.compareMatch (s : State) (n : Nat) : State :=
  let p := pTIMEBASE
  if 64 ≤ n then s
  else if !(s.pdOn 48 && s.b p (cmpFld TIMEBASE.CMP_CTRL_EN n)) || s.b p (cmpFld TIMEBASE.CMP_STATUS_CATCHING n) then s
  else
    let c := s.r p (cmpFld TIMEBASE.CMP_COMPARE n)
    let s := s.advanceTb c
    if s.tb.toNat < c then s
    else
      let s := s.w p (cmpFld TIMEBASE.CMP_STATUS_MATCH n) 1
      let s := if c < s.tb.toNat then s.w p (cmpFld TIMEBASE.CMP_STATUS_LATE n) 1 else s
      if s.r p (cmpFld TIMEBASE.CMP_INTERVAL n) = 0 then s.w p (cmpFld TIMEBASE.CMP_CTRL_EN n) 0
      else (s.cmpAdd n).cmpCatching n

/-- One more addition, one fc on (R441). -/
def State.catchUp (s : State) (n : Nat) : State :=
  let p := pTIMEBASE
  if 64 ≤ n ∨ s.b p (cmpFld TIMEBASE.CMP_STATUS_CATCHING n) = false ∨ s.pdOn 48 = false then s
  else ((s.advanceFc (s.fc + 1)).cmpAdd n).incSat p (cmpFld TIMEBASE.CMP_STATUS_MISSED n) |>.cmpCatching n

/-- A write to a TIMEBASE register past the checks of the page (R441 to R443). -/
def State.timebaseWrite (s : State) (w : Wr) : Eff :=
  if 0x200 ≤ w.off ∧ w.off < 0xA00 then
    let n := (w.off - 0x200) / 0x20
    let rel := (w.off - 0x200) % 0x20
    if rel = 0 then let r := s.plain w; (r.1.w pTIMEBASE (cmpFld TIMEBASE.CMP_STATUS_CATCHING n) 0, r.2)
    else if rel = 0x10 then s.changeItemOwner pTIMEBASE (cmpFld TIMEBASE.CMP_OWNER n) (BitVec.ofNat 8 w.v) w
    else if rel = 0x14 then
      let r := s.plain w
      (if nbit w.v 1 then r.1.w pTIMEBASE (cmpFld TIMEBASE.CMP_STATUS_MISSED n) 0 else r.1, r.2)
    else s.plain w
  else s.plain w

end Sys2Proof.Machine
end

