-- ==== Sys2Proof/Machine/Bus.lean ====
section
/-! DEFINITION. Register writes and reads as the bus carries them: halves of 64-bit registers, the block each
page belongs to, the entries a mirrored page journals, PR_DATA, and what every register reads (R10, R23, R27,
R28, R67, R113, R187, R333, R415, R472, R505). -/

namespace Sys2Proof.Machine

/-! ### Writes -/

/-- A write to a block-specific register, past the checks of its page. -/
def State.blockWrite (s : State) (w : Wr) (k : Kind) (n : Nat) : Eff :=
  match k with
  | .kDEVICE => s.deviceWrite w
  | .kCLOCKS => s.plain w
  | .kPOWER => s.powerWrite w
  | .kPINS => s.pinsWrite w
  | .kMEMCTL => s.memctlWrite w
  | .kPARTITIONS => s.partitionsWrite w
  | .kTIMEBASE => s.timebaseWrite w
  | .kDATAPORTS => s.dataportsWrite w
  | .kINTC => s.intcWrite w
  | .kINTCG => s.intcgWrite w n
  | .kDROVER => s.plain w
  | .kDV => s.dvWrite w n
  | .kBLITTER => s.blitterWrite w
  | .kAUDIO => s.audioWrite w true
  | .kAUDIOR => s.routeWrite w true
  | .kFIELD => s.fieldWrite w
  | .kFP => s.fpWrite w n
  | .kCV => s.cvWrite w n
  | .kPOINTS => s.pointsWrite w
  | .kBRANDS => s.tableWrite w 4194304
  | .kCOMMANDS => s.commandsWrite w
  | .kHISTORY => s.tableWrite w 1048576
  | .kJOURNAL => s.journalRegWrite w
  | .kMIRROR => s.mirrorWrite w
  | .kSC => s.coreWrite w n
  | .kPK => s.plain w
  | .kHEAD => s.headWrite w n
  | .kPE => s.peWrite w n
  | .kVP => s.vpWrite w n
  | .kSAPV => (s, false)
  | .kHOST => s.hostRegWrite w
  | .kSAFETY => s.safetyWrite w
  | .kOWNERSHIP => s.ownershipWrite w
  | .kPROTR => s.plain w
  | .kSAPPHIRE => s.sapWrite w n
  | .hostMem => (s, false)
  | .hostVec => (s, false)

/-- A write after which a source may be asserted no longer: INT_EN, INT_PEND, compare status, doorbells. -/
def deasserts (w : Wr) (k : Kind) : Bool :=
  w.off == 0x010 || w.off == 0x014 || (k == .kTIMEBASE && decide (0x200 ≤ w.off)) || (k == .kINTCG && w.off == 0x118)

/-- The effect of a write that no check bars: on the common part or the block, then the entry of a mirrored
page (R333). Sources are brought up to date around a write that may clear one (R422). -/
def State.take (s : State) (w : Wr) (k : Kind) (n : Nat) (block : State → Eff) : Eff :=
  let s := if deasserts w k then s.scanSources else s
  let r := if w.off < 0x100 then s.commonWrite w k n else block s
  let t := if r.2 then r.1.journalWrite w s else r.1
  (if deasserts w k then t.scanSources else t, r.2)

/-- A half of PR_DATA's target or of any 64-bit register: the low half is held for its writer, the high half
commits both (R505); without a held low half the register's own stands in, or 0 where a rule says so (R115,
R180, R225). -/
def loneHighZero (k : Kind) (b : Nat) : Bool :=
  (k == .kPE && b == 0x110) || (k == .kSAPPHIRE && decide (0x400 ≤ b)) || (k == .kBLITTER && decide (b = 0x108 ∨ b = 0x110))

/-- Where the held half of a writer stands. -/
def heldKey (func page b : Nat) (c : Code) : Nat := regKey func page b * 256 + c.toNat

/-- The 64-bit register an offset lies in. -/
def wideBase (k : Kind) (off : Nat) : Option Nat :=
  match specAt k off with
  | some (sp, b) => if sp.wide then some b else none
  | none => none

/-- A low half is held (R505); a page that takes nothing, or that its source does not reach, holds nothing (R2, R24,
R67, R472). -/
def State.holdLow (s : State) (w : Wr) (k : Kind) (n : Nat) : Eff :=
  if !s.mainUp || !reaches w.func w.page w.code || !unitPresent s.variant k n || k == .kSAPV then s.guarded w done
  else if !s.domainOn w.func w.page then w.drop s Ev.DOMAIN_DOWN
  else if isDataPath k w.off && s.fenced w.func w.page then (s.barred w .refused, false)
  else
    let key := heldKey w.func w.page w.off w.code
    ({ s with held := sinsert (serase s.held key) key (BitVec.ofNat 32 w.v) }, true)

/-- The low half a high half commits. -/
def State.lowFor (s : State) (w : Wr) (k : Kind) (b : Nat) : Nat :=
  match s.held.find? (fun e => e.1 == heldKey w.func w.page b w.code) with
  | some e => e.2.toNat
  | none => if loneHighZero k b then 0
    else nfld (if w.func = 0 then s.pendReg w.page b else s.reg w.func w.page b).toNat 0 32

/-- The whole write a high half commits (R505). -/
def State.joined (s : State) (w : Wr) (k : Kind) (b : Nat) : Wr :=
  { w with off := b, size := 8, value := BitVec.ofNat 64 (s.lowFor w k b + nfld w.v 0 32 * 2 ^ 32) }

/-- The held half is released. -/
def State.release (s : State) (w : Wr) (b : Nat) : State :=
  { s with held := serase s.held (heldKey w.func w.page b w.code) }

/-- A write as it arrives, cut to its size; `whole` carries out a whole one. -/
def State.halves (s : State) (w : Wr) (k : Kind) (n : Nat) (whole : State → Wr → Eff) : Eff :=
  let w := if w.size = 8 then w else { w with value := BitVec.ofNat 64 (nfld w.v 0 32) }
  match wideBase k w.off with
  | none => whole s w
  | some b =>
    if w.size = 4 ∧ w.off = b then s.holdLow w k n
    else if w.size = 4 ∧ w.off = b + 4 then whole (s.release w b) (s.joined w k b)
    else whole (if w.size = 8 ∧ w.off = b then s.release w b else s) w

/-- A write of PR_DATA: the register PR_ADDR names is written by 0x02, under its write checks, LOCK, domain and
fence, and under no owner or protection check (R415). -/
def State.prData (s : State) (v : Nat) : State :=
  let page := if s.b1 pPROTR PROTR.PR_ADDR_PAGE then pAUDIOR else pAUDIO
  let k : Kind := if page = pAUDIO then .kAUDIO else .kAUDIOR
  let w : Wr := { func := 0, page := page, off := s.r1 pPROTR PROTR.PR_ADDR_OFFSET, size := 4, value := BitVec.ofNat 64 v, code := 0x02 }
  (s.halves w k 0 fun s w =>
    if s.locked 0 page && lockFreezes k w.off then w.drop s Ev.LOCKED_WRITE
    else if !s.domainOn 0 page then w.drop s Ev.DOMAIN_DOWN
    else if isDataPath k w.off && s.fenced 0 page then (s.barred w .refused, false)
    else s.take w k 0 fun s => if page = pAUDIO then s.audioWrite w false else s.routeWrite w false).1

/-- A write to a block-specific register of PROTECTED_ROUTES (R415, R417). -/
def State.protrWrite (s : State) (w : Wr) : Eff :=
  if w.off = 0x600 then
    w.require s (decide (0x100 ≤ w.f PROTR.PR_ADDR_OFFSET) && w.f PROTR.PR_ADDR_OFFSET % 4 == 0) Ev.BAD_VALUE (·.plain w)
  else if w.off = 0x604 then done (s.prData w.v)
  else s.plain w

/-- A whole write past the halves: checks, then effect. -/
def State.wholeWrite (s : State) (w : Wr) (k : Kind) (n : Nat) : Eff :=
  s.guarded w fun s => s.take w k n fun s => if k == .kPROTR then s.protrWrite w else s.blockWrite w k n

/-- The vector an offset of an MSI-X table page belongs to (R448, R449). -/
def tableVector (k : Kind) (n off : Nat) : Option Nat :=
  match k with
  | .hostMem => if 8 ≤ n ∧ n < 15 then some (((n - 8) * 4096 + off) / 16) else none
  | .hostVec => if n = 0 then some (1792 + off / 16) else none
  | _ => none

/-- One word of a table entry written: address and data are kept, bit 0 of vector control masks the vector (R448,
R449; the entry's layout is PRESUMED, log entry 131). -/
def State.vectorWord (s : State) (v j x : Nat) : State :=
  if j = 3 then (if nbit x 0 then s.vectorMask v else s.vectorUnmask v)
  else { s with host := { s.host with
    msix := sset 0 s.host.msix (4 * v + j) (BitVec.ofNat 32 (if j = 0 then x / 4 * 4 else x)) } }

/-- The host writes its MSI-X table, 4 or 8 aligned bytes (R448). Only the host reaches these pages. -/
def State.vectorTable (s : State) (w : Wr) (k : Kind) (n : Nat) : State :=
  match tableVector k n w.off with
  | none => s
  | some v =>
    let host := w.code == 0x01 || w.code == 0x02
    if !s.mainUp || !host || w.off % w.size != 0 then s
    else if w.size = 4 then s.vectorWord v (w.off % 16 / 4) w.v
    else if w.size = 8 then
      (s.vectorWord v (w.off % 16 / 4) (nfld w.v 0 32)).vectorWord v (w.off % 16 / 4 + 1) (nfld w.v 32 32)
    else s

/-- A register write on the bus: the state after it, and whether it was accepted. -/
def State.busWriteEff (s : State) (w : Wr) : Eff :=
  match pageKind w.func w.page with
  | none => (s, false)
  | some (k, n) =>
    if !k.isBlock then (s.vectorTable w k n, false)
    else s.halves w k n fun s w => s.wholeWrite w k n

def State.busWrite (s : State) (w : Wr) : State := (s.busWriteEff w).1

/-! ### Reads -/

/-- PAGE_ID (R27, R28). -/
def State.pageId (s : State) (k : Kind) (n : Nat) : W32 :=
  let level := if s.behaviour = 0 then s.compatMax else s.behaviour
  mkDetail [(level.toNat, 0), (1, 8), (n, 16), (k.code, 24)]

/-- PAGE_CAP (table "Page kinds"). -/
def State.pageCap (s : State) (k : Kind) (n : Nat) : W32 :=
  match k with
  | .kPOWER => 50
  | .kPINS => mkDetail [(128, 0), (4, 8), (2, 12)]
  | .kMEMCTL => BitVec.ofNat 32 s.variant.channels
  | .kTIMEBASE => 64
  | .kDATAPORTS => 16
  | .kINTC => 4096
  | .kINTCG => if 40 ≤ n then 1 else 0
  | .kDROVER => 32
  | .kAUDIO => mkDetail [(64, 0), (16, 8), (16, 16)]
  | .kAUDIOR => 256
  | .kFIELD => 4096
  | .kFP => 1
  | .kCV => 4
  | .kPOINTS => 16
  | .kCOMMANDS => 4096
  | .kSC => BitVec.ofNat 32 (n / 8)
  | .kHEAD => mkDetail [(10, 0), (1, 4)]
  | .kPE => if n = 32 then mkDetail [(8, 0), (1, 4)] else 8
  | .kVP => mkDetail [(3, 0), (2, 4), (1, 8)]
  | _ => 0

/-- STATUS of a block page: RUN while it is enabled, not FENCED and its domain ON; the bits that show a
condition of the block. -/
def State.statusWord (s : State) (func page : Nat) (k : Kind) (n : Nat) : W32 :=
  let v := (s.reg func page 0x00C).toNat
  let on := wfld (s.reg func page 0x008) 0 1 != 0 && !nbit v 1 && s.domainOn func page
  let bits : List (Nat × Bool) := match k with
    | .kCLOCKS => []
    | .kDV => [(0, on), (16, s.dvState n == dv.RUNNING), (17, s.dvStarving n)]
    | .kBLITTER => [(0, on), (18, s.blt.race.cur.isSome || s.blt.batch.cur.isSome || !s.blt.race.queue.isEmpty || !s.blt.batch.queue.isEmpty)]
    | .kAUDIO => [(0, on), (16, s.anyProt)]
    | .kCV => [(0, on), (16, s.cvBusy n)]
    | .kPOINTS => [(0, on), (16, s.commitStalled)]
    | .kBRANDS => [(0, on), (16, !s.points.buf.isEmpty)]
    | .kCOMMANDS => [(0, on), (16, s.dispatchOpen)]
    | .kJOURNAL => [(0, on), (16, !s.journalRoom 1)]
    | .kMIRROR => [(0, on), (18, s.arbIn)]
    | _ => [(0, on)]
  let word := BitVec.ofNat 32 (bits.foldl (fun v b => nset v b.1 1 (b2n b.2)) v)
  match k with
  | .kSC => (s.coreRead n 0x00C).getD word
  | _ => word

/-- A word of the history queue: entry `i`, word `j` (R30). -/
def histWord (h : PageHist) (i j : Nat) : W32 :=
  match h.entries[i]? with
  | none => 0
  | some e =>
    if j = 0 then BitVec.ofNat 32 e.tb.toNat
    else if j = 1 then BitVec.ofNat 32 (e.tb.toNat / 2 ^ 32)
    else if j = 2 then mkDetail [(e.code.toNat, 0), (e.seq.toNat, 16)]
    else e.detail

/-- A word of the common part (R26). -/
def State.commonWord (s : State) (func page : Nat) (k : Kind) (n off : Nat) : W32 :=
  let hp := histPage func page
  let h := (s.histOf hp.1 hp.2).settle s.fc s.stamp
  let view := k == .kSAPV
  let f := if view then 1 else func
  let p := if view then pgSAP n else page
  if off = 0x000 then s.pageId k n
  else if off = 0x004 then s.pageCap k n
  else if off = 0x00C then s.statusWord f p (if view then .kSAPPHIRE else k) n
  else if off = 0x018 then BitVec.ofNat 32 (s.owner f p).toNat
  else if off = 0x01C then (if s.locked f p then 0x4C4B else 0)
  else if off = 0x020 then mkDetail [(h.entries.length, 0), (h.overflow, 8)]
  else if 0x040 ≤ off ∧ off < 0x0C0 then histWord h ((off - 0x040) / 16) ((off - 0x040) / 4 % 4)
  else BitVec.ofNat 32 (s.reg f p off).toNat

/-- VSTAT.STATE (table "AUDIO registers"). -/
def VState.num : VState → Nat
  | .idle => 0 | .fetch => 1 | .preloaded => 2 | .attack => 3 | .sustain => 4 | .release => 5 | .stopping => 6

/-- ROUTE_STAT (R409, R413). -/
def State.routeStat (s : State) (r : Nat) : Nat :=
  let x := sget ({} : RouteSt) s.audio.routes r
  unsigned 16 x.gain.now + b2n (!x.gain.over) * 2 ^ 16 + b2n (s.protRoutes.contains r) * 2 ^ 17

/-- PEnn registers PE32 shows as those of the head it serves (R95, R137, R171). -/
def peShared (off : Nat) : Bool :=
  decide (off < 0x120) || decide (0x200 ≤ off ∧ off < 0x628) || decide (0x700 ≤ off ∧ off < 0x900)

/-- The page whose PE registers a read returns. -/
def State.peOf (s : State) (n off : Nat) : Nat :=
  if n = 32 ∧ peShared off ∧ s.servedBy s.relHead = 32 then s.relHead else n

/-- A register of a PE page (R113, R115, R136, R170). -/
def State.peValue (s : State) (n off : Nat) : Nat :=
  let m := s.peOf n off
  let p := pgPE m
  if off = 0x110 then (sget 0 s.palette (m * 4096 + s.r p PE.PAL_ADDR_INDEX) : W64).toNat
  else if off = 0x610 then (sget 0 s.flock (m * 4096 + s.r p PE.FLK_ADDR_WORD) : W32).toNat
  else if off = 0x614 then min 256 (s.eng m).flkQ.length
  else if off = 0x804 then s.lutAt m (s.r p PE.LUT_ADDR_BANK) (s.r p PE.LUT_ADDR_TABLE) (s.r p PE.LUT_ADDR_INDEX)
  else if 0x980 ≤ off ∧ n < 32 then 0
  else (s.pendReg p off).toNat

/-- A register of a HEAD page (R142, R145, R204). -/
def State.headValue (s : State) (h off : Nat) : Nat :=
  let p := pgHEAD h
  let v := (s.pendReg p off).toNat
  if off = 0x210 then s.beamDot h
  else if off = 0x21C then nset v 0 3 (s.lookahead h)
  else if off = 0x404 then
    let v := if s.runsFree h then nset v 0 2 0 else v
    nset (nset v 2 1 (b2n (s.bellwether == some h))) 3 1 (b2n (s.rateMismatch h))
  else v

/-- STATE of a waking domain that came from OFF: FILLING once its 4 µs of power-up have passed (R72). -/
def State.pdStatus (s : State) (d : Nat) : Nat :=
  let v := (s.reg 0 pPOWER (0x104 + 0x10 * d)).toNat
  let x := s.dom d
  if s.pdState d = 4 ∧ x.fromOff ∧ domainKiB d ≠ 0 ∧ x.wakeFc + 4 * usFc ≤ s.fc then nset v 0 3 5 else v

/-- DEVICE.VARIANT (table "DEVICE registers"). -/
def State.variantWord (s : State) : Nat :=
  s.variant.heads + s.variant.ports * 2 ^ 8 + s.variant.clusters * 2 ^ 12 + s.variant.memGiB / 8 * 2 ^ 16
    + s.stepping.toNat * 2 ^ 24

/-- The value of the register that starts at offset `b` of a block page, as a read without side effect shows
it. What the block does not hold as a register is computed; values the spec leaves open are free (log
entry 3). -/
def State.regValue (s : State) (func page : Nat) (k : Kind) (n b : Nat) : Nat :=
  let v := (s.reg func page b).toNat
  let free := Config.freeNat s.freeCtr
  match k with
  | .kDEVICE =>
    if b = 0x104 then s.variantWord else if b = 0x108 then s.behaviour.toNat
    else if b = 0x11C then s.compatMax.toNat else v
  | .kPOWER =>
    if 0x100 ≤ b ∧ b < 0x420 ∧ b % 0x10 = 4 then s.pdStatus ((b - 0x100) / 0x10)
    else if b = 0x508 ∧ s.b pCLOCKS CLOCKS.STATUS_SLOW_OK then free else v
  | .kPINS =>
    if 0x100 ≤ b ∧ b < 0x300 then nset v 12 1 (b2n (s.pinHeld ((b - 0x100) / 4)))
    else if 0x300 ≤ b ∧ b < 0x380 ∧ b % 0x20 = 0x14 then s.gpioIn ((b - 0x300) / 0x20)
    else if b = 0x380 then (List.range 4).foldl (fun a i => a + s.bankV i * 4 ^ i) 0
    else if b = 0x384 then s.straps.toNat
    else v
  | .kTIMEBASE => if b = 0x100 then s.tb.toNat else v
  | .kINTCG =>
    if b = 0x108 then maskOf n s.asserted
    else if b = 0x110 then (s.scanSources.group n).waiting.foldl (fun m e => m ||| 2 ^ e.1) 0
    else v
  | .kDROVER => if b = 0x100 then s.dvLast + b2n ((List.range 32).any s.dvRunnable) * 256 else v
  | .kBLITTER => if b = 0x118 then s.blt.race.queue.length + s.blt.batch.queue.length * 256 else v
  | .kAUDIO =>
    if 0xA00 ≤ b ∧ b < 0xB00 then
      (let x := (b - 0xA00) / 4
       (s.voice x).state.num + b2n (s.voiceProt x) * 128)
    else v
  | .kAUDIOR => if 0x104 ≤ b ∧ b % 8 = 4 then s.routeStat ((b - 0x104) / 8) else v
  | .kPOINTS =>
    if b = 0x13C then (match s.points.stallFc with | some f => (v + (s.fc - f)) % 2 ^ 32 | none => v) else v
  | .kBRANDS => if b = 0x118 then s.brandLevel else v
  | .kCOMMANDS =>
    let x := s.txn (s.r pCOMMANDS COMMANDS.TXN_SEL)
    if b = 0x128 then s.openTxns.length
    else if b = 0x134 then (if x.state = 0 then 0 else x.state + x.object * 16 + x.ring * 2 ^ 20)
    else if b = 0x138 then (if x.state = 0 then 0 else x.tag.toNat)
    else v
  | .kSC => (match s.coreRead n b with | some x => x.toNat | none => v)
  | .kHEAD => s.headValue n b
  | .kPE => s.peValue n b
  | .kHOST => if b = 0x104 then s.hdmSize else if b = 0x114 then s.host.tracked.length else v
  | .kSAFETY => if b = 0x10C then s.wdog / msFc else v
  | .kOWNERSHIP => if b = 0x104 then (match s.ownItem with | some i => (s.ownValue i).toNat | none => 0) else v
  | .kSAPPHIRE => if b = 0x110 then leNat (memRead s.sapRam (sapAddr n (s.r1 (pgSAP n) SAPPHIRE.SAP_ADDR_OFFSET)) 4) else v
  | _ => v

/-- The word at an aligned block-specific offset; reserved offsets read 0 (R10). -/
def State.blockWord (s : State) (func page : Nat) (k : Kind) (n off : Nat) : W32 :=
  match specAt k off with
  | none => 0
  | some (_, b) => BitVec.ofNat 32 (s.regValue func page k n b / 2 ^ (8 * (off - b)))

/-- A word of a table entry (R448; its reserved bits read 0, log entry 131). -/
def State.tableWord (s : State) (v j : Nat) : W32 :=
  if j = 3 then BitVec.ofNat 32 (b2n (!s.host.open_.contains v)) else sget 0 s.host.msix (4 * v + j)

/-- A word of a PBA: the bits of 32 vectors from `base + 8 * off` up (R448, R449). -/
def State.pbaWord (s : State) (base limit off : Nat) : W32 :=
  BitVec.ofNat 32 ((List.range 32).foldl (fun a i =>
    let v := base + 8 * off + i
    a + (if v < limit ∧ s.host.pba.contains v then 2 ^ i else 0)) 0)

/-- A word of a page that carries no common layout: the MSI-X tables and PBAs; the CXL ranges whose layout the
spec leaves to the standard are free (R448, log entries 3 and 131). -/
def State.hostWord (s : State) (k : Kind) (n off : Nat) : W32 :=
  match tableVector k n off with
  | some v => s.tableWord v (off % 16 / 4)
  | none =>
    if k == .hostMem && n == 15 then s.pbaWord 0 1792 off
    else if k == .hostVec then s.pbaWord 1792 2048 off
    else if k == .hostMem && decide (2 ≤ n ∧ n ≤ 7) then 0
    else BitVec.ofNat 32 (Config.freeNat s.freeCtr)

/-- Block-specific offsets of a view page that read as those of the Function 1 page; the others read 0 (R187). -/
def viewShows (off : Nat) : Bool := off != 0x110 && (decide (off < 0x200) || decide (0x400 ≤ off ∧ off < 0x800))

/-- The 32-bit word at an aligned offset of a page, as a read without side effect shows it (R1, R10, R40, R62,
R67, R187, R448, R472). -/
def State.word (s : State) (func page off : Nat) : W32 :=
  match pageKind func page with
  | none => 0
  | some (k, n) =>
    if !s.mainUp || !unitPresent s.variant k n then 0
    else if !k.isBlock then s.hostWord k n off
    else if off < 0x100 then s.commonWord func page k n off
    else if !s.domainOn func page then 0xFFFFFFFF
    else if k == .kSAPV && !viewShows off then 0
    else if isDataPath k off && s.fenced func page then 0xFFFFFFFF
    else if k == .kSAPV then s.blockWord 1 (pgSAP n) .kSAPPHIRE n off
    else s.blockWord func page k n off

/-- `n` bytes from an offset up (R23). -/
def State.pageBytes (s : State) (func page off : Nat) : Nat → List Byte
  | 0 => []
  | n + 1 => BitVec.ofNat 8 ((s.word func page (off / 4 * 4)).toNat / 256 ^ (off % 4)) :: s.pageBytes func page (off + 1) n

/-- The side effects of a legal read: SAP_DATA moves its offset, OWN_VALUE and OWN_FENCE show a bad selection (R37,
tables "OWN_STATUS" and "SAPPHIRE registers"). -/
def State.readEffect (s : State) (func page off : Nat) : State :=
  match pageKind func page with
  | some (.kSAPPHIRE, n) =>
    if off = 0x110 ∧ s.present 1 page ∧ s.domainOn 1 page ∧ !s.fenced 1 page then s.sapAdvance (pgSAP n) else s
  | some (.kOWNERSHIP, _) => if (off = 0x104 ∨ off = 0x108) ∧ s.ownItem.isNone then s.badSel.1 else s
  | _ => s

/-- A read of `n` bytes at an offset of a page: the state after it and the bytes. A read of a size or alignment
that is not legal has no side effect (R23). -/
def State.busRead (s : State) (func page off n : Nat) : State × List Byte :=
  let legal := match pageKind func page with
    | some (k, _) => sizeOk k off n
    | none => false
  let bs := s.pageBytes func page off n
  (if legal then (s.readEffect func page off).fresh else s.fresh, bs)

/-! ### The fabric register window (R24) -/

/-- A page the fabric does not show: the host's MSI-X and component pages (R448). -/
def hostOnly (func page : Nat) : Bool :=
  match pageKind func page with
  | some (k, _) => !k.isBlock
  | none => false

/-- A read by a core or the drover; a page only the host reaches is to them a reserved one (R24, R40, R448). -/
def State.fabricRead (s : State) (func page off n : Nat) : State × List Byte :=
  if hostOnly func page then (s, List.replicate n 0) else s.busRead func page off n

/-- A write by a core or the drover. -/
def State.fabricWrite (s : State) (w : Wr) : State := if hostOnly w.func w.page then s else s.busWrite w

end Sys2Proof.Machine
end

