-- ==== Sys2Proof/Machine/Fabric.lean ====
section
/-! DEFINITION. Paddock accesses one at a time, with the error effects of their words, and the drover's beats
(R387, R390, R392, R429 to R435, R472). -/

namespace Sys2Proof.Machine

/-- An access to a paddock that does not take it: a fenced one records the refusal (R472, R473). -/
def State.padRefused (s : State) (p : Nat) : State :=
  if s.fenced 0 (pgPK p) then s.accEventOpen 0 (pgPK p) Config.refusalCode.toNat else s

/-- What the words under a read have to report (R392). -/
def State.padEcc (s : State) (p off n : Nat) : State :=
  ((List.range ((off + n + 3) / 4 - off / 4)).map (fun i => (off / 4 + i) * 4)).foldl (fun s wo =>
    if s.padErrAt p wo = 2 then s.padUncorr p wo
    else if s.padErrAt p wo = 1 then s.inc (pgPK p) PK.ECC_CORRECTED else s) s

/-- A word under an access has a double-bit error. -/
def State.padBroken (s : State) (p off n : Nat) : Bool :=
  (List.range ((off + n + 3) / 4 - off / 4)).any (fun i => s.padErrAt p ((off / 4 + i) * 4) == 2)

/-- A read of a paddock: the state after it and the bytes, all ones where it is refused (R392, R472). -/
def State.padFetch (s : State) (p off n : Nat) : State × List Byte :=
  if s.padUp p then (s.padEcc p off n, s.padRead p off n) else (s.padRefused p, List.replicate n 0xFF)

/-- A plain write of a paddock, discarded where it is refused (R472). -/
def State.padStore (s : State) (p off : Nat) (bs : List Byte) : State :=
  if s.padUp p then s.padWrite p off bs else s.padRefused p

/-! ### Drover beats -/

/-- The owner code a channel's accesses carry (R429). -/
def State.dvCode (s : State) (n : Nat) : Code := s.owner 0 (pgDV n)

/-- An access outside the partition rights (R46, table "Drover fault codes"). -/
def State.dvPart (s : State) (n a : Nat) : State :=
  (s.event (pgDV n) Ev.PART_DENY (BitVec.ofNat 32 a)).dvFault n 6 a

/-- Bytes read at an address of a space, or the fault they raise. -/
def State.dvFetch (s : State) (n space a len : Nat) (err : Bool) : State × Option (List Byte) :=
  if space = 0 then
    if !s.canRead .drover a len then (s.dvPart n a, none)
    else
      let s := s.memWait.snoop a len
      if err then (s.dvFault n 7 a, none) else (s, some (memRead s.mem a len))
  else if space = 1 then
    let p := nfld a 20 3
    let broken := s.padUp p && s.padBroken p (a % 0x100000) len
    let r := s.padFetch p (a % 0x100000) len
    if broken then (r.1.dvFault n 7 a, none) else (r.1, some r.2)
  else if space = 2 then
    let r := s.fabricRead 0 (a / 0x1000) (a % 0x1000) len
    (r.1, some r.2)
  else
    let r := s.portRead (a / 0x10000) (a % 0x10000) len (s.dvCode n)
    (r.1, some r.2.1)

/-- One read beat of channel `n`: `len` bytes from its read position (R432). -/
def State.dvReadBeat (s : State) (n len : Nat) (err : Bool) : State :=
  let d := s.dvSide n false
  let x := s.dvst n
  let a := s.dvAddr n d x.readPos
  if d.outside a len then s.dvFault n 5 a
  else
    let r := s.dvFetch n d.space a len err
    match r.2 with
    | none => r.1
    | some bs =>
      let y := r.1.dvst n
      r.1.setDv n { y with readPos := x.readPos + len, staging := x.staging ++ bs }

/-- The bytes of a write beat in their space (R429, R434). -/
def State.dvPut (s : State) (n space a : Nat) (bs : List Byte) (collided : Bool) : State :=
  if space = 0 then s.memWait.devWrite .drover a bs
  else if space = 1 then
    let p := nfld a 20 3
    if collided && s.padUp p then
      let s := s.padCollision p (a % 0x100000 / 4 * 4) 8
      (s.inc (pgDV n) DV.COLLISIONS).statusBit (pgDV n) 4
    else s.padStore p (a % 0x100000) bs
  else if space = 2 then
    s.fabricWrite { func := 0, page := a / 0x1000, off := a % 0x1000, size := 4, value := BitVec.ofNat 64 (leNat bs), code := s.dvCode n }
  else s.portWrite (a / 0x10000) (a % 0x10000) (bs.map some) (s.dvCode n)

/-- Bytes written: REMAIN, and the count that a turn and a starved channel are measured by (R433). -/
def State.dvWrote (s : State) (n len : Nat) : State :=
  let x := s.dvst n
  let moved := x.moved + len
  let calm := x.starved && decide (256 ≤ moved)
  let s := s.setDv n { x with writePos := x.writePos + len, staging := x.staging.drop len, moved := moved
                              starved := x.starved && !calm, servedFc := if calm then s.fc else x.servedFc }
  s.w (pgDV n) DV.REMAIN (s.r (pgDV n) DV.REMAIN - len)

/-- One write beat of channel `n` (R432). -/
def State.dvWriteBeat (s : State) (n len : Nat) (collided : Bool) : State :=
  let d := s.dvSide n true
  let x := s.dvst n
  let a := s.dvAddr n d x.writePos
  if d.outside a len then s.dvFault n 5 a
  else if d.space = 0 ∧ !s.canWrite .drover a len then s.dvPart n a
  else (s.dvPut n d.space a (x.staging.take len) collided).dvWrote n len

/-- Channel `n` is chosen for a beat (R433). -/
def State.dvServe (s : State) (n : Nat) : State :=
  let x := s.dvst n
  let starving := s.dvStarving n
  let goes := if x.starved then true else s.dvLast == n && !starving && decide (x.moved < 256)
  let left := s.dvLast != n && !(s.dvst s.dvLast).staging.isEmpty
  let s := if left then s.inc pDROVER DROVER.PREEMPTIONS else s
  let s := (s.inc pDROVER DROVER.BEATS).setDv n
    { x with moved := if goes then x.moved else 0, starved := starving, servedFc := if starving then x.servedFc else s.fc }
  { s with dvLast := n, dvNext := s.fc + 1 }

/-- One beat of the drover engine, at most one in an fc. Reads run ahead as far as the staging buffer holds a further beat
(R432, R433). -/
def State.droverBeat (s : State) (err collided : Bool) : State :=
  if s.fc < s.dvNext then s
  else match s.dvPick with
  | none => s
  | some n =>
    let s := s.dvServe n
    let x := s.dvst n
    let rd := s.dvChunk n (s.dvSide n false) x.readPos 64
    if x.readPos < s.dvTotal n ∧ x.staging.length + rd ≤ 256 then s.dvReadBeat n rd err
    else s.dvWriteBeat n (min x.staging.length (s.dvChunk n (s.dvSide n true) x.writePos 64)) collided

/-- The last write of channel `n` has completed (R434). -/
def State.dvDone (s : State) (n : Nat) : State :=
  if s.dvState n = dv.RUNNING ∧ s.r (pgDV n) DV.REMAIN = 0
  then (s.w (pgDV n) DV.STATE dv.DONE).pendInt (pgDV n) 0 else s

end Sys2Proof.Machine
end

