-- ==== Sys2Proof/Machine/CrookMem.lean ====
section
/-! DEFINITION. What a shepherd core does around an instruction: its address map, store buffer, loads, stacks,
exceptions and interrupt entry (R345 to R353, R364 to R368, R375 to R382). -/

namespace Sys2Proof.Machine

/-! ### Addresses -/

/-- Bytes of an access. -/
def accBytes : AccSize → Nat
  | .b => 1 | .h => 2 | .w => 4

/-- The target of a core address (R347, R349). -/
def State.coreTarget (s : State) (c : Nat) (addr : W32) : Target :=
  let a := addr.toNat
  let cl := c / 8
  if a < 0x20000 then .iram a
  else if 0x100000 ≤ a ∧ a < 0x200000 then .pad cl (a - 0x100000)
  else if 0x200000 ≤ a ∧ a < 0x300000 then .padSet cl (a - 0x200000)
  else if 0x300000 ≤ a ∧ a < 0x400000 then .padClr cl (a - 0x300000)
  else if 0x1000000 ≤ a ∧ a < 0x1800000 then
    let p := (a - 0x1000000) / 0x100000
    if s.present 0 (pgPK p) then .pad p (a % 0x100000) else .bad
  else if 0x10000000 ≤ a ∧ a < 0x11000000 then .page 0 ((a - 0x10000000) / 0x1000) (a % 0x1000)
  else if 0x11020000 ≤ a ∧ a < 0x11040000 then .page 1 ((a - 0x11000000) / 0x1000) (a % 0x1000)
  else if 0x12000000 ≤ a ∧ a < 0x12100000 then .port ((a - 0x12000000) / 0x10000) (a % 0x10000)
  else if 0x40000000 ≤ a ∧ a < 0x80000000 then .mem ((s.core c).dmw0.toNat % 128 * 0x40000000 + (a - 0x40000000))
  else if 0x80000000 ≤ a ∧ a < 0xC0000000 then .mem ((s.core c).dmw1.toNat % 128 * 0x40000000 + (a - 0x80000000))
  else .bad

/-- What a store-buffer entry is ordered by: one number for each target (R378). -/
def Target.key : Target → Nat × Nat × Nat
  | .pad p _ => (0, p, 0)
  | .padSet p _ => (0, p, 0)
  | .padClr p _ => (0, p, 0)
  | .iram _ => (1, 0, 0)
  | .page f p _ => (2, f, p)
  | .port n _ => (3, n, 0)
  | .mem _ => (4, 0, 0)
  | .bad => (5, 0, 0)

/-- The physical location of a target within what `key` names (R379). -/
def Target.place : Target → Nat
  | .pad _ o => o
  | .padSet _ o => o
  | .padClr _ o => o
  | .iram o => o
  | .page _ _ o => o
  | .port _ o => o
  | .mem a => a
  | .bad => 0

/-- Register pages and apertures, whose loads are never forwarded (R380). -/
def Target.side : Target → Bool
  | .page _ _ _ => true
  | .port _ _ => true
  | _ => false

/-- Two accesses meet: their bytes do, or both go to one page or aperture. -/
def meets (a : Target) (n : Nat) (b : Target) (m : Nat) : Bool :=
  a.key == b.key && (a.side || (decide (a.place < b.place + m) && decide (b.place < a.place + n)))

/-- A plain store entry that contains every byte of an access (R379, path 2). -/
def StoreEnt.covers (e : StoreEnt) (t : Target) (n : Nat) : Bool :=
  (match e.target with
    | .padSet _ _ => false
    | .padClr _ _ => false
    | _ => true)
  && e.target.key == t.key && decide (e.target.place ≤ t.place) && decide (t.place + n ≤ e.target.place + e.size)

/-! ### Performing stores and loads -/

/-- A device-memory access refused under R46 (R349). -/
def State.coreDeny (s : State) (c a : Nat) : State :=
  ((s.w (pgSC c) SC.STATUS_PART_DENY 1).pendInt (pgSC c) 1).event (pgSC c) Ev.PART_DENY (BitVec.ofNat 32 a)

/-- Bits set or cleared in paddock bytes (R391). -/
def State.padMask (s : State) (p off : Nat) (bs : List Byte) (clear : Bool) : State :=
  if s.padUp p then
    let old := s.padRead p off bs.length
    s.padWrite p off (List.zipWith (fun o m => if clear then o &&& ~~~m else o ||| m) old bs)
  else s.padRefused p

/-- The owner code of core `c`'s accesses (R25). -/
def coreCode (c : Nat) : Code := BitVec.ofNat 8 (0x10 + c)

/-- A store-buffer entry performed by its target (R349, R378, R391). -/
def State.corePerform (s : State) (c : Nat) (e : StoreEnt) : State :=
  let bs := leBytes e.size e.data.toNat
  match e.target with
  | .pad p o => s.padStore p o bs
  | .padSet p o => s.padMask p o bs false
  | .padClr p o => s.padMask p o bs true
  | .iram o => if s.domainOn 0 (pgSC c) then { s with iram := memWrite s.iram (iramAddr (c / 8) o) bs } else s
  | .page f p o =>
    s.fabricWrite { func := f, page := p, off := o, size := e.size, value := BitVec.ofNat 64 e.data.toNat, code := coreCode c }
  | .port n o => s.portWrite n o (bs.map some) (coreCode c)
  | .mem a => if s.canWrite .core a e.size then s.memWait.devWrite .core a bs else s.coreDeny c a
  | .bad => s

/-- What a load reads at its target, in `n` bytes (R347, R349, R391). -/
def State.coreFetch (s : State) (c : Nat) (t : Target) (n : Nat) : State × W32 :=
  let num := fun (r : State × List Byte) => (r.1, BitVec.ofNat 32 (leNat r.2))
  match t with
  | .pad p o => num (s.padFetch p o n)
  | .padSet p o => num (s.padFetch p o n)
  | .padClr p o => num (s.padFetch p o n)
  | .iram o => num (s, s.iramRead (c / 8) o n)
  | .page f p o => num (s.fabricRead f p o n)
  | .port k o => let r := s.portRead k o n (coreCode c); num (r.1, r.2.1)
  | .mem a =>
    if s.canRead .core a n then num (s.memWait.snoop a n, memRead s.mem a n)
    else num (s.coreDeny c a, List.replicate n 0xFF)
  | .bad => (s, 0)

/-- The loaded value as it reaches its register (R355). -/
def extend (n : Nat) (sx : Bool) (v : W32) : W32 :=
  let u := v.toNat % 256 ^ n
  if sx then BitVec.ofInt 32 (signed (8 * n) u) else BitVec.ofNat 32 u

/-- Cycles a core has waited, which R13 leaves open, counted in `f`. -/
def State.stall (s : State) (c : Nat) (f : Fld) : State :=
  let k := Config.stallCc s.freeCtr
  s.fresh.inc (pgSC c) f k

/-- The data of the load at place `i` returns: its register takes it (R375). A load of the same target that came
first returns first (R381). -/
def State.loadReturn (s : State) (c i : Nat) : State :=
  let x := s.core c
  match x.loads[i]? with
  | none => s
  | some l =>
    if (x.loads.take i).any (fun e => e.target.key == l.target.key) then s
    else
      let s := s.setCore c { x with loads := x.loads.eraseIdx i }
      let r := match l.data with
        | some v => (s, v)
        | none => s.coreFetch c l.target l.size
      r.1.setCore c ((r.1.core c).put l.d (extend l.size l.sx r.2))

/-- Every outstanding load returns, oldest first. -/
def State.returnAll (s : State) (c : Nat) : State := (s.core c).loads.foldl (fun t _ => t.loadReturn c 0) s

/-- A load issued before this store that has yet to read its place. -/
def Core.loadFirst (x : Core) (e : StoreEnt) : Bool :=
  x.loads.any (fun l => l.data.isNone && meets l.target l.size e.target e.size)

/-- The store-buffer entry at place `i` is performed (R378): entries of its target that came first are sent
first, and a load issued before it has read. -/
def State.storeDrain (s : State) (c i : Nat) : State :=
  let x := s.core c
  match x.stores[i]? with
  | none => s
  | some e =>
    if (x.stores.take i).any (fun f => f.target.key == e.target.key) || x.loadFirst e then s
    else (s.setCore c { x with stores := x.stores.eraseIdx i }).corePerform c e

/-- The oldest entry is performed, after the loads it has to wait for. -/
def State.drainOldest (s : State) (c : Nat) : State :=
  let x := s.core c
  match x.stores with
  | [] => s
  | e :: _ => (if x.loadFirst e then s.returnAll c else s).storeDrain c 0

/-- Every entry is performed, oldest first. -/
def State.drainAll (s : State) (c : Nat) : State := (s.core c).stores.foldl (fun t _ => t.drainOldest c) s

/-- Entries are performed, oldest first, until none satisfies `p`; `n` entries at most. -/
def State.drainWhile (s : State) (c : Nat) (p : StoreEnt → Bool) : Nat → State
  | 0 => s
  | n + 1 => if (s.core c).stores.any p then (s.drainOldest c).drainWhile c p n else s

/-- Stores drained and loads returned: FENCE, IFLUSH, HALT and ORD (R355, R357, R363). -/
def State.settleCore (s : State) (c : Nat) : State := (s.drainAll c).returnAll c

/-- An instruction waits for pending registers it reads or writes (R375); `n` loads at most. -/
def State.awaitRegs (s : State) (c : Nat) (regs : List Nat) : Nat → State
  | 0 => s
  | n + 1 =>
    if (s.core c).loads.any (fun l => regs.any (fun r => r % 16 == l.d % 16))
    then ((s.loadReturn c 0).stall c SC.LOAD_WAIT_CC).awaitRegs c regs n else s

/-- A store enters the buffer (R377). -/
def State.putStore (s : State) (c : Nat) (e : StoreEnt) : State :=
  let s := if 8 ≤ (s.core c).stores.length then (s.drainOldest c).stall c SC.SB_FULL_CC else s
  s.setCore c { s.core c with stores := (s.core c).stores ++ [e] }

/-- The three paths of R379, and R380: the state in which the load is presented, and the data forwarded to it. -/
def State.loadPath (s : State) (c : Nat) (t : Target) (n : Nat) : State × Option W32 :=
  let hit := fun (e : StoreEnt) => meets e.target e.size t n
  match (s.core c).stores.reverse.find? hit with
  | none => (s, none)
  | some e =>
    if t.side then (s.drainWhile c hit 8, none)
    else if e.covers t n then (s, some (e.data >>> (8 * (t.place - e.target.place))))
    else (((s.drainWhile c hit 8).inc (pgSC c) SC.PARTIAL_STALLS).stall c SC.PARTIAL_STALL_CC, none)

/-- A load is issued: a fifth one waits for the oldest to return (R375). -/
def State.putLoad (s : State) (c d : Nat) (t : Target) (n : Nat) (sx : Bool) : State :=
  let s := if 4 ≤ (s.core c).loads.length then s.loadReturn c 0 else s
  let r := s.loadPath c t n
  let s := r.1
  s.setCore c { s.core c with loads := (s.core c).loads ++ [{ d := d, target := t, size := n, sx := sx, data := r.2 }] }

/-- A load whose instruction waits for it, as refills do (R375): loads of its target come first (R381). -/
def State.loadNow (s : State) (c : Nat) (t : Target) (n : Nat) : State × W32 :=
  let s := if (s.core c).loads.any (fun l => l.target.key == t.key) then s.returnAll c else s
  let r := s.loadPath c t n
  match r.2 with
  | some v => (r.1, v)
  | none => r.1.coreFetch c t n

/-! ### Stacks -/

/-- Spills that `n` pushes onto a stack of `len` entries out of `cap` in the core need. -/
def spills (len cap n : Nat) : Nat := len + n - cap

/-- The data stack takes `n` more entries (R351). -/
def Core.dsFits (x : Core) (n : Nat) : Bool :=
  let k := spills x.ds.length 8 n
  k == 0 || decide (x.dsp.toNat + 4 * k ≤ x.dsHi.toNat)

/-- The return stack takes one more entry (R352). -/
def Core.rsFits (x : Core) : Bool :=
  decide (x.rs.length < 16) || decide (x.rsp.toNat + 4 ≤ x.rsHi.toNat)

/-- Free entries of the return stack (R352). -/
def Core.rsFree (x : Core) : Nat := (16 - x.rs.length) + (x.rsHi.toNat - x.rsp.toNat) / 4

/-- Entries the data stack yields: those in the core, and those spilled, down to the entry at which DSP meets
DS_LO (R351). -/
def Core.dsHolds (x : Core) (n : Nat) : Bool :=
  (List.range (n - x.ds.length)).all (fun i => x.dsp - BitVec.ofNat 32 (4 * i) != x.dsLo)

def Core.rsHolds (x : Core) : Bool := !x.rs.isEmpty || x.rsp != x.rsLo

/-- A word of the core's spill area as a store goes there (R351). -/
def spillEnt (c : Nat) (off v : W32) : StoreEnt := { target := .pad (c / 8) (off.toNat % 0x100000), size := 4, data := v }

/-- A push onto the data stack that fits (R351). -/
def State.dsPush (s : State) (c : Nat) (v : W32) : State :=
  let x := s.core c
  let s := if x.ds.length < 8 then s
    else match x.ds.getLast? with
      | some bottom =>
        let s := s.putStore c (spillEnt c x.dsp bottom)
        s.setCore c { s.core c with ds := x.ds.dropLast, dsp := x.dsp + 4 }
      | none => s
  s.setCore c { s.core c with ds := v :: (s.core c).ds }

/-- The data stack holds `n` entries in the core, refilled one at a time (R351); `n` refills at most. -/
def State.dsRefill (s : State) (c need : Nat) : Nat → State
  | 0 => s
  | n + 1 =>
    let x := s.core c
    if need ≤ x.ds.length then s
    else
      let p := x.dsp - 4
      let r := s.loadNow c (.pad (c / 8) (p.toNat % 0x100000)) 4
      let y := r.1.core c
      (r.1.setCore c { y with ds := y.ds ++ [r.2], dsp := p }).dsRefill c need n

/-- A pop from the data stack that has an entry. -/
def State.dsPop (s : State) (c : Nat) : State × W32 :=
  let s := s.dsRefill c 1 1
  let x := s.core c
  (s.setCore c { x with ds := x.ds.tail }, x.ds.headD 0)

/-- A push onto the return stack that fits (R352). -/
def State.rsPush (s : State) (c : Nat) (v : W32) : State :=
  let x := s.core c
  let s := if x.rs.length < 16 then s
    else match x.rs.getLast? with
      | some bottom =>
        let s := s.putStore c (spillEnt c x.rsp bottom)
        s.setCore c { s.core c with rs := x.rs.dropLast, rsp := x.rsp + 4 }
      | none => s
  s.setCore c { s.core c with rs := v :: (s.core c).rs }

/-- The top of the return stack, read from the spill area where the core holds none. -/
def State.rsTop (s : State) (c : Nat) : State × W32 :=
  let x := s.core c
  match x.rs with
  | v :: _ => (s, v)
  | [] => s.loadNow c (.pad (c / 8) ((x.rsp - 4).toNat % 0x100000)) 4

/-- The top of the return stack removed. -/
def State.rsDrop (s : State) (c : Nat) : State :=
  let x := s.core c
  match x.rs with
  | _ :: l => s.setCore c { x with rs := l }
  | [] => s.setCore c { x with rsp := x.rsp - 4 }

/-! ### Exceptions and interrupts -/

/-- A return-stack entry of KIND 1 (R353). -/
def Core.entryWord (x : Core) (ret : Nat) : W32 :=
  mkDetail [(ret % 0x20000, 0), (b2n x.n, 17), (b2n x.z, 18), (b2n x.c, 19), (b2n x.v, 20), (b2n x.k, 21),
    (x.rprio % 8, 22), (b2n x.ie, 25), (1, 31)]

/-- A call entry (R353). -/
def callWord (ret : Nat) : W32 := BitVec.ofNat 32 (ret % 0x20000)

/-- The core goes into LOCKUP (R368). -/
def State.lockUp (s : State) (c : Nat) : State :=
  let x := s.core c
  let s := s.setCore c { x with lockup := true, running := false, halted := false, waiting := none, irq := none }
  ((s.w (pgSC c) SC.STATUS_LOCKUP 1).pendInt (pgSC c) 0).event (pgSC c) Ev.LOCKUP (BitVec.ofNat 32 x.pc)

/-- A core that has entered a handler at its PC: the window fetched again, 4 cc and the refetch counted (R365, R374). -/
def State.entered (s : State) (c : Nat) : State :=
  let x := s.core c
  (s.setCore c { x with cycles := x.cycles + BitVec.ofNat 32 (4 + s.refetchCc c x.pc) }).refetch c

/-- Entry into a handler: the entry of KIND 1 pushed and IE cleared, or LOCKUP (R365, R368). -/
def State.enter (s : State) (c ret : Nat) (eff : Core → Core) (log : State → State) : State :=
  let x := s.core c
  if x.rsFits then
    let s := s.rsPush c (x.entryWord ret)
    log ((s.setCore c (eff { s.core c with ie := false })).entered c)
  else s.lockUp c

/-- An exception is taken (R365). -/
def State.exception (s : State) (c cause detail : Nat) (eaddr : W32) (ret : Nat) : State :=
  s.enter c ret
    (fun x => { x with ecause := mkDetail [(cause, 0), (detail, 8)], eaddr := eaddr, pc := x.evec.toNat % 0x20000 })
    (fun s => s.event (pgSC c) Ev.EXCEPTION (mkDetail [(cause, 0), (detail, 8), (eaddr.toNat % 65536, 16)]))

/-- A delivered interrupt is entered at the boundary the core stands at (R366). -/
def State.interruptEntry (s : State) (c : Nat) : State :=
  let x := s.core c
  match x.irq with
  | none => s
  | some (src, p) =>
    if !s.coreUp c || !x.running || s.fenced 0 (pgSC c) || x.lockup then s
    else
      let s := s.setCore c { x with irq := none, halted := false, waiting := none }
      s.enter c x.pc
        (fun y => { y with rprio := p, isrc := BitVec.ofNat 32 src, pc := y.ivec.toNat % 0x20000 }) id

/-! ### Issue -/

/-- What an instruction comes to: the next instruction runs, a jump, or an exception with its cause, detail and
EADDR (R364). The state of an exception is the one before the instruction's effect. -/
inductive Res where
  | next (s : State)
  | jump (s : State) (pc : Nat)
  | exc (s : State) (cause detail : Nat) (eaddr : W32)

abbrev cause.ILLEGAL : Nat := 0x01
abbrev cause.FETCH_FAULT : Nat := 0x02
abbrev cause.BUS_ERROR : Nat := 0x03
abbrev cause.MISALIGN : Nat := 0x04
abbrev cause.DS_OVERFLOW : Nat := 0x05
abbrev cause.DS_UNDERFLOW : Nat := 0x06
abbrev cause.RS_OVERFLOW : Nat := 0x07
abbrev cause.RS_UNDERFLOW : Nat := 0x08
abbrev cause.RS_KIND : Nat := 0x09
abbrev cause.DIV_ZERO : Nat := 0x0A
abbrev cause.TRAP : Nat := 0x0B

/-- An exception whose EADDR is the instruction's address. -/
def State.excHere (s : State) (c cause : Nat) : Res := .exc s cause 0 (BitVec.ofNat 32 (s.core c).pc)

/-- An instruction of `len` bytes and `cc` issue cycles that reads or writes `regs` runs on core `c` (R348, R357,
R364, R375). A core that does not issue runs none (log entry 5). -/
def State.instr (s : State) (c len cc : Nat) (regs : List Nat) (f : State → Res) : State :=
  if !s.coreIssues c then s
  else
    let pc := (s.core c).pc
    if 0x20000 < pc + len then s.exception c cause.FETCH_FAULT 0 (BitVec.ofNat 32 pc) pc
    else match f (s.awaitRegs c regs 4) with
      | .next s => s.complete c len cc
      | .jump s t => s.redirect c t cc
      | .exc s k d a =>
        if k = cause.TRAP
        then (s.setCore c { s.core c with cycles := (s.core c).cycles + BitVec.ofNat 32 cc }).exception c k d a (pc + len)
        else s.exception c k d a pc

end Sys2Proof.Machine
end

