-- ==== Sys2Proof/Machine/CrookAlu.lean ====
section
/-! DEFINITION. Crook arithmetic, logic, shifts, multiplication, division, bit and CRC instructions (R354, R357,
R358, R361, R364). -/

namespace Sys2Proof.Machine

/-- Bytes of a form R, I8 or I32 instruction (R354). -/
def opndLen : Opnd → Nat
  | .reg _ => 2 | .imm8 _ => 3 | .imm32 _ => 6

/-- The register a source operand reads. -/
def opndRegs : Opnd → List Nat
  | .reg r => [r]
  | _ => []

/-- The value of b (R357). -/
def Core.operand (x : Core) (b : Opnd) : W32 :=
  match b with
  | .reg r => x.get r
  | .imm8 v => v.signExtend 32
  | .imm32 v => v

/-- N and Z of a result (R358). -/
def Core.nz (x : Core) (r : W32) : Core := { x with n := r.msb, z := r == 0 }

/-- Flags of a + b + carry-in and the sum (R358). A subtraction is the sum with ~b. -/
def Core.sum (x : Core) (a b : W32) (cin : Bool) : Core × W32 :=
  let r := a + b + BitVec.ofNat 32 (b2n cin)
  let wide := a.toNat + b.toNat + b2n cin
  let exact := a.toInt + b.toInt + (b2n cin : Int)
  ({ x.nz r with c := decide (2 ^ 32 ≤ wide), v := decide (exact ≠ r.toInt) }, r)

/-- A result with N and Z in register d. -/
def Core.result (x : Core) (d : Nat) (r : W32) : Core := (x.nz r).put d r

/-- An ALU instruction d ← d op b: `op` gives the core it leaves (R357). -/
def State.alu (s : State) (c d : Nat) (b : Opnd) (op : Core → W32 → W32 → Core) : State :=
  s.instr c (opndLen b) 1 (d :: opndRegs b) fun s =>
    let x := s.core c
    .next (s.setCore c (op x (x.get d) (x.operand b)))

/-- A form R instruction on d and s in `cc` cycles. -/
def State.regOp (s : State) (c d r cc : Nat) (op : Core → W32 → W32 → Core) : State :=
  s.instr c 2 cc [d, r] fun s =>
    let x := s.core c
    .next (s.setCore c (op x (x.get d) (x.get r)))

/-- A sum written to d. -/
def Core.sumTo (x : Core) (d : Nat) (a b : W32) (cin : Bool) : Core :=
  let r := x.sum a b cin
  r.1.put d r.2

/-! ### Moves and sums -/

def execMov (c d : Nat) (b : Opnd) (s : State) : Host.Outcome State Fault Refusal :=
  .next (s.alu c d b fun x _ b => x.put d b)

def execAdd (c d : Nat) (b : Opnd) (s : State) : Host.Outcome State Fault Refusal :=
  .next (s.alu c d b fun x a b => x.sumTo d a b false)

def execSub (c d : Nat) (b : Opnd) (s : State) : Host.Outcome State Fault Refusal :=
  .next (s.alu c d b fun x a b => x.sumTo d a (~~~b) true)

def execAdc (c d : Nat) (b : Opnd) (s : State) : Host.Outcome State Fault Refusal :=
  .next (s.alu c d b fun x a b => x.sumTo d a b x.c)

def execSbc (c d : Nat) (b : Opnd) (s : State) : Host.Outcome State Fault Refusal :=
  .next (s.alu c d b fun x a b => x.sumTo d a (~~~b) x.c)

def execCmp (c d : Nat) (b : Opnd) (s : State) : Host.Outcome State Fault Refusal :=
  .next (s.alu c d b fun x a b => (x.sum a (~~~b) true).1)

def execNeg (c d r : Nat) (s : State) : Host.Outcome State Fault Refusal :=
  .next (s.regOp c d r 1 fun x _ b => x.sumTo d 0 (~~~b) true)

/-! ### Logic -/

def execAnd (c d : Nat) (b : Opnd) (s : State) : Host.Outcome State Fault Refusal :=
  .next (s.alu c d b fun x a b => x.result d (a &&& b))

def execOr (c d : Nat) (b : Opnd) (s : State) : Host.Outcome State Fault Refusal :=
  .next (s.alu c d b fun x a b => x.result d (a ||| b))

def execXor (c d : Nat) (b : Opnd) (s : State) : Host.Outcome State Fault Refusal :=
  .next (s.alu c d b fun x a b => x.result d (a ^^^ b))

def execTst (c d : Nat) (b : Opnd) (s : State) : Host.Outcome State Fault Refusal :=
  .next (s.alu c d b fun x a b => x.nz (a &&& b))

def execNot (c d r : Nat) (s : State) : Host.Outcome State Fault Refusal :=
  .next (s.regOp c d r 1 fun x _ b => x.result d (~~~b))

/-! ### Shifts: the amount is b mod 32; C is the last bit shifted out (R357, R358) -/

/-- The amount of a shift or rotate. -/
def shiftBy (b : W32) : Nat := b.toNat % 32

/-- A shifted value with N, Z and, for an amount other than 0, C. -/
def Core.shiftTo (x : Core) (d n : Nat) (r : W32) (out : Bool) : Core :=
  { x.result d r with c := if n = 0 then x.c else out }

def execShl (c d : Nat) (b : Opnd) (s : State) : Host.Outcome State Fault Refusal :=
  .next (s.alu c d b fun x a b => let n := shiftBy b; x.shiftTo d n (a <<< n) (a.getLsbD (32 - n)))

def execShr (c d : Nat) (b : Opnd) (s : State) : Host.Outcome State Fault Refusal :=
  .next (s.alu c d b fun x a b => let n := shiftBy b; x.shiftTo d n (a >>> n) (a.getLsbD (n - 1)))

def execSar (c d : Nat) (b : Opnd) (s : State) : Host.Outcome State Fault Refusal :=
  .next (s.alu c d b fun x a b => let n := shiftBy b; x.shiftTo d n (a.sshiftRight n) (a.getLsbD (n - 1)))

def execRol (c d : Nat) (b : Opnd) (s : State) : Host.Outcome State Fault Refusal :=
  .next (s.alu c d b fun x a b => x.result d (a.rotateLeft (shiftBy b)))

/-! ### Multiplication and division -/

def execMul (c d r : Nat) (s : State) : Host.Outcome State Fault Refusal :=
  .next (s.regOp c d r 2 fun x a b => x.result d (a * b))

def execMulhu (c d r : Nat) (s : State) : Host.Outcome State Fault Refusal :=
  .next (s.regOp c d r 2 fun x a b => x.result d (BitVec.ofNat 32 (a.toNat * b.toNat / 2 ^ 32)))

def execMulhs (c d r : Nat) (s : State) : Host.Outcome State Fault Refusal :=
  .next (s.regOp c d r 2 fun x a b => x.result d (BitVec.ofInt 32 (a.toInt * b.toInt / 2 ^ 32)))

/-- A division: by 0 it raises DIV_ZERO and changes nothing (R358). -/
def State.division (s : State) (c d r : Nat) (op : Core → W32 → W32 → Core) : State :=
  s.instr c 2 18 [d, r] fun s =>
    let x := s.core c
    if x.get r = 0 then s.excHere c cause.DIV_ZERO else .next (s.setCore c (op x (x.get d) (x.get r)))

def execDivu (c d r : Nat) (s : State) : Host.Outcome State Fault Refusal :=
  .next (s.division c d r fun x a b => { x.result d (a / b) with v := false })

def execDivs (c d r : Nat) (s : State) : Host.Outcome State Fault Refusal :=
  .next (s.division c d r fun x a b =>
    { x.result d (BitVec.ofInt 32 (a.toInt.tdiv b.toInt)) with v := a == 0x80000000 && b == 0xFFFFFFFF })

def execRemu (c d r : Nat) (s : State) : Host.Outcome State Fault Refusal :=
  .next (s.division c d r fun x a b => x.result d (a % b))

def execRems (c d r : Nat) (s : State) : Host.Outcome State Fault Refusal :=
  .next (s.division c d r fun x a b => x.result d (BitVec.ofInt 32 (a.toInt.tmod b.toInt)))

/-! ### Bits -/

/-- The 1 bits among the low `n` of `v`. -/
def ones (v : Nat) : Nat → Nat
  | 0 => 0
  | n + 1 => ones v n + b2n (nbit v n)

/-- The 0 bits above the highest 1 of the low `n` bits of `v`. -/
def leadingZeros (v : Nat) : Nat → Nat
  | 0 => 0
  | n + 1 => if nbit v n then 0 else leadingZeros v n + 1

def execPar (c d r : Nat) (s : State) : Host.Outcome State Fault Refusal :=
  .next (s.regOp c d r 1 fun x _ b => x.result d (BitVec.ofNat 32 (ones b.toNat 32 % 2)))

def execBrev (c d r : Nat) (s : State) : Host.Outcome State Fault Refusal :=
  .next (s.regOp c d r 1 fun x _ b => x.result d (BitVec.ofNat 32 (bitRev 32 b.toNat)))

def execBrevb (c d r : Nat) (s : State) : Host.Outcome State Fault Refusal :=
  .next (s.regOp c d r 1 fun x _ b =>
    x.result d (BitVec.ofNat 32 (leNat ((leBytes 4 b.toNat).map (fun y => BitVec.ofNat 8 (bitRev 8 y.toNat))))))

def execClz (c d r : Nat) (s : State) : Host.Outcome State Fault Refusal :=
  .next (s.regOp c d r 1 fun x _ b => x.result d (BitVec.ofNat 32 (leadingZeros b.toNat 32)))

def execPopc (c d r : Nat) (s : State) : Host.Outcome State Fault Refusal :=
  .next (s.regOp c d r 1 fun x _ b => x.result d (BitVec.ofNat 32 (ones b.toNat 32)))

def execBswap (c d r : Nat) (s : State) : Host.Outcome State Fault Refusal :=
  .next (s.regOp c d r 1 fun x _ b => x.result d (BitVec.ofNat 32 (leNat (leBytes 4 b.toNat).reverse)))

/-! ### CRC contexts (R361) -/

/-- A core's CRC context and its replacement. -/
def Core.crc (x : Core) (k : Nat) : CrcCtx :=
  if k = 0 then x.crc0 else if k = 1 then x.crc1 else if k = 2 then x.crc2 else x.crc3

def Core.setCrc (x : Core) (k : Nat) (v : CrcCtx) : Core :=
  if k = 0 then { x with crc0 := v } else if k = 1 then { x with crc1 := v }
  else if k = 2 then { x with crc2 := v } else { x with crc3 := v }

/-- The parameter set of a context. -/
def CrcCtx.set (v : CrcCtx) : CvSet := CvSet.of v.cfg.toNat v.poly.toNat v.init.toNat

/-- The context after bytes in that order (R263, R264). -/
def CrcCtx.feed (v : CrcCtx) (bs : List Byte) : CrcCtx :=
  { v with state := BitVec.ofNat 32 (bs.foldl v.set.byte v.state.toNat) }

/-- A CRC instruction naming context `k`; one above 3 raises ILLEGAL (R358). -/
def State.crcOp (s : State) (c k cc : Nat) (regs : List Nat) (op : Core → Core) : State :=
  s.instr c 2 cc regs fun s =>
    if 3 < k then s.excHere c cause.ILLEGAL else .next (s.setCore c (op (s.core c)))

def execCrcb (c ctx r : Nat) (s : State) : Host.Outcome State Fault Refusal :=
  .next (s.crcOp c ctx 1 [r] fun x => x.setCrc ctx ((x.crc ctx).feed (leBytes 1 (x.get r).toNat)))

def execCrcw (c ctx r : Nat) (s : State) : Host.Outcome State Fault Refusal :=
  .next (s.crcOp c ctx 2 [r] fun x => x.setCrc ctx ((x.crc ctx).feed (leBytes 4 (x.get r).toNat)))

def execCrcf (c d ctx : Nat) (s : State) : Host.Outcome State Fault Refusal :=
  .next (s.crcOp c ctx 1 [d] fun x =>
    let v := x.crc ctx
    x.result d (BitVec.ofNat 32 (v.set.final v.state.toNat)))

def execCrci (c ctx : Nat) (s : State) : Host.Outcome State Fault Refusal :=
  .next (s.crcOp c ctx 1 [] fun x =>
    let v := x.crc ctx
    x.setCrc ctx { v with state := v.init })

end Sys2Proof.Machine
end

