-- ==== Sys2Proof/Machine/CrookStack.lean ====
section
/-! DEFINITION. Crook stack, load and store instructions (R350, R351, R355, R357, R360, R375 to R382). -/

namespace Sys2Proof.Machine

/-! ### Stack instructions -/

/-- A stack instruction: it has `need` entries and room for `room` more once they are there, or raises the
stack's exception with nothing changed (R351). -/
def State.stackOp (s : State) (c len cc : Nat) (regs : List Nat) (need room : Nat) (f : State → State) : State :=
  s.instr c len cc regs fun s =>
    let x := s.core c
    if !x.dsHolds need then s.excHere c cause.DS_UNDERFLOW
    else
      let held := max need x.ds.length
      let dsp := x.dsp - BitVec.ofNat 32 (4 * (need - x.ds.length))
      if !({ x with ds := List.replicate held 0, dsp := dsp } : Core).dsFits room then s.excHere c cause.DS_OVERFLOW
      else .next (f s)

/-- Entries `i` of the data stack as it stands in the core. -/
def Core.dsAt (x : Core) (i : Nat) : W32 := x.ds.getD i 0

def execDup (c : Nat) (s : State) : Host.Outcome State Fault Refusal :=
  .next (s.stackOp c 1 1 [] 1 1 fun s =>
    let s := s.dsRefill c 1 1
    s.dsPush c ((s.core c).dsAt 0))

def execDrop (c : Nat) (s : State) : Host.Outcome State Fault Refusal :=
  .next (s.stackOp c 1 1 [] 1 0 fun s => (s.dsPop c).1)

def execSwap (c : Nat) (s : State) : Host.Outcome State Fault Refusal :=
  .next (s.stackOp c 1 1 [] 2 0 fun s =>
    let s := s.dsRefill c 2 2
    let x := s.core c
    s.setCore c { x with ds := x.dsAt 1 :: x.dsAt 0 :: x.ds.drop 2 })

def execOver (c : Nat) (s : State) : Host.Outcome State Fault Refusal :=
  .next (s.stackOp c 1 1 [] 2 1 fun s =>
    let s := s.dsRefill c 2 2
    s.dsPush c ((s.core c).dsAt 1))

def execPush (c r : Nat) (s : State) : Host.Outcome State Fault Refusal :=
  .next (s.stackOp c 2 1 [r] 0 1 fun s => s.dsPush c ((s.core c).get r))

def execPop (c d : Nat) (s : State) : Host.Outcome State Fault Refusal :=
  .next (s.stackOp c 2 1 [d] 1 0 fun s =>
    let r := s.dsPop c
    r.1.setCore c ((r.1.core c).put d r.2))

def execPushi (c : Nat) (imm : BitVec 32) (s : State) : Host.Outcome State Fault Refusal :=
  .next (s.stackOp c 5 1 [] 0 1 fun s => s.dsPush c imm)

/-- The registers a mask names, lowest first. -/
def maskRegs (mask : BitVec 16) : List Nat := (List.range 16).filter (fun i => mask.getLsbD i)

/-- PUSHM and POPM with mask 0 raise ILLEGAL (R358). -/
def State.maskOp (s : State) (c : Nat) (mask : BitVec 16) (need room : Nat) (f : State → State) : State :=
  if mask = 0 then s.instr c 3 1 [] fun s => s.excHere c cause.ILLEGAL
  else s.stackOp c 3 (maskRegs mask).length (maskRegs mask) need room f

def execPushm (c : Nat) (mask : BitVec 16) (s : State) : Host.Outcome State Fault Refusal :=
  .next (s.maskOp c mask 0 (maskRegs mask).length fun s =>
    (maskRegs mask).foldl (fun t i => t.dsPush c ((t.core c).get i)) s)

def execPopm (c : Nat) (mask : BitVec 16) (s : State) : Host.Outcome State Fault Refusal :=
  .next (s.maskOp c mask (maskRegs mask).length 0 fun s =>
    (maskRegs mask).reverse.foldl (fun t i =>
      let r := t.dsPop c
      r.1.setCore c ((r.1.core c).put i r.2)) s)

/-! ### Loads and stores -/

/-- The displacement, sign-extended, and its bytes in the instruction (R354). -/
def dispValue : Disp → W32
  | .d16 v => v.signExtend 32
  | .d32 v => v

def dispLen : Disp → Nat
  | .d16 _ => 2
  | .d32 _ => 4

/-- Prefix bytes of an access (R355). -/
def prefixLen (size : AccSize) (sx ord : Bool) : Nat := b2n (decide (size ≠ .w)) + b2n sx + b2n ord

/-- The access at a core address: BUS_ERROR and MISALIGN before anything happens (R347, R350, R382), either one
where both apply, then what it does to its target; ORD waits first (R355). -/
def State.accessAt (s : State) (c : Nat) (addr : W32) (n : Nat) (ord : Bool) (f : State → Target → State) : Res :=
  let t := s.coreTarget c addr
  let odd := addr.toNat % n != 0
  if odd && decide (t = .bad) then
    .exc s.fresh (if Config.freeBool s.freeCtr then cause.MISALIGN else cause.BUS_ERROR) 0 addr
  else if odd then .exc s cause.MISALIGN 0 addr
  else if t = .bad then .exc s cause.BUS_ERROR 0 addr
  else .next (f (if ord then s.settleCore c else s) t)

def execLd (c d base : Nat) (disp : Disp) (size : AccSize) (sx ord : Bool) (s : State) :
    Host.Outcome State Fault Refusal :=
  .next (s.instr c (2 + dispLen disp + prefixLen size sx ord) 1 [d, base] fun s =>
    if sx && decide (size = .w) then s.excHere c cause.ILLEGAL
    else
      let n := accBytes size
      s.accessAt c ((s.core c).get base + dispValue disp) n ord fun s t => s.putLoad c d t n sx)

/-- A store of the low bytes of a value (R360). -/
def State.storeAt (s : State) (c : Nat) (addr v : W32) (size : AccSize) (ord : Bool) : Res :=
  let n := accBytes size
  s.accessAt c addr n ord fun s t =>
    s.putStore c { target := t, size := n, data := BitVec.ofNat 32 (v.toNat % 256 ^ n) }

def execSt (c base : Nat) (disp : Disp) (r : Nat) (size : AccSize) (ord : Bool) (s : State) :
    Host.Outcome State Fault Refusal :=
  .next (s.instr c (2 + dispLen disp + prefixLen size false ord) 1 [base, r] fun s =>
    s.storeAt c ((s.core c).get base + dispValue disp) ((s.core c).get r) size ord)

def execSti (c base : Nat) (disp imm : BitVec 32) (size : AccSize) (ord : Bool) (s : State) :
    Host.Outcome State Fault Refusal :=
  .next (s.instr c (10 + prefixLen size false ord) 1 [base] fun s =>
    s.storeAt c ((s.core c).get base + disp) imm size ord)

/-- The data of an outstanding load returns (R375). -/
def execLoadReturn (c idx : Nat) (s : State) : Host.Outcome State Fault Refusal := .next (s.loadReturn c idx)

/-- A store-buffer entry is performed (R378). -/
def execStoreDrain (c idx : Nat) (s : State) : Host.Outcome State Fault Refusal := .next (s.storeDrain c idx)

end Sys2Proof.Machine
end

