-- ==== Sys2Proof/Machine/CrookFlow.lean ====
section
/-! DEFINITION. Crook control flow, special registers, waiting instructions, exceptions raised by encoding, and the
commands that act on a core (R345, R346, R352, R353, R357, R359, R362 to R368). -/

namespace Sys2Proof.Machine

/-! ### Branches, calls, returns -/

/-- The condition of Bcc (R359). -/
def Core.holds (x : Core) (cc : BitVec 4) : Bool :=
  match cc.toNat with
  | 0 => true
  | 1 => x.z
  | 2 => !x.z
  | 3 => x.n != x.v
  | 4 => x.n == x.v
  | 5 => !x.c
  | 6 => x.c
  | 7 => !x.z && x.n == x.v
  | 8 => x.z || x.n != x.v
  | 9 => x.c && !x.z
  | 10 => !x.c || x.z
  | 11 => x.n
  | 12 => !x.n
  | 13 => x.v
  | 14 => !x.v
  | _ => x.k

/-- Branch distance and instruction length (R354). -/
def relValue : Rel → Int
  | .r8 v => v.toInt
  | .r32 v => v.toInt

def relLen : Rel → Nat
  | .r8 _ => 2
  | .r32 _ => 5

/-- The address `rel` bytes on from `pc`, in the 17 bits of PC (R345, R354). -/
def pcPlus (pc : Nat) (rel : Int) : Nat := unsigned 17 ((pc : Int) + rel)

def execBcc (c : Nat) (cc : BitVec 4) (rel : Rel) (s : State) : Host.Outcome State Fault Refusal :=
  let taken := (s.core c).holds cc
  .next (s.instr c (relLen rel) (if taken then 2 else 1) [] fun s =>
    if taken then .jump s (pcPlus ((s.core c).pc + relLen rel) (relValue rel)) else .next s)

/-- CALL and CALLR: fewer than 2 free entries left raise RS_OVERFLOW (R352). -/
def State.callTo (s : State) (c len : Nat) (regs : List Nat) (target : Core → Nat) : State :=
  s.instr c len 2 regs fun s =>
    let x := s.core c
    if x.rsFree < 3 then s.excHere c cause.RS_OVERFLOW
    else .jump (s.rsPush c (callWord (x.pc + len))) (target x)

def execCall (c : Nat) (rel : BitVec 32) (s : State) : Host.Outcome State Fault Refusal :=
  .next (s.callTo c 5 [] fun x => pcPlus (x.pc + 5) rel.toInt)

def execCallr (c r : Nat) (s : State) : Host.Outcome State Fault Refusal :=
  .next (s.callTo c 2 [r] fun x => (x.get r).toNat)

def execJmpr (c r : Nat) (s : State) : Host.Outcome State Fault Refusal :=
  .next (s.instr c 2 2 [r] fun s => .jump s ((s.core c).get r).toNat)

/-- RET and RETI pop an entry of their KIND (R353, R357, R364). -/
def State.returnWith (s : State) (c cc kind : Nat) (eff : Core → W32 → Core) : State :=
  s.instr c 1 cc [] fun s =>
    if !(s.core c).rsHolds then s.excHere c cause.RS_UNDERFLOW
    else
      let r := s.rsTop c
      let s := r.1
      if nfld r.2.toNat 31 1 ≠ kind then s.excHere c cause.RS_KIND
      else
        let s := s.rsDrop c
        .jump (s.setCore c (eff (s.core c) r.2)) (nfld r.2.toNat 0 17)

def execRet (c : Nat) (s : State) : Host.Outcome State Fault Refusal :=
  .next (s.returnWith c 2 0 fun x _ => x)

/-- RETI restores the flags, RPRIO and IE (R367). -/
def execReti (c : Nat) (s : State) : Host.Outcome State Fault Refusal :=
  .next (s.returnWith c 3 1 fun x e =>
    { x with n := e.getLsbD 17, z := e.getLsbD 18, c := e.getLsbD 19, v := e.getLsbD 20, k := e.getLsbD 21
             rprio := nfld e.toNat 22 3, ie := e.getLsbD 25 })

/-! ### IE and TRAP -/

def execEi (c : Nat) (s : State) : Host.Outcome State Fault Refusal :=
  .next (s.instr c 1 1 [] fun s => .next (s.setCore c { s.core c with ie := true }))

def execDi (c : Nat) (s : State) : Host.Outcome State Fault Refusal :=
  .next (s.instr c 1 1 [] fun s => .next (s.setCore c { s.core c with ie := false }))

def execTrap (c : Nat) (imm : BitVec 8) (s : State) : Host.Outcome State Fault Refusal :=
  .next (s.instr c 2 1 [] fun s => .exc s cause.TRAP imm.toNat (BitVec.ofNat 32 (s.core c).pc))

/-! ### Special registers (R345, R346) -/

/-- FLAGS and STAT as words. -/
def Core.flagsWord (x : Core) : W32 :=
  mkDetail [(b2n x.n, 0), (b2n x.z, 1), (b2n x.c, 2), (b2n x.v, 3), (b2n x.k, 4)]

def Core.statWord (x : Core) : W32 := mkDetail [(b2n x.ie, 0), (x.rprio, 1)]

/-- What MFS reads; none for an unlisted index. -/
def State.specialRead (s : State) (c i : Nat) : Option W32 :=
  let x := s.core c
  if i = 0x00 then some x.flagsWord
  else if i = 0x01 then some x.statWord
  else if i = 0x02 then some (mkDetail [(c, 0), (c / 8, 8)])
  else if i = 0x03 then some (BitVec.ofNat 32 x.ds.length)
  else if i = 0x04 then some x.dsp
  else if i = 0x05 then some x.dsLo
  else if i = 0x06 then some x.dsHi
  else if i = 0x07 then some (BitVec.ofNat 32 x.rs.length)
  else if i = 0x08 then some x.rsp
  else if i = 0x09 then some x.rsLo
  else if i = 0x0A then some x.rsHi
  else if i = 0x0B then some x.evec
  else if i = 0x0C then some x.ivec
  else if i = 0x0D then some x.ecause
  else if i = 0x0E then some x.eaddr
  else if i = 0x0F then some x.isrc
  else if i = 0x10 then some (BitVec.ofNat 32 s.tb.toNat)
  else if i = 0x11 then some (BitVec.ofNat 32 (s.tb.toNat / 2 ^ 32))
  else if i = 0x12 then some x.cycles
  else if i = 0x13 then some x.dmw0
  else if i = 0x14 then some x.dmw1
  else if 0x20 ≤ i ∧ i < 0x24 then some (x.crc (i - 0x20)).cfg
  else if 0x24 ≤ i ∧ i < 0x28 then some (x.crc (i - 0x24)).poly
  else if 0x28 ≤ i ∧ i < 0x2C then some (x.crc (i - 0x28)).init
  else if 0x2C ≤ i ∧ i < 0x30 then some (x.crc (i - 0x2C)).state
  else none

/-- A context under a new CFG: what lies above its width is masked away (R346). -/
def CrcCtx.reconfigure (k : CrcCtx) (cfg : W32) : CrcCtx :=
  let w := nfld cfg.toNat 0 7
  if w < nfld k.cfg.toNat 0 7 then
    let cut := fun (v : W32) => BitVec.ofNat 32 (v.toNat % 2 ^ w)
    { cfg := cfg, poly := cut k.poly, init := cut k.init, state := cut k.state }
  else { k with cfg := cfg }

/-- The core as MTS leaves it; none for an unlisted or RO index and for a value with a reserved bit set. -/
def Core.specialWrite (x : Core) (i : Nat) (v : W32) : Option Core :=
  let n := v.toNat
  let bound := fun (y : Core) => if n % 4 = 0 then some y else none
  if i = 0x00 then
    (if n < 32 then some { x with n := v.getLsbD 0, z := v.getLsbD 1, c := v.getLsbD 2, v := v.getLsbD 3, k := v.getLsbD 4 } else none)
  else if i = 0x01 then (if n < 16 then some { x with ie := v.getLsbD 0, rprio := nfld n 1 3 } else none)
  else if i = 0x04 then bound { x with dsp := v }
  else if i = 0x05 then bound { x with dsLo := v }
  else if i = 0x06 then bound { x with dsHi := v }
  else if i = 0x08 then bound { x with rsp := v }
  else if i = 0x09 then bound { x with rsLo := v }
  else if i = 0x0A then bound { x with rsHi := v }
  else if i = 0x0B then (if n < 0x20000 then some { x with evec := v } else none)
  else if i = 0x0C then (if n < 0x20000 then some { x with ivec := v } else none)
  else if i = 0x13 then (if n < 128 then some { x with dmw0 := v } else none)
  else if i = 0x14 then (if n < 128 then some { x with dmw1 := v } else none)
  else if 0x20 ≤ i ∧ i < 0x24 then
    let w := nfld n 0 7
    if n < 0x2000 ∧ !nbit n 7 ∧ 1 ≤ w ∧ w ≤ 32 then
      let k := i - 0x20
      some (x.setCrc k ((x.crc k).reconfigure v))
    else none
  else if 0x24 ≤ i ∧ i < 0x28 then
    let k := i - 0x24
    if n < 2 ^ nfld (x.crc k).cfg.toNat 0 7 then some (x.setCrc k { x.crc k with poly := v }) else none
  else if 0x28 ≤ i ∧ i < 0x2C then
    let k := i - 0x28
    if n < 2 ^ nfld (x.crc k).cfg.toNat 0 7 then some (x.setCrc k { x.crc k with init := v }) else none
  else if 0x2C ≤ i ∧ i < 0x30 then
    let k := i - 0x2C
    some (x.setCrc k { x.crc k with state := v })
  else none

def execMfs (c d : Nat) (index : BitVec 8) (s : State) : Host.Outcome State Fault Refusal :=
  .next (s.instr c 3 1 [d] fun s => match s.specialRead c index.toNat with
    | some v => .next (s.setCore c ((s.core c).put d v))
    | none => s.excHere c cause.ILLEGAL)

def execMts (c : Nat) (index : BitVec 8) (r : Nat) (s : State) : Host.Outcome State Fault Refusal :=
  .next (s.instr c 3 1 [r] fun s =>
    let x := s.core c
    match x.specialWrite index.toNat (x.get r) with
    | some y => .next (s.setCore c y)
    | none => s.excHere c cause.ILLEGAL)

/-! ### Waiting -/

def execNop (c : Nat) (s : State) : Host.Outcome State Fault Refusal :=
  .next (s.instr c 1 1 [] .next)

/-- FENCE waits until stores have drained and loads have returned. -/
def execFence (c : Nat) (s : State) : Host.Outcome State Fault Refusal :=
  .next (s.instr c 1 1 [] fun s => .next (s.settleCore c))

/-- IFLUSH waits as FENCE does and fetches again from the next instruction on; its refetch adds to its 2 cc (R363,
R374). -/
def execIflush (c : Nat) (s : State) : Host.Outcome State Fault Refusal :=
  .next (s.instr c 1 3 [] fun s => .jump (s.settleCore c) ((s.core c).pc + 1))

/-- HALT completes with every request done; the core then stands halted at the next instruction (R363). -/
def execHalt (c : Nat) (s : State) : Host.Outcome State Fault Refusal :=
  .next (s.instr c 1 1 [] fun s =>
    let s := s.settleCore c
    .next (s.setCore c { s.core c with halted := true }))

/-- WAITL completes with Z, or waits at its own address (R362). -/
def State.waitl (s : State) (c d r : Nat) : State :=
  let ready := s.coreIssues c && decide ((s.core c).pc + waitlLen ≤ 0x20000)
  let x := ((s.awaitRegs c [d, r] 4).core c)
  let h := nfld (x.get d).toNat 0 5
  let l0 := nfld (x.get r).toNat 0 12
  let l1 := nfld (x.get r).toNat 16 12
  let v := (s.mode h).vTot
  let off := !s.present 0 (pgHEAD h) || !s.enabled (pgHEAD h) || decide (v ≤ l0) || decide (v ≤ l1)
  if ready && !off && !inWindow l0 l1 (s.beam h) then
    let s := s.awaitRegs c [d, r] 4
    s.setCore c { s.core c with waiting := some (h, l0, l1) }
  else s.instr c waitlLen 2 [d, r] fun s => .next (s.setCore c { s.core c with z := !off })

def execWaitl (c d r : Nat) (s : State) : Host.Outcome State Fault Refusal := .next (s.waitl c d r)

/-- The beam enters the window of a waiting WAITL (R362); a delivered interrupt is entered instead (R366). -/
def execWaitlWake (c : Nat) (s : State) : Host.Outcome State Fault Refusal :=
  .next (match (s.core c).waiting with
    | some (h, l0, l1) => if inWindow l0 l1 (s.beam h) && (s.core c).irq.isNone then s.waitlEnd c true else s
    | none => s)

/-! ### Exceptions and entries -/

/-- An instruction that raises ILLEGAL by its bytes (R355, R356, R364). -/
def execIllegal (c : Nat) (s : State) : Host.Outcome State Fault Refusal :=
  .next (s.instr c 0 0 [] fun s => s.excHere c cause.ILLEGAL)

/-- An instruction whose bytes would extend beyond the instruction RAM (R348, R364). -/
def execFetchFault (c : Nat) (s : State) : Host.Outcome State Fault Refusal :=
  .next (s.instr c 0 0 [] fun s => s.excHere c cause.FETCH_FAULT)

def execInterruptEntry (c : Nat) (s : State) : Host.Outcome State Fault Refusal := .next (s.interruptEntry c)

end Sys2Proof.Machine
end

