-- ==== Sys2Proof/Machine/MirrorApply.lean ====
section
/-! DEFINITION. Journal entries applied: by kind, in replay, as received from the partner, and after a received
checkpoint (R292, R309, R315, R316, R326, R333, R335, R341). -/

namespace Sys2Proof.Machine

def entryEpoch (e : List Byte) : Nat := fieldLE e 16 4
def entryKind (e : List Byte) : Nat := fieldLE e 20 2
def entryCont (e : List Byte) : Bool := nbit (fieldLE e 22 2) 0
def entryPayload (e : List Byte) : List Byte := (e.drop 24).take 36

/-- The entry's CRC word matches (R314). -/
def entryGood (e : List Byte) : Bool := fieldLE e 60 4 == (crc32c (e.take 60)).toNat

/-- POINT_COMMIT under R292: the commit as it was made, where the device holds that point. -/
def State.applyPoint (s : State) (seq : Nat) (b : List Byte) : State :=
  let p := fieldLE b 0 4
  if s.active pPOINTS && decide (p < s.r pPOINTS POINTS.REC_COUNT) && (s.pointRec p).valid then
    s.applyCommit p 0 (nbit (fieldLE b 20 1) 3) (fieldLE b 4 4) (fieldLE b 8 2) (fieldLE b 12 8) (some seq)
  else s

/-- The entry of the transaction table a CMD_STEP names: freed by a result, else set to its state with the timer
started at the state's time (R309, R326). Its ring and opener, which the entry does not carry, stay as known. -/
def State.applyStep (s : State) (b : List Byte) : State :=
  let t := fieldLE b 0 2 % 4096
  if fieldLE b 3 1 ≠ 0xFF then s.setTxn t {}
  else
    let st := fieldLE b 2 1
    let o := fieldLE b 4 2
    let time := BitVec.ofNat 64 (fieldLE b 12 8)
    let old := s.txn t
    let known := old.state != 0
    let old := if known then old
      else { old with opened := s.txnCount, ring := Config.freeNat s.freeCtr % 16, opener := BitVec.ofNat 8 (Config.freeNat (s.freeCtr + 1)) }
    let x : Txn := { old with
      state := st, object := o, tally := BitVec.ofNat 16 (fieldLE b 6 2), tag := BitVec.ofNat 32 (fieldLE b 8 4)
      mirrored := true, rearmed := none, start := time, channel := (s.cmdObj o).channel
      holds := decide (st ≠ 1 ∧ st ≠ 8)
      window := if st = 4 then time else old.window
      lastBit := if st = 3 ∨ st = 6 then time else old.lastBit }
    ({ s.fresh.fresh with txnCount := if known then s.txnCount else s.txnCount + 1 } : State).setTxn t x

/-- The entry of the transaction table a TXN_STATE names, its timer rearmed at EXPIRY (R315, R326). In SELECTED
that is the end of what the window leaves before OP_MARGIN. -/
def State.applyTxn (s : State) (b : List Byte) : State :=
  let t := fieldLE b 0 2 % 4096
  let st := fieldLE b 2 1
  let o := fieldLE b 4 2
  let expiry := BitVec.ofNat 64 (fieldLE b 12 8)
  let c := s.cmdObj o
  let old := s.txn t
  let known := old.state != 0
  let x : Txn := { old with
    state := st, object := o, tally := BitVec.ofNat 16 (fieldLE b 6 2), tag := BitVec.ofNat 32 (fieldLE b 8 4)
    ring := fieldLE b 20 1 % 16, opener := BitVec.ofNat 8 (fieldLE b 21 1)
    mirrored := true, rearmed := some expiry, channel := c.channel, holds := decide (st ≠ 1 ∧ st ≠ 8)
    opened := if known then old.opened else s.txnCount
    window := if st = 4 then expiry - BitVec.ofNat 64 ((c.window - c.margin) * msTick) else old.window }
  ({ s with txnCount := if known then s.txnCount else s.txnCount + 1 } : State).setTxn t (if st = 0 then {} else x)

/-- REG_WRITE: the write, with writer code 0x7E (R326, R333). -/
def State.applyReg (s : State) (b : List Byte) : State :=
  s.busWrite { func := 0, page := fieldLE b 0 2, off := fieldLE b 2 2, size := fieldLE b 4 1
               value := BitVec.ofNat 64 (fieldLE b 8 8), code := 0x7E }

/-- One entry by its KIND (R326). -/
def State.applyEntry (s : State) (e : List Byte) : State :=
  let k := entryKind e
  let b := entryPayload e
  if k = JK.POINT_COMMIT then s.applyPoint (entrySeq e) b
  else if k = JK.CMD_STEP then s.applyStep b
  else if k = JK.TXN_STATE then s.applyTxn b
  else if k = JK.REG_WRITE then s.applyReg b
  else if k = JK.EPOCH ∨ k = JK.CHECKPOINT ∨ k = JK.CP_MARK ∨ k = JK.USER then s
  else s.incSat pJOURNAL JOURNAL.REPLAY_UNKNOWN

/-- A whole record: applied by the KIND of its entries, written to the journal, the sequence moved past it and
the epoch taken (R326). -/
def State.applyRecord (s : State) (chain : List (List Byte)) : State :=
  let s := chain.foldl (fun t e => t.applyEntry e) s
  let s := chain.foldl (fun t e => t.jVerbatim e) s
  let s := s.w pJOURNAL JOURNAL.NEXT_SEQ (s.nextSeq + chain.length)
  match chain.getLast? with
  | some e => s.w pMIRROR MIRROR.EPOCH (max s.epoch (entryEpoch e))
  | none => s

/-- A record can be applied now: the journal buffer takes its entries, and a commit in it finds the brand write buffer's
room (R286, R298, R320). -/
def State.recordRoom (s : State) (chain : List (List Byte)) : Bool :=
  s.jTakes chain.length && (s.brandRoom || !chain.any (fun e => entryKind e == JK.POINT_COMMIT))

/-- Replay of `n` entries from address `a`; `chain` is the record begun, oldest first. The REASON it ends with, or 0
where it waits for room with that many entries left (R326). -/
def State.replayLoop (s : State) (a : Nat) (chain : List (List Byte)) : Nat → State × Nat × Nat
  | 0 => (s, if chain.isEmpty then 1 else 4, 0)
  | n + 1 =>
    let e := s.devRead .journal a 64
    if !entryGood e then (s, 2, n)
    else if entrySeq e ≠ s.nextSeq + chain.length then (s, 3, n)
    else if entryCont e then s.replayLoop (a + 64) (chain ++ [e]) n
    else if !s.recordRoom (chain ++ [e]) then (s, 0, n + 1 + chain.length)
    else (s.applyRecord (chain ++ [e])).replayLoop (a + 64) [] n

/-- The replay under way has finished, or goes as far as there is room and waits (R286). A memory error stops it after a
number of entries the command does not tell (R326). Replay runs only in RESYNC: a device that has left it applies
nothing. -/
def State.replayFinish (s : State) (memErr : Bool) : State :=
  if !s.journal.replay then s
  else if s.role ≠ 3 then
    { (s.w pJOURNAL JOURNAL.STATUS_REPLAYING 0) with journal := { s.journal with replay := false, replayAt := 0 } }
  else
    let s := s.memWait
    let all := s.r pJOURNAL JOURNAL.REPLAY_COUNT
    let first := s.nextSeq
    let past := if s.journal.replayAt = 0 then 0 else s.r pJOURNAL JOURNAL.REPLAY_STAT_APPLIED
    let count := all - s.journal.replayAt
    let src := s.r pJOURNAL JOURNAL.REPLAY_SRC + 64 * s.journal.replayAt
    let r := if memErr
      then let t := s.fresh.replayLoop src [] (Config.freeNat s.freeCtr % (max count 1))
           (t.1, if t.2.1 = 2 ∨ t.2.1 = 3 then t.2.1 else 5, 0)
      else s.replayLoop src [] count
    let s := r.1
    let s := s.w pJOURNAL JOURNAL.REPLAY_STAT_APPLIED (past + (s.nextSeq - first))
    if r.2.1 = 0 then { s with journal := { s.journal with replayAt := all - r.2.2 } }
    else
      let s := { s with journal := { s.journal with replay := false, replayAt := 0 } }
      let s := s.w pJOURNAL JOURNAL.REPLAY_STAT_REASON r.2.1
      let s := (s.w pJOURNAL JOURNAL.STATUS_REPLAYING 0).pendInt pJOURNAL 1
      if r.2.1 = 1 then s else s.statusBit pJOURNAL 5

/-- APPLIED_NEXT follows what has been applied from the link. -/
def State.appliedNext (s : State) : State := s.w pMIRROR MIRROR.APPLIED_NEXT s.nextSeq

/-- A received entry in its turn: a record that is whole is applied (R326, R341). -/
def State.applyInTurn (s : State) (e : List Byte) : State :=
  let chain := s.mirror.chain ++ [e]
  if entryCont e then { s with mirror := { s.mirror with chain := chain } }
  else (({ s with mirror := { s.mirror with chain := [] } } : State).applyRecord chain).appliedNext

/-- A received entry that waits is written to the staging ring (R318, R341). -/
def State.holdEntry (s : State) (e : List Byte) : State :=
  let s := s.devWrite .journal (s.r pJOURNAL JOURNAL.STAGE_BASE + entrySeq e % s.stageCap * 64) e
  { s with mirror := { s.mirror with held := s.mirror.held ++ [e] } }

/-- One received entry; `none` asks for the stream again. An entry already taken is passed over, and one past a
gap is not taken; nor is one for which there is no room yet: it is not acknowledged, and comes again (R286, R335). -/
def State.rxEntry (s : State) (e : List Byte) : Option State :=
  if !entryGood e then none
  else if entrySeq e ≠ s.rxNext then some s
  else if s.rxHolds then (if s.stageCap ≤ s.mirror.held.length then none else some (s.holdEntry e))
  else if !entryCont e && !s.recordRoom (s.mirror.chain ++ [e]) then some s
  else some (s.applyInTurn e)

/-- The entries of a frame, 64 bytes each. -/
def entriesOf (n : Nat) (bytes : List Byte) : List (List Byte) :=
  (List.range n).map (fun i => (bytes.drop (64 * i)).take 64)

/-- The entries of a frame in order, up to one the device cannot apply. -/
def State.rxEntries (s : State) : List (List Byte) → Option State
  | [] => some s
  | e :: es => (s.rxEntry e).bind (fun t => t.rxEntries es)

/-- Entries that wait are applied in order as far as there is room (R341). -/
def State.drainHeld (s : State) : List (List Byte) → State
  | [] => { s with mirror := { s.mirror with held := [] } }
  | e :: l =>
    if !entryCont e && !s.recordRoom (s.mirror.chain ++ [e]) then { s with mirror := { s.mirror with held := e :: l } }
    else (s.applyInTurn e).drainHeld l

/-- JOURNAL received (R316, R334, R335, R341); a device that follows nobody acknowledges it and takes nothing. -/
def State.journalIn (s : State) (bytes : List Byte) : State :=
  if s.role = 1 ∨ (s.role = 3 ∧ s.mirror.resyncing) then
    let s := s.memWait
    let s := if s.mirror.cpWait || s.journal.cpOwn || s.journal.cpNext.isSome then s else s.drainHeld s.mirror.held
    match s.rxEntries (entriesOf (bytes.length / 64) bytes) with
    | some t => ((t.sendAck t.rxNext).resyncCheck).promoteCheck
    | none => if s.role = 3 then s.resyncFail else s.sendAck s.rxNext
  else s.sendAck s.rxNext

/-- A checkpoint of the partner's is in the device's own slot: the entries it holds are applied in order, from
the checkpoint's SEQ + 1 (R341). -/
def State.applyHeld (s : State) : State :=
  let s := { s with mirror := { s.mirror with chain := [] }, journal := { s.journal with cpOwn := false } }
  let s := (s.w pJOURNAL JOURNAL.NEXT_SEQ (s.mirror.cpSeq.toNat + 1)).appliedNext
  (s.drainHeld s.mirror.held).resyncCheck

/-- A checkpoint write ends (R324, R341); a received one that waited for it is written next. -/
def State.cpFinish (s : State) (ok : Bool) : State :=
  let own := s.journal.cpOwn && s.journal.cpBusy.isSome
  let s := s.cpDone ok
  if !own then
    match s.journal.cpNext, s.journal.cpBusy with
    | some (src, len, seq), none =>
      ({ s with journal := { s.journal with cpNext := none } } : State).cpBegin src len seq true
    | _, _ => s
  else if s.role = 3 then s.applyHeld
  else { s with journal := { s.journal with cpOwn := false }, mirror := { s.mirror with held := [], chain := [] } }

end Sys2Proof.Machine
end

