-- ==== Sys2Proof/Machine/Image.lean ====
section
/-! DEFINITION. The configuration image: its header and section table, its sections record by record, and the
verdict of validation (R36, R85 to R89, R119, R139, R163, R224, R313, R344, R371, R418, R491). A record is judged
by carrying it out on a device at its reset values under the image's own partitions; START carries the same
records out on the device itself. -/

namespace Sys2Proof.Machine

/-- Where the image lies (R85). -/
def imgBase : Nat := 0xA00000000

/-- Bytes and numbers of the image, by image offset. -/
def State.imgBytes (s : State) (off n : Nat) : List Byte := memRead s.mem (imgBase + off) n
def State.img (s : State) (off n : Nat) : Nat := leNat (s.imgBytes off n)

/-- BODY_LEN and the image's length in bytes. -/
def State.imgBody (s : State) : Nat := s.img 0x08 4
def State.imgEnd (s : State) : Nat := 64 + s.imgBody

/-- A section-table entry (R87). -/
structure Section where
  idx  : Nat
  type : Nat
  off  : Nat
  len  : Nat
  crc  : Nat
deriving DecidableEq, Repr

def State.section (s : State) (i : Nat) : Section :=
  let e := 64 + 16 * i
  { idx := i, type := s.img e 2, off := s.img (e + 4) 4, len := s.img (e + 8) 4, crc := s.img (e + 12) 4 }

def State.sections (s : State) : List Section := (List.range (s.img 0x10 2)).map s.section

/-- The section of a type. -/
def State.sectionOf (s : State) (type : Nat) : Option Section := s.sections.find? (fun e => e.type == type)

/-- Reject codes (table "Validation checks and reject codes"). -/
abbrev rj.ABSENT_UNIT : Nat := 0x0B
abbrev rj.BAD_OWNER : Nat := 0x0C
abbrev rj.BAD_DESTINATION : Nat := 0x0D
abbrev rj.BAD_CONTENT : Nat := 0x0E

/-! ### Records -/

/-- A record of a section: its place, header and length; its payload starts 8 bytes on. -/
structure Rec where
  pos  : Nat
  type : Nat
  b2   : Nat
  b3   : Nat
  len  : Nat
deriving DecidableEq, Repr

/-- The records of the section from `pos` to `stop`, and whether they fill it; `n` bounds their number. -/
def State.recsFrom (s : State) (pos stop : Nat) : Nat → List Rec × Bool
  | 0 => ([], decide (pos = stop))
  | n + 1 =>
    if pos = stop then ([], true)
    else
      let r : Rec := { pos := pos, type := s.img pos 2, b2 := s.img (pos + 2) 1, b3 := s.img (pos + 3) 1, len := s.img (pos + 4) 4 }
      if stop < pos + 8 ∨ stop < pos + 8 + r.len then ([r], false)
      else
        let l := s.recsFrom (pos + 8 + r.len) stop n
        (r :: l.1, l.2)

def State.recs (s : State) (e : Section) : List Rec × Bool := s.recsFrom e.off (e.off + e.len) (e.len / 8 + 1)

/-- A number in a record's payload. -/
def State.recNat (s : State) (r : Rec) (off n : Nat) : Nat := s.img (r.pos + 8 + off) n
def State.recBytes (s : State) (r : Rec) (off n : Nat) : List Byte := s.imgBytes (r.pos + 8 + off) n

/-- The state a record leaves and the reject codes it earns. -/
abbrev Out := State × List Nat

def Out.andThen (o : Out) (f : State → Out) : Out :=
  let p := f o.1
  (p.1, o.2 ++ p.2)

/-- Codes for what does not hold; the record is carried out only where everything does. -/
def State.weigh (s : State) (checks : List (Bool × Nat)) (f : State → Out) : Out :=
  match (checks.filter (fun c => !c.1)).map (·.2) with
  | [] => f s
  | l => (s, l)

/-- A CONFIG record that does not hold still says where the tables of the records after it lie, so that these are judged
by what they hold themselves (R89, R313). -/
def Out.orRaw (o : Out) (s : State) (raw : List (Nat × Fld × Nat)) : Out :=
  if o.2.isEmpty then o else (raw.foldl (fun t r => t.w r.1 r.2.1 r.2.2) s, o.2)

/-- A register of Function 0 as the image sets it: under the write checks of its chapter, with no owner, LOCK or
domain check. -/
def State.imgReg (s : State) (page off size value : Nat) (bad : Nat := rj.BAD_CONTENT) : Out :=
  match pageKind 0 page with
  | some (k, n) =>
    let v := if size = 8 then value else value % 2 ^ 32
    let r := s.blockWrite { func := 0, page := page, off := off, size := size, value := BitVec.ofNat 64 v, code := 0x01 } k n
    (r.1, if r.2 then [] else [bad])
  | none => (s, [bad])

/-- Registers from `off` up take `n` words of a record's payload in register order; reserved places are passed
over. -/
def State.imgBlock (s : State) (r : Rec) (page off at_ : Nat) : Nat → Out
  | 0 => (s, [])
  | n + 1 =>
    let k := match pageKind 0 page with
      | some (k, _) => k
      | none => .kDEVICE
    let one : Out := match specAt k off with
      | some (sp, b) =>
        if !sp.wide then s.imgReg page off 4 (s.recNat r at_ 4)
        else if b = off then s.imgReg page off 8 (s.recNat r at_ 8) else (s, [])
      | none => (s, [])
    one.andThen fun s => s.imgBlock r page (off + 4) (at_ + 4) n

/-- A copy keeps check 13: inside partition `k` and outside the image's own bytes. -/
def State.copyOk (s : State) (k a n : Nat) : Bool :=
  n == 0 || (s.inPart k a n && (decide (a + n ≤ imgBase) || decide (imgBase + s.imgEnd ≤ a)))

def State.imgCopy (s : State) (a : Nat) (bs : List Byte) : State :=
  ({ s with mem := memWrite s.mem a bs } : State).invalidate a bs.length

/-! ### Sections -/

/-- MODES (R224). -/
def State.modesRec (s : State) (r : Rec) : Out :=
  let u := r.b2
  if r.type = 1 then
    s.weigh [(decide (u < 32) && r.b3 == 0 && r.len == 12 && decide (s.recNat r 8 4 ≤ 1), rj.BAD_CONTENT),
        (decide (32 ≤ u) || s.present 0 (pgHEAD u), rj.ABSENT_UNIT)] fun s =>
      (s.imgReg (pgHEAD u) 0x100 4 (s.recNat r 0 4)).andThen fun s => s.imgReg (pgHEAD u) 0x400 4 (s.recNat r 4 4)
  else if r.type = 2 then
    s.weigh [(decide (u < 8) && r.b3 == 0 && r.len == 4, rj.BAD_CONTENT),
        (decide (8 ≤ u) || s.present 0 (pgVP u), rj.ABSENT_UNIT)] fun s => s.imgReg (pgVP u) 0x100 4 (s.recNat r 0 4)
  else if r.type = 3 then
    s.weigh [(u == 0 && r.b3 == 0 && r.len == 8 && decide (s.recNat r 0 4 ≤ 1), rj.BAD_CONTENT)] fun s =>
      (s.imgReg (pgPE 32) 0x980 4 (s.recNat r 0 4)).andThen fun s => s.imgReg (pgPE 32) 0x984 4 (s.recNat r 4 4)
  else (s, [rj.BAD_CONTENT])

/-- PASTURES (R119). -/
def State.pasturesRec (s : State) (r : Rec) : Out :=
  let u := r.b2
  let p := pgPE u
  let shape := fun (ok : Bool) => [(decide (u < 32) && ok, rj.BAD_CONTENT), (decide (32 ≤ u) || s.present 0 p, rj.ABSENT_UNIT)]
  if r.type = 1 then
    s.weigh (shape (r.b3 == 0 && r.len == 4)) fun s => s.imgReg p 0x100 4 (s.recNat r 0 4)
  else if r.type = 2 then
    s.weigh (shape (decide (r.b3 < 8) && r.len == 64)) fun s => s.imgBlock r p (0x200 + 0x80 * r.b3) 0 16
  else if r.type = 3 then
    let first := s.recNat r 0 2
    let count := s.recNat r 2 2
    s.weigh (shape (r.b3 == 0 && r.len == 4 + 8 * count && decide (first + count ≤ 4096))) fun s =>
      ((List.range count).foldl (fun t i => t.setPalette u (first + i) (BitVec.ofNat 64 (t.recNat r (4 + 8 * i) 8))) s, [])
  else if r.type = 4 then
    s.weigh [(u == 0xFF && r.b3 == 0 && decide (8 ≤ r.len) && r.len % 4 == 0, rj.BAD_CONTENT),
        (decide (r.len < 8) || s.copyOk 1 (s.recNat r 0 8) (r.len - 8), rj.BAD_DESTINATION)] fun s =>
      (s.imgCopy (s.recNat r 0 8) (s.recBytes r 8 (r.len - 8)), [])
  else (s, [rj.BAD_CONTENT])

/-- FLOCKS (R139). -/
def State.flocksRec (s : State) (r : Rec) : Out :=
  let u := r.b2
  let p := pgPE u
  let shape := fun (ok : Bool) =>
    [(decide (u < 32) && r.b3 == 0 && ok, rj.BAD_CONTENT), (decide (32 ≤ u) || s.present 0 p, rj.ABSENT_UNIT)]
  if r.type = 1 then
    s.weigh (shape (r.len == 16 && s.recNat r 4 4 == 0)) fun s =>
      (s.imgReg p 0x600 4 (s.recNat r 0 4)).andThen fun s => s.imgReg p 0x618 8 (s.recNat r 8 8)
  else if r.type = 2 then
    let first := s.recNat r 0 2
    let count := s.recNat r 2 2
    s.weigh (shape (r.len == 4 + 16 * count && decide (first + count ≤ 1024))) fun s =>
      ((List.range (4 * count)).foldl (fun t i =>
        { t with flock := sset 0 t.flock (u * 4096 + 4 * first + i) (BitVec.ofNat 32 (t.recNat r (4 + 4 * i) 4)) }) s, [])
  else (s, [rj.BAD_CONTENT])

/-- LINELISTS (R163). -/
def State.linelistsRec (s : State) (r : Rec) : Out :=
  let u := r.b2
  let p := pgHEAD u
  let shape := fun (ok : Bool) =>
    [(decide (u < 32) && r.b3 == 0 && ok, rj.BAD_CONTENT), (decide (32 ≤ u) || s.present 0 p, rj.ABSENT_UNIT)]
  if r.type = 1 then
    s.weigh (shape (r.len == 16 && s.inPart 1 (s.recNat r 0 8) 16)) fun s =>
      ((s.imgReg p 0x220 8 (s.recNat r 0 8)).andThen fun s => s.imgReg p 0x228 4 (s.recNat r 8 4)).andThen fun s =>
        s.imgReg p 0x218 4 (s.recNat r 12 4)
  else if r.type = 2 then 
    s.weigh (shape (r.len == 28)) fun s =>
      ((List.range 7).foldl (fun t c => t.setReg 0 p (0x240 + 4 * c) (BitVec.ofNat 64 (t.recNat r (4 * c) 4))) s, [])
  else (s, [rj.BAD_CONTENT])

/-- A table of `n` bytes inside SHEPHERD; an empty one lies anywhere. -/
def State.tableInside (s : State) (a n : Nat) : Bool := n == 0 || s.inPart 2 a n

/-- Items of `size` bytes copied into a table at `base` (R313): each item's verdict by `ok`. -/
def State.itemsRec (s : State) (r : Rec) (size base limit : Nat) (ok : List Byte → List Nat) : Out :=
  let first := s.recNat r 0 4
  let count := s.recNat r 4 4
  if r.len ≠ 8 + size * count then (s, [rj.BAD_CONTENT])
  else
    let bad := (List.range count).flatMap (fun i => ok (s.recBytes r (8 + size * i) size))
    let a := base + size * first
    let dest := if s.copyOk 2 a (size * count) then [] else [rj.BAD_DESTINATION]
    let past := if limit < first + count then [rj.BAD_CONTENT] else []
    match bad ++ dest ++ past with
    | [] => (s.imgCopy a (s.recBytes r 8 (size * count)), [])
    | l => (s, l)

/-- POINTS (R313). -/
def State.pointsRec (s : State) (r : Rec) : Out :=
  if r.b2 ≠ 0 ∨ r.b3 ≠ 0 then (s, [rj.BAD_CONTENT])
  else if r.type = 1 then
    let count := s.recNat r 8 4
    let asize := s.recNat r 12 4
    let rings := s.recNat r 32 4
    let raw := [(pPOINTS, POINTS.REC_BASE, s.recNat r 0 8), (pPOINTS, POINTS.REC_COUNT, count),
      (pHISTORY, HISTORY.RING_TABLE, s.recNat r 24 8)]
    Out.orRaw (s := s) (raw := if r.len = 40 then raw else []) <| s.weigh [(r.len == 40 && decide (count ≤ 2 ^ 20) && decide (4 ≤ asize) && decide (asize ≤ 20) && decide (rings ≤ 2 ^ 20)
          && s.recNat r 36 4 == 0, rj.BAD_CONTENT),
        (s.tableInside (s.recNat r 0 8) (64 * count) && s.inPart 2 (s.recNat r 16 8) (32 * 2 ^ min asize 20)
          && s.tableInside (s.recNat r 24 8) (16 * rings), rj.BAD_DESTINATION)] fun s =>
      (((((s.imgReg pPOINTS 0x100 8 (s.recNat r 0 8)).andThen fun s => s.imgReg pPOINTS 0x108 4 count).andThen fun s =>
        s.imgReg pPOINTS 0x118 4 asize).andThen fun s => s.imgReg pPOINTS 0x110 8 (s.recNat r 16 8)).andThen fun s =>
        s.imgReg pHISTORY 0x100 8 (s.recNat r 24 8)).andThen fun s => s.imgReg pHISTORY 0x108 4 rings
  else if r.type = 2 then
    s.itemsRec r 64 (s.r pPOINTS POINTS.REC_BASE) (s.r pPOINTS POINTS.REC_COUNT) fun b =>
      if (PointRec.of b).valid && fieldLE b 7 1 == 0 then [] else [rj.BAD_CONTENT]
  else if r.type = 3 then
    s.itemsRec r 16 (s.r pHISTORY HISTORY.RING_TABLE) (2 ^ 32) fun b =>
      let base := fieldLE b 0 8
      let size := fieldLE b 8 1
      if base % 16 = 0 ∧ 4 ≤ size ∧ size ≤ 30 ∧ fieldLE b 9 3 = 0 ∧ s.inPart 3 base (16 * 2 ^ min size 30)
      then [] else [rj.BAD_CONTENT]
  else (s, [rj.BAD_CONTENT])

/-- BRANDS (R296, R313). -/
def State.brandsRec (s : State) (r : Rec) : Out :=
  if r.b2 ≠ 0 ∨ r.b3 ≠ 0 then (s, [rj.BAD_CONTENT])
  else if r.type = 1 then
    let count := s.recNat r 8 4
    Out.orRaw (s := s) (raw := if r.len = 16 then [(pBRANDS, BRANDS.BRAND_BASE, s.recNat r 0 8)] else []) <|
      s.weigh [(r.len == 16 && decide (count ≤ 4194304) && s.recNat r 12 4 == 0, rj.BAD_CONTENT),
        (s.tableInside (s.recNat r 0 8) (64 * count), rj.BAD_DESTINATION)] fun s =>
      (s.imgReg pBRANDS 0x100 8 (s.recNat r 0 8)).andThen fun s => s.imgReg pBRANDS 0x108 4 count
  else if r.type = 2 then
    s.itemsRec r 64 (s.r pBRANDS BRANDS.BRAND_BASE) (2 ^ 32) fun b =>
      let e := Brand.of b
      (if (e.kind == 1 || e.kind == 2) && !s.present 0 (pgPE e.engine) then [rj.ABSENT_UNIT] else [])
        ++ (if e.fault = 0 then [] else [rj.BAD_CONTENT])
  else (s, [rj.BAD_CONTENT])

/-- One term of an interlock entry keeps R302. -/
def termOk (b : List Byte) (k : Nat) : Bool :=
  let w := fieldLE b (8 * k) 4
  decide (nfld w 20 4 ≤ 7) && nfld w 24 7 == 0

/-- INTERLOCKS (R313). -/
def State.interlocksRec (s : State) (r : Rec) : Out :=
  if r.b2 ≠ 0 ∨ r.b3 ≠ 0 then (s, [rj.BAD_CONTENT])
  else if r.type = 1 then
    let objs := s.recNat r 8 4
    let ils := s.recNat r 12 4
    let raw := [(pCOMMANDS, COMMANDS.OBJ_BASE, s.recNat r 0 8), (pCOMMANDS, COMMANDS.IL_BASE, s.recNat r 16 8)]
    Out.orRaw (s := s) (raw := if r.len = 24 then raw else []) <| s.weigh [(r.len == 24 && decide (objs ≤ 65536) && decide (ils ≤ 65535), rj.BAD_CONTENT),
        (s.tableInside (s.recNat r 0 8) (64 * objs) && s.tableInside (s.recNat r 16 8) (64 * ils), rj.BAD_DESTINATION)] fun s =>
      (((s.imgReg pCOMMANDS 0x100 8 (s.recNat r 0 8)).andThen fun s => s.imgReg pCOMMANDS 0x108 4 objs).andThen fun s =>
        s.imgReg pCOMMANDS 0x110 8 (s.recNat r 16 8)).andThen fun s => s.imgReg pCOMMANDS 0x118 4 ils
  else if r.type = 2 then
    s.itemsRec r 64 (s.r pCOMMANDS COMMANDS.OBJ_BASE) (2 ^ 32) fun b =>
      let c := CmdObj.of b
      if c.chanRes = 0 ∧ c.mode < 2 ∧ c.fbRes = 0 ∧ c.zero = 0 ∧ c.margin < c.window then [] else [rj.BAD_CONTENT]
  else if r.type = 3 then
    s.itemsRec r 64 (s.r pCOMMANDS COMMANDS.IL_BASE) (2 ^ 32) fun b =>
      if (List.range 8).all (termOk b) then [] else [rj.BAD_CONTENT]
  else (s, [rj.BAD_CONTENT])

/-- MIRROR (R344). -/
def State.mirrorRec (s : State) (r : Rec) : Out :=
  if r.b2 ≠ 0 ∨ r.b3 ≠ 0 then (s, [rj.BAD_CONTENT])
  else if r.type = 1 then
    let heads := s.recNat r 12 4
    s.weigh [(r.len == 20, rj.BAD_CONTENT),
        ((List.range 32).all (fun n => !nbit heads n || s.present 0 (pgHEAD n)), rj.ABSENT_UNIT)] fun s =>
      s.imgBlock r pMIRROR 0x10C 0 5
  else if r.type = 2 then
    let size := s.recNat r 8 4
    s.weigh [(r.len == 24, rj.BAD_CONTENT),
        (s.inPart 4 (s.recNat r 0 8) (64 * 2 ^ min size 25) && s.inPart 4 (s.recNat r 16 8) 1, rj.BAD_DESTINATION)] fun s =>
      (((s.imgReg pJOURNAL 0x110 8 (s.recNat r 0 8)).andThen fun s => s.imgReg pJOURNAL 0x118 4 size).andThen fun s =>
        s.imgReg pJOURNAL 0x148 4 (s.recNat r 12 4)).andThen fun s => s.imgReg pMIRROR 0x138 8 (s.recNat r 16 8)
  else (s, [rj.BAD_CONTENT])

/-- AUDIO (R418). An invalid VOWNER code takes check 12. -/
def State.audioRec (s : State) (r : Rec) : Out :=
  let u := r.b2
  let shape := fun (units len : Nat) => [(decide (u < units) && r.b3 == 0 && r.len == len, rj.BAD_CONTENT)]
  if r.type = 1 then
    s.weigh (shape 64 36) fun s =>
      (s.imgBlock r pAUDIO (0x200 + 0x20 * u) 0 8).andThen fun s =>
        s.imgReg pAUDIO (0xB00 + 4 * u) 4 (s.recNat r 32 4) rj.BAD_OWNER
  else if r.type = 2 then
    s.weigh ((decide (s.recNat r 6 1 ≤ 1) && s.recNat r 7 1 == 0, rj.BAD_CONTENT) :: shape 256 8) fun s =>
      (s.imgReg pAUDIOR (0x100 + 8 * u) 4 (s.recNat r 0 4)).andThen fun s =>
        let w := PROTR.PROT.at (4 * (u / 32))
        let s := s.w1 pPROTR (PROTR.FLOOR.at (4 * u)) (s.recNat r 4 2)
        (s.w1 pPROTR w (nset (s.r1 pPROTR w) (u % 32) 1 (s.recNat r 6 1)), [])
  else if r.type = 3 then s.weigh (shape 16 12) fun s => s.imgBlock r pAUDIO (0xC00 + 0x20 * u) 0 3
  else if r.type = 4 then s.weigh (shape 16 4) fun s => s.imgBlock r pAUDIO (0xE00 + 4 * u) 0 1
  else if r.type = 5 then s.weigh (shape 4 4) fun s => s.imgBlock r pAUDIO (0xF00 + 0x10 * u) 0 1
  else if r.type = 6 then s.weigh (shape 1 4) fun s => s.imgBlock r pAUDIO 0x100 0 1
  else (s, [rj.BAD_CONTENT])

/-- PINS (R491): the pins keep their owners until step 4. -/
def State.pinsRec (s : State) (r : Rec) : Out :=
  if r.b2 ≠ 0 ∨ r.b3 ≠ 0 then (s, [rj.BAD_CONTENT])
  else if r.type = 1 then
    let first := s.recNat r 0 4
    let count := s.recNat r 4 4
    let word := fun (i : Nat) => s.recNat r (8 + 4 * i) 4
    s.weigh [(r.len == 8 + 4 * count && decide (first + count ≤ 128)
        && (List.range (min count 128)).all (fun i => nfld (word i) 24 8 == 0
            && !(nbit (word i) 0 && !pinHasFunc (first + i))), rj.BAD_CONTENT)] fun s =>
      ((List.range count).foldl (fun (t : State) i =>
        let f := PINS.MP_CFG.at (4 * (first + i))
        t.w pPINS f (mergeWrite (t.r pPINS f) (t.recNat r (8 + 4 * i) 4) 0x1F1 0)) s, [])
  else if r.type = 2 then
    let b := s.recNat r 0 4
    s.weigh [(r.len == 12 && decide (b < 4), rj.BAD_CONTENT)] fun s =>
      ((s.w pPINS (PINS.GPIO_OUT.at (0x20 * b)) (s.recNat r 4 4)).w pPINS (PINS.GPIO_OE.at (0x20 * b)) (s.recNat r 8 4), [])
  else (s, [rj.BAD_CONTENT])

/-- A core as its CORE record starts it (R371). -/
def State.coreRec (s : State) (r : Rec) : Core :=
  let v := fun (i : Nat) => BitVec.ofNat 32 (s.recNat r (4 * i) 4)
  { pc := s.recNat r 0 4, evec := v 1, ivec := v 2, dsp := v 3, dsLo := v 3, dsHi := v 4, rsp := v 5, rsLo := v 5, rsHi := v 6
    dmw0 := v 7, dmw1 := v 8 }

/-- CODE (R371). -/
def State.codeRec (s : State) (r : Rec) : Out :=
  let u := r.b2
  let n := r.len - 4
  let v := fun (i : Nat) => s.recNat r (4 * i) 4
  if r.type = 1 ∨ r.type = 2 then
    let top := if r.type = 1 then 131072 else 1048576
    s.weigh [(decide (u < 8) && r.b3 == 0 && decide (4 ≤ r.len), rj.BAD_CONTENT),
        (decide (8 ≤ u) || s.present 0 (pgPK u), rj.ABSENT_UNIT), (decide (v 0 + n ≤ top), rj.BAD_DESTINATION)] fun s =>
      let bs := s.recBytes r 4 n
      (if r.type = 1 then { s with iram := memWrite s.iram (u * 0x20000 + v 0) bs }
       else { s with pad := memWrite s.pad (u * 0x100000 + v 0) bs }, [])
  else if r.type = 3 then
    s.weigh [(u == 0 && r.b3 == 0 && decide (8 ≤ r.len), rj.BAD_CONTENT),
        (decide (r.len < 8) || s.copyOk 2 (s.recNat r 0 8) (r.len - 8), rj.BAD_DESTINATION)] fun s =>
      (s.imgCopy (s.recNat r 0 8) (s.recBytes r 8 (r.len - 8)), [])
  else if r.type = 4 then
    let bound := fun (i : Nat) => v i % 4 == 0 && decide (v i ≤ 0x100000)
    s.weigh [(decide (u < 64) && r.b3 == 0 && r.len == 40 && decide (v 0 < 0x20000) && decide (v 1 < 0x20000)
          && decide (v 2 < 0x20000) && bound 3 && bound 4 && bound 5 && bound 6 && decide (v 3 ≤ v 4) && decide (v 5 ≤ v 6)
          && decide (v 7 < 128) && decide (v 8 < 128) && decide (v 9 ≤ 1), rj.BAD_CONTENT),
        (decide (64 ≤ u) || s.present 0 (pgSC u), rj.ABSENT_UNIT)] fun s => (s.setCore u (s.coreRec r), [])
  else (s, [rj.BAD_CONTENT])

/-! ### OWNERS (R36) -/

/-- The owner field of an item of a class, and the class's index range. -/
def ownerField (cls i : Nat) : Option (Nat × Fld) :=
  if cls = 1 then some (pDATAPORTS, DATAPORTS.DAT_OWNER.at (0x40 * i))
  else if cls = 2 then some (pPINS, PINS.MP_CFG_OWNER.at (4 * i))
  else if cls = 3 then some (pPOWER, POWER.PD_OWNER.at (0x10 * i))
  else if cls = 5 then some (pPOINTS, POINTS.CR_OWNER.at (0x40 * i))
  else if cls = 6 then some (pTIMEBASE, TIMEBASE.CMP_OWNER.at (0x20 * i))
  else if cls = 7 then some (pHOST, HOST.RTX_OWNER)
  else none

def ownerRange (cls : Nat) : Nat :=
  if cls = 0 then 4096 else if cls = 1 then 16 else if cls = 2 then 128 else if cls = 3 then 50
  else if cls = 5 then 16 else if cls = 6 then 64 else if cls = 7 then 1 else 0

/-- The item is one of the class's. -/
def ownerItem (cls i : Nat) : Bool :=
  decide (i < ownerRange cls) && (cls != 0 || (match pageKind 0 i with
    | some (k, _) => k.isBlock
    | none => false))

/-- The item belongs to a unit that is on the part. -/
def State.ownerHere (s : State) (cls i : Nat) : Bool :=
  if cls = 0 then s.present 0 i else if cls = 3 then pdPresent s.variant i else true

/-- The owner an item has, and the item under a new one; one locked by 0xFF in `old` stays (R34). -/
def State.ownerNow (s : State) (cls i : Nat) : Code :=
  match ownerField cls i with
  | some f => BitVec.ofNat 8 (s.r f.1 f.2)
  | none => s.owner 0 i

def State.giveOwner (s old : State) (cls i : Nat) (c : Code) : State :=
  if old.ownerNow cls i == 0xFF then s
  else match ownerField cls i with
    | some f => s.w f.1 f.2 c.toNat
    | none => s.setOwner 0 i c

/-- A run of an OWNER record: CLASS, CODE, INDEX, COUNT and its reserved bytes. -/
def State.runAt (s : State) (r : Rec) (k : Nat) : Nat × Code × Nat × Nat × Nat :=
  let f := fun (o n : Nat) => s.recNat r (8 * k + o) n
  (f 0 1, BitVec.ofNat 8 (f 1 1), f 2 2, f 4 2, f 6 2)

/-- What a run of OWNERS earns. -/
def State.runCodes (s : State) (x : Nat × Code × Nat × Nat × Nat) : List Nat :=
  let (cls, code, idx, count, rest) := x
  let items := (List.range count).map (idx + ·)
  if rest ≠ 0 ∨ count = 0 ∨ 4096 < count ∨ !items.all (ownerItem cls) then [rj.BAD_CONTENT]
  else
    (if items.all (s.ownerHere cls) then [] else [rj.ABSENT_UNIT])
      ++ (if s.validOwner code then [] else [rj.BAD_OWNER])

/-- A record of OWNERS carried out; `old` is the device before the section. -/
def State.ownersRec (s old : State) (r : Rec) : Out :=
  if r.type ≠ 1 ∨ r.b2 ≠ 0 ∨ r.b3 ≠ 0 ∨ r.len % 8 ≠ 0 then (s, [rj.BAD_CONTENT])
  else
    (List.range (r.len / 8)).foldl (fun (o : Out) k =>
      let x := o.1.runAt r k
      match o.1.runCodes x with
      | [] => ((List.range x.2.2.2.1).foldl (fun t i => t.giveOwner old x.1 (x.2.2.1 + i) x.2.1) o.1, o.2)
      | l => (o.1, o.2 ++ l)) (s, [])

/-! ### Partitions and the verdict -/

/-- Sizes of the PARTITIONS section in GiB, the history window's, and its base (R88). -/
structure Layout where
  sizes : List Nat
  win   : Nat
  base  : Nat
deriving DecidableEq, Repr

def State.layoutOf (s : State) (off : Nat) : Layout :=
  { sizes := (List.range 5).map (fun k => s.img (off + k) 1), win := s.img (off + 5) 1, base := s.img (off + 8) 8 }

/-- The minimum sizes of R43, the fitted memory, R47 and the base's rule. -/
def State.layoutOk (s : State) (l : Layout) : Bool :=
  let size := fun (k : Nat) => l.sizes.getD k 0
  decide (1 ≤ size 1) && decide (1 ≤ size 2) && decide (1 ≤ size 3) && decide (1 ≤ size 4)
    && decide (l.sizes.foldl (· + ·) 0 ≤ s.variant.memGiB) && decide (l.win ≤ 16) && decide (l.win ≤ size 3)
    && l.base % GiB == 0 && decide (l.base + l.win * GiB ≤ size 3 * GiB)

/-- A layout put in force (R43): the partitions contiguous from address 0. -/
def State.setLayout (s : State) (l : Layout) : State :=
  let s := (List.range 5).foldl (fun (t : State) k =>
    (t.w pPARTITIONS (PARTITIONS.PART_BASE.at (16 * k)) ((l.sizes.take k).foldl (· + ·) 0 * GiB)).w
      pPARTITIONS (PARTITIONS.PART_SIZE.at (16 * k)) (l.sizes.getD k 0)) s
  (s.w pPARTITIONS PARTITIONS.HIST_WIN_SIZE l.win).w pPARTITIONS PARTITIONS.HIST_WIN_BASE l.base

/-- The boot layout of the variant (R44). -/
def State.bootLayout (s : State) : Layout := { sizes := [24, 16, 4, s.variant.memGiB - 46, 2], win := 0, base := 0 }

/-- A record of a section by its type (table "Section types"). -/
def State.secRec (s old : State) (type : Nat) (r : Rec) : Out :=
  if type = 0x01 then s.modesRec r
  else if type = 0x03 then s.pinsRec r
  else if type = 0x04 then s.ownersRec old r
  else if type = 0x05 then s.pasturesRec r
  else if type = 0x06 then s.flocksRec r
  else if type = 0x07 then s.linelistsRec r
  else if type = 0x08 then s.brandsRec r
  else if type = 0x09 then s.pointsRec r
  else if type = 0x0A then s.interlocksRec r
  else if type = 0x0B then s.audioRec r
  else if type = 0x0C then s.mirrorRec r
  else if type = 0x0D then s.codeRec r
  else (s, [])

/-- What fails in a section: the code, the section's index, the image offset of the record. -/
abbrev Finding := Nat × Nat × Nat

/-- A section carried out record by record, with what fails in it. -/
def State.secRun (s : State) (e : Section) : State × List Finding :=
  if e.type = 0x02 then (s, [])
  else
    let l := s.recs e
    let p := l.1.foldl (fun (a : State × List Finding) r =>
      let o := a.1.secRec s e.type r
      (o.1, a.2 ++ o.2.map (fun c => (c, e.idx, r.pos)))) (s, [])
    if l.2 then p else (p.1, p.2 ++ [(rj.BAD_CONTENT, e.idx, (l.1.getLast?.map (·.pos)).getD e.off)])

/-- The device a record is judged on: reset values, the image's partitions, the image in memory. -/
def State.scratch (s : State) (l : Layout) : State :=
  ({ State.reset with
    variant := s.variant, compatMax := s.compatMax, stepping := s.stepping, mainUp := true, mem := s.mem } : State).setLayout l

/-- The first finding in the order of the checks, then of sections and records. -/
def firstFinding (l : List Finding) : Option Finding := (sortBy (fun (a b : Finding) => decide (a.1 ≤ b.1)) l).head?

/-- The index of a section entry that breaks R87. -/
def State.badSection (s : State) : Option Nat :=
  let es := s.sections
  (List.range es.length).find? (fun i =>
    let e := s.section i
    let before := es.take i
    let inside := decide (64 ≤ e.off) && decide (e.off + e.len ≤ s.imgEnd)
    let apart := before.all (fun b => decide (e.off + e.len ≤ b.off) || decide (b.off + b.len ≤ e.off) || e.len == 0 || b.len == 0)
    !(decide (1 ≤ e.type) && decide (e.type ≤ 13) && before.all (fun b => b.type != e.type) && e.off % 4 == 0 && inside && apart
      && decide (64 + 16 * i + 16 ≤ s.imgEnd)))

/-- Checks 1 to 6 (R89), in order: the first that fails, with its code and the offset of its field. -/
def State.headerFault (s : State) : Option Finding :=
  let b := s.imgBytes 0 64
  if fieldLE b 0 4 ≠ 0x53554E47 then some (1, 0xFF, 0)
  else if fieldLE b 0x3C 4 ≠ (crc32c (b.take 60)).toNat then some (2, 0xFF, 0x3C)
  else if fieldLE b 4 2 ≠ 1 then some (3, 0xFF, 4)
  else if fieldLE b 6 2 ≠ 64 then some (3, 0xFF, 6)
  else match (List.range 41).find? (fun i => b.getD (0x13 + i) 0 != 0) with
    | some i => some (3, 0xFF, 0x13 + i)
    | none =>
      let compat := fieldLE b 0x12 1
      let n := fieldLE b 8 4
      if compat = 0 ∨ s.compatMax.toNat < compat ∨ (s.behaviour ≠ 0 ∧ compat ≠ s.behaviour.toNat) then some (4, 0xFF, 0x12)
      else if n % 4 ≠ 0 ∨ n < 16 ∨ 4 * GiB - 64 < n then some (5, 0xFF, 8)
      else if fieldLE b 0x0C 4 ≠ (crc32c (s.imgBytes 64 n)).toNat then some (6, 0xFF, 0x0C)
      else none

/-- Checks 7 to 14. The item a missing section fails at is open. -/
def State.bodyFault (s : State) : Option Finding :=
  let n := s.img 0x10 2
  if n = 0 ∨ 13 < n then some (7, 0xFF, 0x10)
  else match s.badSection with
    | some i => some (7, i, 64 + 16 * i)
    | none =>
      if [2, 4, 13].any (fun t => (s.sectionOf t).isNone) then some (8, 0xFF, Config.freeNat s.freeCtr)
      else match s.sections.find? (fun e => decide (e.crc ≠ (crc32c (s.imgBytes e.off e.len)).toNat)) with
        | some e => some (9, e.idx, 64 + 16 * e.idx + 12)
        | none => match s.sectionOf 2 with
          | none => none
          | some e =>
            let l := s.layoutOf e.off
            if e.len ≠ 16 ∨ s.img (e.off + 6) 2 ≠ 0 ∨ !s.layoutOk l then some (10, e.idx, e.off)
            else
              let t := s.scratch l
              firstFinding (s.sections.foldl (fun (a : State × List Finding) e =>
                let p := a.1.secRun e
                (p.1, a.2 ++ p.2)) (t, [])).2

/-- The verdict of validation: none accepts (R89). -/
def State.verdict (s : State) : Option Finding :=
  match s.headerFault with
  | some f => some f
  | none => s.bodyFault

end Sys2Proof.Machine
end

