-- ==== Sys2Proof/Machine/Startup.lean ====
section
/-! DEFINITION. Start-up and resets: the cold start step by step, the warm reset, the thermal trip, the verdict
of validation taken over, and the start sequence (R62, R83 to R92, R437, R439, R492, R493, R501). -/

namespace Sys2Proof.Machine

/-! ### Resets -/

/-- Absent domains are OFF from the fuse read on (R3, R83). -/
def State.absentOff (s : State) : State :=
  (List.range 50).foldl (fun (t : State) d => if pdPresent t.variant d then t
    else (t.w pPOWER (pdFld POWER.PD_CTRL_TARGET d) 2).w pPOWER (pdFld POWER.PD_STATUS_STATE d) 3) s

/-- What stays on every reset: the part, the queue of commands, device memory, which no start clears (R83), host
memory, and the levels the board drives on supply, hot-plug and arbitration pins. -/
def State.remains (s : State) : State :=
  { State.reset with
    pending := s.pending, freeCtr := s.freeCtr, variant := s.variant, compatMax := s.compatMax
    stepping := s.stepping, mem := s.mem, hostMem := s.hostMem, pins := { bankV := s.pins.bankV, hpd := s.pins.hpd }
    mirror := { arbRaw := s.mirror.arbRaw } }

/-- Registers that a warm reset keeps: the clock status and the wake and alarm registers of AON, and the retained state
of the time base (R84, R437). -/
def keptKey (key : Nat) : Bool :=
  key == regKey 0 pCLOCKS 0x00C
    || (decide (regKey 0 pPOWER 0x500 ≤ key) && decide (key < regKey 0 pPOWER 0x520))
    || (decide (regKey 0 pTIMEBASE 0x100 ≤ key) && decide (key < regKey 0 pTIMEBASE 0x120))

/-- MAIN and every domain at their reset values, the time base and AON as they were (R84). -/
def State.mainReset (s : State) : State :=
  { s.remains with
    phase := s.phase, straps := s.straps, mainUp := s.mainUp, fc := s.fc, tb := s.tb, tbFrac := s.tbFrac
    regs := s.regs.filter (fun e => keptKey e.1) }

/-- PORST_N or PWRGOOD low (R493). -/
def State.powerOnReset (s : State) : State := s.remains

/-- The thermal trip: as PORST_N, held until PORST_N is cycled (R501). -/
def State.trip (s : State) : State := if s.mainUp then { s.remains with phase := .tripped } else s

/-- Once the fuses are read, the variant's boot layout is in force and memory trains; with STRAP1 = 1 the device stays in
BOOT (R44, R83, R492). -/
def State.toTraining (s : State) : State :=
  let s := (List.range 8).foldl (fun (t : State) p => t.hpdSettle p) (s.absentOff.setLayout s.bootLayout)
  { s with phase := if s.straps.getLsbD 1 then .factory else .training }

/-- WARM_N low and released, `n` SLOW periods apart (R84, R439). -/
def State.warmReset (s : State) (n : Nat) : State := if s.mainUp then (s.mainReset.makeup n).toTraining else s

/-! ### The cold start (R83) -/

/-- PORST_N deasserted with PWRGOOD high: AON runs and the straps are sampled (R492). -/
def State.coldStart (s : State) (straps : BitVec 4) : State :=
  match s.phase with
  | .held => { s with phase := .aon, straps := straps }
  | _ => s

/-- The reference is stable, and the root PLL starts to lock (R62). -/
def State.refOk (s : State) : State :=
  match s.phase with
  | .aon => { s.w pCLOCKS CLOCKS.STATUS_REF_OK 1 with phase := .locking }
  | _ => s

/-- The root PLL locks: MAIN leaves reset with every domain ON at P0, the time base starts at 0 (R62, R437). -/
def State.pllLock (s : State) : State :=
  match s.phase with
  | .locking =>
    let s := (s.w pCLOCKS CLOCKS.STATUS_PLL_LOCK 1).w pCLOCKS CLOCKS.STATUS_RUN 1
    ({ s with mainUp := true, fc := 0, tb := 0, tbFrac := 0 } : State).toTraining
  | _ => s

/-- Memory is trained: WAIT_IMAGE (R83). -/
def State.trainingComplete (s : State) : State :=
  match s.phase with
  | .training =>
    { s.w pDEVICE DEVICE.STATE stWAIT_IMAGE with phase := .up, host := { s.host with memInfo := true } }
  | _ => s

/-! ### Validation and the start sequence -/

/-- IMAGE_REJECTED: the boot layout stays or comes back, and DAT00 takes the settings of R60 (R90). -/
def State.reject (s : State) (code sec detail : Nat) : State :=
  let s := (s.w pDEVICE DEVICE.REJECT_REASON_CODE code).w pDEVICE DEVICE.REJECT_REASON_SECTION sec
  let s := (s.w pDEVICE DEVICE.REJECT_DETAIL detail).w pDEVICE DEVICE.STATE stIMAGE_REJECTED
  (s.setLayout s.bootLayout).dat00Reset

/-- Validation ends (R89). -/
def State.validationDone (s : State) : State :=
  if s.devState ≠ stVALIDATING then s
  else match s.verdict with
    | none => s.w pDEVICE DEVICE.STATE stSTARTING
    | some (code, sec, detail) => s.reject code sec detail

/-- Records of the sections step 3 applies, in the order of the table and of each section. -/
def State.contentRecs (s : State) : List (Nat × Rec) :=
  (s.sections.filter (fun e => e.type != 2 && e.type != 4)).flatMap (fun e => (s.recs e).1.map (fun r => (e.type, r)))

/-- Steps 1 to 3 of R91 over the first `n` records. -/
def State.startContent (s : State) (n : Nat) : State :=
  let s := { s with behaviour := BitVec.ofNat 8 (s.img 0x12 1) }
  let s := match s.sectionOf 2 with
    | some e => s.setLayout (s.layoutOf e.off)
    | none => s
  (s.contentRecs.take n).foldl (fun t x => (t.secRec t x.1 x.2).1) s

/-- Step 4: OWNERS. -/
def State.startOwners (s : State) : State :=
  match s.sectionOf 4 with
  | some e => (s.recs e).1.foldl (fun t r => (t.ownersRec s r).1) s
  | none => s

/-- CTRL.ENABLE of a Function 0 page set to 1, where the block's chapter lets it be. -/
def State.startEnable (s : State) (page : Nat) : State :=
  match pageKind 0 page with
  | some (k, n) => if s.present 0 page && s.enableOk k n then s.setEnable 0 page k n true else s
  | none => s

/-- The records of a section type. -/
def State.recsOf (s : State) (type : Nat) : List Rec :=
  match s.sectionOf type with
  | some e => (s.recs e).1
  | none => []

/-- Heads whose last HEAD record has ENABLE = 1 (R224). -/
def State.startHeads (s : State) : List Nat :=
  (List.range 32).filter (fun h =>
    match ((s.recsOf 1).filter (fun r => r.type == 1 && r.b2 == h)).getLast? with
    | some r => s.recNat r 8 4 == 1
    | none => false)

/-- The last RELIEF record sets EN = 0 (R91, R224). -/
def State.reliefOff (s : State) : Bool :=
  match ((s.recsOf 1).filter (fun r => r.type == 3)).getLast? with
  | some r => s.recNat r 0 4 == 0
  | none => false

/-- Step 5: the heads of MODES with their engines, PE32, and the training of their ports. -/
def State.startHeadsOn (s : State) : State :=
  let hs := s.startHeads
  let s := hs.foldl (fun t h => (t.startEnable (pgHEAD h)).startEnable (pgPE h)) s
  let s := if s.reliefOff then s else s.startEnable (pgPE 32)
  ((List.range 8).filter (fun p => hs.any (fun h => h / 4 == p))).foldl (fun t p => t.linkBegin p) s

/-- Step 6: the cores whose last CORE record has RUN = 1 (R371). -/
def State.startCores (s : State) : State :=
  ((List.range 64).filter (fun c =>
    match ((s.recsOf 0x0D).filter (fun r => r.type == 4 && r.b2 == c)).getLast? with
    | some r => s.recNat r 36 4 == 1
    | none => false)).foldl (fun t c => t.startEnable (pgSC c)) s

/-- A section of the type is there; one holds a CONFIG record. -/
def State.hasSection (s : State) (type : Nat) : Bool := (s.sectionOf type).isSome
def State.hasConfig (s : State) (type : Nat) : Bool := (s.recsOf type).any (fun r => r.type == 1)

/-- Step 7: audio, journal, mirror link, and the engines of points, brands and commands. -/
def State.startEngines (s : State) : State :=
  let on := fun (c : Bool) (page : Nat) (t : State) => if c then t.startEnable page else t
  let mir := s.hasSection 0x0C
  let pts := s.hasConfig 0x09
  let s := on mir pMIRROR (on mir pJOURNAL (on (s.hasSection 0x0B) pAUDIO s))
  let s := on pts pHISTORY (on pts pPOINTS s)
  on (s.hasConfig 0x0A) pCOMMANDS (on (s.hasConfig 0x08) pBRANDS s)

/-- Step 8: RUNNING; host memory opens (R48, R450). -/
def State.startRunning (s : State) : State :=
  let s := s.w pDEVICE DEVICE.STATE stRUNNING
  let s := s.w pHOST HOST.STATUS_HDM_ON (b2n s.host.committed)
  let s := if s.role = 3 then s else s.follow 3
  { s with host := { s.host with memActive := true } }

/-- The state of clocks and host link that a failed copy finds stays as it stands: these bits are no settings. -/
def State.conditions (s t : State) : State :=
  let t := t.setReg 0 pCLOCKS 0x00C (s.reg 0 pCLOCKS 0x00C &&& 0xF0001)
  let t := (t.w pHOST HOST.LINK_STAT (s.r pHOST HOST.LINK_STAT)).w pHOST HOST.STATUS_CXL_UP (s.r pHOST HOST.STATUS_CXL_UP)
  (List.range 8).foldl (fun (u : State) p => u.hpdSettle p) t

/-- A copy failed: every register but BEHAVIOUR_LOCK at its reset value, the boot layout, COPY_FAULT (R91). The
records copied before, the section and the detail are open (log entry 3); SRAM keeps what was copied, the time base its
count, and clocks and host link their state (log entry 117). -/
def State.copyFault (s : State) : State :=
  let n := Config.freeNat s.freeCtr
  let sec := Config.freeNat (s.freeCtr + 1)
  let detail := Config.freeNat (s.freeCtr + 2)
  let t := s.startContent n
  let t := { t.mainReset with
    freeCtr := s.freeCtr + 3, behaviour := t.behaviour, resp := s.resp, pad := t.pad, padErr := t.padErr
    iram := t.iram, sapRam := t.sapRam, palette := t.palette, flock := t.flock, lut := t.lut, regs := []
    host := { s.host with winOld := 0, brokenFc := none, orQ := [], committed := false, decSize := 0, tracked := [] } }
  (s.conditions t).absentOff.reject 0x10 sec detail

/-- The start sequence (R91). -/
def State.starting (s : State) (fault : Bool) : State :=
  if s.devState ≠ stSTARTING then s
  else if fault then s.copyFault
  else (s.startContent s.contentRecs.length).startOwners.startHeadsOn.startCores.startEngines.startRunning

end Sys2Proof.Machine
end

