-- ==== Sys2Proof/Machine/EventCmd.lean ====
section
/-! DEFINITION. The commands that are events of the block itself or of a pin, a link, a memory or the host: each
runs where its unit is on the part and out of reset, and finds the state unchanged where the event cannot occur
(log entry 5). -/

namespace Sys2Proof.Machine

/-- An event of MAIN: nothing happens while MAIN is held in reset (R62). -/
def State.onMain (s : State) (f : State → State) : State := if s.mainUp then f s else s

/-- An event of a page's block: its domain is ON (R66). -/
def State.onPage (s : State) (func page : Nat) (f : State → State) : State := if s.domainOn func page then f s else s

/-- An event of unit `n`: the part has it, and its domain is ON. -/
def State.onUnit (s : State) (func page : Nat) (k : Kind) (n : Nat) (f : State → State) : State :=
  if s.has func page k n && s.domainOn func page then f s else s

/-- An event of a voice. -/
def State.onVoice (s : State) (v : Nat) (f : State → State) : State :=
  if v < 64 then s.onPage 0 pAUDIO f else s

/-- The end of a repeat window: the fabric cycles up to it pass, and the window is settled (R468). -/
def State.repeatWindowEnd (s : State) (func page : Nat) (code : BitVec 16) : State :=
  match (s.histOf func page).slots.find? (fun x => x.code == code) with
  | none => s
  | some x =>
    let s := s.advanceFc (x.since + repeatFc)
    s.setHist func page ((s.histOf func page).settle s.fc s.stamp)

/-- Authority ends (R308). -/
def State.loseAuthority (s : State) : State := (s.setAuthority false).hbLevel

/-- Phase 2 of a flush completes at once: after phase 1 nothing of the journal is outside host memory (R321). -/
def State.gpf2 (s : State) : State := s

/-! ### Every page (R39, R468, R471) -/

/-- The end of a repeat window (R468). -/
def execRepeatWindowEnd (func page : Nat) (code : BitVec 16) (s : State) : Host.Outcome State Fault Refusal :=
  .next (s.onMain (·.repeatWindowEnd func page code))

/-- The last request of a fenced block completes (R471). -/
def execFenceComplete (func page : Nat) (s : State) : Host.Outcome State Fault Refusal :=
  .next (s.onMain (·.fenceComplete func page))

/-- The watchdog expires (R39). -/
def execWdogExpired (s : State) : Host.Outcome State Fault Refusal :=
  .next (s.onMain (·.wdogExpired))

/-! ### Data ports and host memory (R48, R51, R56, R451) -/

/-- A write through an aperture (R56). -/
def execDataPortWrite (port off : Nat) (bytes : List (Option (BitVec 8))) (wr : Code) (s : State) : Host.Outcome State Fault Refusal :=
  .next (s.onMain fun s => if port < 16 then s.portWrite port off bytes wr else s)

/-- A read through an aperture (R56). -/
def execDataPortRead (port off len : Nat) (wr : Code) (s : State) : Host.Outcome State Fault Refusal :=
  .next (s.onMain fun s => if port < 16 then s.portReadHost port off len wr else s)

/-- The old history window is back-invalidated (R48). -/
def execWindowMoveDone (s : State) : Host.Outcome State Fault Refusal :=
  .next (s.onMain (·.windowMoveDone))

/-- A CXL.mem read (R451). -/
def execHdmRead (hostAddr len : Nat) (s : State) (poison : Bool := false) : Host.Outcome State Fault Refusal :=
  .next (s.onMain (·.hdmRead hostAddr len poison))

/-- A CXL.mem write (R451). -/
def execHdmWrite (hostAddr : Nat) (bytes : List (BitVec 8)) (s : State) : Host.Outcome State Fault Refusal :=
  .next (s.onMain (·.hdmWrite hostAddr bytes))

/-- A request waits past its patience (R51). -/
def execPatiencePromotion (cls waited : Nat) (chan : Option Nat) (s : State) : Host.Outcome State Fault Refusal :=
  .next (s.onMain (·.patiencePromotion cls waited chan))

/-! ### Clocks, power, memory training, start-up (R62 to R92, R493, R501) -/

/-- The reference is stable (R62). -/
def execRefOk (s : State) : Host.Outcome State Fault Refusal :=
  .next (s.refOk)

/-- The root PLL locks (R62). -/
def execPllLock (s : State) : Host.Outcome State Fault Refusal :=
  .next (s.pllLock)

/-- The reference is lost (R63). -/
def execRefLoss (s : State) : Host.Outcome State Fault Refusal :=
  .next (s.refLoss)

/-- The reference returns (R63). -/
def execRefReturn (s : State) : Host.Outcome State Fault Refusal :=
  .next (s.refReturn)

/-- A quiet domain commits entry (R69). -/
def execEntryCommit (pd : Nat) (s : State) : Host.Outcome State Fault Refusal :=
  .next (s.onMain fun s => if pd < 50 then s.domainEntry pd else s)

/-- Entry completes (R71). -/
def execEntryComplete (pd : Nat) (s : State) : Host.Outcome State Fault Refusal :=
  .next (s.onMain fun s => if pd < 50 then s.entryComplete pd else s)

/-- A waking domain reports ON (R72). -/
def execWakeComplete (pd : Nat) (s : State) : Host.Outcome State Fault Refusal :=
  .next (s.onMain fun s => if pd < 50 then s.domainWake pd else s)

/-- A change of performance level completes (R77). -/
def execPlevelDone (pd : Nat) (s : State) : Host.Outcome State Fault Refusal :=
  .next (s.onMain fun s => if pd < 50 then s.plevelDone pd else s)

/-- A wake pin changes level (R74). -/
def execWakePin (k : Nat) (level : Bool) (s : State) : Host.Outcome State Fault Refusal :=
  .next (s.wakePin k level)

/-- The wake alarm matches (R75). -/
def execAlarmMatch (s : State) : Host.Outcome State Fault Refusal :=
  .next (s.alarmMatch)

/-- The die has drifted (R80). -/
def execDriftRetrain (drift : Nat) (s : State) : Host.Outcome State Fault Refusal :=
  .next (s.onMain (·.driftRetrain drift))

/-- A pending retrain starts (R80). -/
def execRetrainStart (s : State) : Host.Outcome State Fault Refusal :=
  .next (s.onMain (·.retrainStart))

/-- The retrain ends (R81). -/
def execRetrainDone (s : State) : Host.Outcome State Fault Refusal :=
  .next (s.onMain (·.retrainDone))

/-- PORST_N is deasserted (R83). -/
def execColdStart (straps : BitVec 4) (s : State) : Host.Outcome State Fault Refusal :=
  .next (s.coldStart straps)

/-- Device memory is trained (R83). -/
def execTrainingComplete (s : State) : Host.Outcome State Fault Refusal :=
  .next (s.trainingComplete)

/-- A warm reset (R84). -/
def execWarmReset (slowPeriods : Nat) (s : State) : Host.Outcome State Fault Refusal :=
  .next (s.warmReset slowPeriods)

/-- PORST_N or PWRGOOD low (R493). -/
def execPowerOnReset (s : State) : Host.Outcome State Fault Refusal :=
  .next (s.powerOnReset)

/-- Validation ends (R89). -/
def execValidationDone (s : State) : Host.Outcome State Fault Refusal :=
  .next (s.onMain (·.validationDone))

/-- The start sequence (R91). -/
def execStarting (copyFault : Bool) (s : State) : Host.Outcome State Fault Refusal :=
  .next (s.onMain (·.starting copyFault))

/-- The junction crosses the HOT bounds (R501). -/
def execHot (temp : BitVec 12) (s : State) : Host.Outcome State Fault Refusal :=
  .next (s.onMain (·.hot temp))

/-- The junction crosses the CRIT bounds (R501). -/
def execCrit (temp : BitVec 12) (s : State) : Host.Outcome State Fault Refusal :=
  .next (s.onMain (·.crit temp))

/-- The thermal trip (R501). -/
def execTrip (s : State) : Host.Outcome State Fault Refusal :=
  .next (s.trip)

/-! ### Pasture engines, line lists, beam, scan-out (R110 to R117, R140 to R155, R182 to R191) -/

/-- A line start (R113, R141). -/
def execLineStart (pe : Nat) (s : State) : Host.Outcome State Fault Refusal :=
  .next (s.onUnit 0 (pgPE pe) .kPE pe (·.lineStart pe))

/-- A line is composed (R117). -/
def execLineComplete (pe : Nat) (s : State) : Host.Outcome State Fault Refusal :=
  .next (s.onUnit 0 (pgPE pe) .kPE pe (·.lineComplete pe))

/-- A fetch from PASTURE returns (R110). -/
def execPastureFetchDone (pe : Nat) (kind : FetchKind) (addr : Nat) (err : Bool) (s : State) : Host.Outcome State Fault Refusal :=
  .next (s.onUnit 0 (pgPE pe) .kPE pe (·.pastureFetchDone pe kind addr err))

/-- Dot 0 of a beam line (R140). -/
def execBeamLine (head : Nat) (s : State) : Host.Outcome State Fault Refusal :=
  .next (s.onUnit 0 (pgHEAD head) .kHEAD head (·.beamLine head))

/-- The scan deadline of the next line (R143). -/
def execScanDeadline (head : Nat) (s : State) : Host.Outcome State Fault Refusal :=
  .next (s.onUnit 0 (pgHEAD head) .kHEAD head (·.scanDeadline head))

/-- The last write of a capture lands (R191). -/
def execWbDone (head : Nat) (s : State) : Host.Outcome State Fault Refusal :=
  .next (s.onUnit 0 (pgHEAD head) .kHEAD head (·.wbDone head))

/-- A sync event (R205). -/
def execSyncEvent (head : Nat) (s : State) : Host.Outcome State Fault Refusal :=
  .next (s.onUnit 0 (pgHEAD head) .kHEAD head (·.syncEvent head))

/-- Three nominal frames without a sync event (R207). -/
def execSyncLost (head : Nat) (s : State) : Host.Outcome State Fault Refusal :=
  .next (s.onUnit 0 (pgHEAD head) .kHEAD head (·.syncLost head))

/-- Line-list entries arrive (R155). -/
def execLlFetchDone (head : Nat) (err : Bool) (s : State) : Host.Outcome State Fault Refusal :=
  .next (s.onUnit 0 (pgHEAD head) .kHEAD head (·.llFetchDone head err))

/-- A Sapphire bank copy completes (R182). -/
def execSapCopyDone (head : Nat) (s : State) : Host.Outcome State Fault Refusal :=
  .next (s.onUnit 1 (pgSAP head) .kSAPPHIRE head (·.sapCopyDone head))

/-- A frame signature is checked (R184). -/
def execSignatureCheck (head : Nat) (s : State) : Host.Outcome State Fault Refusal :=
  .next (s.onUnit 1 (pgSAP head) .kSAPPHIRE head (·.signatureCheck head))

/-! ### Video ports, relief (R201 to R203, R216) -/

/-- Link training ends (R201). -/
def execLinkTrainingDone (port : Nat) (rate : Option Nat) (s : State) : Host.Outcome State Fault Refusal :=
  .next (s.onUnit 0 (pgVP port) .kVP port (·.trainingDone port rate))

/-- HPD changes (R201). -/
def execHpdChange (port : Nat) (level : Bool) (s : State) : Host.Outcome State Fault Refusal :=
  .next (if port < 8 then s.hpdChange port level else s)

/-- A short pulse on HPD (R202). -/
def execHpdIrq (port : Nat) (statusLost : Bool) (s : State) : Host.Outcome State Fault Refusal :=
  .next (s.onUnit 0 (pgVP port) .kVP port (·.hpdIrq port statusLost))

/-- An AUX transaction completes (R203). -/
def execAuxDone (port result : Nat) (data : List (BitVec 8)) (s : State) : Host.Outcome State Fault Refusal :=
  .next (s.onUnit 0 (pgVP port) .kVP port (·.auxDone port result data))

/-- A self-test finishes (R216). -/
def execBistDone (pe failCode : Nat) (s : State) : Host.Outcome State Fault Refusal :=
  .next (s.onUnit 0 (pgPE pe) .kPE pe (·.bistDone pe failCode))

/-! ### Blitter (R227 to R239) -/

/-- The command NOP of the running list. -/
def execBltNop (cls : BltClass) (err : Bool) (s : State) : Host.Outcome State Fault Refusal :=
  .next (s.onPage 0 pBLITTER (·.bltNop cls err))

/-- The command COPY of the running list. -/
def execBltCopy (cls : BltClass) (err : BltErr) (s : State) (rows : Option Nat := none) : Host.Outcome State Fault Refusal :=
  .next (s.onPage 0 pBLITTER (·.bltCopyCmd cls err rows))

/-- The command FILL of the running list. -/
def execBltFill (cls : BltClass) (err : BltErr) (s : State) (rows : Option Nat := none) : Host.Outcome State Fault Refusal :=
  .next (s.onPage 0 pBLITTER (·.bltFillCmd cls err rows))

/-- The command EXPAND of the running list. -/
def execBltExpand (cls : BltClass) (err : BltErr) (s : State) (rows : Option Nat := none) : Host.Outcome State Fault Refusal :=
  .next (s.onPage 0 pBLITTER (·.bltExpandCmd cls err rows))

/-- The command BLEND of the running list. -/
def execBltBlend (cls : BltClass) (err : BltErr) (s : State) (rows : Option Nat := none) : Host.Outcome State Fault Refusal :=
  .next (s.onPage 0 pBLITTER (·.bltBlendCmd cls err rows))

/-- The command CONVERT of the running list. -/
def execBltConvert (cls : BltClass) (err : BltErr) (s : State) (rows : Option Nat := none) : Host.Outcome State Fault Refusal :=
  .next (s.onPage 0 pBLITTER (·.bltConvertCmd cls err rows))

/-- The command WAITLINE of the running list. -/
def execBltWaitline (cls : BltClass) (err : Bool) (s : State) : Host.Outcome State Fault Refusal :=
  .next (s.onPage 0 pBLITTER (·.bltWait cls err))

/-- The command PALETTE of the running list. -/
def execBltPalette (cls : BltClass) (err : BltErr) (s : State) : Host.Outcome State Fault Refusal :=
  .next (s.onPage 0 pBLITTER (·.bltPaletteCmd cls err))

/-- The command SIGNAL of the running list. -/
def execBltSignal (cls : BltClass) (err : Bool) (s : State) : Host.Outcome State Fault Refusal :=
  .next (s.onPage 0 pBLITTER (·.bltSignal cls err))

/-- The command LINK of the running list. -/
def execBltLink (cls : BltClass) (err : Bool) (s : State) : Host.Outcome State Fault Refusal :=
  .next (s.onPage 0 pBLITTER (·.bltLink cls err))

/-- The command END of the running list. -/
def execBltEnd (cls : BltClass) (err : Bool) (s : State) : Host.Outcome State Fault Refusal :=
  .next (s.onPage 0 pBLITTER (·.bltEnd cls err))

/-- The beam enters the WAITLINE window (R234). -/
def execBltWaitlineDone (cls : BltClass) (s : State) : Host.Outcome State Fault Refusal :=
  .next (s.onPage 0 pBLITTER (·.bltWaitDone cls))

/-- The watermark line comes before END (R238). -/
def execRaceLate (s : State) : Host.Outcome State Fault Refusal :=
  .next (s.onPage 0 pBLITTER (·.raceLateEv))

/-- A DEADTIME pause ends (R239). -/
def execPaceDeadtimeEnd (cls : BltClass) (s : State) : Host.Outcome State Fault Refusal :=
  .next (s.onPage 0 pBLITTER (·.paceEnd cls))

/-! ### Field ports, check-value units (R246 to R260, R268, R269) -/

/-- A character, byte or flag arrives (R246, R247). -/
def execRxCharacter (fp : Nat) (ch : RxChar) (idlePc : Nat) (s : State) : Host.Outcome State Fault Refusal :=
  .next (s.onUnit 0 (pgFP fp) .kFP fp (·.rxCharacter fp ch idlePc))

/-- A break (R246). -/
def execRxBreak (fp : Nat) (s : State) : Host.Outcome State Fault Refusal :=
  .next (s.onUnit 0 (pgFP fp) .kFP fp (·.rxBreak fp))

/-- The line has been idle for GAP_BITS (R257). -/
def execRxGapTimeout (fp : Nat) (s : State) : Host.Outcome State Fault Refusal :=
  .next (s.onUnit 0 (pgFP fp) .kFP fp (·.rxGapTimeout fp))

/-- Modbus silence of t3.5 (R259). -/
def execT35Silence (fp : Nat) (s : State) : Host.Outcome State Fault Refusal :=
  .next (s.onUnit 0 (pgFP fp) .kFP fp (·.t35Silence fp))

/-- An HDLC-style abort (R247). -/
def execHdlcAbort (fp : Nat) (s : State) : Host.Outcome State Fault Refusal :=
  .next (s.onUnit 0 (pgFP fp) .kFP fp (·.hdlcAbort fp))

/-- The next transmit descriptor is taken (R248). -/
def execTxDescriptorTake (fp : Nat) (s : State) : Host.Outcome State Fault Refusal :=
  .next (s.onUnit 0 (pgFP fp) .kFP fp (·.txTake fp))

/-- NOT_BEFORE is reached (R248). -/
def execTxNotBefore (fp : Nat) (s : State) : Host.Outcome State Fault Refusal :=
  .next (s.onUnit 0 (pgFP fp) .kFP fp (·.txNotBefore fp))

/-- The carrier has been quiet (R248). -/
def execLbtQuiet (fp : Nat) (s : State) : Host.Outcome State Fault Refusal :=
  .next (s.onUnit 0 (pgFP fp) .kFP fp (·.lbtQuiet fp))

/-- The key-up wait ends (R248). -/
def execKeyupEnd (fp : Nat) (s : State) : Host.Outcome State Fault Refusal :=
  .next (s.onUnit 0 (pgFP fp) .kFP fp (·.keyupEnd fp))

/-- The last bit leaves (R248). -/
def execTxLastBit (fp : Nat) (s : State) : Host.Outcome State Fault Refusal :=
  .next (s.onUnit 0 (pgFP fp) .kFP fp (·.txLastBit fp))

/-- The PTT tail ends (R248). -/
def execTailEnd (fp : Nat) (s : State) : Host.Outcome State Fault Refusal :=
  .next (s.onUnit 0 (pgFP fp) .kFP fp (·.tailEnd fp))

/-- PTT held longer than TX_MAX (R249). -/
def execTxTimeout (fp : Nat) (s : State) : Host.Outcome State Fault Refusal :=
  .next (s.onUnit 0 (pgFP fp) .kFP fp (·.txTimeout fp))

/-- A CD change is accepted (R250). -/
def execCdChange (fp : Nat) (level : Bool) (s : State) : Host.Outcome State Fault Refusal :=
  .next (s.onUnit 0 (pgFP fp) .kFP fp (·.cdChange fp level))

/-- A context save or load completes (R268). -/
def execCtxDone (cv : Nat) (s : State) : Host.Outcome State Fault Refusal :=
  .next (s.onUnit 0 (pgCV cv) .kCV cv (·.ctxDone cv))

/-- The self-check completes (R269). -/
def execSelfcheckDone (cv defectRow : Nat) (s : State) : Host.Outcome State Fault Refusal :=
  .next (s.onUnit 0 (pgCV cv) .kCV cv (·.selfcheckDone cv defectRow))

/-! ### Commits and commands (R283, R286, R303, R304, R308) -/

/-- The commit engine takes an entry (R283). -/
def execCommitTake (err : Bool) (s : State) : Host.Outcome State Fault Refusal :=
  .next (s.onPage 0 pPOINTS (·.commitTake err))

/-- The taken commit is applied (R286). -/
def execCommitApply (s : State) : Host.Outcome State Fault Refusal :=
  .next (s.onPage 0 pPOINTS (·.commitApply))

/-- The dispatcher takes a request (R303). -/
def execCommandRequest (err : Bool) (s : State) : Host.Outcome State Fault Refusal :=
  .next (s.onPage 0 pCOMMANDS (·.commandRequest err))

/-- A waiting transaction gets its channel (R304). -/
def execChannelGrant (txn : Nat) (s : State) : Host.Outcome State Fault Refusal :=
  .next (s.onPage 0 pCOMMANDS (·.channelGrant txn))

/-- SELECT_TO elapses (R304). -/
def execSelectToExpiry (txn : Nat) (s : State) : Host.Outcome State Fault Refusal :=
  .next (s.onPage 0 pCOMMANDS (·.selectExpiry txn))

/-- The select window closes (R304). -/
def execWindowExpiry (txn : Nat) (s : State) : Host.Outcome State Fault Refusal :=
  .next (s.onPage 0 pCOMMANDS (·.windowExpiry txn))

/-- OPERATE_TO elapses (R304). -/
def execOperateToExpiry (txn : Nat) (s : State) : Host.Outcome State Fault Refusal :=
  .next (s.onPage 0 pCOMMANDS (·.operateExpiry txn))

/-- FEEDBACK_TO elapses (R304). -/
def execFeedbackToExpiry (txn : Nat) (s : State) : Host.Outcome State Fault Refusal :=
  .next (s.onPage 0 pCOMMANDS (·.feedbackExpiry txn))

/-- Authority is lost (R308). -/
def execAuthorityLoss (s : State) : Host.Outcome State Fault Refusal :=
  .next (s.onMain (·.loseAuthority))

/-! ### Journal and mirror pair (R319 to R341) -/

/-- FLUSH_WAIT elapses (R319). -/
def execFlushWaitExpiry (s : State) : Host.Outcome State Fault Refusal :=
  .next (s.onPage 0 pJOURNAL (·.flushWait))

/-- A window or staging write completes (R319). -/
def execWindowWriteDone (window ok : Bool) (s : State) : Host.Outcome State Fault Refusal :=
  .next (s.onPage 0 pJOURNAL fun s => if window then s.windowDone ok else s.stageDone ok)

/-- Global Persistent Flush, phase 1 (R321). -/
def execGpfPhase1 (s : State) : Host.Outcome State Fault Refusal :=
  .next (s.onMain (·.gpf1))

/-- Global Persistent Flush, phase 2 (R321). -/
def execGpfPhase2 (s : State) : Host.Outcome State Fault Refusal :=
  .next (s.onMain (·.gpf2))

/-- The falling edge of PWRFAIL_N (R322). -/
def execPwrfail (s : State) : Host.Outcome State Fault Refusal :=
  .next (s.onMain (·.pwrfail))

/-- The checkpoint descriptor lands (R324, R341). -/
def execCpDone (ok : Bool) (s : State) : Host.Outcome State Fault Refusal :=
  .next (s.onPage 0 pJOURNAL (·.cpFinish ok))

/-- Replay stops (R326). -/
def execReplayDone (memErr : Bool) (s : State) : Host.Outcome State Fault Refusal :=
  .next (s.onPage 0 pJOURNAL (·.replayFinish memErr))

/-- No RELINQUISH within 100 ms (R330). -/
def execClaimTimeout (s : State) : Host.Outcome State Fault Refusal :=
  .next (s.onPage 0 pMIRROR (·.claimTimeout))

/-- L not applied within 100 ms (R331). -/
def execPromotionTimeout (s : State) : Host.Outcome State Fault Refusal :=
  .next (s.onPage 0 pMIRROR (·.promotionTimeout))

/-- A scheduled role change takes effect (R332). -/
def execRoleChange (s : State) : Host.Outcome State Fault Refusal :=
  .next (s.onPage 0 pMIRROR (·.roleChange))

/-- ISOLATE_HOLD ends (R329). -/
def execIsolateHoldEnd (s : State) : Host.Outcome State Fault Refusal :=
  .next (s.onPage 0 pMIRROR (·.holdEnd))

/-- The mirror link trains (R334). -/
def execMirrorLinkUp (s : State) : Host.Outcome State Fault Refusal :=
  .next (s.onPage 0 pMIRROR (·.linkTrained))

/-- A HEARTBEAT is due (R334). -/
def execHeartbeatSend (s : State) : Host.Outcome State Fault Refusal :=
  .next (s.onPage 0 pMIRROR (·.heartbeatSend))

/-- A period without a heartbeat (R336). -/
def execHeartbeatMiss (s : State) : Host.Outcome State Fault Refusal :=
  .next (s.onPage 0 pMIRROR (·.heartbeatMiss))

/-- 200 µs without an advancing ACK (R335). -/
def execAckTimeout (s : State) : Host.Outcome State Fault Refusal :=
  .next (s.onPage 0 pMIRROR (·.ackTimeout))

/-- The link loses its lanes or alignment (R334). -/
def execMirrorLinkLoss (s : State) : Host.Outcome State Fault Refusal :=
  .next (s.onPage 0 pMIRROR (·.mirrorDown))

/-- MP112 has changed for 100 µs (R329). -/
def execArbInChange (level : Bool) (s : State) : Host.Outcome State Fault Refusal :=
  .next (s.onPage 0 pMIRROR (·.arbChange level))

/-- HELLO (R335). -/
def execHello (crcOk : Bool) (side compat role : BitVec 8) (authority : Bool) (epoch : BitVec 32) (_nextSeq : BitVec 64) (s : State) : Host.Outcome State Fault Refusal :=
  .next (s.onPage 0 pMIRROR (·.frameIn crcOk true (·.helloFrame side.toNat compat.toNat role.toNat authority epoch.toNat)))

/-- HEARTBEAT (R336). -/
def execHeartbeat (crcOk : Bool) (role : BitVec 8) (authority : Bool) (epoch : BitVec 32) (nextSeq _appliedNext : BitVec 64) (s : State) : Host.Outcome State Fault Refusal :=
  .next (s.onPage 0 pMIRROR (·.frameIn crcOk false (·.heartbeatFrame role.toNat authority epoch.toNat nextSeq.toNat)))

/-- JOURNAL (R334, R338). -/
def execJournalFrame (crcOk : Bool) (bytes : List (BitVec 8)) (s : State) : Host.Outcome State Fault Refusal :=
  .next (s.onPage 0 pMIRROR (·.frameIn crcOk false (·.journalIn bytes)))

/-- ACK (R335). -/
def execAck (crcOk : Bool) (ackedNext : BitVec 64) (s : State) : Host.Outcome State Fault Refusal :=
  .next (s.onPage 0 pMIRROR (·.frameIn crcOk false (·.ackFrame ackedNext.toNat)))

/-- The token RELINQUISH (R331). -/
def execRelinquish (crcOk : Bool) (_epoch : BitVec 32) (lastSeq : BitVec 64) (s : State) : Host.Outcome State Fault Refusal :=
  .next (s.onPage 0 pMIRROR (·.frameIn crcOk false (·.relinquishFrame lastSeq.toNat)))

/-- The token TAKE (R331). -/
def execTake (crcOk : Bool) (_epoch : BitVec 32) (s : State) : Host.Outcome State Fault Refusal :=
  .next (s.onPage 0 pMIRROR (·.frameIn crcOk false (·.takeFrame)))

/-- RESYNC_REQ (R340). -/
def execResyncReq (crcOk : Bool) (lastSeq : BitVec 64) (crc : BitVec 32) (s : State) : Host.Outcome State Fault Refusal :=
  .next (s.onPage 0 pMIRROR (·.frameIn crcOk false (·.resyncReqFrame lastSeq.toNat crc.toNat)))

/-- CP_DATA (R341). -/
def execCpData (crcOk : Bool) (off : BitVec 64) (bytes : List (BitVec 8)) (s : State) : Host.Outcome State Fault Refusal :=
  .next (s.onPage 0 pMIRROR (·.frameIn crcOk false (·.cpDataFrame off.toNat bytes)))

/-- CP_END (R341). -/
def execCpEnd (crcOk : Bool) (seq length : BitVec 64) (bodyCrc : BitVec 32) (s : State) : Host.Outcome State Fault Refusal :=
  .next (s.onPage 0 pMIRROR (·.frameIn crcOk false (·.cpEndFrame seq.toNat length.toNat bodyCrc.toNat)))

/-- A line-sync marker arrives (R337). -/
def execLineSyncMarker (mode : Nat) (frame : BitVec 48) (s : State) : Host.Outcome State Fault Refusal :=
  .next (s.onPage 0 pMIRROR (·.markerIn mode frame))

/-! ### Annunciation audio (R396 to R407) -/

/-- A sample boundary (R396). -/
def execSampleBoundary (sdi : List (BitVec 32)) (s : State) : Host.Outcome State Fault Refusal :=
  .next (s.onPage 0 pAUDIO (·.sampleBoundary sdi))

/-- A PCM fetch arrives (R402). -/
def execPcmFetchDone (voice : Nat) (err : Bool) (s : State) : Host.Outcome State Fault Refusal :=
  .next (s.onVoice voice (·.pcmFetchDone voice err))

/-- A voice's DURATION runs out (R407). -/
def execDurationEnd (voice : Nat) (s : State) : Host.Outcome State Fault Refusal :=
  .next (s.onVoice voice (·.durationEnd voice))

/-- A cadence period ends (R401). -/
def execCadenceToggle (voice : Nat) (s : State) : Host.Outcome State Fault Refusal :=
  .next (s.onVoice voice (·.cadenceToggle voice))

/-! ### Interrupts, drover, time base (R425, R426, R433, R434, R438 to R441) -/

/-- A delivery slot of a group (R425). -/
def execInterruptDelivery (group : Nat) (s : State) : Host.Outcome State Fault Refusal :=
  .next (s.onMain (·.interruptDelivery group))

/-- The hold-off timer expires (R425). -/
def execHoldoffEnd (group : Nat) (s : State) : Host.Outcome State Fault Refusal :=
  .next (s.onMain (·.holdoffEnd group))

/-- A coalescing window closes (R426). -/
def execCoalWindowEnd (group : Nat) (s : State) : Host.Outcome State Fault Refusal :=
  .next (s.onMain (·.coalWindowEnd group))

/-- A beat of the drover engine (R433). -/
def execDroverBeat (err collided : Bool) (s : State) : Host.Outcome State Fault Refusal :=
  .next (s.onPage 0 pDROVER (·.droverBeat err collided))

/-- A channel's last write completes (R434). -/
def execDvDone (dv : Nat) (s : State) : Host.Outcome State Fault Refusal :=
  .next (s.onUnit 0 (pgDV dv) .kDV dv (·.dvDone dv))

/-- A compare channel matches (R440). -/
def execCompareMatch (cmp : Nat) (s : State) : Host.Outcome State Fault Refusal :=
  .next (s.onMain (·.compareMatch cmp))

/-- A late channel adds INTERVAL (R441). -/
def execCatchUp (cmp : Nat) (s : State) : Host.Outcome State Fault Refusal :=
  .next (s.onMain (·.catchUp cmp))

/-- A calibration window ends (R438). -/
def execCalWindowEnd (count : Nat) (s : State) : Host.Outcome State Fault Refusal :=
  .next (s.onMain (·.calWindowEnd count))

/-! ### Host attachment (R444 to R460) -/

/-- The CXL link trains (R444). -/
def execCxlLinkUp (rate width : Nat) (flit256 cacheMem ideIo ideCm : Bool) (s : State) : Host.Outcome State Fault Refusal :=
  .next (s.onMain (·.cxlLinkUp rate width flit256 cacheMem ideIo ideCm))

/-- PERST#, hot reset or link down (R456). -/
def execCxlReset (s : State) : Host.Outcome State Fault Refusal :=
  .next (s.onMain (·.cxlReset))

/-- A configuration request (R457). -/
def execConfigRequest (s : State) (func : Nat := 0) (reg : CfgReg := .command) (data : Option (BitVec 32) := none) : Host.Outcome State Fault Refusal :=
  .next (s.configRequest func reg data)

/-- The host commits the HDM decoder (R450). -/
def execHdmCommit (base : BitVec 64) (sizeBytes : Nat) (s : State) : Host.Outcome State Fault Refusal :=
  .next (s.onMain (·.hdmCommit base sizeBytes))

/-- A vector is unmasked (R449). -/
def execVectorUnmask (vector : Nat) (s : State) : Host.Outcome State Fault Refusal :=
  .next (s.onMain (·.vectorUnmask vector))

/-- An IDE integrity failure (R455). -/
def execIdeFault (s : State) : Host.Outcome State Fault Refusal :=
  .next (s.onMain (·.ideFault))

/-- A whole inbound frame is taken (R459). -/
def execRelayInboundFrame (ring : Nat) (lines : List RelayLine) (fail : Bool) (s : State) : Host.Outcome State Fault Refusal :=
  .next (s.onMain fun s => if ring < 8 then s.relayInbound ring lines fail else s)

/-- An outbound frame is written (R460). -/
def execRelayOutboundFrame (ring : Nat) (fail : Bool) (s : State) : Host.Outcome State Fault Refusal :=
  .next (s.onMain fun s => if ring < 8 then s.relayOutbound ring fail else s)

/-! ### Pins (R489, R490) -/

/-- A bank's supply reads differently (R489). -/
def execBankChange (bank : Nat) (level : BitVec 2) (s : State) : Host.Outcome State Fault Refusal :=
  .next (s.onMain (·.bankChange bank level))

/-- An I2C transfer ends (R490). -/
def execI2cDone (port : Nat) (nack : Bool) (data : BitVec 32) (s : State) : Host.Outcome State Fault Refusal :=
  .next (s.onMain (·.i2cDone port nack data))

/-- SCL held low beyond 10 ms (R490). -/
def execI2cTimeout (port : Nat) (s : State) : Host.Outcome State Fault Refusal :=
  .next (s.onMain (·.i2cTimeout port))

/-- An SPI transfer ends (R490). -/
def execSpiDone (port : Nat) (rx : BitVec 32) (s : State) : Host.Outcome State Fault Refusal :=
  .next (s.onMain (·.spiDone port rx))

end Sys2Proof.Machine
end

