-- ==== Sys2Proof/Machine/RegCmd.lean ====
section
/-! DEFINITION. The commands that are a write of one register: each carries its write to the bus, where the checks of
R23 and R33 and the register's own rule decide (chapters 02 to 19). The value is the whole word written; rows whose
write has one meaning carry that value themselves. A unit index the row's register does not have writes nothing. -/

namespace Sys2Proof.Machine

/-- A write that reaches the bus. -/
def State.writeAt (s : State) (func page off size value : Nat) (wr : Code) : State :=
  s.busWrite { func := func, page := page, off := off, size := size, value := BitVec.ofNat 64 value, code := wr }

/-- The same for unit `n` of `lim`. -/
def State.unitWrite (s : State) (lim n func page off size value : Nat) (wr : Code) : State :=
  if n < lim then s.writeAt func page off size value wr else s

/-- ACTION of a voice as one 64-bit write (R404). -/
def State.voiceAct (s : State) (voice act param : Nat) (wr : Code) : State :=
  s.unitWrite 64 voice 0 pAUDIO 0x108 8 (param + voice * 2 ^ 32 + act * 2 ^ 40) wr

/-! ### Registers, owners, fences (R22 to R37, R470 to R474, R505) -/

/-- A register write as the bus carries it (R23, R33). -/
def execRegisterWrite (a : RegAddr) (size : Nat) (value : BitVec 64) (wr : Code) (s : State) : Host.Outcome State Fault Refusal :=
  .next (s.writeAt a.func a.page a.off size value.toNat wr)

/-- The low or the high half of the 64-bit register at `a` (R505). -/
def execHalfWrite (a : RegAddr) (high : Bool) (value : BitVec 32) (wr : Code) (s : State) : Host.Outcome State Fault Refusal :=
  .next (s.writeAt a.func a.page (a.off + if high then 4 else 0) 4 value.toNat wr)

/-- LOCK (R29). -/
def execLock (func page : Nat) (value : BitVec 32) (wr : Code) (s : State) : Host.Outcome State Fault Refusal :=
  .next (s.writeAt func page 0x01C 4 value.toNat wr)

/-- OWNER (R34). -/
def execOwnerWrite (func page : Nat) (value : BitVec 32) (wr : Code) (s : State) : Host.Outcome State Fault Refusal :=
  .next (s.writeAt func page 0x018 4 value.toNat wr)

/-- HIST_CTRL.CLEAR (R30). -/
def execHistClear (func page : Nat) (wr : Code) (s : State) : Host.Outcome State Fault Refusal :=
  .next (s.writeAt func page 0x020 4 0x80000000 wr)

/-- OWN_VALUE, which Function 1 alone reaches (R37). -/
def execOwnValueWrite (value : BitVec 32) (s : State) : Host.Outcome State Fault Refusal :=
  .next (s.writeAt 1 pOWNERSHIP 0x104 4 value.toNat 0x02)

/-- OWN_FENCE.FENCE (R37). -/
def execOwnFence (s : State) : Host.Outcome State Fault Refusal :=
  .next (s.writeAt 1 pOWNERSHIP 0x108 4 1 0x02)

/-- OWN_FENCE.UNFENCE (R37). -/
def execOwnUnfence (s : State) : Host.Outcome State Fault Refusal :=
  .next (s.writeAt 1 pOWNERSHIP 0x108 4 2 0x02)

/-- CTRL with FENCE_REQ (R470, R471). -/
def execFenceReq (func page : Nat) (value : BitVec 32) (wr : Code) (s : State) : Host.Outcome State Fault Refusal :=
  .next (s.writeAt func page 0x008 4 value.toNat wr)

/-- CTRL with UNFENCE (R474). -/
def execUnfence (func page : Nat) (value : BitVec 32) (wr : Code) (s : State) : Host.Outcome State Fault Refusal :=
  .next (s.writeAt func page 0x008 4 value.toNat wr)

/-- WDOG_KICK (R39). -/
def execWdogKick (value : BitVec 32) (s : State) : Host.Outcome State Fault Refusal :=
  .next (s.writeAt 1 pSAFETY 0x108 4 value.toNat 0x02)

/-- WDOG_CFG (R39). -/
def execWdogCfgWrite (value : BitVec 32) (s : State) : Host.Outcome State Fault Refusal :=
  .next (s.writeAt 1 pSAFETY 0x100 4 value.toNat 0x02)

/-! ### Data ports, history window (R48, R56 to R61) -/

/-- DATnn_BURST or DATnn_ADDR (R56, R59). -/
def execDatAddrWrite (port : Nat) (burst : Bool) (value : BitVec 64) (wr : Code) (s : State) : Host.Outcome State Fault Refusal :=
  .next (if burst then s.unitWrite 16 port 0 pDATAPORTS (0x10C + 0x40 * port) 4 value.toNat wr
    else s.unitWrite 16 port 0 pDATAPORTS (0x100 + 0x40 * port) 8 value.toNat wr)

/-- DATnn_CTRL (R57, R59). -/
def execDatEnClear (port : Nat) (value : BitVec 32) (wr : Code) (s : State) : Host.Outcome State Fault Refusal :=
  .next (s.unitWrite 16 port 0 pDATAPORTS (0x110 + 0x40 * port) 4 value.toNat wr)

/-- DATnn_OWNER (R61). -/
def execDatOwnerWrite (port : Nat) (value : BitVec 32) (wr : Code) (s : State) : Host.Outcome State Fault Refusal :=
  .next (s.unitWrite 16 port 0 pDATAPORTS (0x118 + 0x40 * port) 4 value.toNat wr)

/-- HIST_WIN_BASE (R48). -/
def execHistWinBaseWrite (value : BitVec 64) (wr : Code) (s : State) : Host.Outcome State Fault Refusal :=
  .next (s.writeAt 0 pPARTITIONS 0x188 8 value.toNat wr)

/-! ### Power, memory training, START (R69, R77, R80, R81, R85) -/

/-- PDnn_CTRL with TARGET (R69). -/
def execTargetWrite (pd : Nat) (value : BitVec 32) (wr : Code) (s : State) : Host.Outcome State Fault Refusal :=
  .next (s.unitWrite 50 pd 0 pPOWER (0x100 + 0x10 * pd) 4 value.toNat wr)

/-- PDnn_CTRL with PLEVEL (R77). -/
def execPlevelWrite (pd : Nat) (value : BitVec 32) (wr : Code) (s : State) : Host.Outcome State Fault Refusal :=
  .next (s.unitWrite 50 pd 0 pPOWER (0x100 + 0x10 * pd) 4 value.toNat wr)

/-- TRAIN_CTRL with REQUEST (R80). -/
def execTrainRequest (value : BitVec 32) (wr : Code) (s : State) : Host.Outcome State Fault Refusal :=
  .next (s.writeAt 0 pMEMCTL 0x200 4 value.toNat wr)

/-- TRAIN_CTRL with FORCE (R81). -/
def execTrainForce (value : BitVec 32) (wr : Code) (s : State) : Host.Outcome State Fault Refusal :=
  .next (s.writeAt 0 pMEMCTL 0x200 4 value.toNat wr)

/-- START (R85). -/
def execStart (value : BitVec 32) (wr : Code) (s : State) : Host.Outcome State Fault Refusal :=
  .next (s.writeAt 0 pDEVICE 0x118 4 value.toNat wr)

/-! ### Pasture engines, line lists, Sapphire (R113 to R115, R131, R132, R144, R170, R179 to R188) -/

/-- PAL_DATA (R115). -/
def execPalDataWrite (pe : Nat) (value : BitVec 64) (wr : Code) (s : State) : Host.Outcome State Fault Refusal :=
  .next (s.unitWrite 33 pe 0 (pgPE pe) 0x110 8 value.toNat wr)

/-- LAYER_HOLD (R114). -/
def execLayerHoldWrite (pe : Nat) (value : BitVec 32) (wr : Code) (s : State) : Host.Outcome State Fault Refusal :=
  .next (s.unitWrite 33 pe 0 (pgPE pe) 0x104 4 value.toNat wr)

/-- FLK_DATA (R131). -/
def execFlkDataWrite (pe : Nat) (value : BitVec 32) (wr : Code) (s : State) : Host.Outcome State Fault Refusal :=
  .next (s.unitWrite 33 pe 0 (pgPE pe) 0x610 4 value.toNat wr)

/-- FLK_HOLD (R132). -/
def execFlkHoldWrite (pe : Nat) (value : BitVec 32) (wr : Code) (s : State) : Host.Outcome State Fault Refusal :=
  .next (s.unitWrite 33 pe 0 (pgPE pe) 0x604 4 value.toNat wr)

/-- LOOKAHEAD (R144). -/
def execLookaheadWrite (head : Nat) (value : BitVec 32) (wr : Code) (s : State) : Host.Outcome State Fault Refusal :=
  .next (s.unitWrite 32 head 0 (pgHEAD head) 0x218 4 value.toNat wr)

/-- LUT_DATA (R170). -/
def execLutDataWrite (pe : Nat) (value : BitVec 32) (wr : Code) (s : State) : Host.Outcome State Fault Refusal :=
  .next (s.unitWrite 33 pe 0 (pgPE pe) 0x804 4 value.toNat wr)

/-- SAP_DATA (R179). -/
def execSapDataWrite (head : Nat) (value : BitVec 32) (wr : Code) (s : State) : Host.Outcome State Fault Refusal :=
  .next (s.unitWrite 32 head 1 (pgSAP head) 0x110 4 value.toNat wr)

/-- A Sapphire palette entry (R180). -/
def execSapPaletteWrite (head bank entry : Nat) (value : BitVec 64) (wr : Code) (s : State) : Host.Outcome State Fault Refusal :=
  .next (if bank < 2 ∧ entry < 64 then s.unitWrite 32 head 1 (pgSAP head) (0x400 + 0x200 * bank + 8 * entry) 8 value.toNat wr else s)

/-- SAP_CTRL with FLIP (R181). -/
def execSapFlip (head : Nat) (value : BitVec 32) (wr : Code) (s : State) : Host.Outcome State Fault Refusal :=
  .next (s.unitWrite 32 head 1 (pgSAP head) 0x100 4 value.toNat wr)

/-- SAP_CTRL with COPY (R182). -/
def execSapCopy (head : Nat) (value : BitVec 32) (wr : Code) (s : State) : Host.Outcome State Fault Refusal :=
  .next (s.unitWrite 32 head 1 (pgSAP head) 0x100 4 value.toNat wr)

/-- SAP_CTRL with LEARN (R186). -/
def execSapLearn (head : Nat) (value : BitVec 32) (wr : Code) (s : State) : Host.Outcome State Fault Refusal :=
  .next (s.unitWrite 32 head 1 (pgSAP head) 0x100 4 value.toNat wr)

/-! ### Heads, video ports, relief (R196, R201 to R203, R218 to R220) -/

/-- A head's CTRL with ENABLE = 1 (R196). -/
def execHeadEnable (head : Nat) (value : BitVec 32) (wr : Code) (s : State) : Host.Outcome State Fault Refusal :=
  .next (s.unitWrite 32 head 0 (pgHEAD head) 0x008 4 value.toNat wr)

/-- A head's CTRL with ENABLE = 0 (R196). -/
def execHeadDisable (head : Nat) (value : BitVec 32) (wr : Code) (s : State) : Host.Outcome State Fault Refusal :=
  .next (s.unitWrite 32 head 0 (pgHEAD head) 0x008 4 value.toNat wr)

/-- LINK_CMD.TRAIN (R201). -/
def execLinkTrain (port : Nat) (wr : Code) (s : State) : Host.Outcome State Fault Refusal :=
  .next (s.unitWrite 8 port 0 (pgVP port) 0x104 4 1 wr)

/-- LINK_CMD.DROP (R202). -/
def execLinkDrop (port : Nat) (wr : Code) (s : State) : Host.Outcome State Fault Refusal :=
  .next (s.unitWrite 8 port 0 (pgVP port) 0x104 4 2 wr)

/-- AUX_CMD with GO (R203). -/
def execAuxGo (port : Nat) (value : BitVec 32) (wr : Code) (s : State) : Host.Outcome State Fault Refusal :=
  .next (s.unitWrite 8 port 0 (pgVP port) 0x120 4 value.toNat wr)

/-- BIST_CTRL.REQ (R219). -/
def execBistReq (pe : Nat) (wr : Code) (s : State) : Host.Outcome State Fault Refusal :=
  .next (s.unitWrite 33 pe 0 (pgPE pe) 0x900 4 1 wr)

/-- BIST_CTRL.FORCE (R220). -/
def execBistForce (pe : Nat) (wr : Code) (s : State) : Host.Outcome State Fault Refusal :=
  .next (s.unitWrite 33 pe 0 (pgPE pe) 0x900 4 2 wr)

/-- REL_CTRL with RESUME (R218). -/
def execRelResume (value : BitVec 32) (wr : Code) (s : State) : Host.Outcome State Fault Refusal :=
  .next (s.writeAt 0 (pgPE 32) 0x980 4 value.toNat wr)

/-! ### Blitter (R225, R241) -/

/-- RACE_SUBMIT (R225). -/
def execRaceSubmit (value : BitVec 64) (wr : Code) (s : State) : Host.Outcome State Fault Refusal :=
  .next (s.writeAt 0 pBLITTER 0x108 8 value.toNat wr)

/-- BATCH_SUBMIT (R225). -/
def execBatchSubmit (value : BitVec 64) (wr : Code) (s : State) : Host.Outcome State Fault Refusal :=
  .next (s.writeAt 0 pBLITTER 0x110 8 value.toNat wr)

/-- QCTRL.RACE_RESUME (R241). -/
def execRaceResume (wr : Code) (s : State) : Host.Outcome State Fault Refusal :=
  .next (s.writeAt 0 pBLITTER 0x11C 4 1 wr)

/-- QCTRL.BATCH_RESUME (R241). -/
def execBatchResume (wr : Code) (s : State) : Host.Outcome State Fault Refusal :=
  .next (s.writeAt 0 pBLITTER 0x11C 4 2 wr)

/-- QCTRL.RACE_FLUSH (R241). -/
def execRaceFlush (wr : Code) (s : State) : Host.Outcome State Fault Refusal :=
  .next (s.writeAt 0 pBLITTER 0x11C 4 4 wr)

/-- QCTRL.BATCH_FLUSH (R241). -/
def execBatchFlush (wr : Code) (s : State) : Host.Outcome State Fault Refusal :=
  .next (s.writeAt 0 pBLITTER 0x11C 4 8 wr)

/-! ### Field ports and check-value units (R251 to R256, R266 to R269, R272) -/

/-- A field port's CTRL with ENABLE = 1 (R272). -/
def execFpEnable (fp : Nat) (value : BitVec 32) (wr : Code) (s : State) : Host.Outcome State Fault Refusal :=
  .next (s.unitWrite 16 fp 0 (pgFP fp) 0x008 4 value.toNat wr)

/-- A field port's CTRL with ENABLE = 0 (R251). -/
def execFpDisable (fp : Nat) (value : BitVec 32) (wr : Code) (s : State) : Host.Outcome State Fault Refusal :=
  .next (s.unitWrite 16 fp 0 (pgFP fp) 0x008 4 value.toNat wr)

/-- TX_HEAD (R255). -/
def execTxHeadWrite (fp : Nat) (value : BitVec 32) (wr : Code) (s : State) : Host.Outcome State Fault Refusal :=
  .next (s.unitWrite 16 fp 0 (pgFP fp) 0x138 4 value.toNat wr)

/-- RX_TAIL (R256). -/
def execRxTailWrite (fp : Nat) (value : BitVec 32) (wr : Code) (s : State) : Host.Outcome State Fault Refusal :=
  .next (s.unitWrite 16 fp 0 (pgFP fp) 0x134 4 value.toNat wr)

/-- SRC (R266). -/
def execCvSrcWrite (cv : Nat) (value : BitVec 32) (wr : Code) (s : State) : Host.Outcome State Fault Refusal :=
  .next (s.unitWrite 16 cv 0 (pgCV cv) 0x100 4 value.toNat wr)

/-- FEED8 (R266). -/
def execFeed8 (cv : Nat) (value : BitVec 32) (wr : Code) (s : State) : Host.Outcome State Fault Refusal :=
  .next (s.unitWrite 16 cv 0 (pgCV cv) 0x180 4 value.toNat wr)

/-- FEED32 (R266). -/
def execFeed32 (cv : Nat) (value : BitVec 32) (wr : Code) (s : State) : Host.Outcome State Fault Refusal :=
  .next (s.unitWrite 16 cv 0 (pgCV cv) 0x184 4 value.toNat wr)

/-- FEED64 (R266). -/
def execFeed64 (cv : Nat) (value : BitVec 64) (wr : Code) (s : State) : Host.Outcome State Fault Refusal :=
  .next (s.unitWrite 16 cv 0 (pgCV cv) 0x188 8 value.toNat wr)

/-- FINISH (R266). -/
def execFinish (cv : Nat) (value : BitVec 32) (wr : Code) (s : State) : Host.Outcome State Fault Refusal :=
  .next (s.unitWrite 16 cv 0 (pgCV cv) 0x190 4 value.toNat wr)

/-- CTX_MEM with SAVE (R268). -/
def execCtxSave (cv : Nat) (value : BitVec 32) (wr : Code) (s : State) : Host.Outcome State Fault Refusal :=
  .next (s.unitWrite 16 cv 0 (pgCV cv) 0x1A0 4 value.toNat wr)

/-- CTX_MEM with LOAD (R268). -/
def execCtxLoad (cv : Nat) (value : BitVec 32) (wr : Code) (s : State) : Host.Outcome State Fault Refusal :=
  .next (s.unitWrite 16 cv 0 (pgCV cv) 0x1A0 4 value.toNat wr)

/-- SELFCHECK (R269). -/
def execSelfcheck (cv : Nat) (value : BitVec 32) (wr : Code) (s : State) : Host.Outcome State Fault Refusal :=
  .next (s.unitWrite 16 cv 0 (pgCV cv) 0x1B0 4 value.toNat wr)

/-! ### Request rings and commands (R280, R281, R307) -/

/-- CRnn_CFG (R280). -/
def execCrEnWrite (ring : Nat) (value : BitVec 32) (wr : Code) (s : State) : Host.Outcome State Fault Refusal :=
  .next (s.unitWrite 16 ring 0 pPOINTS (0x400 + 0x40 * ring) 4 value.toNat wr)

/-- CRnn.HEAD (R281). -/
def execCrHeadWrite (ring : Nat) (value : BitVec 32) (wr : Code) (s : State) : Host.Outcome State Fault Refusal :=
  .next (s.unitWrite 16 ring 0 pPOINTS (0x418 + 0x40 * ring) 4 value.toNat wr)

/-- CRnn.RES_TAIL (R281). -/
def execCrResTailWrite (ring : Nat) (value : BitVec 32) (wr : Code) (s : State) : Host.Outcome State Fault Refusal :=
  .next (s.unitWrite 16 ring 0 pPOINTS (0x424 + 0x40 * ring) 4 value.toNat wr)

/-- CRnn_OWNER (R281). -/
def execCrOwnerWrite (ring : Nat) (value : BitVec 32) (wr : Code) (s : State) : Host.Outcome State Fault Refusal :=
  .next (s.unitWrite 16 ring 0 pPOINTS (0x404 + 0x40 * ring) 4 value.toNat wr)

/-- CANCEL (R307). -/
def execCancel (value : BitVec 32) (wr : Code) (s : State) : Host.Outcome State Fault Refusal :=
  .next (s.writeAt 0 pCOMMANDS 0x120 4 value.toNat wr)

/-- EXECUTE (R307). -/
def execExecute (value : BitVec 32) (wr : Code) (s : State) : Host.Outcome State Fault Refusal :=
  .next (s.writeAt 0 pCOMMANDS 0x124 4 value.toNat wr)

/-! ### Journal and mirror (R317, R323, R324, R326, R330, R331, R341) -/

/-- USER_CMD (R317). -/
def execUserCmd (value : BitVec 32) (wr : Code) (s : State) : Host.Outcome State Fault Refusal :=
  .next (s.writeAt 0 pJOURNAL 0x320 4 value.toNat wr)

/-- CP_CMD.MARK (R323). -/
def execCpMark (wr : Code) (s : State) : Host.Outcome State Fault Refusal :=
  .next (s.writeAt 0 pJOURNAL 0x168 4 1 wr)

/-- CP_CMD.GO (R324). -/
def execCpGo (wr : Code) (s : State) : Host.Outcome State Fault Refusal :=
  .next (s.writeAt 0 pJOURNAL 0x168 4 2 wr)

/-- REPLAY_CMD.SETSEQ (R326). -/
def execReplaySetseq (wr : Code) (s : State) : Host.Outcome State Fault Refusal :=
  .next (s.writeAt 0 pJOURNAL 0x1A0 4 1 wr)

/-- REPLAY_CMD.GO (R326). -/
def execReplayGo (wr : Code) (s : State) : Host.Outcome State Fault Refusal :=
  .next (s.writeAt 0 pJOURNAL 0x1A0 4 2 wr)

/-- AUTHORITY with CLAIM (R330). -/
def execClaim (value : BitVec 32) (wr : Code) (s : State) : Host.Outcome State Fault Refusal :=
  .next (s.writeAt 0 pMIRROR 0x108 4 value.toNat wr)

/-- AUTHORITY with HANDOVER (R331). -/
def execHandover (value : BitVec 32) (wr : Code) (s : State) : Host.Outcome State Fault Refusal :=
  .next (s.writeAt 0 pMIRROR 0x108 4 value.toNat wr)

/-- RESYNC_CMD.LOADED (R341). -/
def execResyncLoaded (wr : Code) (s : State) : Host.Outcome State Fault Refusal :=
  .next (s.writeAt 0 pMIRROR 0x140 4 1 wr)

/-! ### Shepherd cores (R363, R369) -/

/-- NUDGE (R363). -/
def execNudge (c : Nat) (value : BitVec 32) (wr : Code) (s : State) : Host.Outcome State Fault Refusal :=
  .next (s.unitWrite 64 c 0 (pgSC c) 0x118 4 value.toNat wr)

/-- A core's CTRL (R369). -/
def execCoreEnable (c : Nat) (value : BitVec 32) (wr : Code) (s : State) : Host.Outcome State Fault Refusal :=
  .next (s.unitWrite 64 c 0 (pgSC c) 0x008 4 value.toNat wr)

/-! ### Annunciation audio (R396, R400, R404, R415) -/

/-- AUDIO's CTRL with ENABLE (R396). -/
def execAudioEnable (value : BitVec 32) (wr : Code) (s : State) : Host.Outcome State Fault Refusal :=
  .next (s.writeAt 0 pAUDIO 0x008 4 value.toNat wr)

/-- ACTION START (R400, R404). -/
def execVoiceStart (voice : Nat) (param : BitVec 32) (wr : Code) (s : State) : Host.Outcome State Fault Refusal :=
  .next (s.voiceAct voice 0 param.toNat wr)

/-- ACTION RELEASE (R400, R404). -/
def execVoiceRelease (voice : Nat) (param : BitVec 32) (wr : Code) (s : State) : Host.Outcome State Fault Refusal :=
  .next (s.voiceAct voice 1 param.toNat wr)

/-- ACTION STOP (R400, R404). -/
def execVoiceStop (voice : Nat) (param : BitVec 32) (wr : Code) (s : State) : Host.Outcome State Fault Refusal :=
  .next (s.voiceAct voice 2 param.toNat wr)

/-- ACTION PRELOAD (R402, R404). -/
def execVoicePreload (voice : Nat) (param : BitVec 32) (wr : Code) (s : State) : Host.Outcome State Fault Refusal :=
  .next (s.voiceAct voice 3 param.toNat wr)

/-- PR_DATA, which Function 1 alone reaches (R415). -/
def execPrDataWrite (value : BitVec 32) (s : State) : Host.Outcome State Fault Refusal :=
  .next (s.writeAt 1 pPROTR 0x604 4 value.toNat 0x02)

/-! ### Interrupts, drover (R421, R431, R434) -/

/-- DOORBELL (R421). -/
def execDoorbell (value : BitVec 32) (wr : Code) (s : State) : Host.Outcome State Fault Refusal :=
  .next (s.writeAt 0 pINTC 0x100 4 value.toNat wr)

/-- CMD.GO (R431). -/
def execDvGo (dv : Nat) (wr : Code) (s : State) : Host.Outcome State Fault Refusal :=
  .next (s.unitWrite 32 dv 0 (pgDV dv) 0x140 4 1 wr)

/-- CMD.STOP (R434). -/
def execDvStop (dv : Nat) (wr : Code) (s : State) : Host.Outcome State Fault Refusal :=
  .next (s.unitWrite 32 dv 0 (pgDV dv) 0x140 4 2 wr)

/-! ### Host rings (R459, R461, R463) -/

/-- IRn_HEAD (R459). -/
def execIrHeadWrite (ring : Nat) (value : BitVec 32) (wr : Code) (s : State) : Host.Outcome State Fault Refusal :=
  .next (s.unitWrite 8 ring 0 pHOST (0x20C + 0x20 * ring) 4 value.toNat wr)

/-- RTX_HEAD (R461). -/
def execRtxHeadWrite (value : BitVec 32) (wr : Code) (s : State) : Host.Outcome State Fault Refusal :=
  .next (s.writeAt 0 pHOST 0x40C 4 value.toNat wr)

/-- ORn_TAIL (R463). -/
def execOrTailWrite (ring : Nat) (value : BitVec 32) (wr : Code) (s : State) : Host.Outcome State Fault Refusal :=
  .next (s.unitWrite 8 ring 0 pHOST (0x310 + 0x20 * ring) 4 value.toNat wr)

/-! ### Pins (R482, R487, R490) -/

/-- MPk_CFG (R482). -/
def execPinCfgWrite (pin : Nat) (value : BitVec 32) (wr : Code) (s : State) : Host.Outcome State Fault Refusal :=
  .next (s.unitWrite 128 pin 0 pPINS (0x100 + 4 * pin) 4 value.toNat wr)

/-- GPIO_OUT or GPIO_OE (R487). -/
def execGpioOutWrite (bank : Nat) (oe : Bool) (value : BitVec 32) (wr : Code) (s : State) : Host.Outcome State Fault Refusal :=
  .next (s.unitWrite 4 bank 0 pPINS ((if oe then 0x310 else 0x300) + 0x20 * bank) 4 value.toNat wr)

/-- GPIO_SET (R487). -/
def execGpioSet (bank : Nat) (value : BitVec 32) (wr : Code) (s : State) : Host.Outcome State Fault Refusal :=
  .next (s.unitWrite 4 bank 0 pPINS (0x304 + 0x20 * bank) 4 value.toNat wr)

/-- GPIO_CLR (R487). -/
def execGpioClr (bank : Nat) (value : BitVec 32) (wr : Code) (s : State) : Host.Outcome State Fault Refusal :=
  .next (s.unitWrite 4 bank 0 pPINS (0x308 + 0x20 * bank) 4 value.toNat wr)

/-- GPIO_TOG (R487). -/
def execGpioTog (bank : Nat) (value : BitVec 32) (wr : Code) (s : State) : Host.Outcome State Fault Refusal :=
  .next (s.unitWrite 4 bank 0 pPINS (0x30C + 0x20 * bank) 4 value.toNat wr)

/-- I2Cq_CMD with GO (R490). -/
def execI2cGo (port : Nat) (value : BitVec 32) (wr : Code) (s : State) : Host.Outcome State Fault Refusal :=
  .next (s.unitWrite 4 port 0 pPINS (0x404 + 0x20 * port) 4 value.toNat wr)

/-- SPIs_CMD with GO (R490). -/
def execSpiGo (port : Nat) (value : BitVec 32) (wr : Code) (s : State) : Host.Outcome State Fault Refusal :=
  .next (s.unitWrite 2 port 0 pPINS (0x504 + 0x20 * port) 4 value.toNat wr)

end Sys2Proof.Machine
end

