-- ==== Sys2Proof/Machine/Dispatch.lean ====
section
/-! DEFINITION. One arm per command: its meaning, on everything but the queue. -/

namespace Sys2Proof.Machine

def exec (i : Instr) (s : State) : Host.Outcome State Fault Refusal :=
  match i with
  | .registerWrite a size value wr => Sys2Proof.Machine.execRegisterWrite a size value wr s
  | .halfWrite a high value wr => Sys2Proof.Machine.execHalfWrite a high value wr s
  | .lock func page value wr => Sys2Proof.Machine.execLock func page value wr s
  | .ownerWrite func page value wr => Sys2Proof.Machine.execOwnerWrite func page value wr s
  | .histClear func page wr => Sys2Proof.Machine.execHistClear func page wr s
  | .repeatWindowEnd func page code => Sys2Proof.Machine.execRepeatWindowEnd func page code s
  | .ownValueWrite value => Sys2Proof.Machine.execOwnValueWrite value s
  | .ownFence => Sys2Proof.Machine.execOwnFence s
  | .ownUnfence => Sys2Proof.Machine.execOwnUnfence s
  | .fenceReq func page value wr => Sys2Proof.Machine.execFenceReq func page value wr s
  | .unfence func page value wr => Sys2Proof.Machine.execUnfence func page value wr s
  | .fenceComplete func page => Sys2Proof.Machine.execFenceComplete func page s
  | .wdogKick value => Sys2Proof.Machine.execWdogKick value s
  | .wdogCfgWrite value => Sys2Proof.Machine.execWdogCfgWrite value s
  | .wdogExpired => Sys2Proof.Machine.execWdogExpired s
  | .dataPortWrite port off bytes wr => Sys2Proof.Machine.execDataPortWrite port off bytes wr s
  | .dataPortRead port off len wr => Sys2Proof.Machine.execDataPortRead port off len wr s
  | .datAddrWrite port burst value wr => Sys2Proof.Machine.execDatAddrWrite port burst value wr s
  | .datEnClear port value wr => Sys2Proof.Machine.execDatEnClear port value wr s
  | .datOwnerWrite port value wr => Sys2Proof.Machine.execDatOwnerWrite port value wr s
  | .histWinBaseWrite value wr => Sys2Proof.Machine.execHistWinBaseWrite value wr s
  | .windowMoveDone => Sys2Proof.Machine.execWindowMoveDone s
  | .hdmRead hostAddr len poison => Sys2Proof.Machine.execHdmRead hostAddr len s poison
  | .hdmWrite hostAddr bytes => Sys2Proof.Machine.execHdmWrite hostAddr bytes s
  | .patiencePromotion cls waited chan => Sys2Proof.Machine.execPatiencePromotion cls waited chan s
  | .refOk => Sys2Proof.Machine.execRefOk s
  | .pllLock => Sys2Proof.Machine.execPllLock s
  | .refLoss => Sys2Proof.Machine.execRefLoss s
  | .refReturn => Sys2Proof.Machine.execRefReturn s
  | .targetWrite pd value wr => Sys2Proof.Machine.execTargetWrite pd value wr s
  | .entryCommit pd => Sys2Proof.Machine.execEntryCommit pd s
  | .entryComplete pd => Sys2Proof.Machine.execEntryComplete pd s
  | .wakePin k level => Sys2Proof.Machine.execWakePin k level s
  | .alarmMatch => Sys2Proof.Machine.execAlarmMatch s
  | .wakeComplete pd => Sys2Proof.Machine.execWakeComplete pd s
  | .plevelWrite pd value wr => Sys2Proof.Machine.execPlevelWrite pd value wr s
  | .plevelDone pd => Sys2Proof.Machine.execPlevelDone pd s
  | .trainRequest value wr => Sys2Proof.Machine.execTrainRequest value wr s
  | .trainForce value wr => Sys2Proof.Machine.execTrainForce value wr s
  | .driftRetrain drift => Sys2Proof.Machine.execDriftRetrain drift s
  | .retrainStart => Sys2Proof.Machine.execRetrainStart s
  | .retrainDone => Sys2Proof.Machine.execRetrainDone s
  | .coldStart straps => Sys2Proof.Machine.execColdStart straps s
  | .trainingComplete => Sys2Proof.Machine.execTrainingComplete s
  | .warmReset slowPeriods => Sys2Proof.Machine.execWarmReset slowPeriods s
  | .powerOnReset => Sys2Proof.Machine.execPowerOnReset s
  | .start value wr => Sys2Proof.Machine.execStart value wr s
  | .validationDone => Sys2Proof.Machine.execValidationDone s
  | .starting copyFault => Sys2Proof.Machine.execStarting copyFault s
  | .lineStart pe => Sys2Proof.Machine.execLineStart pe s
  | .lineComplete pe => Sys2Proof.Machine.execLineComplete pe s
  | .pastureFetchDone pe kind addr err => Sys2Proof.Machine.execPastureFetchDone pe kind addr err s
  | .palDataWrite pe value wr => Sys2Proof.Machine.execPalDataWrite pe value wr s
  | .layerHoldWrite pe value wr => Sys2Proof.Machine.execLayerHoldWrite pe value wr s
  | .flkDataWrite pe value wr => Sys2Proof.Machine.execFlkDataWrite pe value wr s
  | .flkHoldWrite pe value wr => Sys2Proof.Machine.execFlkHoldWrite pe value wr s
  | .beamLine head => Sys2Proof.Machine.execBeamLine head s
  | .scanDeadline head => Sys2Proof.Machine.execScanDeadline head s
  | .lookaheadWrite head value wr => Sys2Proof.Machine.execLookaheadWrite head value wr s
  | .llFetchDone head err => Sys2Proof.Machine.execLlFetchDone head err s
  | .lutDataWrite pe value wr => Sys2Proof.Machine.execLutDataWrite pe value wr s
  | .sapDataWrite head value wr => Sys2Proof.Machine.execSapDataWrite head value wr s
  | .sapPaletteWrite head bank entry value wr => Sys2Proof.Machine.execSapPaletteWrite head bank entry value wr s
  | .sapFlip head value wr => Sys2Proof.Machine.execSapFlip head value wr s
  | .sapCopy head value wr => Sys2Proof.Machine.execSapCopy head value wr s
  | .sapCopyDone head => Sys2Proof.Machine.execSapCopyDone head s
  | .sapLearn head value wr => Sys2Proof.Machine.execSapLearn head value wr s
  | .signatureCheck head => Sys2Proof.Machine.execSignatureCheck head s
  | .wbDone head => Sys2Proof.Machine.execWbDone head s
  | .headEnable head value wr => Sys2Proof.Machine.execHeadEnable head value wr s
  | .headDisable head value wr => Sys2Proof.Machine.execHeadDisable head value wr s
  | .linkTrain port wr => Sys2Proof.Machine.execLinkTrain port wr s
  | .linkDrop port wr => Sys2Proof.Machine.execLinkDrop port wr s
  | .linkTrainingDone port rate => Sys2Proof.Machine.execLinkTrainingDone port rate s
  | .hpdChange port level => Sys2Proof.Machine.execHpdChange port level s
  | .hpdIrq port statusLost => Sys2Proof.Machine.execHpdIrq port statusLost s
  | .auxGo port value wr => Sys2Proof.Machine.execAuxGo port value wr s
  | .auxDone port result data => Sys2Proof.Machine.execAuxDone port result data s
  | .syncEvent head => Sys2Proof.Machine.execSyncEvent head s
  | .syncLost head => Sys2Proof.Machine.execSyncLost head s
  | .bistReq pe wr => Sys2Proof.Machine.execBistReq pe wr s
  | .bistForce pe wr => Sys2Proof.Machine.execBistForce pe wr s
  | .bistDone pe failCode => Sys2Proof.Machine.execBistDone pe failCode s
  | .relResume value wr => Sys2Proof.Machine.execRelResume value wr s
  | .raceSubmit value wr => Sys2Proof.Machine.execRaceSubmit value wr s
  | .batchSubmit value wr => Sys2Proof.Machine.execBatchSubmit value wr s
  | .bltNop cls err => Sys2Proof.Machine.execBltNop cls err s
  | .bltCopy cls err rows => Sys2Proof.Machine.execBltCopy cls err s rows
  | .bltFill cls err rows => Sys2Proof.Machine.execBltFill cls err s rows
  | .bltExpand cls err rows => Sys2Proof.Machine.execBltExpand cls err s rows
  | .bltBlend cls err rows => Sys2Proof.Machine.execBltBlend cls err s rows
  | .bltConvert cls err rows => Sys2Proof.Machine.execBltConvert cls err s rows
  | .bltWaitline cls err => Sys2Proof.Machine.execBltWaitline cls err s
  | .bltWaitlineDone cls => Sys2Proof.Machine.execBltWaitlineDone cls s
  | .bltPalette cls err => Sys2Proof.Machine.execBltPalette cls err s
  | .bltSignal cls err => Sys2Proof.Machine.execBltSignal cls err s
  | .bltLink cls err => Sys2Proof.Machine.execBltLink cls err s
  | .bltEnd cls err => Sys2Proof.Machine.execBltEnd cls err s
  | .raceLate => Sys2Proof.Machine.execRaceLate s
  | .paceDeadtimeEnd cls => Sys2Proof.Machine.execPaceDeadtimeEnd cls s
  | .raceResume wr => Sys2Proof.Machine.execRaceResume wr s
  | .batchResume wr => Sys2Proof.Machine.execBatchResume wr s
  | .raceFlush wr => Sys2Proof.Machine.execRaceFlush wr s
  | .batchFlush wr => Sys2Proof.Machine.execBatchFlush wr s
  | .fpEnable fp value wr => Sys2Proof.Machine.execFpEnable fp value wr s
  | .fpDisable fp value wr => Sys2Proof.Machine.execFpDisable fp value wr s
  | .rxCharacter fp ch idlePc => Sys2Proof.Machine.execRxCharacter fp ch idlePc s
  | .rxBreak fp => Sys2Proof.Machine.execRxBreak fp s
  | .rxGapTimeout fp => Sys2Proof.Machine.execRxGapTimeout fp s
  | .t35Silence fp => Sys2Proof.Machine.execT35Silence fp s
  | .cdChange fp level => Sys2Proof.Machine.execCdChange fp level s
  | .txHeadWrite fp value wr => Sys2Proof.Machine.execTxHeadWrite fp value wr s
  | .rxTailWrite fp value wr => Sys2Proof.Machine.execRxTailWrite fp value wr s
  | .txDescriptorTake fp => Sys2Proof.Machine.execTxDescriptorTake fp s
  | .txNotBefore fp => Sys2Proof.Machine.execTxNotBefore fp s
  | .lbtQuiet fp => Sys2Proof.Machine.execLbtQuiet fp s
  | .keyupEnd fp => Sys2Proof.Machine.execKeyupEnd fp s
  | .txLastBit fp => Sys2Proof.Machine.execTxLastBit fp s
  | .tailEnd fp => Sys2Proof.Machine.execTailEnd fp s
  | .txTimeout fp => Sys2Proof.Machine.execTxTimeout fp s
  | .cvSrcWrite cv value wr => Sys2Proof.Machine.execCvSrcWrite cv value wr s
  | .feed8 cv value wr => Sys2Proof.Machine.execFeed8 cv value wr s
  | .feed32 cv value wr => Sys2Proof.Machine.execFeed32 cv value wr s
  | .feed64 cv value wr => Sys2Proof.Machine.execFeed64 cv value wr s
  | .finish cv value wr => Sys2Proof.Machine.execFinish cv value wr s
  | .ctxSave cv value wr => Sys2Proof.Machine.execCtxSave cv value wr s
  | .ctxLoad cv value wr => Sys2Proof.Machine.execCtxLoad cv value wr s
  | .ctxDone cv => Sys2Proof.Machine.execCtxDone cv s
  | .selfcheck cv value wr => Sys2Proof.Machine.execSelfcheck cv value wr s
  | .selfcheckDone cv defectRow => Sys2Proof.Machine.execSelfcheckDone cv defectRow s
  | .crEnWrite ring value wr => Sys2Proof.Machine.execCrEnWrite ring value wr s
  | .crHeadWrite ring value wr => Sys2Proof.Machine.execCrHeadWrite ring value wr s
  | .crResTailWrite ring value wr => Sys2Proof.Machine.execCrResTailWrite ring value wr s
  | .crOwnerWrite ring value wr => Sys2Proof.Machine.execCrOwnerWrite ring value wr s
  | .commitTake err => Sys2Proof.Machine.execCommitTake err s
  | .commitApply => Sys2Proof.Machine.execCommitApply s
  | .commandRequest err => Sys2Proof.Machine.execCommandRequest err s
  | .channelGrant txn => Sys2Proof.Machine.execChannelGrant txn s
  | .selectToExpiry txn => Sys2Proof.Machine.execSelectToExpiry txn s
  | .windowExpiry txn => Sys2Proof.Machine.execWindowExpiry txn s
  | .operateToExpiry txn => Sys2Proof.Machine.execOperateToExpiry txn s
  | .feedbackToExpiry txn => Sys2Proof.Machine.execFeedbackToExpiry txn s
  | .cancel value wr => Sys2Proof.Machine.execCancel value wr s
  | .execute value wr => Sys2Proof.Machine.execExecute value wr s
  | .authorityLoss => Sys2Proof.Machine.execAuthorityLoss s
  | .flushWaitExpiry => Sys2Proof.Machine.execFlushWaitExpiry s
  | .windowWriteDone window ok => Sys2Proof.Machine.execWindowWriteDone window ok s
  | .gpfPhase1 => Sys2Proof.Machine.execGpfPhase1 s
  | .gpfPhase2 => Sys2Proof.Machine.execGpfPhase2 s
  | .pwrfail => Sys2Proof.Machine.execPwrfail s
  | .userCmd value wr => Sys2Proof.Machine.execUserCmd value wr s
  | .cpMark wr => Sys2Proof.Machine.execCpMark wr s
  | .cpGo wr => Sys2Proof.Machine.execCpGo wr s
  | .cpDone ok => Sys2Proof.Machine.execCpDone ok s
  | .replaySetseq wr => Sys2Proof.Machine.execReplaySetseq wr s
  | .replayGo wr => Sys2Proof.Machine.execReplayGo wr s
  | .replayDone memErr => Sys2Proof.Machine.execReplayDone memErr s
  | .claim value wr => Sys2Proof.Machine.execClaim value wr s
  | .handover value wr => Sys2Proof.Machine.execHandover value wr s
  | .claimTimeout => Sys2Proof.Machine.execClaimTimeout s
  | .promotionTimeout => Sys2Proof.Machine.execPromotionTimeout s
  | .roleChange => Sys2Proof.Machine.execRoleChange s
  | .isolateHoldEnd => Sys2Proof.Machine.execIsolateHoldEnd s
  | .arbInChange level => Sys2Proof.Machine.execArbInChange level s
  | .mirrorLinkUp => Sys2Proof.Machine.execMirrorLinkUp s
  | .hello crcOk side compat role authority epoch nextSeq => Sys2Proof.Machine.execHello crcOk side compat role authority epoch nextSeq s
  | .heartbeat crcOk role authority epoch nextSeq appliedNext => Sys2Proof.Machine.execHeartbeat crcOk role authority epoch nextSeq appliedNext s
  | .heartbeatSend => Sys2Proof.Machine.execHeartbeatSend s
  | .heartbeatMiss => Sys2Proof.Machine.execHeartbeatMiss s
  | .journalFrame crcOk bytes => Sys2Proof.Machine.execJournalFrame crcOk bytes s
  | .ack crcOk ackedNext => Sys2Proof.Machine.execAck crcOk ackedNext s
  | .ackTimeout => Sys2Proof.Machine.execAckTimeout s
  | .relinquish crcOk epoch lastSeq => Sys2Proof.Machine.execRelinquish crcOk epoch lastSeq s
  | .take crcOk epoch => Sys2Proof.Machine.execTake crcOk epoch s
  | .resyncReq crcOk lastSeq crc => Sys2Proof.Machine.execResyncReq crcOk lastSeq crc s
  | .cpData crcOk off bytes => Sys2Proof.Machine.execCpData crcOk off bytes s
  | .cpEnd crcOk seq length bodyCrc => Sys2Proof.Machine.execCpEnd crcOk seq length bodyCrc s
  | .lineSyncMarker mode frame => Sys2Proof.Machine.execLineSyncMarker mode frame s
  | .resyncLoaded wr => Sys2Proof.Machine.execResyncLoaded wr s
  | .nop c => Sys2Proof.Machine.execNop c s
  | .halt c => Sys2Proof.Machine.execHalt c s
  | .iflush c => Sys2Proof.Machine.execIflush c s
  | .fence c => Sys2Proof.Machine.execFence c s
  | .ret c => Sys2Proof.Machine.execRet c s
  | .reti c => Sys2Proof.Machine.execReti c s
  | .dup c => Sys2Proof.Machine.execDup c s
  | .drop c => Sys2Proof.Machine.execDrop c s
  | .swap c => Sys2Proof.Machine.execSwap c s
  | .over c => Sys2Proof.Machine.execOver c s
  | .ei c => Sys2Proof.Machine.execEi c s
  | .di c => Sys2Proof.Machine.execDi c s
  | .trap c imm => Sys2Proof.Machine.execTrap c imm s
  | .mov c d b => Sys2Proof.Machine.execMov c d b s
  | .add c d b => Sys2Proof.Machine.execAdd c d b s
  | .sub c d b => Sys2Proof.Machine.execSub c d b s
  | .adc c d b => Sys2Proof.Machine.execAdc c d b s
  | .sbc c d b => Sys2Proof.Machine.execSbc c d b s
  | .and c d b => Sys2Proof.Machine.execAnd c d b s
  | .or c d b => Sys2Proof.Machine.execOr c d b s
  | .xor c d b => Sys2Proof.Machine.execXor c d b s
  | .shl c d b => Sys2Proof.Machine.execShl c d b s
  | .shr c d b => Sys2Proof.Machine.execShr c d b s
  | .sar c d b => Sys2Proof.Machine.execSar c d b s
  | .rol c d b => Sys2Proof.Machine.execRol c d b s
  | .cmp c d b => Sys2Proof.Machine.execCmp c d b s
  | .tst c d b => Sys2Proof.Machine.execTst c d b s
  | .not c d r => Sys2Proof.Machine.execNot c d r s
  | .neg c d r => Sys2Proof.Machine.execNeg c d r s
  | .mul c d r => Sys2Proof.Machine.execMul c d r s
  | .mulhu c d r => Sys2Proof.Machine.execMulhu c d r s
  | .mulhs c d r => Sys2Proof.Machine.execMulhs c d r s
  | .divu c d r => Sys2Proof.Machine.execDivu c d r s
  | .divs c d r => Sys2Proof.Machine.execDivs c d r s
  | .remu c d r => Sys2Proof.Machine.execRemu c d r s
  | .rems c d r => Sys2Proof.Machine.execRems c d r s
  | .par c d r => Sys2Proof.Machine.execPar c d r s
  | .brev c d r => Sys2Proof.Machine.execBrev c d r s
  | .brevb c d r => Sys2Proof.Machine.execBrevb c d r s
  | .clz c d r => Sys2Proof.Machine.execClz c d r s
  | .popc c d r => Sys2Proof.Machine.execPopc c d r s
  | .bswap c d r => Sys2Proof.Machine.execBswap c d r s
  | .crcb c ctx r => Sys2Proof.Machine.execCrcb c ctx r s
  | .crcw c ctx r => Sys2Proof.Machine.execCrcw c ctx r s
  | .crcf c d ctx => Sys2Proof.Machine.execCrcf c d ctx s
  | .crci c ctx => Sys2Proof.Machine.execCrci c ctx s
  | .mfs c d index => Sys2Proof.Machine.execMfs c d index s
  | .mts c index r => Sys2Proof.Machine.execMts c index r s
  | .waitl c d r => Sys2Proof.Machine.execWaitl c d r s
  | .waitlWake c => Sys2Proof.Machine.execWaitlWake c s
  | .ld c d base disp size sx ord => Sys2Proof.Machine.execLd c d base disp size sx ord s
  | .st c base disp r size ord => Sys2Proof.Machine.execSt c base disp r size ord s
  | .sti c base disp imm size ord => Sys2Proof.Machine.execSti c base disp imm size ord s
  | .bcc c cc rel => Sys2Proof.Machine.execBcc c cc rel s
  | .call c rel => Sys2Proof.Machine.execCall c rel s
  | .callr c r => Sys2Proof.Machine.execCallr c r s
  | .jmpr c r => Sys2Proof.Machine.execJmpr c r s
  | .push c r => Sys2Proof.Machine.execPush c r s
  | .pop c d => Sys2Proof.Machine.execPop c d s
  | .pushi c imm => Sys2Proof.Machine.execPushi c imm s
  | .pushm c mask => Sys2Proof.Machine.execPushm c mask s
  | .popm c mask => Sys2Proof.Machine.execPopm c mask s
  | .interruptEntry c => Sys2Proof.Machine.execInterruptEntry c s
  | .nudge c value wr => Sys2Proof.Machine.execNudge c value wr s
  | .coreEnable c value wr => Sys2Proof.Machine.execCoreEnable c value wr s
  | .loadReturn c idx => Sys2Proof.Machine.execLoadReturn c idx s
  | .storeDrain c idx => Sys2Proof.Machine.execStoreDrain c idx s
  | .paddockCycle pk reqs ecc => Sys2Proof.Machine.execPaddockCycle pk reqs ecc s
  | .audioEnable value wr => Sys2Proof.Machine.execAudioEnable value wr s
  | .sampleBoundary sdi => Sys2Proof.Machine.execSampleBoundary sdi s
  | .voiceStart voice param wr => Sys2Proof.Machine.execVoiceStart voice param wr s
  | .voiceRelease voice param wr => Sys2Proof.Machine.execVoiceRelease voice param wr s
  | .voiceStop voice param wr => Sys2Proof.Machine.execVoiceStop voice param wr s
  | .voicePreload voice param wr => Sys2Proof.Machine.execVoicePreload voice param wr s
  | .pcmFetchDone voice err => Sys2Proof.Machine.execPcmFetchDone voice err s
  | .durationEnd voice => Sys2Proof.Machine.execDurationEnd voice s
  | .cadenceToggle voice => Sys2Proof.Machine.execCadenceToggle voice s
  | .prDataWrite value => Sys2Proof.Machine.execPrDataWrite value s
  | .doorbell value wr => Sys2Proof.Machine.execDoorbell value wr s
  | .interruptDelivery group => Sys2Proof.Machine.execInterruptDelivery group s
  | .holdoffEnd group => Sys2Proof.Machine.execHoldoffEnd group s
  | .coalWindowEnd group => Sys2Proof.Machine.execCoalWindowEnd group s
  | .dvGo dv wr => Sys2Proof.Machine.execDvGo dv wr s
  | .dvStop dv wr => Sys2Proof.Machine.execDvStop dv wr s
  | .droverBeat err collided => Sys2Proof.Machine.execDroverBeat err collided s
  | .dvDone dv => Sys2Proof.Machine.execDvDone dv s
  | .compareMatch cmp => Sys2Proof.Machine.execCompareMatch cmp s
  | .catchUp cmp => Sys2Proof.Machine.execCatchUp cmp s
  | .calWindowEnd count => Sys2Proof.Machine.execCalWindowEnd count s
  | .cxlLinkUp rate width flit256 cacheMem ideIo ideCm => Sys2Proof.Machine.execCxlLinkUp rate width flit256 cacheMem ideIo ideCm s
  | .cxlReset => Sys2Proof.Machine.execCxlReset s
  | .configRequest func reg data => Sys2Proof.Machine.execConfigRequest s func reg data
  | .hdmCommit base sizeBytes => Sys2Proof.Machine.execHdmCommit base sizeBytes s
  | .vectorUnmask vector => Sys2Proof.Machine.execVectorUnmask vector s
  | .ideFault => Sys2Proof.Machine.execIdeFault s
  | .irHeadWrite ring value wr => Sys2Proof.Machine.execIrHeadWrite ring value wr s
  | .relayInboundFrame ring lines fail => Sys2Proof.Machine.execRelayInboundFrame ring lines fail s
  | .relayOutboundFrame ring fail => Sys2Proof.Machine.execRelayOutboundFrame ring fail s
  | .rtxHeadWrite value wr => Sys2Proof.Machine.execRtxHeadWrite value wr s
  | .orTailWrite ring value wr => Sys2Proof.Machine.execOrTailWrite ring value wr s
  | .pinCfgWrite pin value wr => Sys2Proof.Machine.execPinCfgWrite pin value wr s
  | .gpioOutWrite bank oe value wr => Sys2Proof.Machine.execGpioOutWrite bank oe value wr s
  | .gpioSet bank value wr => Sys2Proof.Machine.execGpioSet bank value wr s
  | .gpioClr bank value wr => Sys2Proof.Machine.execGpioClr bank value wr s
  | .gpioTog bank value wr => Sys2Proof.Machine.execGpioTog bank value wr s
  | .bankChange bank level => Sys2Proof.Machine.execBankChange bank level s
  | .i2cGo port value wr => Sys2Proof.Machine.execI2cGo port value wr s
  | .i2cDone port nack data => Sys2Proof.Machine.execI2cDone port nack data s
  | .i2cTimeout port => Sys2Proof.Machine.execI2cTimeout port s
  | .spiGo port value wr => Sys2Proof.Machine.execSpiGo port value wr s
  | .spiDone port rx => Sys2Proof.Machine.execSpiDone port rx s
  | .hot temp => Sys2Proof.Machine.execHot temp s
  | .crit temp => Sys2Proof.Machine.execCrit temp s
  | .trip => Sys2Proof.Machine.execTrip s
  | .illegal c => Sys2Proof.Machine.execIllegal c s
  | .fetchFault c => Sys2Proof.Machine.execFetchFault c s
  | .hdlcAbort fp => Sys2Proof.Machine.execHdlcAbort fp s
  | .mirrorLinkLoss => Sys2Proof.Machine.execMirrorLinkLoss s

end Sys2Proof.Machine
end

