-- ==== Sys2Proof/Safety.lean ====
section
/-! DEFINITION. What counts as a safe run, in the terms the claims use: running a command, a write that no check of
the bus bars, a unit that acts. -/

namespace Sys2Proof

open Sys2Proof.Machine

/-- The machine goes on from `s` to `t`. -/
def StepsTo (s t : State) : Prop := step s = .next t

/-- Running command `c` on `s` gives `t`. -/
def Runs (c : Instr) (s t : State) : Prop := exec c s = .next t

/-- A write of a 32-bit register by writer `wr`. -/
def wr32 (func page off : Nat) (v : BitVec 32) (wr : Code) : Wr :=
  { func := func, page := page, off := off, size := 4, value := BitVec.ofNat 64 v.toNat, code := wr }

/-- A write of a whole 64-bit register by writer `wr`. -/
def wr64 (func page off : Nat) (v : BitVec 64) (wr : Code) : Wr :=
  { func := func, page := page, off := off, size := 8, value := BitVec.ofNat 64 v.toNat, code := wr }

/-- No check of R2, R23, R29, R33, R67 or R472 bars a write of `size` bytes to a register by writer `wr`. -/
def Admits (s : State) (func page off size : Nat) (wr : Code) : Prop :=
  s.bar { func := func, page := page, off := off, size := size, value := 0, code := wr } = none

/-- Unit `n` of kind `k` is on the part and its domain is ON (R2, R66). -/
def UnitUp (s : State) (func page : Nat) (k : Kind) (n : Nat) : Prop :=
  s.has func page k n = true ∧ s.domainOn func page = true

/-- The half a writer holds of the 64-bit register at an offset is gone, since a whole write has come (R505). -/
def Released (s : State) (func page off : Nat) (wr : Code) : State :=
  { s with held := serase s.held (heldKey func page off wr) }

/-- Every memory of the block is in its canonical form. -/
def MemoriesCanonical (s : State) : Prop :=
  Memory.wf s.mem = true ∧ Memory.wf s.hostMem = true ∧ Memory.wf s.pad = true ∧ Memory.wf s.iram = true
    ∧ Memory.wf s.sapRam = true

/-- No register outside Function 0 page `pg` has changed. -/
def OtherPages (s t : State) (pg : Nat) : Prop :=
  ∀ func page off : Nat, page < 4096 → off < 4096 → func ≠ 0 ∨ page ≠ pg → t.reg func page off = s.reg func page off

/-- The command with operation `op` stands next in list `l` of blitter class `c`, and nothing keeps it from running:
the block acts, the class is not halted or in a pause, stands at no row of a rectangle, no RACE command goes first, the
list is readable, memory is not training (R81, R227, R237, R239, R240). -/
def NextCommand (s : State) (c : BltClass) (l : BltList) (op : Nat) : Prop :=
  s.active pBLITTER = true ∧ s.r pBLITTER (clsHalt c) = 0 ∧ (s.bltCls c).cur = some l ∧ (s.bltCls c).pause = none
    ∧ l.waiting = false ∧ l.rowAt = 0 ∧ l.stop = false ∧ s.b pMEMCTL MEMCTL.TRAIN_STAT_RUNNING = false
    ∧ (c = .batch → s.raceRunnable = false) ∧ s.canRead .blitter l.pc 64 = true ∧ (s.bltWords l.pc).getD 0 0 = op

/-- The rows of a rectangle read with `ws` that one step of class `c` works through from the row it stands at: all that
are left, or of a BATCH command at most `rows` of them (R237). -/
def RowsNow (c : BltClass) (rows : Option Nat) (ws : List Nat) (done : Nat) : List Nat :=
  match c, rows with
  | .batch, some n => ((rectOf ws).rows.drop done).take n
  | _, _ => (rectOf ws).rows.drop done

/-- No list of class `c` is given dead time between its bursts (R239). -/
def Unpaced (s : State) (c : BltClass) : Prop :=
  s.r pBLITTER (if c = .race then BLITTER.PACE_RACE else BLITTER.PACE_BATCH) / 2 ^ 16 = 0
    ∧ (s.bltCls c).pace.toNat / 2 ^ 16 = 0

/-- What a blitter command that records nothing leaves as it was: owners and locks; with no dead time also histories
and, but for the back-invalidate count of HOST, every register (R45, R239). -/
def BltKeeps (s t : State) (c : BltClass) : Prop :=
  t.owners = s.owners ∧ t.locks = s.locks ∧ (Unpaced s c → OtherPages s t pHOST ∧ t.hist = s.hist)

/-- List `l` of class `c` has gone on to the command at `pc`. -/
def BltGoesOn (s t : State) (c : BltClass) (l : BltList) (pc : Nat) : Prop :=
  (t.bltCls c).cur = some { s.bltBegin l with pc := pc, waiting := false, words := [], rowAt := 0 } ∧ BltKeeps s t c

/-- The list at `pc` of class `c` has faulted: it is gone, the class is halted, FAULT_ADDR and FAULT_INFO tell the
command, the code and the class, STATUS and the interrupt are raised (R240). -/
def BltFaulted (t : State) (c : BltClass) (pc code : Nat) : Prop :=
  (t.bltCls c).cur = none ∧ t.r pBLITTER (clsHalt c) = 1 ∧ t.r pBLITTER BLITTER.FAULT_ADDR = pc % 2 ^ 64
    ∧ t.r pBLITTER BLITTER.FAULT_INFO_CODE = code ∧ t.r pBLITTER BLITTER.FAULT_INFO_CLASS = clsCode c
    ∧ t.r pBLITTER (STATUS_BIT 3) = 1 ∧ t.r pBLITTER (INT_PEND_BIT 3) = 1

/-- The rows in hand of the rectangle command of list `l` are done: their bytes are written and no other, and the list
goes on, or stands at a row boundary where rows are left (R230 to R232, R236, R237). -/
def RectDone (s t : State) (c : BltClass) (l : BltList) (ws : List Nat) (rows : Option Nat) : Prop :=
  t.mem = ((RowsNow c rows ws l.rowAt).map (s.bltRow (rectOf ws))).foldl (fun m q => memWrite m q.1 q.2) s.mem
    ∧ BltKeeps s t c
    ∧ (t.bltCls c).cur = some (if (RowsNow c rows ws l.rowAt).length = ((rectOf ws).rows.drop l.rowAt).length
        then { s.bltBegin l with pc := l.pc + 64, waiting := false, words := [], rowAt := 0 }
        else { s.bltBegin l with rowAt := l.rowAt + (RowsNow c rows ws l.rowAt).length, words := ws })

/-- Core `c` issues an instruction of `len` bytes that names `regs`: it runs and stands at no boundary it has to
wait at, the bytes lie in the instruction RAM, and no named register is pending (R348, R363, R366, R368, R375). -/
def Issues (s : State) (c len : Nat) (regs : List Nat) : Prop :=
  s.coreIssues c = true ∧ (s.core c).pc + len ≤ 0x20000
    ∧ ∀ l ∈ (s.core c).loads, ∀ r ∈ regs, r % 16 ≠ l.d % 16

/-- Core `c` completes an instruction of `cc` issue cycles that leaves it as `y`: CYCLES counts them and the waits
that R13 leaves open, RETIRED counts one, and nothing outside the core and its counters changes. -/
def Completes (s t : State) (c cc : Nat) (y : Core) : Prop :=
  (∃ wait : Nat, t.core c = { y with cycles := (s.core c).cycles + BitVec.ofNat 32 (cc + wait) })
    ∧ t.r (pgSC c) SC.RETIRED = (s.r (pgSC c) SC.RETIRED + 1) % 2 ^ 32
    ∧ (∀ k, k ≠ c → t.core k = s.core k)
    ∧ (∀ func page off : Nat, page < 4096 → off < 4096 →
        func ≠ 0 ∨ page ≠ pgSC c ∨ off ≠ SC.RETIRED.off ∧ off ≠ SC.FETCH_CONFLICT_CC.off →
        t.reg func page off = s.reg func page off)
    ∧ t.mem = s.mem ∧ t.hostMem = s.hostMem ∧ t.pad = s.pad ∧ t.iram = s.iram ∧ t.sapRam = s.sapRam
    ∧ t.owners = s.owners ∧ t.locks = s.locks ∧ t.hist = s.hist

/-- Core `c`, with room for the entry in the core, has taken an exception of a cause and detail at `a` that returns to
`ret`: the entry of KIND 1, IE, ECAUSE, EADDR and PC, the cc of the entry, the code at the handler fetched, and the
EXCEPTION record (R353, R364, R365, R374). -/
def Trapped (s : State) (c cause detail : Nat) (a : BitVec 32) (ret : Nat) : State :=
  let x := s.core c
  let y : Core := { x with
    rs := x.entryWord ret :: x.rs
    ie := false
    ecause := mkDetail [(cause, 0), (detail, 8)]
    eaddr := a
    pc := x.evec.toNat % 0x20000
    cycles := x.cycles + BitVec.ofNat 32 (4 + s.refetchCc c (x.evec.toNat % 0x20000)) }
  ((s.setCore c y).refetch c).event (pgSC c) Ev.EXCEPTION (mkDetail [(cause, 0), (detail, 8), (a.toNat % 65536, 16)])

end Sys2Proof
end

