-- ==== Sys2Proof/WellFormed.lean ====
section
/-! DEFINITION. Which terms of `Instr` name something the part can be given: unit indices inside the maps of
R40 and R41, register numbers and contexts of a Crook core (R345), sizes and offsets of an access (R23). The
machine itself takes every term: one that is not well-formed finds no unit and changes nothing. -/

namespace Sys2Proof

/-- A register's place lies in a page of the function (R22, R40, R41). -/
def pageWf (func page : Nat) : Bool := if func = 0 then decide (page < 4096) else decide (func = 1 ∧ page < 64)

def RegAddr.wf (a : RegAddr) : Bool := pageWf a.func a.page && decide (a.off < 4096)

/-- A transfer of a register write (R23): the sizes the bus has; whether the register takes it is its own rule. -/
def sizeWf (n : Nat) : Bool := n == 1 || n == 2 || n == 4 || n == 8

/-- A Crook operand names one of the 16 registers (R345). -/
def Opnd.wf : Opnd → Bool
  | .reg s => decide (s < 16)
  | .imm8 _ => true
  | .imm32 _ => true

/-- A flag leaves fewer than 8 bits over (R247). -/
def RxChar.wf : RxChar → Bool
  | .char _ _ _ => true
  | .byte _ => true
  | .flag n => decide (n < 8)

/-- One paddock access: a port of the nine, inside the 1 MiB, of at most 64 bytes (R387). -/
def PadReq.wf (q : PadReq) : Bool :=
  decide (q.port < 9 ∧ q.off < 0x100000 ∧ q.len ≤ 64) && decide (q.data.length ≤ 64) && q.core.all (fun c => decide (c < 64))

/-- A well-formed command. -/
def Instr.wf : Instr → Bool
  | .registerWrite a size _ _ => a.wf && sizeWf size
  | .halfWrite a _ _ _ => a.wf && a.off % 8 == 0
  | .lock func page _ _ => pageWf func page
  | .ownerWrite func page _ _ => pageWf func page
  | .histClear func page _ => pageWf func page
  | .repeatWindowEnd func page _ => pageWf func page
  | .ownValueWrite _ => true
  | .ownFence => true
  | .ownUnfence => true
  | .fenceReq func page _ _ => pageWf func page
  | .unfence func page _ _ => pageWf func page
  | .fenceComplete func page => pageWf func page
  | .wdogKick _ => true
  | .wdogCfgWrite _ => true
  | .wdogExpired => true
  | .dataPortWrite port off bytes _ => decide (port < 16) && decide (off + bytes.length ≤ 65536) && !bytes.isEmpty
  | .dataPortRead port off len _ => decide (port < 16) && decide (off + len ≤ 65536) && decide (0 < len)
  | .datAddrWrite port _ _ _ => decide (port < 16)
  | .datEnClear port _ _ => decide (port < 16)
  | .datOwnerWrite port _ _ => decide (port < 16)
  | .histWinBaseWrite _ _ => true
  | .windowMoveDone => true
  | .hdmRead _ _ _ => true
  | .hdmWrite _ _ => true
  | .patiencePromotion cls _ chan => decide (cls < 7) && chan.all (fun n => decide (n < 32))
  | .refOk => true
  | .pllLock => true
  | .refLoss => true
  | .refReturn => true
  | .targetWrite pd _ _ => decide (pd < 50)
  | .entryCommit pd => decide (pd < 50)
  | .entryComplete pd => decide (pd < 50)
  | .wakePin k _ => decide (k < 16)
  | .alarmMatch => true
  | .wakeComplete pd => decide (pd < 50)
  | .plevelWrite pd _ _ => decide (pd < 50)
  | .plevelDone pd => decide (pd < 50)
  | .trainRequest _ _ => true
  | .trainForce _ _ => true
  | .driftRetrain _ => true
  | .retrainStart => true
  | .retrainDone => true
  | .coldStart _ => true
  | .trainingComplete => true
  | .warmReset _ => true
  | .powerOnReset => true
  | .start _ _ => true
  | .validationDone => true
  | .starting _ => true
  | .lineStart pe => decide (pe < 33)
  | .lineComplete pe => decide (pe < 33)
  | .pastureFetchDone pe _ _ _ => decide (pe < 33)
  | .palDataWrite pe _ _ => decide (pe < 33)
  | .layerHoldWrite pe _ _ => decide (pe < 33)
  | .flkDataWrite pe _ _ => decide (pe < 33)
  | .flkHoldWrite pe _ _ => decide (pe < 33)
  | .beamLine head => decide (head < 32)
  | .scanDeadline head => decide (head < 32)
  | .lookaheadWrite head _ _ => decide (head < 32)
  | .llFetchDone head _ => decide (head < 32)
  | .lutDataWrite pe _ _ => decide (pe < 33)
  | .sapDataWrite head _ _ => decide (head < 32)
  | .sapPaletteWrite head bank entry _ _ => decide (head < 32) && decide (bank < 2) && decide (entry < 64)
  | .sapFlip head _ _ => decide (head < 32)
  | .sapCopy head _ _ => decide (head < 32)
  | .sapCopyDone head => decide (head < 32)
  | .sapLearn head _ _ => decide (head < 32)
  | .signatureCheck head => decide (head < 32)
  | .wbDone head => decide (head < 32)
  | .headEnable head _ _ => decide (head < 32)
  | .headDisable head _ _ => decide (head < 32)
  | .linkTrain port _ => decide (port < 8)
  | .linkDrop port _ => decide (port < 8)
  | .linkTrainingDone port rate => decide (port < 8) && rate.all (fun n => decide (n < 4))
  | .hpdChange port _ => decide (port < 8)
  | .hpdIrq port _ => decide (port < 8)
  | .auxGo port _ _ => decide (port < 8)
  | .auxDone port _ _ => decide (port < 8)
  | .syncEvent head => decide (head < 32)
  | .syncLost head => decide (head < 32)
  | .bistReq pe _ => decide (pe < 33)
  | .bistForce pe _ => decide (pe < 33)
  | .bistDone pe _ => decide (pe < 33)
  | .relResume _ _ => true
  | .raceSubmit _ _ => true
  | .batchSubmit _ _ => true
  | .bltNop _ _ => true
  | .bltCopy _ _ rows => rows != some 0
  | .bltFill _ _ rows => rows != some 0
  | .bltExpand _ _ rows => rows != some 0
  | .bltBlend _ _ rows => rows != some 0
  | .bltConvert _ _ rows => rows != some 0
  | .bltWaitline _ _ => true
  | .bltWaitlineDone _ => true
  | .bltPalette _ _ => true
  | .bltSignal _ _ => true
  | .bltLink _ _ => true
  | .bltEnd _ _ => true
  | .raceLate => true
  | .paceDeadtimeEnd _ => true
  | .raceResume _ => true
  | .batchResume _ => true
  | .raceFlush _ => true
  | .batchFlush _ => true
  | .fpEnable fp _ _ => decide (fp < 16)
  | .fpDisable fp _ _ => decide (fp < 16)
  | .rxCharacter fp ch _ => decide (fp < 16) && ch.wf
  | .rxBreak fp => decide (fp < 16)
  | .rxGapTimeout fp => decide (fp < 16)
  | .t35Silence fp => decide (fp < 16)
  | .cdChange fp _ => decide (fp < 16)
  | .txHeadWrite fp _ _ => decide (fp < 16)
  | .rxTailWrite fp _ _ => decide (fp < 16)
  | .txDescriptorTake fp => decide (fp < 16)
  | .txNotBefore fp => decide (fp < 16)
  | .lbtQuiet fp => decide (fp < 16)
  | .keyupEnd fp => decide (fp < 16)
  | .txLastBit fp => decide (fp < 16)
  | .tailEnd fp => decide (fp < 16)
  | .txTimeout fp => decide (fp < 16)
  | .cvSrcWrite cv _ _ => decide (cv < 16)
  | .feed8 cv _ _ => decide (cv < 16)
  | .feed32 cv _ _ => decide (cv < 16)
  | .feed64 cv _ _ => decide (cv < 16)
  | .finish cv _ _ => decide (cv < 16)
  | .ctxSave cv _ _ => decide (cv < 16)
  | .ctxLoad cv _ _ => decide (cv < 16)
  | .ctxDone cv => decide (cv < 16)
  | .selfcheck cv _ _ => decide (cv < 16)
  | .selfcheckDone cv _ => decide (cv < 16)
  | .crEnWrite ring _ _ => decide (ring < 16)
  | .crHeadWrite ring _ _ => decide (ring < 16)
  | .crResTailWrite ring _ _ => decide (ring < 16)
  | .crOwnerWrite ring _ _ => decide (ring < 16)
  | .commitTake _ => true
  | .commitApply => true
  | .commandRequest _ => true
  | .channelGrant txn => decide (txn < 4096)
  | .selectToExpiry txn => decide (txn < 4096)
  | .windowExpiry txn => decide (txn < 4096)
  | .operateToExpiry txn => decide (txn < 4096)
  | .feedbackToExpiry txn => decide (txn < 4096)
  | .cancel _ _ => true
  | .execute _ _ => true
  | .authorityLoss => true
  | .flushWaitExpiry => true
  | .windowWriteDone _ _ => true
  | .gpfPhase1 => true
  | .gpfPhase2 => true
  | .pwrfail => true
  | .userCmd _ _ => true
  | .cpMark _ => true
  | .cpGo _ => true
  | .cpDone _ => true
  | .replaySetseq _ => true
  | .replayGo _ => true
  | .replayDone _ => true
  | .claim _ _ => true
  | .handover _ _ => true
  | .claimTimeout => true
  | .promotionTimeout => true
  | .roleChange => true
  | .isolateHoldEnd => true
  | .arbInChange _ => true
  | .mirrorLinkUp => true
  | .hello _ _ _ _ _ _ _ => true
  | .heartbeat _ _ _ _ _ _ => true
  | .heartbeatSend => true
  | .heartbeatMiss => true
  | .journalFrame _ _ => true
  | .ack _ _ => true
  | .ackTimeout => true
  | .relinquish _ _ _ => true
  | .take _ _ => true
  | .resyncReq _ _ _ => true
  | .cpData _ _ _ => true
  | .cpEnd _ _ _ _ => true
  | .lineSyncMarker _ _ => true
  | .resyncLoaded _ => true
  | .nop c => decide (c < 64)
  | .halt c => decide (c < 64)
  | .iflush c => decide (c < 64)
  | .fence c => decide (c < 64)
  | .ret c => decide (c < 64)
  | .reti c => decide (c < 64)
  | .dup c => decide (c < 64)
  | .drop c => decide (c < 64)
  | .swap c => decide (c < 64)
  | .over c => decide (c < 64)
  | .ei c => decide (c < 64)
  | .di c => decide (c < 64)
  | .trap c _ => decide (c < 64)
  | .mov c d b => decide (c < 64) && decide (d < 16) && b.wf
  | .add c d b => decide (c < 64) && decide (d < 16) && b.wf
  | .sub c d b => decide (c < 64) && decide (d < 16) && b.wf
  | .adc c d b => decide (c < 64) && decide (d < 16) && b.wf
  | .sbc c d b => decide (c < 64) && decide (d < 16) && b.wf
  | .and c d b => decide (c < 64) && decide (d < 16) && b.wf
  | .or c d b => decide (c < 64) && decide (d < 16) && b.wf
  | .xor c d b => decide (c < 64) && decide (d < 16) && b.wf
  | .shl c d b => decide (c < 64) && decide (d < 16) && b.wf
  | .shr c d b => decide (c < 64) && decide (d < 16) && b.wf
  | .sar c d b => decide (c < 64) && decide (d < 16) && b.wf
  | .rol c d b => decide (c < 64) && decide (d < 16) && b.wf
  | .cmp c d b => decide (c < 64) && decide (d < 16) && b.wf
  | .tst c d b => decide (c < 64) && decide (d < 16) && b.wf
  | .not c d r => decide (c < 64) && decide (d < 16) && decide (r < 16)
  | .neg c d r => decide (c < 64) && decide (d < 16) && decide (r < 16)
  | .mul c d r => decide (c < 64) && decide (d < 16) && decide (r < 16)
  | .mulhu c d r => decide (c < 64) && decide (d < 16) && decide (r < 16)
  | .mulhs c d r => decide (c < 64) && decide (d < 16) && decide (r < 16)
  | .divu c d r => decide (c < 64) && decide (d < 16) && decide (r < 16)
  | .divs c d r => decide (c < 64) && decide (d < 16) && decide (r < 16)
  | .remu c d r => decide (c < 64) && decide (d < 16) && decide (r < 16)
  | .rems c d r => decide (c < 64) && decide (d < 16) && decide (r < 16)
  | .par c d r => decide (c < 64) && decide (d < 16) && decide (r < 16)
  | .brev c d r => decide (c < 64) && decide (d < 16) && decide (r < 16)
  | .brevb c d r => decide (c < 64) && decide (d < 16) && decide (r < 16)
  | .clz c d r => decide (c < 64) && decide (d < 16) && decide (r < 16)
  | .popc c d r => decide (c < 64) && decide (d < 16) && decide (r < 16)
  | .bswap c d r => decide (c < 64) && decide (d < 16) && decide (r < 16)
  | .crcb c ctx r => decide (c < 64) && decide (ctx < 4) && decide (r < 16)
  | .crcw c ctx r => decide (c < 64) && decide (ctx < 4) && decide (r < 16)
  | .crcf c d ctx => decide (c < 64) && decide (d < 16) && decide (ctx < 4)
  | .crci c ctx => decide (c < 64) && decide (ctx < 4)
  | .mfs c d _ => decide (c < 64) && decide (d < 16)
  | .mts c _ r => decide (c < 64) && decide (r < 16)
  | .waitl c d r => decide (c < 64) && decide (d < 16) && decide (r < 16)
  | .waitlWake c => decide (c < 64)
  | .ld c d base _ _ _ _ => decide (c < 64) && decide (d < 16) && decide (base < 16)
  | .st c base _ r _ _ => decide (c < 64) && decide (base < 16) && decide (r < 16)
  | .sti c base _ _ _ _ => decide (c < 64) && decide (base < 16)
  | .bcc c _ _ => decide (c < 64)
  | .call c _ => decide (c < 64)
  | .callr c r => decide (c < 64) && decide (r < 16)
  | .jmpr c r => decide (c < 64) && decide (r < 16)
  | .push c r => decide (c < 64) && decide (r < 16)
  | .pop c d => decide (c < 64) && decide (d < 16)
  | .pushi c _ => decide (c < 64)
  | .pushm c _ => decide (c < 64)
  | .popm c _ => decide (c < 64)
  | .interruptEntry c => decide (c < 64)
  | .nudge c _ _ => decide (c < 64)
  | .coreEnable c _ _ => decide (c < 64)
  | .loadReturn c _ => decide (c < 64)
  | .storeDrain c _ => decide (c < 64)
  | .paddockCycle pk reqs _ => decide (pk < 8) && reqs.all PadReq.wf
  | .audioEnable _ _ => true
  | .sampleBoundary sdi => sdi.length == 32
  | .voiceStart voice _ _ => decide (voice < 64)
  | .voiceRelease voice _ _ => decide (voice < 64)
  | .voiceStop voice _ _ => decide (voice < 64)
  | .voicePreload voice _ _ => decide (voice < 64)
  | .pcmFetchDone voice _ => decide (voice < 64)
  | .durationEnd voice => decide (voice < 64)
  | .cadenceToggle voice => decide (voice < 64)
  | .prDataWrite _ => true
  | .doorbell _ _ => true
  | .interruptDelivery group => decide (group < 64)
  | .holdoffEnd group => decide (group < 64)
  | .coalWindowEnd group => decide (group < 64)
  | .dvGo dv _ => decide (dv < 32)
  | .dvStop dv _ => decide (dv < 32)
  | .droverBeat _ _ => true
  | .dvDone dv => decide (dv < 32)
  | .compareMatch n => decide (n < 64)
  | .catchUp n => decide (n < 64)
  | .calWindowEnd _ => true
  | .cxlLinkUp _ _ _ _ _ _ => true
  | .cxlReset => true
  | .configRequest func reg _ => decide (func < 2) && (match reg with
      | .bar slot => decide (slot < 6)
      | _ => true)
  | .hdmCommit _ sizeBytes => sizeBytes % 0x10000000 == 0
  | .vectorUnmask vector => decide (vector < 2048)
  | .ideFault => true
  | .irHeadWrite ring _ _ => decide (ring < 8)
  | .relayInboundFrame ring lines _ => decide (ring < 8) && lines.all (fun l => l.length == 64)
  | .relayOutboundFrame ring _ => decide (ring < 8)
  | .rtxHeadWrite _ _ => true
  | .orTailWrite ring _ _ => decide (ring < 8)
  | .pinCfgWrite pin _ _ => decide (pin < 128)
  | .gpioOutWrite bank _ _ _ => decide (bank < 4)
  | .gpioSet bank _ _ => decide (bank < 4)
  | .gpioClr bank _ _ => decide (bank < 4)
  | .gpioTog bank _ _ => decide (bank < 4)
  | .bankChange bank _ => decide (bank < 4)
  | .i2cGo port _ _ => decide (port < 4)
  | .i2cDone port _ _ => decide (port < 4)
  | .i2cTimeout port => decide (port < 4)
  | .spiGo port _ _ => decide (port < 2)
  | .spiDone port _ => decide (port < 2)
  | .hot _ => true
  | .crit _ => true
  | .trip => true
  | .illegal c => decide (c < 64)
  | .fetchFault c => decide (c < 64)
  | .hdlcAbort fp => decide (fp < 16)
  | .mirrorLinkLoss => true

/-- A well-formed command, as a proposition. -/
abbrev WellFormed (i : Instr) : Prop := i.wf = true

end Sys2Proof
end

