-- ==== Sys2Proof/Certificates/Slice0/Obligations.lean ====
section
/-! DEFINITION. The statements for the provers: what the commands and the machine do, by the rules of the spec. A
statement about one command gives the whole next state: what its expression does not name stays as it was. -/

open Sys2Proof Sys2Proof.Machine

/-- A step takes the front command and runs it with the queue's rest (00_scope (the command queue)). -/
def Obligations.StepRunsTheFrontCommandOnTheRest : Prop :=
  ∀ (s : State) (c : Instr) (rest : List Instr),
    step { s with pending := c :: rest } = exec c { s with pending := rest }

/-- With no command waiting a step is one fabric cycle of the counters (R39, R62, R437; that the tick stands there is the model's choice, log entry 4). -/
def Obligations.EmptyQueueLetsOneFabricCyclePass : Prop :=
  (∀ s : State, s.pending = [] → s.mainUp = false → step s = .next s) ∧
  (∀ s : State, s.pending = [] → s.mainUp = true → ∃ t : State, step s = .next t ∧ t.fc = s.fc + 1 ∧ t.wdog = s.wdog - 1 ∧
    (s.clocks.tbStopped = true ∨ s.pdOn 48 = false → t.tb = s.tb ∧ t.tbFrac = s.tbFrac) ∧
    (s.clocks.tbStopped = false → s.pdOn 48 = true → s.tbFrac = 11 → t.tb = s.tb + 1 ∧ t.tbFrac = 0) ∧
    (s.clocks.tbStopped = false → s.pdOn 48 = true → s.tbFrac ≠ 11 → t.tb = s.tb ∧ t.tbFrac = s.tbFrac + 1) ∧
    t.pending = [] ∧ t.regs = s.regs ∧ t.owners = s.owners ∧ t.locks = s.locks ∧ t.mem = s.mem ∧ t.hostMem = s.hostMem ∧
    t.pad = s.pad ∧ t.iram = s.iram)

/-- At reset every register holds its table's value, pages their reset owners, no page is locked, no history stands (02_address_spaces_memory_data_ports R26, R29, R30, R35; 03_clocks_power_startup R83). -/
def Obligations.ResetLeavesTheTablesValues : Prop :=
  (∀ func page off : Nat, State.reset.reg func page off = resetVal func page off) ∧
  (∀ page : Nat, page < 0x5A0 → State.reset.owner 0 page = 0x01) ∧
  (∀ page : Nat, State.reset.owner 1 page = 0x02) ∧
  (∀ func page : Nat, State.reset.locked func page = false) ∧
  (∀ func page : Nat, State.reset.histOf func page = {}) ∧
  (∀ a : Nat, memByte State.reset.mem a = 0 ∧ memByte State.reset.hostMem a = 0 ∧ memByte State.reset.pad a = 0
    ∧ memByte State.reset.iram a = 0 ∧ memByte State.reset.sapRam a = 0) ∧
  State.reset.devState = stBOOT ∧ State.reset.mainUp = false ∧ State.reset.pending = []

/-- Every memory is in its canonical form at reset (02_address_spaces_memory_data_ports R42). -/
def Obligations.MemoriesCanonicalAtReset : Prop :=
  MemoriesCanonical State.reset

/-- Every step keeps every memory in its canonical form (02_address_spaces_memory_data_ports R42; 14_shepherd_pipeline_paddocks R383, R386; 07_composition_and_sapphire_layer R173). -/
def Obligations.EveryStepKeepsMemoriesCanonical : Prop :=
  ∀ s t : State, MemoriesCanonical s → step s = .next t → MemoriesCanonical t

/-- No command changes the queue of waiting commands (00_scope (the command queue)). -/
def Obligations.NoCommandTouchesTheQueue : Prop :=
  ∀ (c : Instr) (s t : State), exec c s = .next t → t.pending = s.pending

/-- Nothing but a reset or a failed copy unlocks a page (02_address_spaces_memory_data_ports R29; 03_clocks_power_startup R84, R91; 19_package_pins_electrical R493, R501). -/
def Obligations.ALockedPageStaysLockedUntilReset : Prop :=
  ∀ (c : Instr) (s t : State), c ≠ .powerOnReset → (∀ n, c ≠ .warmReset n) → c ≠ .trip → c ≠ .starting true →
    exec c s = .next t → ∀ func page : Nat, s.locked func page = true → t.locked func page = true

/-- Writing a register field changes that field alone (00_scope R9; 02_address_spaces_memory_data_ports R22). -/
def Obligations.AFieldTakesWhatIsWrittenToIt : Prop :=
  ∀ (s : State) (page : Nat) (f : Fld) (x : Nat), page < 4096 → f.off < 4096 → f.lo + f.w ≤ 64 →
    (s.w page f x).r page f = x % 2 ^ f.w ∧
    (∀ g : Fld, g.off = f.off → g.lo + g.w ≤ f.lo ∨ f.lo + f.w ≤ g.lo → (s.w page f x).r page g = s.r page g) ∧
    (∀ func p o : Nat, p < 4096 → o < 4096 → func ≠ 0 ∨ p ≠ page ∨ o ≠ f.off → (s.w page f x).reg func p o = s.reg func p o) ∧
    (s.w page f x).owners = s.owners ∧ (s.w page f x).locks = s.locks ∧ (s.w page f x).hist = s.hist ∧
    (s.w page f x).mem = s.mem ∧ (s.w page f x).hostMem = s.hostMem ∧ (s.w page f x).pad = s.pad ∧ (s.w page f x).iram = s.iram

/-- A recorded event is shifted into its page's history with the next sequence number (02_address_spaces_memory_data_ports R30; 18_faults_and_containment R468, R469, R473). -/
def Obligations.AnEventShiftsIntoThePageHistory : Prop :=
  ∀ (s : State) (func page code : Nat) (detail : W32), func < 2 → page < 4096 → s.mainUp = true → s.present func page = true →
    (s.histOf func page).slots = [] → (s.histOf func page).lastFc ≠ s.fc →
    let t := s.accEvent func page code detail
    let h := s.histOf func page
    (t.histOf func page).entries =
      (({ tb := s.stamp, code := BitVec.ofNat 16 code, seq := h.seq + 1, detail := detail } : HistEntry) :: h.entries).take 8 ∧
    (t.histOf func page).seq = h.seq + 1 ∧
    (t.histOf func page).overflow = (if h.entries.length < 8 then h.overflow else if h.overflow < 255 then h.overflow + 1 else h.overflow) ∧
    (t.histOf func page).slots = [{ code := BitVec.ofNat 16 code, since := s.fc, count := 0 }] ∧
    (∀ f p : Nat, f < 2 → p < 4096 → f ≠ func ∨ p ≠ page → t.histOf f p = s.histOf f p) ∧
    t.regs = s.regs ∧ t.owners = s.owners ∧ t.locks = s.locks ∧ t.mem = s.mem ∧ t.freeCtr = s.freeCtr

/-- Every register write completes; it is barred exactly when a check of page, size, owner, LOCK, domain or fence fails (02_address_spaces_memory_data_ports R2, R23, R24, R29, R33, R67; 18_faults_and_containment R472). -/
def Obligations.AWriteIsTakenExactlyWhenNoCheckBarsIt : Prop :=
  (∀ (s : State) (a : RegAddr) (size : Nat) (v : BitVec 64) (wr : Code),
    ∃ t : State, exec (.registerWrite a size v wr) s = .next t ∧ t.pending = s.pending) ∧
  (∀ (s : State) (a : RegAddr) (size : Nat) (v : BitVec 64) (wr : Code) (k : Kind) (n : Nat),
    pageKind a.func a.page = some (k, n) → wideBase k a.off = none → Admits s a.func a.page a.off size wr →
    let w : Wr := { func := a.func, page := a.page, off := a.off, size := size,
                    value := if size = 8 then v else BitVec.ofNat 64 (v.toNat % 2 ^ 32), code := wr }
    exec (.registerWrite a size v wr) s =
      .next (s.take w k n fun u => if k == .kPROTR then u.protrWrite w else u.blockWrite w k n).1) ∧
  (∀ (s : State) (a : RegAddr) (v : BitVec 64) (wr : Code) (k : Kind) (n : Nat),
    pageKind a.func a.page = some (k, n) → wideBase k a.off = some a.off → Admits s a.func a.page a.off 8 wr →
    let w : Wr := wr64 a.func a.page a.off v wr
    exec (.registerWrite a 8 v wr) s =
      .next ((Released s a.func a.page a.off wr).take w k n fun u =>
        if k == .kPROTR then u.protrWrite w else u.blockWrite w k n).1) ∧
  ∀ (s : State) (func page off size : Nat) (wr : Code) (k : Kind) (n : Nat), pageKind func page = some (k, n) →
    (Admits s func page off size wr ↔
      s.mainUp = true ∧ reaches func page wr = true ∧ unitPresent s.variant k n = true ∧ k.isBlock = true ∧ sizeOk k off size = true ∧
      s.ownerAllows func page off wr = true ∧ (s.locked func page = true → lockFreezes k off = false) ∧
      (off < 0x100 ∨ s.domainOn func page = true) ∧ (isDataPath k off = true → s.fenced func page = false))

/-- A write that a check drops changes no register, owner, lock or memory (02_address_spaces_memory_data_ports R23, R33, R504; 18_faults_and_containment R473). -/
def Obligations.ADroppedWriteChangesNoRegister : Prop :=
  ∀ (s : State) (a : RegAddr) (size : Nat) (v : BitVec 64) (wr : Code) (k : Kind) (n : Nat),
    pageKind a.func a.page = some (k, n) → k.isBlock = true → size = 8 ∨ wideBase k a.off = none →
    ¬ Admits s a.func a.page a.off size wr →
    ∃ t : State, exec (.registerWrite a size v wr) s = .next t ∧ t.regs = s.regs ∧ t.pend = s.pend ∧ t.owners = s.owners ∧
      t.locks = s.locks ∧ t.mem = s.mem ∧ t.hostMem = s.hostMem ∧ t.pad = s.pad ∧ t.iram = s.iram ∧ t.sapRam = s.sapRam ∧
      t.pending = s.pending

/-- A write refused for its owner is recorded as OWNER_DENY with writer and register (02_address_spaces_memory_data_ports R33, R187). -/
def Obligations.OwnerDenyRecordsTheWriterAndTheRegister : Prop :=
  ∀ (s : State) (a : RegAddr) (v : BitVec 32) (wr : Code) (k : Kind) (n : Nat),
    pageKind a.func a.page = some (k, n) → k.isBlock = true → wideBase k a.off = none → s.mainUp = true →
    reaches a.func a.page wr = true → unitPresent s.variant k n = true → sizeOk k a.off 4 = true → s.ownerAllows a.func a.page a.off wr = false →
    exec (.registerWrite a 4 (v.setWidth 64) wr) s =
      .next (s.accEvent (histPage a.func a.page).1 (histPage a.func a.page).2 Ev.OWNER_DENY (denyDetail wr a.off))

/-- An accepted write gives a plain register its writable bits and clears its W1C bits (00_scope R9, R10; 02_address_spaces_memory_data_ports R26, R33). -/
def Obligations.APlainRegisterTakesItsWritableBits : Prop :=
  ∀ (s : State) (page off : Nat) (v : BitVec 32) (wr : Code) (k : Kind) (n : Nat) (sp : RegSpec),
    pageKind 0 page = some (k, n) → k = .kCLOCKS ∨ k = .kDROVER ∨ k = .kPK → 0x100 ≤ off →
    specAt k off = some (sp, off) → sp.wide = false → Admits s 0 page off 4 wr →
    exec (.registerWrite { func := 0, page := page, off := off } 4 (v.setWidth 64) wr) s =
      .next (s.setReg 0 page off (BitVec.ofNat 64 (mergeWrite (s.reg 0 page off).toNat v.toNat sp.rw sp.w1c)))

/-- A low half is held for its writer; a high half is the whole write of both (02_address_spaces_memory_data_ports R505; R115, R180, R225). -/
def Obligations.HalvesOfA64BitRegisterCommitWithTheHighOne : Prop :=
  (∀ (s : State) (func page b : Nat) (v : BitVec 32) (wr : Code) (k : Kind) (n : Nat),
    pageKind func page = some (k, n) → k.isBlock = true → k ≠ .kSAPV → wideBase k b = some b → s.mainUp = true →
    reaches func page wr = true → unitPresent s.variant k n = true → s.domainOn func page = true →
    (isDataPath k b = true → s.fenced func page = false) →
    exec (.halfWrite { func := func, page := page, off := b } false v wr) s =
      .next { s with held := sinsert (serase s.held (heldKey func page b wr)) (heldKey func page b wr) v }) ∧
  (∀ (s : State) (func page b : Nat) (v : BitVec 32) (wr : Code) (k : Kind) (n : Nat) (low : BitVec 32),
    pageKind func page = some (k, n) → k.isBlock = true → wideBase k b = some b → wideBase k (b + 4) = some b →
    (s.held.find? (fun e => e.1 == heldKey func page b wr) = some (heldKey func page b wr, low) ∨
      s.held.find? (fun e => e.1 == heldKey func page b wr) = none ∧
        low = (if loneHighZero k b then 0
          else BitVec.ofNat 32 (if func = 0 then s.pendReg page b else s.reg func page b).toNat)) →
    exec (.halfWrite { func := func, page := page, off := b } true v wr) s =
      exec (.registerWrite { func := func, page := page, off := b } 8 (v ++ low) wr) s)

/-- LOCK, OWNER and HIST_CTRL.CLEAR of a page do what R29, R34 and R30 say and nothing else (02_address_spaces_memory_data_ports R29, R30, R34, R178). -/
def Obligations.LockTakesItsKeyAndOwnersChangeUnderTheirRules : Prop :=
  (∀ (s : State) (func page : Nat) (wr : Code) (k : Kind) (n : Nat), pageKind func page = some (k, n) →
    Admits s func page 0x01C 4 wr →
    exec (.lock func page 0x4C4B wr) s = .next { s with locks := sset false s.locks (regKey func page 0) true } ∧
    ∀ v : BitVec 32, v ≠ 0x4C4B → exec (.lock func page v wr) s = .next s) ∧
  (∀ (s : State) (func page : Nat) (v : BitVec 32) (wr : Code) (k : Kind) (n : Nat), pageKind func page = some (k, n) →
    Admits s func page 0x018 4 wr → s.owner func page ≠ 0xFF →
    (if func = 1 ∧ 0x20 ≤ page then s.validSapOwner (v.setWidth 8) else s.validOwner (v.setWidth 8)) = true →
    exec (.ownerWrite func page v wr) s = .next (s.setOwner func page (v.setWidth 8))) ∧
  (∀ (s : State) (func page : Nat) (v : BitVec 32) (wr : Code) (k : Kind) (n : Nat), pageKind func page = some (k, n) →
    Admits s func page 0x018 4 wr →
    s.owner func page = 0xFF ∨ (if func = 1 ∧ 0x20 ≤ page then s.validSapOwner (v.setWidth 8) else s.validOwner (v.setWidth 8)) = false →
    exec (.ownerWrite func page v wr) s = .next (s.accEvent func page Ev.OWNER_DENY (denyDetail wr 0x018))) ∧
  (∀ (s : State) (func page : Nat) (wr : Code) (k : Kind) (n : Nat), pageKind func page = some (k, n) →
    Admits s func page 0x020 4 wr →
    exec (.histClear func page wr) s =
      .next (s.setHist func page { (s.histOf func page).settle s.fc s.stamp with entries := [], overflow := 0, lastN := 0 }))

/-- At the end of a repeat window the slot is freed, or REPEAT is recorded and a new window opens (18_faults_and_containment R468). -/
def Obligations.ARepeatWindowEndsWithACountOrAFreeSlot : Prop :=
  ∀ (s : State) (func page : Nat) (x : RepeatSlot), func < 2 → page < 4096 → s.mainUp = true →
    (s.histOf func page).slots = [x] → s.fc ≤ x.since + repeatFc → (s.histOf func page).lastFc < x.since + repeatFc →
    ∃ t : State, exec (.repeatWindowEnd func page x.code) s = .next t ∧ t.fc = x.since + repeatFc ∧ t.regs = s.regs ∧
      (x.count = 0 → (t.histOf func page).slots = [] ∧ (t.histOf func page).entries = (s.histOf func page).entries) ∧
      (x.count ≠ 0 → (t.histOf func page).slots = [{ x with since := x.since + repeatFc, count := 0 }] ∧
        (t.histOf func page).seq = (s.histOf func page).seq + 1 ∧
        ∃ e : HistEntry, (t.histOf func page).entries = (e :: (s.histOf func page).entries).take 8 ∧
          e.code = BitVec.ofNat 16 Ev.REPEAT ∧
          e.detail = BitVec.ofNat 32 (x.code.toNat + min x.count 65535 * 0x10000))

/-- OWN_VALUE sets the owner of the item OWN_SEL names, under the rules of R34 (02_address_spaces_memory_data_ports R34, R35, R37; R187). -/
def Obligations.OwnershipSetsTheOwnerOfTheSelectedItem : Prop :=
  (∀ (s : State) (v : BitVec 32) (p : Nat) (k : Kind) (n : Nat), Admits s 1 pOWNERSHIP 0x104 4 0x02 → s.ownItem = some (.page p) →
    pageKind 0 p = some (k, n) → k ≠ .kSAPV → s.owner 0 p ≠ 0xFF → s.validOwner (v.setWidth 8) = true →
    exec (.ownValueWrite v) s = .next (s.setOwner 0 p (v.setWidth 8))) ∧
  (∀ (s : State) (v : BitVec 32) (p : Nat), Admits s 1 pOWNERSHIP 0x104 4 0x02 → s.ownItem = some (.port p) →
    s.itemOwner pDATAPORTS (DATAPORTS.DAT_OWNER.at (0x40 * p)) ≠ 0xFF → s.validOwner (v.setWidth 8) = true →
    exec (.ownValueWrite v) s = .next (s.w pDATAPORTS (DATAPORTS.DAT_OWNER.at (0x40 * p)) (v.toNat % 256))) ∧
  (∀ (s : State) (v : BitVec 32) (p : Nat), Admits s 1 pOWNERSHIP 0x104 4 0x02 → s.ownItem = some (.pin p) →
    s.itemOwner pPINS (PINS.MP_CFG_OWNER.at (4 * p)) ≠ 0xFF → s.validOwner (v.setWidth 8) = true →
    exec (.ownValueWrite v) s = .next (s.w pPINS (PINS.MP_CFG_OWNER.at (4 * p)) (v.toNat % 256))) ∧
  (∀ (s : State) (v : BitVec 32) (p : Nat), Admits s 1 pOWNERSHIP 0x104 4 0x02 → s.ownItem = some (.domain p) →
    s.itemOwner pPOWER (pdFld POWER.PD_OWNER p) ≠ 0xFF → s.validOwner (v.setWidth 8) = true →
    exec (.ownValueWrite v) s = .next (s.w pPOWER (pdFld POWER.PD_OWNER p) (v.toNat % 256))) ∧
  (∀ (s : State) (v : BitVec 32) (p : Nat), Admits s 1 pOWNERSHIP 0x104 4 0x02 → s.ownItem = some (.sapphire p) →
    s.owner 1 (pgSAP p) ≠ 0xFF → s.validSapOwner (v.setWidth 8) = true →
    exec (.ownValueWrite v) s = .next (s.setOwner 1 (pgSAP p) (v.setWidth 8))) ∧
  (∀ (s : State) (v : BitVec 32) (p : Nat) (k : Kind) (n : Nat), Admits s 1 pOWNERSHIP 0x104 4 0x02 → s.ownItem = some (.page p) →
    pageKind 0 p = some (k, n) → k = .kSAPV ∨ s.owner 0 p = 0xFF ∨ s.validOwner (v.setWidth 8) = false →
    exec (.ownValueWrite v) s =
      .next (s.accEvent (histPage 0 p).1 (histPage 0 p).2 Ev.OWNER_DENY (denyDetail 0x02 0x018))) ∧
  (∀ (s : State) (v : BitVec 32) (p : Nat), Admits s 1 pOWNERSHIP 0x104 4 0x02 → s.ownItem = some (.port p) →
    s.itemOwner pDATAPORTS (DATAPORTS.DAT_OWNER.at (0x40 * p)) = 0xFF ∨ s.validOwner (v.setWidth 8) = false →
    exec (.ownValueWrite v) s =
      .next (s.accEvent 0 pDATAPORTS Ev.OWNER_DENY (denyDetail 0x02 (DATAPORTS.DAT_OWNER.at (0x40 * p)).off))) ∧
  (∀ (s : State) (v : BitVec 32) (p : Nat), Admits s 1 pOWNERSHIP 0x104 4 0x02 → s.ownItem = some (.pin p) →
    s.itemOwner pPINS (PINS.MP_CFG_OWNER.at (4 * p)) = 0xFF ∨ s.validOwner (v.setWidth 8) = false →
    exec (.ownValueWrite v) s =
      .next (s.pinDeny (wr32 0 pPINS (PINS.MP_CFG_OWNER.at (4 * p)).off v 0x02) p)) ∧
  (∀ (s : State) (v : BitVec 32) (p : Nat), Admits s 1 pOWNERSHIP 0x104 4 0x02 → s.ownItem = some (.domain p) →
    s.itemOwner pPOWER (pdFld POWER.PD_OWNER p) = 0xFF ∨ s.validOwner (v.setWidth 8) = false →
    exec (.ownValueWrite v) s =
      .next (s.accEvent 0 pPOWER Ev.OWNER_DENY (denyDetail 0x02 (pdFld POWER.PD_OWNER p).off))) ∧
  (∀ (s : State) (v : BitVec 32) (p : Nat), Admits s 1 pOWNERSHIP 0x104 4 0x02 → s.ownItem = some (.sapphire p) →
    s.owner 1 (pgSAP p) = 0xFF ∨ s.validSapOwner (v.setWidth 8) = false →
    exec (.ownValueWrite v) s = .next (s.accEvent 1 (pgSAP p) Ev.OWNER_DENY (denyDetail 0x02 0x018))) ∧
  (∀ (s : State) (v : BitVec 32), Admits s 1 pOWNERSHIP 0x104 4 0x02 → s.ownItem = none →
    exec (.ownValueWrite v) s = .next (s.w1 pOWNERSHIP OWNERSHIP.OWN_STATUS 1))

/-- Fence and unfence by CTRL and by OWN_FENCE on the blocks whose safe state is to refuse, and the fence's completion (18_faults_and_containment R470, R471, R474; 02_address_spaces_memory_data_ports R37). -/
def Obligations.AFenceIsMarkedAndRecordedAndAnUnfenceUndoesIt : Prop :=
  (∀ (s : State) (p : Nat) (k : Kind) (n : Nat),
    k = .kDATAPORTS ∨ k = .kPOINTS ∨ k = .kBRANDS ∨ k = .kHISTORY ∨ k = .kPK ∨ k = .kHOST →
    pageKind 0 p = some (k, n) → s.domainOn 0 p = true → Admits s 1 pOWNERSHIP 0x108 4 0x02 → s.ownItem = some (.page p) →
    (s.fenced 0 p = false → exec .ownFence s =
      .next ((s.w p CTRL_FENCE_REQ 1).accEvent 0 p Ev.FENCED 0x02)) ∧
    (s.fenced 0 p = true → exec .ownFence s = .next s) ∧
    (s.fenced 0 p = true → s.unfenceOk 0 p k n = true → exec .ownUnfence s =
      .next (((s.w p CTRL_FENCE_REQ 0).w p STATUS_FENCED 0).accEventOpen 0 p Ev.UNFENCED))) ∧
  (∀ (s : State) (p : Nat) (k : Kind) (n : Nat) (v : BitVec 32) (wr : Code),
    k = .kDATAPORTS ∨ k = .kPOINTS ∨ k = .kBRANDS ∨ k = .kHISTORY ∨ k = .kPK ∨ k = .kHOST →
    pageKind 0 p = some (k, n) → s.domainOn 0 p = true → Admits s 0 p 0x008 4 wr →
    (s.fenced 0 p = false → v.getLsbD 1 = true → exec (.fenceReq 0 p v wr) s =
      .next (((s.w p CTRL_ENABLE (b2n (v.getLsbD 0))).w p CTRL_FENCE_REQ 1).accEvent 0 p Ev.FENCED (wr.setWidth 32))) ∧
    (s.fenced 0 p = true → v.getLsbD 1 = true → exec (.fenceReq 0 p v wr) s =
      .next (s.w p CTRL_ENABLE (b2n (v.getLsbD 0)))) ∧
    (s.fenced 0 p = true → v.getLsbD 1 = false → v.getLsbD 2 = true → s.unfenceOk 0 p k n = true →
      exec (.unfence 0 p v wr) s = .next ((((s.w p CTRL_ENABLE (b2n (v.getLsbD 0))).w p CTRL_FENCE_REQ 0).w p STATUS_FENCED 0).accEventOpen
        0 p Ev.UNFENCED))) ∧
  (∀ (s : State) (func page : Nat) (k : Kind) (n : Nat), s.mainUp = true → pageKind func page = some (k, n) →
    s.present func page = true → s.fenced func page = true → (k = .kSC → (s.core n).busy = false) →
    exec (.fenceComplete func page) s =
      .next (s.setReg func page 0x00C (wset (s.reg func page 0x00C) 0 2 2))) ∧
  (∀ (s : State) (p : Nat) (k : Kind) (n : Nat), Admits s 1 pOWNERSHIP 0x108 4 0x02 → s.ownItem = some (.page p) →
    pageKind 0 p = some (k, n) → fenceable k = false →
    exec .ownFence s = .next (s.accEventOpen (histPage 0 p).1 (histPage 0 p).2 Ev.BAD_STATE))

/-- The watchdog: its key and PERIOD restart it; expiry counts, records, may start a voice, and restarts it (02_address_spaces_memory_data_ports R38, R39; 15_annunciation_audio R404). -/
def Obligations.TheWatchdogRestartsExpiresAndSpeaks : Prop :=
  (∀ s : State, Admits s 1 pSAFETY 0x108 4 0x02 →
    exec (.wdogKick 0x4B43494B) s = .next { s with wdog := s.r1 pSAFETY SAFETY.WDOG_CFG_PERIOD * 1782000 } ∧
    ∀ v : BitVec 32, v ≠ 0x4B43494B → exec (.wdogKick v) s = .next (s.accEventOpen 1 pSAFETY Ev.BAD_VALUE)) ∧
  (∀ (s : State) (v : BitVec 32), Admits s 1 pSAFETY 0x100 4 0x02 →
    let t := (s.plain (wr32 1 pSAFETY 0x100 v 0x02)).1
    exec (.wdogCfgWrite v) s = .next { t with wdog := t.r1 pSAFETY SAFETY.WDOG_CFG_PERIOD * 1782000 }) ∧
  (∀ s : State, s.mainUp = true → s.r1 pSAFETY SAFETY.WDOG_CFG_PERIOD ≠ 0 →
    let u := s.advanceFc (s.fc + s.wdog)
    let t := (((u.w1 pSAFETY SAFETY.STATUS_WDOG_EXPIRED 1).w1 pSAFETY (INT_PEND_BIT 0) 1).w1 pSAFETY SAFETY.WDOG_EXPIRIES
      (u.r1 pSAFETY SAFETY.WDOG_EXPIRIES + 1)).accEventOpen 1 pSAFETY Ev.WDOG_EXPIRED
    let voiced := if t.b1 pSAFETY SAFETY.WDOG_CFG_VOX_EN
      then t.submitAction (t.r1 pSAFETY SAFETY.WDOG_CFG_VOX) 0 (BitVec.ofNat 32 (t.r1 pSAFETY SAFETY.WDOG_PARAM)) 0x02 (actionRank 0x02)
      else t
    exec .wdogExpired s = .next { voiced with wdog := voiced.r1 pSAFETY SAFETY.WDOG_CFG_PERIOD * 1782000 })

/-- A write through a data port stores the enabled bytes at ADDR plus offset, counts them and may advance the port (02_address_spaces_memory_data_ports R56, R57, R59, R60, R61). -/
def Obligations.ADataPortWriteReachesMemoryAndCounts : Prop :=
  (∀ (s : State) (p off : Nat) (bytes : List (Option (BitVec 8))) (wr : Code), s.mainUp = true → p < 16 →
    s.fenced 0 pDATAPORTS = false →
    s.itemOwner pDATAPORTS (DATAPORTS.DAT_OWNER.at (0x40 * p)) = 0 ∨ wr = s.itemOwner pDATAPORTS (DATAPORTS.DAT_OWNER.at (0x40 * p)) →
    s.portOpen p = true →
    s.r pDATAPORTS (DATAPORTS.DAT_ADDR.at (0x40 * p)) + off + bytes.length ≤ 2 ^ 64 →
    s.inPart (s.r pDATAPORTS (DATAPORTS.DAT_CTRL_PART.at (0x40 * p))) (s.r pDATAPORTS (DATAPORTS.DAT_ADDR.at (0x40 * p)) + off) bytes.length = true →
    off + bytes.length ≤ s.r pDATAPORTS (DATAPORTS.DAT_BURST.at (0x40 * p)) → (∃ b ∈ bytes, b.isSome = true) →
    let a := s.r pDATAPORTS (DATAPORTS.DAT_ADDR.at (0x40 * p)) + off
    let c := s.r pDATAPORTS (DATAPORTS.DAT_STATUS_COUNT.at (0x40 * p)) + (bytes.filter Option.isSome).length
    ∃ t : State, exec (.dataPortWrite p off bytes wr) s = .next t ∧
      (∀ (i : Nat) (h : i < bytes.length) (b : BitVec 8), bytes[i] = some b → memByte t.mem (a + i) = b) ∧
      (∀ (i : Nat) (h : i < bytes.length), bytes[i] = none → memByte t.mem (a + i) = memByte s.mem (a + i)) ∧
      (∀ x : Nat, x < a ∨ a + bytes.length ≤ x → memByte t.mem x = memByte s.mem x) ∧
      (c < s.r pDATAPORTS (DATAPORTS.DAT_BURST.at (0x40 * p)) →
        t.r pDATAPORTS (DATAPORTS.DAT_STATUS_COUNT.at (0x40 * p)) = c % 2 ^ 16 ∧
        t.r pDATAPORTS (DATAPORTS.DAT_ADDR.at (0x40 * p)) = s.r pDATAPORTS (DATAPORTS.DAT_ADDR.at (0x40 * p)) ∧
        t.r pDATAPORTS (DATAPORTS.DAT_ADVANCES.at (0x40 * p)) = s.r pDATAPORTS (DATAPORTS.DAT_ADVANCES.at (0x40 * p))) ∧
      (s.r pDATAPORTS (DATAPORTS.DAT_BURST.at (0x40 * p)) ≤ c →
        t.r pDATAPORTS (DATAPORTS.DAT_STATUS_COUNT.at (0x40 * p)) = 0 ∧
        (t.r pDATAPORTS (DATAPORTS.DAT_ADDR.at (0x40 * p)) : Int) =
          ((s.r pDATAPORTS (DATAPORTS.DAT_ADDR.at (0x40 * p)) : Int) + signed 32 (s.r pDATAPORTS (DATAPORTS.DAT_STEP.at (0x40 * p)))) % 2 ^ 64 ∧
        t.r pDATAPORTS (DATAPORTS.DAT_ADVANCES.at (0x40 * p)) = (s.r pDATAPORTS (DATAPORTS.DAT_ADVANCES.at (0x40 * p)) + 1) % 2 ^ 32) ∧
      t.hostMem = s.hostMem ∧ t.pad = s.pad ∧ t.iram = s.iram ∧ t.owners = s.owners ∧ t.locks = s.locks ∧ t.hist = s.hist) ∧
  (∀ (s : State) (p off : Nat) (bytes : List (BitVec 8)) (wr : Code), s.mainUp = true → p < 16 →
    (s.portCheck p off bytes.length wr).2 = false →
    ∃ t : State, exec (.dataPortWrite p off (bytes.map some) wr) s = .next t ∧ t.mem = s.mem ∧ t.hostMem = s.hostMem ∧ t.pad = s.pad)

/-- A read through a data port returns the bytes at ADDR plus offset and counts them; a refused one reads all ones (02_address_spaces_memory_data_ports R46, R56, R57; 18_faults_and_containment R472). -/
def Obligations.ADataPortReadReturnsMemoryAndCounts : Prop :=
  (∀ (s : State) (p off len : Nat) (wr : Code), s.mainUp = true → p < 16 → 0 < len → s.fenced 0 pDATAPORTS = false →
    (s.portCheck p off len wr).2 = true →
    let a := (s.r pDATAPORTS (DATAPORTS.DAT_ADDR.at (0x40 * p)) + off) % 2 ^ 64
    exec (.dataPortRead p off len wr) s =
      .next { ((s.snoop a len).portCount p len) with resp := .data (memRead s.mem a len) }) ∧
  (∀ (s : State) (p off len : Nat) (wr : Code), s.mainUp = true → p < 16 → 0 < len →
    (s.portCheck p off len wr).2 = false →
    ∃ t : State, exec (.dataPortRead p off len wr) s = .next t ∧ t.mem = s.mem ∧ t.hostMem = s.hostMem ∧
      t.resp = (if s.fenced 0 pDATAPORTS then .abort else .data (List.replicate len 0xFF)))

/-- ADDR, BURST, CTRL and OWNER of a data port and HIST_WIN_BASE take accepted writes under their value rules (02_address_spaces_memory_data_ports R34, R48, R56, R57, R59, R61). -/
def Obligations.DataPortAndWindowRegistersTakeTheirWrites : Prop :=
  (∀ (s : State) (p : Nat) (v : BitVec 64) (wr : Code), p < 16 → Admits s 0 pDATAPORTS (0x100 + 0x40 * p) 8 wr → v.toNat % 4 = 0 →
    exec (.datAddrWrite p false v wr) s =
      .next ((((Released s 0 pDATAPORTS (0x100 + 0x40 * p) wr).plain (wr64 0 pDATAPORTS (0x100 + 0x40 * p) v wr)).1).w
        pDATAPORTS (DATAPORTS.DAT_STATUS_COUNT.at (0x40 * p)) 0)) ∧
  (∀ (s : State) (p : Nat) (v : BitVec 32) (wr : Code), p < 16 → Admits s 0 pDATAPORTS (0x10C + 0x40 * p) 4 wr →
    v.toNat % 2 ^ 17 % 4 = 0 → 4 ≤ v.toNat % 2 ^ 17 → v.toNat % 2 ^ 17 ≤ 65536 →
    exec (.datAddrWrite p true (v.setWidth 64) wr) s =
      .next (((s.plain (wr32 0 pDATAPORTS (0x10C + 0x40 * p) v wr)).1).w pDATAPORTS (DATAPORTS.DAT_STATUS_COUNT.at (0x40 * p)) 0)) ∧
  (∀ (s : State) (p : Nat) (v : BitVec 64) (wr : Code), p < 16 → Admits s 0 pDATAPORTS (0x100 + 0x40 * p) 8 wr → v.toNat % 4 ≠ 0 →
    exec (.datAddrWrite p false v wr) s =
      .next ((Released s 0 pDATAPORTS (0x100 + 0x40 * p) wr).accEventOpen 0 pDATAPORTS Ev.BAD_VALUE)) ∧
  (∀ (s : State) (p : Nat) (v : BitVec 32) (wr : Code), p < 16 → Admits s 0 pDATAPORTS (0x10C + 0x40 * p) 4 wr →
    v.toNat % 2 ^ 17 % 4 ≠ 0 ∨ v.toNat % 2 ^ 17 < 4 ∨ 65536 < v.toNat % 2 ^ 17 →
    exec (.datAddrWrite p true (v.setWidth 64) wr) s = .next (s.accEventOpen 0 pDATAPORTS Ev.BAD_VALUE)) ∧
  (∀ (s : State) (p : Nat) (v : BitVec 32) (wr : Code), p < 16 → Admits s 0 pDATAPORTS (0x110 + 0x40 * p) 4 wr →
    exec (.datEnClear p v wr) s = .next (s.plain (wr32 0 pDATAPORTS (0x110 + 0x40 * p) v wr)).1) ∧
  (∀ (s : State) (p : Nat) (v : BitVec 32) (wr : Code), p < 16 → Admits s 0 pDATAPORTS (0x118 + 0x40 * p) 4 wr →
    s.itemOwner pDATAPORTS (DATAPORTS.DAT_OWNER.at (0x40 * p)) ≠ 0xFF → s.validOwner (v.setWidth 8) = true →
    exec (.datOwnerWrite p v wr) s = .next (s.w pDATAPORTS (DATAPORTS.DAT_OWNER.at (0x40 * p)) (v.toNat % 256))) ∧
  (∀ (s : State) (p : Nat) (v : BitVec 32) (wr : Code), p < 16 → Admits s 0 pDATAPORTS (0x118 + 0x40 * p) 4 wr →
    s.itemOwner pDATAPORTS (DATAPORTS.DAT_OWNER.at (0x40 * p)) = 0xFF ∨ s.validOwner (v.setWidth 8) = false →
    exec (.datOwnerWrite p v wr) s = .next (s.accEvent 0 pDATAPORTS Ev.OWNER_DENY (denyDetail wr (0x118 + 0x40 * p)))) ∧
  (∀ (s : State) (v : BitVec 64) (wr : Code), Admits s 0 pPARTITIONS 0x188 8 wr → v.toNat % 2 ^ 30 = 0 →
    v.toNat + s.winGiB * GiB ≤ s.partBytes 3 →
    let u := Released s 0 pPARTITIONS 0x188 wr
    let old := if s.b pPARTITIONS PARTITIONS.HIST_WIN_STATUS then s.host.winOld else s.r pPARTITIONS PARTITIONS.HIST_WIN_BASE
    exec (.histWinBaseWrite v wr) s =
      .next (({ (u.plain (wr64 0 pPARTITIONS 0x188 v wr)).1 with host := { s.host with winOld := old } } : State).w
        pPARTITIONS PARTITIONS.HIST_WIN_STATUS 1)) ∧
  (∀ (s : State) (v : BitVec 64) (wr : Code), Admits s 0 pPARTITIONS 0x188 8 wr →
    v.toNat % 2 ^ 30 ≠ 0 ∨ s.partBytes 3 < v.toNat + s.winGiB * GiB →
    exec (.histWinBaseWrite v wr) s = .next ((Released s 0 pPARTITIONS 0x188 wr).accEventOpen 0 pPARTITIONS Ev.BAD_VALUE)) ∧
  (∀ s : State, s.mainUp = true → s.r pPARTITIONS PARTITIONS.HIST_WIN_STATUS = 1 →
    exec .windowMoveDone s = .next ((s.snoop (s.partBase 3) (s.partBytes 3)).w pPARTITIONS PARTITIONS.HIST_WIN_STATUS 0))

/-- A CXL.mem access reads OPEN and the history window and writes OPEN alone; a denied one is poison or nothing (02_address_spaces_memory_data_ports R45, R47, R48, R51; 17_host_attachment R450, R451, R452). -/
def Obligations.HostReadsAndWritesOpenAndOnlyReadsTheWindow : Prop :=
  (∀ (s : State) (a n : Nat), s.mainUp = true → s.fenced 0 pHOST = false → s.hdmDenied a n = false →
    (∃ t : State, exec (.hdmRead a n true) s = .next t ∧
      t.resp = .poison (memRead s.mem (s.hdmAddr (a - s.r pHOST HOST.HDM_BASE)).1 n) ∧ t.mem = s.mem ∧ t.hostMem = s.hostMem ∧
      t.owners = s.owners ∧ t.locks = s.locks ∧ t.hist = s.hist) ∧
    ∃ t : State, exec (.hdmRead a n) s = .next t ∧
      t.resp = .data (memRead s.mem (s.hdmAddr (a - s.r pHOST HOST.HDM_BASE)).1 n) ∧ t.mem = s.mem ∧ t.hostMem = s.hostMem ∧
      t.owners = s.owners ∧ t.locks = s.locks ∧ t.hist = s.hist) ∧
  (∀ (s : State) (a : Nat) (bs : List (BitVec 8)), s.mainUp = true → s.fenced 0 pHOST = false →
    s.hdmDenied a bs.length = false → (s.hdmAddr (a - s.r pHOST HOST.HDM_BASE)).2 = false →
    exec (.hdmWrite a bs) s = .next { s with mem := memWrite s.mem (s.hdmAddr (a - s.r pHOST HOST.HDM_BASE)).1 bs }) ∧
  (∀ (s : State) (a : Nat) (bs : List (BitVec 8)), s.mainUp = true → s.fenced 0 pHOST = false →
    s.hdmDenied a bs.length = false → (s.hdmAddr (a - s.r pHOST HOST.HDM_BASE)).2 = true →
    exec (.hdmWrite a bs) s = .next (s.eventOpen pPARTITIONS Ev.RO_WRITE)) ∧
  (∀ (s : State) (a n : Nat) (poison : Bool), s.mainUp = true → s.fenced 0 pHOST = false → s.hdmDenied a n = true →
    exec (.hdmRead a n poison) s = .next { (((s.w pHOST HOST.STATUS_HDM_DENY 1).w pHOST (INT_PEND_BIT 3) 1).event pHOST Ev.HDM_DENY
      (BitVec.ofNat 32 a)) with resp := .poison (List.replicate n 0xFF) }) ∧
  (∀ (s : State) (a : Nat) (bs : List (BitVec 8)), s.mainUp = true → s.fenced 0 pHOST = false → s.hdmDenied a bs.length = true →
    exec (.hdmWrite a bs) s = .next (((s.w pHOST HOST.STATUS_HDM_DENY 1).w pHOST (INT_PEND_BIT 3) 1).event pHOST Ev.HDM_DENY
      (BitVec.ofNat 32 a))) ∧
  (∀ (s : State) (cls waited : Nat), s.mainUp = true → cls < 7 → s.r pMEMCTL (MEMCTL.CLASS_CTRL_PATIENCE.at (4 * cls)) ≠ 0 →
    s.r pMEMCTL (MEMCTL.CLASS_CTRL_PATIENCE.at (4 * cls)) < waited →
    exec (.patiencePromotion cls waited none) s = .next (s.w pMEMCTL (MEMCTL.CLASS_URGENT.at (4 * cls))
      (s.r pMEMCTL (MEMCTL.CLASS_URGENT.at (4 * cls)) + 1))) ∧
  (∀ (s : State) (waited n : Nat), s.mainUp = true →
    let p := s.r pMEMCTL (MEMCTL.CLASS_CTRL_PATIENCE.at 8)
    let q := s.r (pgDV n) DV.PATIENCE
    p ≠ 0 → q ≠ 0 → min p q < waited →
    exec (.patiencePromotion 2 waited (some n)) s = .next (s.w pMEMCTL (MEMCTL.CLASS_URGENT.at 8)
      (s.r pMEMCTL (MEMCTL.CLASS_URGENT.at 8) + 1)))

/-- The cold start step by step, loss and return of the reference (03_clocks_power_startup R3, R62, R63, R83; 19_package_pins_electrical R492, R493). -/
def Obligations.ClockSourcesComeUpHoldOverAndReturn : Prop :=
  (∀ (s : State) (straps : BitVec 4), s.phase = .held →
    exec (.coldStart straps) s = .next { s with phase := .aon, straps := straps }) ∧
  (∀ s : State, s.phase = .aon → exec .refOk s = .next { s.w pCLOCKS CLOCKS.STATUS_REF_OK 1 with phase := .locking }) ∧
  (∀ s : State, s.phase = .locking →
    ∃ t : State, exec .pllLock s = .next t ∧ t.mainUp = true ∧ t.fc = 0 ∧ t.tb = 0 ∧ t.tbFrac = 0 ∧
      t.phase = (if s.straps.getLsbD 1 then .factory else .training) ∧
      t.r pCLOCKS CLOCKS.STATUS_PLL_LOCK = 1 ∧ t.r pCLOCKS CLOCKS.STATUS_RUN = 1 ∧
      (∀ d : Nat, d < 50 → pdPresent s.variant d = false → t.pdState d = 3) ∧
      (∀ d : Nat, d < 50 → pdPresent s.variant d = true → t.pdState d = s.pdState d) ∧
      t.mem = s.mem ∧ t.hostMem = s.hostMem ∧ t.owners = s.owners ∧ t.locks = s.locks ∧ t.hist = s.hist) ∧
  (∀ s : State, s.r pCLOCKS CLOCKS.STATUS_REF_OK = 1 → s.r pCLOCKS CLOCKS.STATUS_PLL_LOCK = 1 → s.fenced 0 pCLOCKS = false →
    exec .refLoss s = .next ((((((s.w pCLOCKS CLOCKS.STATUS_REF_OK 0).w pCLOCKS CLOCKS.STATUS_PLL_LOCK 0).w pCLOCKS
      CLOCKS.STATUS_RUN 0).w pCLOCKS CLOCKS.STATUS_HOLDOVER 1).w pCLOCKS STATUS_DEGRADED 1).accEventOpen 0 pCLOCKS Ev.REF_LOSS)) ∧
  (∀ s : State, s.r pCLOCKS CLOCKS.STATUS_HOLDOVER = 1 →
    exec .refReturn s = .next ((((s.w pCLOCKS CLOCKS.STATUS_REF_OK 1).w pCLOCKS CLOCKS.STATUS_PLL_LOCK 1).w pCLOCKS
      CLOCKS.STATUS_RUN 1).w pCLOCKS CLOCKS.STATUS_HOLDOVER 0))

/-- A domain's TARGET, the commit of its entry, its rest and its wake (03_clocks_power_startup R66, R69, R70, R71, R72, R74, R437; R439). -/
def Obligations.ADomainEntersRestsAndWakes : Prop :=
  (∀ (s : State) (d : Nat) (v : BitVec 32) (wr : Code), d < 50 → pdPresent s.variant d = true →
    Admits s 0 pPOWER (0x100 + 0x10 * d) 4 wr → v.toNat % 4 ≠ 0 → v.toNat % 4 ≠ 3 → v.toNat / 16 % 4 = 0 →
    s.targetRefused (wr32 0 pPOWER (0x100 + 0x10 * d) v wr) d (v.toNat % 4) = false → s.pdState d = 0 →
    s.r pPOWER (pdFld POWER.PD_STATUS_PLEVEL_NOW d) = 0 → s.r pPOWER POWER.THERM_CRIT = 0 →
    exec (.targetWrite d v wr) s =
      .next (((s.plain (wr32 0 pPOWER (0x100 + 0x10 * d) v wr)).1).w pPOWER (pdFld POWER.PD_STATUS_ENTRY_PENDING d) 1)) ∧
  (∀ (s : State) (d : Nat) (v : BitVec 32) (wr : Code), d < 50 → pdPresent s.variant d = true →
    Admits s 0 pPOWER (0x100 + 0x10 * d) 4 wr → v.toNat % 4 = 0 → v.toNat / 16 % 4 = 0 → s.pdState d = 0 →
    s.r pPOWER (pdFld POWER.PD_STATUS_PLEVEL_NOW d) = 0 → s.r pPOWER POWER.THERM_CRIT = 0 →
    exec (.targetWrite d v wr) s =
      .next (((s.plain (wr32 0 pPOWER (0x100 + 0x10 * d) v wr)).1).w pPOWER (pdFld POWER.PD_STATUS_ENTRY_PENDING d) 0)) ∧
  (∀ (s : State) (d : Nat), d < 46 → s.mainUp = true → s.r pPOWER (pdFld POWER.PD_STATUS_ENTRY_PENDING d) = 1 →
    s.domainQuiet d = true →
    exec (.entryCommit d) s =
      .next (((s.w pPOWER (pdFld POWER.PD_STATUS_ENTRY_PENDING d) 0).w pPOWER (pdFld POWER.PD_STATUS_STATE d) 1).setDom d
        { s.dom d with commitFc := s.fc, toOff := s.r pPOWER (pdFld POWER.PD_CTRL_TARGET d) == 2, latched := false, onReq := false })) ∧
  (∀ s : State, s.mainUp = true → s.r pPOWER (pdFld POWER.PD_STATUS_ENTRY_PENDING 48) = 1 → s.domainQuiet 48 = true →
    ∃ t : State, exec (.entryCommit 48) s = .next t ∧ t.pdState 48 = 1 ∧ t.clocks.tbStopped = true ∧ t.tb = s.tb) ∧
  (∀ (s : State) (d : Nat), d < 50 → s.mainUp = true → s.pdState d = 1 → (s.dom d).toOff = false → (s.dom d).onReq = false →
    (s.dom d).latched = false →
    let u := (s.advanceFc ((s.dom d).commitFc + 1782)).w pPOWER (pdFld POWER.PD_STATUS_STATE d) 2
    u.levelWake d = none → exec (.entryComplete d) s = .next u) ∧
  (∀ (s : State) (d : Nat), d < 50 → s.mainUp = true → s.pdState d = 1 → (s.dom d).toOff = true → (s.dom d).onReq = false →
    (s.dom d).latched = false →
    let u := ((s.advanceFc ((s.dom d).commitFc + 3564)).w pPOWER (pdFld POWER.PD_STATUS_STATE d) 3).loseDomain d
    u.levelWake d = none → exec (.entryComplete d) s = .next u) ∧
  (∀ (s : State) (d : Nat), d < 33 ∨ 42 ≤ d ∧ d < 46 ∨ d = 49 → s.mainUp = true → s.pdState d = 4 → (s.dom d).fromOff = false →
    exec (.wakeComplete d) s =
      .next ((s.advanceFc ((s.dom d).wakeFc + wakeFcs d false)).w pPOWER (pdFld POWER.PD_STATUS_STATE d) 0)) ∧
  (∀ (s : State) (d : Nat), 33 ≤ d → d < 42 → s.mainUp = true → s.pdState d = 4 → (s.dom d).fromOff = false →
    let u := (s.advanceFc ((s.dom d).wakeFc + wakeFcs d false)).w pPOWER (pdFld POWER.PD_STATUS_STATE d) 0
    exec (.wakeComplete d) s =
      .next ((u.w pPOWER (pdFld POWER.PD_STATUS_PLEVEL_NOW d) (u.levelAim d)).w pPOWER (pdFld POWER.PD_STATUS_PLEVEL_BUSY d) 0))

/-- A wake pin, the wake alarm, a performance level and the thermal steps (03_clocks_power_startup R64, R70, R74, R75, R77; 19_package_pins_electrical R501). -/
def Obligations.WakePinsAlarmsAndPerformanceLevelsAct : Prop :=
  (∀ (s : State) (k d : Nat), k < 16 → d < 50 → pdPresent s.variant d = true →
    nfld (s.r pPOWER POWER.WAKE_PIN_CFG) (2 * k) 2 = 0 → nbit (s.r pPOWER POWER.WAKE_PIN_STATE) k = false →
    nbit (s.r pPOWER (pdFld POWER.PD_WAKE_PINS d)) k = true → s.pdState d = 2 →
    (∀ e : Nat, e < 50 → e ≠ d → s.pdState e = 0) → s.r pPOWER (pdFld POWER.PD_WAKE_ALARM d) = 0 →
    s.r pPOWER (pdFld POWER.PD_WAKE_INTC d) = 0 →
    ∃ t : State, exec (.wakePin k true) s = .next t ∧ t.pdState d = 4 ∧ t.r pPOWER (pdFld POWER.PD_STATUS_LAST_WAKE d) = 2 ∧
      nbit (t.r pPOWER POWER.WAKE_PIN_STATE) k = true ∧ (t.dom d).wakeFc = s.fc ∧
      t.mem = s.mem ∧ t.owners = s.owners ∧ t.hist = s.hist) ∧
  (∀ s : State, s.r pPOWER POWER.ALARM_CTRL_EN = 1 → s.r pCLOCKS CLOCKS.STATUS_SLOW_OK = 1 →
    (∀ e : Nat, e < 50 → s.pdState e = 0) →
    exec .alarmMatch s = .next ((s.w pPOWER POWER.ALARM_NOW (s.r pPOWER POWER.ALARM_AT)).w pPOWER POWER.ALARM_CTRL_FIRED 1)) ∧
  (∀ (s : State) (d : Nat) (v : BitVec 32) (wr : Code), 33 ≤ d → d < 42 → pdPresent s.variant d = true →
    Admits s 0 pPOWER (0x100 + 0x10 * d) 4 wr → v.toNat % 4 = 0 → s.pdState d = 0 → s.r pPOWER POWER.THERM_CRIT = 0 →
    v.toNat / 16 % 4 ≠ s.r pPOWER (pdFld POWER.PD_STATUS_PLEVEL_NOW d) →
    exec (.plevelWrite d v wr) s =
      .next ((((s.plain (wr32 0 pPOWER (0x100 + 0x10 * d) v wr)).1).w pPOWER (pdFld POWER.PD_STATUS_ENTRY_PENDING d) 0).w
        pPOWER (pdFld POWER.PD_STATUS_PLEVEL_BUSY d) 1)) ∧
  (∀ (s : State) (d : Nat), d < 50 → s.pdOn d = true → s.r pPOWER (pdFld POWER.PD_STATUS_PLEVEL_BUSY d) = 1 →
    exec (.plevelDone d) s = .next ((s.w pPOWER (pdFld POWER.PD_STATUS_PLEVEL_NOW d)
      (if s.r pPOWER POWER.THERM_CRIT = 1 then 3 else s.r pPOWER (pdFld POWER.PD_CTRL_PLEVEL d))).w
      pPOWER (pdFld POWER.PD_STATUS_PLEVEL_BUSY d) 0)) ∧
  (∀ (s : State) (t : BitVec 12), s.mainUp = true → s.r pPOWER POWER.THERM_HOT = 0 → 420 ≤ signed 12 t.toNat →
    exec (.hot t) s = .next (((s.w pPOWER POWER.THERM_TEMP t.toNat).w pPOWER POWER.THERM_HOT 1).w pPOWER (INT_PEND_BIT 0) 1)) ∧
  (∀ (s : State) (t : BitVec 12), s.mainUp = true → signed 12 t.toNat < 400 →
    exec (.hot t) s = .next ((s.w pPOWER POWER.THERM_TEMP t.toNat).w pPOWER POWER.THERM_HOT 0)) ∧
  (∀ (s : State) (t : BitVec 12), s.mainUp = true → s.r pPOWER POWER.THERM_CRIT = 0 → 480 ≤ signed 12 t.toNat →
    ∃ u : State, exec (.crit t) s = .next u ∧ u.r pPOWER POWER.THERM_CRIT = 1 ∧ u.r pPOWER (INT_PEND_BIT 1) = 1 ∧
      (∀ d : Nat, 33 ≤ d → d < 42 → s.pdOn d = true → u.r pPOWER (pdFld POWER.PD_STATUS_PLEVEL_NOW d) = 3) ∧
      u.mem = s.mem ∧ u.owners = s.owners ∧ u.hist = s.hist) ∧
  (∀ (s : State) (t : BitVec 12), s.mainUp = true → s.r pPOWER POWER.THERM_CRIT = 1 → signed 12 t.toNat < 440 →
    ∃ u : State, exec (.crit t) s = .next u ∧ u.r pPOWER POWER.THERM_CRIT = 0 ∧
      (∀ d : Nat, 33 ≤ d → d < 42 → s.pdOn d = true → u.r pPOWER (pdFld POWER.PD_STATUS_PLEVEL_NOW d) =
        s.r pPOWER (pdFld POWER.PD_CTRL_PLEVEL d)) ∧ u.mem = s.mem ∧ u.owners = s.owners ∧ u.hist = s.hist)

/-- A retrain is requested, forced, caused by drift, started at the bellwether's blank and done after 60 us (03_clocks_power_startup R80, R81, R82). -/
def Obligations.MemoryTrainingRunsAsRequested : Prop :=
  (∀ (s : State) (v : BitVec 32) (wr : Code), Admits s 0 pMEMCTL 0x200 4 wr → v.getLsbD 0 = true → v.getLsbD 1 = false →
    s.r pMEMCTL MEMCTL.TRAIN_STAT_RUNNING = 0 → s.enabledHeads ≠ [] →
    exec (.trainRequest v wr) s = .next (((s.plain (wr32 0 pMEMCTL 0x200 v wr)).1).w pMEMCTL MEMCTL.TRAIN_STAT_PENDING 1)) ∧
  (∀ (s : State) (v : BitVec 32) (wr : Code), Admits s 0 pMEMCTL 0x200 4 wr → v.getLsbD 0 = true → v.getLsbD 1 = false →
    s.r pMEMCTL MEMCTL.TRAIN_STAT_RUNNING = 0 → s.enabledHeads = [] →
    exec (.trainRequest v wr) s = .next ((s.plain (wr32 0 pMEMCTL 0x200 v wr)).1.trainStart false false)) ∧
  (∀ (s : State) (v : BitVec 32) (wr : Code), Admits s 0 pMEMCTL 0x200 4 wr → v.getLsbD 0 = false → v.getLsbD 1 = true →
    s.r pMEMCTL MEMCTL.TRAIN_STAT_RUNNING = 0 →
    exec (.trainForce v wr) s = .next ((s.plain (wr32 0 pMEMCTL 0x200 v wr)).1.trainStart true false)) ∧
  (∀ (s : State) (v : BitVec 32) (wr : Code), Admits s 0 pMEMCTL 0x200 4 wr → s.r pMEMCTL MEMCTL.TRAIN_STAT_RUNNING = 1 →
    exec (.trainRequest v wr) s = .next (s.plain (wr32 0 pMEMCTL 0x200 v wr)).1 ∧
    exec (.trainForce v wr) s = .next (s.plain (wr32 0 pMEMCTL 0x200 v wr)).1) ∧
  (∀ (s : State) (drift : Nat), s.mainUp = true → s.r pMEMCTL MEMCTL.TRAIN_CTRL_DRIFT_LIMIT ≠ 0 →
    s.r pMEMCTL MEMCTL.TRAIN_CTRL_DRIFT_LIMIT < drift → s.r pMEMCTL MEMCTL.TRAIN_STAT_RUNNING = 0 →
    exec (.driftRetrain drift) s = .next (if s.enabledHeads = [] then s.trainStart false false
      else s.w pMEMCTL MEMCTL.TRAIN_STAT_PENDING 1)) ∧
  (∀ s : State, s.mainUp = true → s.r pMEMCTL MEMCTL.TRAIN_STAT_PENDING = 1 → s.r pMEMCTL MEMCTL.TRAIN_STAT_RUNNING = 0 →
    s.bellwether = none → exec .retrainStart s = .next (s.trainStart false false)) ∧
  (∀ (s : State) (b : Nat), s.mainUp = true → s.r pMEMCTL MEMCTL.TRAIN_STAT_PENDING = 1 → s.r pMEMCTL MEMCTL.TRAIN_STAT_RUNNING = 0 →
    s.bellwether = some b → s.r (pgHEAD b) HEAD.BEAM_LINE = (s.mode b).vAct →
    (∀ h ∈ s.enabledHeads, min 3 (s.r (pgHEAD h) HEAD.LOOKAHEAD) ≤ s.lookahead h) →
    exec .retrainStart s = .next (s.trainStart false false)) ∧
  (∀ s : State, s.mainUp = true → s.r pMEMCTL MEMCTL.TRAIN_STAT_RUNNING = 1 →
    let u := s.advanceFc (s.trainFc + 60 * 1782)
    exec .retrainDone s = .next ((u.w pMEMCTL MEMCTL.TRAIN_STAT_RUNNING 0).w pMEMCTL MEMCTL.TRAIN_STAT_TRAIN_COUNT
      ((u.w pMEMCTL MEMCTL.TRAIN_STAT_RUNNING 0).r pMEMCTL MEMCTL.TRAIN_STAT_TRAIN_COUNT + 1))) ∧
  (∀ (s : State) (forced limited : Bool), ∃ t : State, s.trainStart forced limited = t ∧
    t.r pMEMCTL MEMCTL.TRAIN_STAT_RUNNING = 1 ∧ t.r pMEMCTL MEMCTL.TRAIN_STAT_PENDING = 0 ∧
    t.r pMEMCTL MEMCTL.TRAIN_STAT_DEFERRED_FRAMES = 0 ∧ t.r pMEMCTL MEMCTL.TRAIN_STAT_LAST_FORCED = b2n forced ∧
    t.r pMEMCTL MEMCTL.TRAIN_STAT_LAST_LIMITED = b2n limited ∧ t.trainFc = s.fc ∧ t.mem = s.mem ∧ t.hist = s.hist)

/-- Training's end, START, the verdict, the start sequence and the resets (03_clocks_power_startup R44, R60, R83, R84, R85, R89, R90, R91; 19_package_pins_electrical R493, R501). -/
def Obligations.StartUpValidatesAnImageAndResetsForget : Prop :=
  (∀ s : State, s.phase = .training → ∃ t : State, exec .trainingComplete s = .next t ∧ t.devState = stWAIT_IMAGE ∧ t.phase = .up ∧
    t.r pDATAPORTS DATAPORTS.DAT_ADDR = 0xA00000000 ∧ t.r pDATAPORTS DATAPORTS.DAT_CTRL_EN = 1 ∧ t.r pDATAPORTS DATAPORTS.DAT_CTRL_PART = 2 ∧
    (∀ k : Nat, k < 5 → t.partBase k = bootBase s.variant k ∧ t.partBytes k = bootSize s.variant k * GiB) ∧ t.mem = s.mem) ∧
  (∀ (s : State) (wr : Code), Admits s 0 pDEVICE 0x118 4 wr → s.devState = stWAIT_IMAGE ∨ s.devState = stIMAGE_REJECTED →
    exec (.start 0x53545254 wr) s = .next (s.w pDEVICE DEVICE.STATE stVALIDATING)) ∧
  (∀ (s : State) (v : BitVec 32) (wr : Code), Admits s 0 pDEVICE 0x118 4 wr → v ≠ 0x53545254 →
    exec (.start v wr) s = .next (s.accEventOpen 0 pDEVICE Ev.BAD_VALUE)) ∧
  (∀ (s : State) (wr : Code), Admits s 0 pDEVICE 0x118 4 wr → s.devState ≠ stWAIT_IMAGE → s.devState ≠ stIMAGE_REJECTED →
    exec (.start 0x53545254 wr) s = .next (s.accEventOpen 0 pDEVICE Ev.BAD_STATE)) ∧
  (∀ s : State, s.mainUp = true → s.devState = stVALIDATING → s.verdict = none →
    exec .validationDone s = .next (s.w pDEVICE DEVICE.STATE stSTARTING)) ∧
  (∀ (s : State) (code sec detail : Nat), s.mainUp = true → s.devState = stVALIDATING → s.verdict = some (code, sec, detail) →
    ∃ t : State, exec .validationDone s = .next t ∧ t.devState = stIMAGE_REJECTED ∧
      t.r pDEVICE DEVICE.REJECT_REASON_CODE = code % 2 ^ 16 ∧ t.r pDEVICE DEVICE.REJECT_REASON_SECTION = sec % 2 ^ 8 ∧
      t.r pDEVICE DEVICE.REJECT_DETAIL = detail % 2 ^ 32 ∧ t.mem = s.mem ∧ t.owners = s.owners) ∧
  (∀ s : State, s.mainUp = true → s.devState = stSTARTING → ∃ t : State, exec (.starting false) s = .next t ∧ t.devState = stRUNNING ∧
    t.host.memActive = true) ∧
  (∀ (s : State) (n : Nat), s.mainUp = true → ∃ t : State, exec (.warmReset n) s = .next t ∧ t.mem = s.mem ∧ t.hostMem = s.hostMem ∧
    t.owners = [] ∧ t.locks = [] ∧ t.hist = [] ∧ t.pad = [] ∧ t.iram = [] ∧ t.sapRam = [] ∧ t.devState = stBOOT ∧
    t.phase = (if s.straps.getLsbD 1 then .factory else .training) ∧ t.pending = s.pending) ∧
  (∀ s : State, ∃ t : State, exec .powerOnReset s = .next t ∧ t.phase = .held ∧ t.mainUp = false ∧ t.regs = [] ∧ t.owners = [] ∧
    t.locks = [] ∧ t.hist = [] ∧ t.pad = [] ∧ t.iram = [] ∧ t.mem = s.mem ∧ t.hostMem = s.hostMem ∧ t.pending = s.pending) ∧
  (∀ s : State, s.mainUp = true → ∃ t : State, exec .trip s = .next t ∧ t.phase = .tripped ∧ t.mainUp = false ∧ t.regs = [] ∧
    t.owners = [] ∧ t.locks = [] ∧ t.hist = [] ∧ t.mem = s.mem ∧ t.hostMem = s.hostMem ∧ t.pending = s.pending)

/-- Writes of palette, flock and colour-table data, and of the two holds, on an engine's page (04_pastures_tiles_layers R114, R115; 05_flocks_sprites R131, R132, R133; 07_composition_and_sapphire_layer R170; 12_journal_and_mirror_pair R333). -/
def Obligations.PaletteFlockAndTableWritesQueue : Prop :=
  (∀ (s : State) (e : Nat) (v : BitVec 64) (wr : Code), e < 32 → Admits s 0 (pgPE e) 0x110 8 wr →
    let u := Released s 0 (pgPE e) 0x110 wr
    let i := s.r (pgPE e) PE.PAL_ADDR_INDEX
    let t := u.setEng e { s.eng e with palQ := (s.eng e).palQ ++ [(i, v &&& 0xFF3FFFFFFF)] }
    ((s.eng e).palQ.length < 64 → (s.eng e).palWait = [] → exec (.palDataWrite e v wr) s =
      .next ((if s.b (pgPE e) PE.PAL_ADDR_AUTOINC then t.w (pgPE e) PE.PAL_ADDR_INDEX (i + 1) else t).journalWrite
        (wr64 0 (pgPE e) 0x110 v wr) u)) ∧
    (64 ≤ (s.eng e).palQ.length → exec (.palDataWrite e v wr) s =
      .next ((u.setEng e { s.eng e with palWait := (s.eng e).palWait ++ [v] }).journalWrite (wr64 0 (pgPE e) 0x110 v wr) u))) ∧
  (∀ (s : State) (e : Nat) (v : BitVec 32) (wr : Code), e < 32 → Admits s 0 (pgPE e) 0x610 4 wr →
    let i := s.r (pgPE e) PE.FLK_ADDR_WORD
    let q : FlkWrite := { word := i, data := v, mask := BitVec.ofNat 32 (s.r (pgPE e) PE.FLK_MASK), soft := true }
    let t := s.setEng e { s.eng e with flkQ := (s.eng e).flkQ ++ [q] }
    ((s.eng e).flkQ.length < 256 ∨ s.r (pgPE e) PE.FLK_HOLD = 0 ∧ s.r (pgPE e) PE.FLK_CFG_FRAME_SYNC = 0 →
      exec (.flkDataWrite e v wr) s =
        .next ((if s.b (pgPE e) PE.FLK_ADDR_AUTOINC then t.w (pgPE e) PE.FLK_ADDR_WORD (i + 1) else t).journalWrite
          (wr32 0 (pgPE e) 0x610 v wr) s)) ∧
    (256 ≤ (s.eng e).flkQ.length → s.r (pgPE e) PE.FLK_HOLD = 1 ∨ s.r (pgPE e) PE.FLK_CFG_FRAME_SYNC = 1 →
      exec (.flkDataWrite e v wr) s = .next ((((s.w (pgPE e) (STATUS_BIT 9) 1).w (pgPE e) (INT_PEND_BIT 6) 1)).event (pgPE e)
        Ev.FLOCK_FULL (BitVec.ofNat 32 i)))) ∧
  (∀ (s : State) (e : Nat) (v : BitVec 32) (wr : Code), e < 32 → Admits s 0 (pgPE e) 0x804 4 wr →
    let bank := s.r (pgPE e) PE.LUT_ADDR_BANK
    let i := s.r (pgPE e) PE.LUT_ADDR_INDEX
    let t : State := { s with lut := sset (BitVec.ofNat 12 i) s.lut (lutKey e bank (s.r (pgPE e) PE.LUT_ADDR_TABLE) i) (v.setWidth 12) }
    (bank ≠ s.r (pgPE e) PE.COMP_STAT → exec (.lutDataWrite e v wr) s =
      .next ((if s.b (pgPE e) PE.LUT_ADDR_AUTOINC then t.w (pgPE e) PE.LUT_ADDR_INDEX (i + 1) else t).journalWrite
        (wr32 0 (pgPE e) 0x804 v wr) s)) ∧
    (bank = s.r (pgPE e) PE.COMP_STAT → exec (.lutDataWrite e v wr) s = .next (s.accEventOpen 0 (pgPE e) Ev.BAD_STATE))) ∧
  (∀ (s : State) (e : Nat) (v : BitVec 32) (wr : Code), e < 32 → Admits s 0 (pgPE e) 0x104 4 wr →
    exec (.layerHoldWrite e v wr) s =
      .next ((s.plain (wr32 0 (pgPE e) 0x104 v wr)).1.journalWrite (wr32 0 (pgPE e) 0x104 v wr) s)) ∧
  (∀ (s : State) (e : Nat) (v : BitVec 32) (wr : Code), e < 32 → Admits s 0 (pgPE e) 0x604 4 wr →
    exec (.flkHoldWrite e v wr) s =
      .next ((s.plain (wr32 0 (pgPE e) 0x604 v wr)).1.journalWrite (wr32 0 (pgPE e) 0x604 v wr) s)) ∧
  (∀ (s : State) (v : BitVec 64) (wr : Code), Admits s 0 (pgPE 32) 0x110 8 wr →
    exec (.palDataWrite 32 v wr) s = .next ((Released s 0 (pgPE 32) 0x110 wr).accEventOpen 0 (pgPE 32) Ev.BAD_STATE)) ∧
  (∀ (s : State) (v : BitVec 32) (wr : Code), Admits s 0 (pgPE 32) 0x610 4 wr →
    exec (.flkDataWrite 32 v wr) s = .next (s.accEventOpen 0 (pgPE 32) Ev.BAD_STATE)) ∧
  (∀ (s : State) (v : BitVec 32) (wr : Code), Admits s 0 (pgPE 32) 0x804 4 wr →
    exec (.lutDataWrite 32 v wr) s = .next (s.accEventOpen 0 (pgPE 32) Ev.BAD_STATE)) ∧
  (∀ (s : State) (v : BitVec 32) (wr : Code), Admits s 0 (pgPE 32) 0x104 4 wr →
    exec (.layerHoldWrite 32 v wr) s = .next (s.accEventOpen 0 (pgPE 32) Ev.BAD_STATE)) ∧
  (∀ (s : State) (v : BitVec 32) (wr : Code), Admits s 0 (pgPE 32) 0x604 4 wr →
    exec (.flkHoldWrite 32 v wr) s = .next (s.accEventOpen 0 (pgPE 32) Ev.BAD_STATE))

/-- A line start, a wait for the list, the reads of an engine, and a line's completion (04_pastures_tiles_layers R110, R113, R116, R117; 06_line_lists_and_the_beam R141, R155; 08_heads_video_ports_relief R214). -/
def Obligations.AnEngineStartsFetchesAndCompletesALine : Prop :=
  (∀ (s : State) (e h : Nat), UnitUp s 0 (pgPE e) .kPE e → s.headOf e = some h → s.startDue h = true →
    s.llReady h (s.hd h).startNext = true → (s.hd h).startNext < (s.mode h).vTot →
    ∃ t : State, exec (.lineStart e) s = .next t ∧ t.r (pgHEAD h) HEAD.COMPOSE_LINE = (s.hd h).startNext ∧
      (t.hd h).startNext = ((s.hd h).startNext + 1) % (s.mode h).vTot ∧
      ((s.hd h).startNext < (s.mode h).vAct → (t.eng e).composing = some (s.hd h).startNext) ∧
      t.owners = s.owners ∧ t.locks = s.locks ∧ t.mem = s.mem ∧ t.pending = s.pending) ∧
  (∀ (s : State) (e h : Nat), UnitUp s 0 (pgPE e) .kPE e → s.headOf e = some h → s.startDue h = true →
    s.llReady h (s.hd h).startNext = false → (s.hd h).llWaiting = false →
    exec (.lineStart e) s = .next ((s.setHd h { s.hd h with llWaiting := true, llWaits := (s.hd h).llWaits + 1 }).w (pgHEAD h)
      HEAD.STATUS_LL_WAIT 1)) ∧
  (∀ (s : State) (e c : Nat), UnitUp s 0 (pgPE e) .kPE e → (s.eng e).composing = some c →
    let h := s.stateOf e
    (∃ t : State, exec (.lineComplete e) s = .next t ∧ (t.eng e).composing = none ∧ (t.eng e).lines.head?.map (·.line) = some c ∧
      (t.eng e).lines.length ≤ storeLines (s.mode h) ∧ (∀ d : Nat, d ≠ e → t.eng d = s.eng d) ∧ t.owners = s.owners ∧
      t.locks = s.locks ∧ t.mem = s.mem ∧ t.pending = s.pending) ∧
    (s.missing e c = [] → (s.eng e).cost ≤ 4 * (s.mode h).lineCc → ∃ t : State, exec (.lineComplete e) s = .next t ∧
      (t.eng e).lines = (({ line := c, frame := s.composeFrame h c, pix := s.composeLine h (s.eng e) (s.mode h) c } : LineBuf)
        :: (s.eng e).lines).take (storeLines (s.mode h)) ∧ t.regs = s.regs ∧ t.hist = s.hist ∧ t.mem = s.mem) ∧
    (s.missing e c = [] → 4 * (s.mode h).lineCc < (s.eng e).cost →
      ∃ t : State, exec (.lineComplete e) s = .next t ∧ t.r (pgPE e) (STATUS_BIT 6) = 1 ∧ t.r (pgPE e) (INT_PEND_BIT 3) = 1)) ∧
  (∀ (s : State) (e a c : Nat) (k : FetchKind), UnitUp s 0 (pgPE e) .kPE e → s.fenced 0 (pgPE e) = false → (s.eng e).composing = some c →
    s.r pMEMCTL MEMCTL.TRAIN_STAT_RUNNING = 0 →
    ((s.missing e c).find? (fun x => x.kind == k && x.line == a / 64) = none →
      ∀ err : Bool, exec (.pastureFetchDone e k a err) s = .next s) ∧
    ∀ d : Need, (s.missing e c).find? (fun x => x.kind == k && x.line == a / 64) = some d →
    let u := (s.countMiss e d).setEng e { s.eng e with granules := (s.eng e).granules + 1 }
    let v := if (s.eng e).hungry = true then u.w pMEMCTL MEMCTL.HUNGRY (u.r pMEMCTL MEMCTL.HUNGRY + 1) else u
    (s.inPart 1 (d.line * 64) 64 = true →
      exec (.pastureFetchDone e k a false) s = .next (v.setCache e ((s.cache e).enter d)) ∧
      (∃ t : State, exec (.pastureFetchDone e k a true) s = .next t ∧
        (t.eng e).bad = d.line :: (s.eng e).bad ∧ t.r (pgPE e) (STATUS_BIT 4) = 1 ∧ t.r (pgPE e) (INT_PEND_BIT 1) = 1 ∧
        t.cache e = s.cache e ∧ t.mem = s.mem ∧ t.owners = s.owners ∧ t.locks = s.locks)) ∧
    (s.inPart 1 (d.line * 64) 64 = false → ∀ err : Bool, ∃ t : State, exec (.pastureFetchDone e k a err) s = .next t ∧
      t.r (pgPE e) (STATUS_BIT 3) = 1 ∧ t.r (pgPE e) (INT_PEND_BIT 0) = 1 ∧ (t.eng e).granules = (s.eng e).granules ∧
      (t.eng e).bad = d.line :: (s.eng e).bad ∧ t.mem = s.mem ∧ t.owners = s.owners ∧ t.locks = s.locks)) ∧
  (∀ (s : State) (e : Nat) (d : Need),
    (d.kind = .map → s.countMiss e d = s.w (pgPE e) PE.MAP_MISSES (s.r (pgPE e) PE.MAP_MISSES + 1)) ∧
    (d.kind = .bitmap → s.countMiss e d = s) ∧
    (d.kind = .tile → (∀ l ∈ (s.cache e).tiles, l < d.lo ∨ d.hi < l) →
      s.countMiss e d = s.w (pgPE e) PE.TILE_MISSES (s.r (pgPE e) PE.TILE_MISSES + 1)) ∧
    (d.kind = .tile → d.lo ≤ d.hi → d.lo ∈ (s.cache e).tiles → s.countMiss e d = s)) ∧
  (∀ (s : State) (h : Nat), UnitUp s 0 (pgHEAD h) .kHEAD h → s.serves (s.servedBy h) = true → s.enabled (pgHEAD h) = true →
    s.r pMEMCTL MEMCTL.TRAIN_STAT_RUNNING = 0 → (s.hd h).llActive = true → (s.hd h).llEnded = false → s.r (pgHEAD h) HEAD.LL_STAT_STOPPED = 0 → (s.hd h).dark = false →
    (s.hd h).llWaiting = false → (s.hd h).llBuf.length < 64 → s.hungry h = false → s.inPart 1 (s.hd h).llAddr 16 = true →
    (s.hd h).llAddr % 64 = 48 → (llEntryOf (memRead s.mem (s.hd h).llAddr 16) (s.hd h).llRead).op = 0 →
    (llEntryOf (memRead s.mem (s.hd h).llAddr 16) (s.hd h).llRead).line < (s.mode h).vTot → (s.hd h).llRead < 65536 →
    ∃ t : State, exec (.llFetchDone h false) s = .next t ∧
      (t.hd h).llBuf = (s.hd h).llBuf ++ [llEntryOf (memRead s.mem (s.hd h).llAddr 16) (s.hd h).llRead] ∧
      (t.hd h).llRead = (s.hd h).llRead + 1 ∧ (t.hd h).llAddr = ((s.hd h).llAddr + 16) % 2 ^ 64 ∧
      t.regs = s.regs ∧ t.mem = s.mem ∧ t.owners = s.owners ∧ t.locks = s.locks ∧ t.hist = s.hist)

/-- LOOKAHEAD, the scan deadline and dot 0 of a line (06_line_lists_and_the_beam R140, R142, R143, R144; 08_heads_video_ports_relief R196, R209). -/
def Obligations.TheBeamMovesLineByLine : Prop :=
  (∀ (s : State) (h : Nat) (v : BitVec 32) (wr : Code), h < 32 → Admits s 0 (pgHEAD h) 0x218 4 wr →
    (2 ≤ v.toNat % 8 → v.toNat % 8 ≤ 4 → exec (.lookaheadWrite h v wr) s =
      .next ((s.plain (wr32 0 (pgHEAD h) 0x218 v wr)).1.journalWrite (wr32 0 (pgHEAD h) 0x218 v wr) s)) ∧
    (v.toNat % 8 < 2 ∨ 4 < v.toNat % 8 → exec (.lookaheadWrite h v wr) s = .next (s.accEventOpen 0 (pgHEAD h) Ev.BAD_VALUE))) ∧
  (∀ (s : State) (h : Nat), UnitUp s 0 (pgHEAD h) .kHEAD h → s.enabled (pgHEAD h) = true → (s.hd h).begun = true →
    (s.hd h).deadline = false → (s.hd h).dark = false → s.darkCause h = false → s.beam h + 1 < (s.mode h).vAct →
    0 ≤ (s.hd h).corr → (s.hd h).startNext ≠ s.beam h + 1 →
    (∀ pix : List W32, s.storedLine h (s.beam h + 1) = some pix → ∃ t : State, exec (.scanDeadline h) s = .next t ∧
      t.hd h = { s.hd h with deadline := true, nextPix := pix, lastLine := some pix } ∧ t.regs = s.regs ∧ t.mem = s.mem ∧
      t.owners = s.owners ∧ t.locks = s.locks ∧ t.hist = s.hist ∧ t.engines = s.engines) ∧
    (s.storedLine h (s.beam h + 1) = none → ∃ t : State, exec (.scanDeadline h) s = .next t ∧
      (t.hd h).nextPix = (s.hd h).lastLine.getD (List.replicate (s.mode h).hAct 0) ∧ (t.hd h).lastLine = (s.hd h).lastLine ∧
      (t.hd h).lateCount = (s.hd h).lateCount + 1 ∧
      t.r (pgHEAD h) HEAD.LATE_LINES = (s.r (pgHEAD h) HEAD.LATE_LINES + 1) % 2 ^ 32 ∧ t.r (pgHEAD h) HEAD.STATUS_UNDERRUN = 1 ∧
      t.r (pgHEAD h) (INT_PEND_BIT 19) = 1 ∧ t.mem = s.mem ∧ t.owners = s.owners ∧ t.locks = s.locks ∧ t.hist = s.hist)) ∧
  (∀ (s : State) (h : Nat), UnitUp s 0 (pgHEAD h) .kHEAD h → s.enabled (pgHEAD h) = true → (s.hd h).begun = true →
    (s.hd h).deadline = true → s.beam h + 1 < (s.mode h).vTot → 0 ≤ (s.hd h).corr →
    ∃ t : State, exec (.beamLine h) s = .next t ∧ t.r (pgHEAD h) HEAD.BEAM_LINE = s.beam h + 1 ∧
      (t.hd h).dotFc = (s.hd h).dotFc + (s.mode h).lineFc ∧ (t.hd h).frame = (s.hd h).frame ∧ (t.hd h).deadline = false) ∧
  (∀ (s : State) (h : Nat), UnitUp s 0 (pgHEAD h) .kHEAD h → s.enabled (pgHEAD h) = true → (s.hd h).begun = false →
    ∃ t : State, exec (.beamLine h) s = .next t ∧ t.r (pgHEAD h) HEAD.BEAM_LINE = (s.mode h).vTot - 8 ∧
      (t.hd h).begun = true ∧ (t.hd h).dotFc = s.fc) ∧
  (∀ (s : State) (h : Nat), UnitUp s 0 (pgHEAD h) .kHEAD h → s.enabled (pgHEAD h) = false → (s.hd h).stopping = true →
    ∃ t : State, exec (.beamLine h) s = .next t ∧ (t.hd h).idle = true ∧ (t.hd h).stopping = false ∧
      s.fc ≤ t.fc ∧ (s.hd h).dotFc + (s.mode h).lineFc ≤ t.fc ∧ t.mem = s.mem ∧ t.owners = s.owners ∧ t.locks = s.locks)

/-- Sapphire RAM and palette writes reach the bank at rest; FLIP, COPY and LEARN as SAP_CTRL asks (07_composition_and_sapphire_layer R173, R179, R180, R181, R182, R186). -/
def Obligations.SapphireWritesFlipsCopiesAndLearns : Prop :=
  (∀ (s : State) (h : Nat) (v : BitVec 32) (wr : Code), h < 32 → Admits s 1 (pgSAP h) 0x110 4 wr →
    let o := s.r1 (pgSAP h) SAPPHIRE.SAP_ADDR_OFFSET / 4 * 4
    let t := if s.b1 (pgSAP h) SAPPHIRE.SAP_ADDR_AUTOINC
      then s.w1 (pgSAP h) SAPPHIRE.SAP_ADDR_OFFSET ((s.r1 (pgSAP h) SAPPHIRE.SAP_ADDR_OFFSET + 4) % 0x80000) else s
    (0x20000 ≤ o ∨ s.sapBarred (pgSAP h) (o / 0x10000) = false → exec (.sapDataWrite h v wr) s =
      .next { t with sapRam := memWrite s.sapRam (h * 0x80000 + o) (leBytes 4 v.toNat) }) ∧
    (o < 0x20000 → s.sapBarred (pgSAP h) (o / 0x10000) = true → exec (.sapDataWrite h v wr) s =
      .next ((t.w1 (pgSAP h) SAPPHIRE.STATUS_ACTIVE_WRITE 1).accEvent 1 (pgSAP h) Ev.ACTIVE_WRITE (BitVec.ofNat 32 o)))) ∧
  (∀ (s : State) (h bank entry : Nat) (v : BitVec 64) (wr : Code), h < 32 → bank < 2 → entry < 64 →
    Admits s 1 (pgSAP h) (0x400 + 0x200 * bank + 8 * entry) 8 wr →
    let o := 0x400 + 0x200 * bank + 8 * entry
    let u := Released s 1 (pgSAP h) o wr
    (s.sapBarred (pgSAP h) bank = false → exec (.sapPaletteWrite h bank entry v wr) s =
      .next (u.setReg 1 (pgSAP h) o (v &&& 0xFF3FFFFFFF))) ∧
    (s.sapBarred (pgSAP h) bank = true → exec (.sapPaletteWrite h bank entry v wr) s =
      .next ((u.w1 (pgSAP h) SAPPHIRE.STATUS_ACTIVE_WRITE 1).accEvent 1 (pgSAP h) Ev.ACTIVE_WRITE (BitVec.ofNat 32 o)))) ∧
  (∀ (s : State) (h : Nat) (v : BitVec 32) (wr : Code), h < 32 → Admits s 1 (pgSAP h) 0x100 4 wr → v.toNat / 256 % 16 ≠ 0 →
    let old := s.r1 (pgSAP h) SAPPHIRE.SAP_CTRL_LEARN
    let base := fun (learn : Nat) => (s.w1 (pgSAP h) SAPPHIRE.SAP_CTRL (v.toNat &&& 0xF31)).w1 (pgSAP h) SAPPHIRE.SAP_CTRL_LEARN learn
    let free := s.r1 (pgSAP h) SAPPHIRE.SAP_BANK_FLIP_PENDING = 0 ∧ s.r1 (pgSAP h) SAPPHIRE.SAP_BANK_COPYING = 0
    (v.getLsbD 1 = true → v.getLsbD 2 = false → v.getLsbD 3 = false → free → exec (.sapFlip h v wr) s =
      .next (((base old).w1 (pgSAP h) SAPPHIRE.SAP_BANK_FLIP_PENDING 1).setHd h { s.hd h with armed := false })) ∧
    (v.getLsbD 1 = false → v.getLsbD 2 = true → v.getLsbD 3 = false → free → exec (.sapCopy h v wr) s =
      .next (((base old).w1 (pgSAP h) SAPPHIRE.SAP_BANK_COPYING 1).setHd h { s.hd h with copyFc := s.fc })) ∧
    (v.getLsbD 1 = false → v.getLsbD 2 = false → v.getLsbD 3 = true → exec (.sapLearn h v wr) s = .next (base 1)) ∧
    (v.getLsbD 1 = true → v.getLsbD 2 = true ∨ ¬ free → exec (.sapFlip h v wr) s =
      .next (s.accEventOpen 1 (pgSAP h) Ev.BAD_STATE)) ∧
    (v.getLsbD 2 = true → v.getLsbD 1 = true ∨ ¬ free → exec (.sapCopy h v wr) s =
      .next (s.accEventOpen 1 (pgSAP h) Ev.BAD_STATE))) ∧
  (∀ (s : State) (h : Nat) (v : BitVec 32) (wr : Code), h < 32 → Admits s 1 (pgSAP h) 0x100 4 wr → v.toNat / 256 % 16 = 0 →
    exec (.sapLearn h v wr) s = .next (s.accEventOpen 1 (pgSAP h) Ev.BAD_VALUE)) ∧
  (∀ (s : State) (h : Nat), UnitUp s 1 (pgSAP h) .kSAPPHIRE h → s.r1 (pgSAP h) SAPPHIRE.SAP_BANK_COPYING = 1 → Memory.wf s.sapRam = true →
    let a := s.r1 (pgSAP h) SAPPHIRE.SAP_BANK_ACTIVE
    ∃ t : State, exec (.sapCopyDone h) s = .next t ∧ t.r1 (pgSAP h) SAPPHIRE.SAP_BANK_COPYING = 0 ∧
      t.r1 (pgSAP h) SAPPHIRE.SAP_BANK_ACTIVE = a ∧ t.r1 (pgSAP h) (INT_PEND_BIT 4) = 1 ∧
      (∀ x : Nat, x < 0x10000 → memByte t.sapRam (h * 0x80000 + (1 - a) * 0x10000 + x) = memByte s.sapRam (h * 0x80000 + a * 0x10000 + x)) ∧
      (∀ x : Nat, x < h * 0x80000 + (1 - a) * 0x10000 ∨ h * 0x80000 + (1 - a) * 0x10000 + 0x10000 ≤ x →
        memByte t.sapRam x = memByte s.sapRam x) ∧
      (∀ e : Nat, e < 64 → t.spal h (1 - a) e = s.spal h a e ∧ t.spal h a e = s.spal h a e) ∧
      t.mem = s.mem ∧ t.owners = s.owners ∧ t.locks = s.locks)

/-- What a frame's signature check and a finished capture write (07_composition_and_sapphire_layer R183, R184, R185, R191). -/
def Obligations.SignaturesAndCapturesAreReported : Prop :=
  (∀ (s : State) (h : Nat), UnitUp s 1 (pgSAP h) .kSAPPHIRE h → (s.hd h).sigOpen = true → (s.hd h).learning = false →
    let p := pgSAP h
    let sig := ((s.hd h).sigCrc ^^^ 0xFFFFFFFF).toNat
    let ref := (if (s.hd h).sigPhase then (s.hd h).refOn else (s.hd h).refOff).toNat
    let run := min 255 (s.r1 p SAPPHIRE.SIG_RUN + 1)
    ∃ t : State, exec (.signatureCheck h) s = .next t ∧ (t.hd h).sigOpen = false ∧ t.r1 p SAPPHIRE.SIG_LAST = sig ∧
      t.r1 p SAPPHIRE.SIG_INFO_FRAME = (s.hd h).frame.toNat % 2 ^ 16 ∧ t.r1 p SAPPHIRE.SIG_INFO_PHASE = b2n (s.hd h).sigPhase ∧
      t.r1 p SAPPHIRE.SIG_INFO_CHECKED = s.r1 p SAPPHIRE.SAP_CTRL_CHECK ∧
      t.r1 p SAPPHIRE.SIG_INFO_MATCH = (if s.r1 p SAPPHIRE.SAP_CTRL_CHECK = 1 ∧ sig = ref then 1 else 0) ∧
      (s.r1 p SAPPHIRE.SAP_CTRL_CHECK = 0 → t.r1 p SAPPHIRE.SIG_RUN = s.r1 p SAPPHIRE.SIG_RUN ∧
        t.r1 p SAPPHIRE.SIG_FAILS = s.r1 p SAPPHIRE.SIG_FAILS ∧ t.hist = s.hist ∧ t.fenced 0 (pgHEAD h) = s.fenced 0 (pgHEAD h)) ∧
      (s.r1 p SAPPHIRE.SAP_CTRL_CHECK = 1 → sig = ref → t.r1 p SAPPHIRE.SIG_RUN = 0 ∧ t.r1 p (INT_PEND_BIT 1) = 1 ∧
        t.r1 p SAPPHIRE.SIG_FAILS = s.r1 p SAPPHIRE.SIG_FAILS ∧ t.hist = s.hist) ∧
      (s.r1 p SAPPHIRE.SAP_CTRL_CHECK = 1 → sig ≠ ref → t.r1 p SAPPHIRE.SIG_RUN = run ∧
        t.r1 p SAPPHIRE.SIG_FAILS = (s.r1 p SAPPHIRE.SIG_FAILS + 1) % 2 ^ 32 ∧ t.r1 p SAPPHIRE.STATUS_SIG_MISMATCH = 1 ∧
        t.r1 p (INT_PEND_BIT 0) = 1 ∧ t.r1 p (INT_PEND_BIT 1) = 1 ∧
        t.fenced 0 (pgHEAD h) = (s.fenced 0 (pgHEAD h) || decide (s.r1 p SAPPHIRE.SAP_CTRL_LIMIT ≤ run) && s.b1 p SAPPHIRE.SAP_CTRL_ACTION)) ∧
      t.mem = s.mem ∧ t.sapRam = s.sapRam ∧ t.owners = s.owners ∧ t.locks = s.locks) ∧
  (∀ (s : State) (h : Nat) (c : Capture) (l : List Capture), UnitUp s 0 (pgHEAD h) .kHEAD h → (s.hd h).capWait = c :: l →
    ∃ t : State, exec (.wbDone h) s = .next t ∧ t.hd h = { s.hd h with capWait := l } ∧
      t.r (pgHEAD h) HEAD.WB_STAT_LAST = b2n c.buf ∧ t.r (pgHEAD h) HEAD.WB_STAT_BUSY = b2n ((s.hd h).cap.active || !l.isEmpty) ∧
      t.r (pgHEAD h) HEAD.WB_LAST_FRAME = c.frame.toNat ∧
      t.r (pgHEAD h) HEAD.WB_CAPTURES = (s.r (pgHEAD h) HEAD.WB_CAPTURES + 1) % 2 ^ 32 ∧ t.r (pgHEAD h) (INT_PEND_BIT 17) = 1 ∧
      t.mem = s.mem ∧ t.owners = s.owners ∧ t.locks = s.locks ∧ t.hist = s.hist)

/-- A head's enabling and disabling, a sync event and the loss of sync (R196, R198, R205 to R208, R332; that with no head left a scheduled role change is made at once is the model's reading, log entry 49). -/
def Obligations.HeadsSwitchOnAndOffAndFollowSync : Prop :=
  (∀ (s : State) (h : Nat) (v : BitVec 32) (wr : Code), h < 32 → Admits s 0 (pgHEAD h) 0x008 4 wr → v.toNat % 8 = 1 →
    s.r (pgHEAD h) CTRL_ENABLE = 0 → exec (.headEnable h v wr) s = .next ((s.w (pgHEAD h) CTRL_ENABLE 1).headOn h)) ∧
  (∀ (s : State) (h : Nat), h < 32 →
    ∃ t : State, s.headOn h = t ∧ (t.hd h).begun = false ∧ (t.hd h).startNext = (s.mode h).vTot - 7 ∧ (t.hd h).dark = false ∧
      t.r (pgHEAD h) HEAD.BEAM_LINE = s.r (pgHEAD h) HEAD.BEAM_LINE ∧ t.r (pgHEAD h) HEAD.COMPOSE_LINE = s.r (pgHEAD h) HEAD.COMPOSE_LINE ∧
      (t.eng (s.servedBy h)).lines = [] ∧ t.mem = s.mem ∧ t.owners = s.owners ∧ t.locks = s.locks) ∧
  (∀ (s : State) (h : Nat) (v : BitVec 32) (wr : Code), h < 32 → Admits s 0 (pgHEAD h) 0x008 4 wr → v.toNat % 8 = 0 →
    s.r (pgHEAD h) CTRL_ENABLE = 1 →
    exec (.headDisable h v wr) s = .next ((((s.w (pgHEAD h) CTRL_ENABLE 0).headOff h).bltHeadOff h).waitlHeadOff h)) ∧
  (∀ (s : State) (h : Nat), h < 32 → s.bellwether ≠ none → s.enabled (pgHEAD h) = false →
    ∃ t : State, s.headOff h = t ∧ (t.hd h).stopping = (s.hd h).begun ∧ (t.hd h).llActive = false ∧ (t.hd h).llBuf = [] ∧
      (t.hd h).cap.active = false ∧ t.r (pgHEAD h) HEAD.HEAD_STAT_DARK = 0 ∧ (t.eng (s.servedBy h)).composing = none ∧
      t.mem = s.mem ∧ t.owners = s.owners ∧ t.locks = s.locks) ∧
  (∀ (s : State) (h reason : Nat), h < 32 → s.bellwether = none → s.enabled (pgHEAD h) = false → s.authority = false → s.role ≠ 3 →
    s.mirror.scheduled = some (1, reason) →
    ∃ t : State, s.headOff h = t ∧ t.role = 1 ∧ t.mirror.scheduled = none ∧ t.mirror.goal = none ∧ t.mem = s.mem ∧ t.owners = s.owners ∧
      t.locks = s.locks) ∧
  (∀ (s : State) (h : Nat), UnitUp s 0 (pgHEAD h) .kHEAD h → s.enabled (pgHEAD h) = true → (s.hd h).begun = true →
    s.runsFree h = false → s.r (pgHEAD h) HEAD.SYNC_STAT_STATE ≠ 3 → (s.hd h).jumpHeld = false →
    let e := syncError (s.beam h) (s.mode h).vTot (s.hd h).syncOffset
    let run := if e = 0 then (s.hd h).zeroRun + 1 else 0
    ((s.hd h).evtUsed = true → exec (.syncEvent h) s = .next (s.w (pgHEAD h) HEAD.SYNC_COUNT_EXTRA
      (min 65535 (s.r (pgHEAD h) HEAD.SYNC_COUNT_EXTRA + 1)))) ∧
    ((s.hd h).evtUsed = false → ∃ t : State, exec (.syncEvent h) s = .next t ∧
      t.hd h = { s.hd h with evtUsed := true, corr := e, zeroRun := run } ∧
      t.r (pgHEAD h) HEAD.SYNC_STAT_ERROR = unsigned 12 e ∧
      (s.r (pgHEAD h) HEAD.SYNC_STAT_STATE = 1 → 2 ≤ run → t.r (pgHEAD h) HEAD.SYNC_STAT_STATE = 2 ∧ t.r (pgHEAD h) (INT_PEND_BIT 20) = 1) ∧
      (s.r (pgHEAD h) HEAD.SYNC_STAT_STATE ≠ 1 ∨ run < 2 →
        t.r (pgHEAD h) HEAD.SYNC_STAT_STATE = s.r (pgHEAD h) HEAD.SYNC_STAT_STATE) ∧
      t.mem = s.mem ∧ t.owners = s.owners ∧ t.locks = s.locks ∧ t.hist = s.hist)) ∧
  (∀ (s : State) (h : Nat), UnitUp s 0 (pgHEAD h) .kHEAD h → s.enabled (pgHEAD h) = true → s.runsFree h = false →
    s.r (pgHEAD h) HEAD.SYNC_STAT_STATE = 1 ∨ s.r (pgHEAD h) HEAD.SYNC_STAT_STATE = 2 →
    ∃ t : State, exec (.syncLost h) s = .next t ∧ t.r (pgHEAD h) HEAD.SYNC_STAT_STATE = 3 ∧
      t.r (pgHEAD h) HEAD.STATUS_SYNC_LOST = 1 ∧ t.r (pgHEAD h) (INT_PEND_BIT 21) = 1 ∧
      t.r (pgHEAD h) HEAD.SYNC_COUNT_MISSED = min 65535 (s.r (pgHEAD h) HEAD.SYNC_COUNT_MISSED + 1) ∧
      t.mem = s.mem ∧ t.owners = s.owners ∧ t.locks = s.locks)

/-- Link training and its end, hot plug, the loss of a link, AUX transactions (08_heads_video_ports_relief R197, R201, R202, R203, R222). -/
def Obligations.VideoPortsTrainDropAndTalk : Prop :=
  (∀ (s : State) (p : Nat) (wr : Code), p < 8 → Admits s 0 (pgVP p) 0x104 4 wr → s.portActs p = true →
    ∃ t : State, exec (.linkTrain p wr) s = .next t ∧ t.linkState p = 1 ∧ t.r (pgVP p) VP.LINK_STAT_RATE = 0 ∧
      t.r (pgVP p) VP.PAYLOAD_CAP = 0 ∧ t.r (pgVP p) VP.STREAMS_CARRIED = 0 ∧
      t.port p = { s.port p with trainFc := s.fc, cfg := BitVec.ofNat 32 (s.r (pgVP p) VP.LINK_CFG) } ∧
      t.mem = s.mem ∧ t.owners = s.owners ∧ t.locks = s.locks ∧ t.hist = s.hist) ∧
  (∀ (s : State) (p : Nat) (wr : Code), p < 8 → Admits s 0 (pgVP p) 0x104 4 wr →
    (s.linkState p ≠ 0 → exec (.linkDrop p wr) s = .next (s.linkTo p 0 0 0) ∧ (s.linkTo p 0 0 0).linkState p = 0 ∧
      (s.linkTo p 0 0 0).r (pgVP p) VP.STREAMS_CARRIED = 0) ∧
    (s.linkState p = 0 → exec (.linkDrop p wr) s = .next s)) ∧
  (∀ (s : State) (p r : Nat), UnitUp s 0 (pgVP p) .kVP p → s.fenced 0 (pgVP p) = false → s.linkState p = 1 →
    s.fc ≤ (s.port p).trainFc + 500 * msFc → r ≤ nfld (s.port p).cfg.toNat 0 3 → r < 4 → nfld (s.port p).cfg.toNat 4 2 < 3 →
    ∃ t : State, exec (.linkTrainingDone p (some r)) s = .next t ∧ t.linkState p = 2 ∧ t.r (pgVP p) VP.LINK_STAT_RATE = r ∧
      t.r (pgVP p) VP.LINK_STAT_LANES = nfld (s.port p).cfg.toNat 4 2 ∧
      t.r (pgVP p) VP.PAYLOAD_CAP = linkPayload r (nfld (s.port p).cfg.toNat 4 2) ∧ t.r (pgVP p) (INT_PEND_BIT 0) = 1 ∧
      t.mem = s.mem ∧ t.owners = s.owners ∧ t.locks = s.locks) ∧
  (∀ (s : State) (p : Nat) (rate : Option Nat), UnitUp s 0 (pgVP p) .kVP p → s.fenced 0 (pgVP p) = false → s.linkState p = 1 →
    (∀ r : Nat, rate = some r → (s.port p).trainFc + 500 * msFc < s.fc ∨ nfld (s.port p).cfg.toNat 0 3 < r) →
    ∃ t : State, exec (.linkTrainingDone p rate) s = .next t ∧ t.linkState p = 3 ∧ t.r (pgVP p) VP.STATUS_LINK_FAIL = 1 ∧
      t.r (pgVP p) (INT_PEND_BIT 1) = 1 ∧ t.mem = s.mem ∧ t.owners = s.owners ∧ t.locks = s.locks) ∧
  (∀ (s : State) (p : Nat), UnitUp s 0 (pgVP p) .kVP p →
    (s.r (pgVP p) VP.LINK_STAT_HPD = 0 → s.r (pgVP p) VP.LINK_CFG_AUTO = 1 → s.fenced 0 (pgVP p) = false →
      ∃ t : State, exec (.hpdChange p true) s = .next t ∧ t.r (pgVP p) VP.LINK_STAT_HPD = 1 ∧ t.linkState p = 1 ∧
        t.r (pgVP p) (INT_PEND_BIT 2) = 1 ∧ t.mem = s.mem ∧ t.hist = s.hist) ∧
    (s.r (pgVP p) VP.LINK_STAT_HPD = 1 → s.linkState p = 2 →
      ∃ t : State, exec (.hpdChange p false) s = .next t ∧ t.r (pgVP p) VP.LINK_STAT_HPD = 0 ∧ t.linkState p = 0 ∧
        t.r (pgVP p) VP.STATUS_LINK_LOST = 1 ∧ t.r (pgVP p) (INT_PEND_BIT 2) = 1 ∧ t.mem = s.mem) ∧
    exec (.hpdIrq p false) s = .next (s.w (pgVP p) (INT_PEND_BIT 3) 1) ∧
    (s.linkState p = 2 → s.r (pgVP p) VP.LINK_CFG_AUTO = 1 → s.fenced 0 (pgVP p) = false →
      ∃ t : State, exec (.hpdIrq p true) s = .next t ∧ t.r (pgVP p) (INT_PEND_BIT 3) = 1 ∧ t.linkState p = 1 ∧
        t.r (pgVP p) VP.STATUS_LINK_LOST = 1 ∧ t.mem = s.mem)) ∧
  (∀ (s : State) (p : Nat) (v : BitVec 32) (wr : Code), p < 8 → Admits s 0 (pgVP p) 0x120 4 wr →
    (s.r (pgVP p) VP.AUX_STAT_BUSY = 0 → s.portActs p = true → v.getLsbD 31 = true → exec (.auxGo p v wr) s =
      .next ((((s.plain (wr32 0 (pgVP p) 0x120 v wr)).1).setPort p { s.port p with aux := v }).w (pgVP p) VP.AUX_STAT_BUSY 1)) ∧
    (s.r (pgVP p) VP.AUX_STAT_BUSY = 1 → exec (.auxGo p v wr) s = .next (s.accEventOpen 0 (pgVP p) Ev.BAD_STATE))) ∧
  (∀ (s : State) (p result : Nat) (data : List (BitVec 8)), UnitUp s 0 (pgVP p) .kVP p → s.r (pgVP p) VP.AUX_STAT_BUSY = 1 → result < 4 →
    ∃ t : State, exec (.auxDone p result data) s = .next t ∧ t.r (pgVP p) VP.AUX_STAT_BUSY = 0 ∧
      t.r (pgVP p) VP.AUX_STAT_RESULT = result ∧ t.r (pgVP p) (INT_PEND_BIT 4) = 1 ∧
      (result ≠ 0 → t.r (pgVP p) VP.STATUS_AUX_ERROR = 1) ∧
      (result = 0 → (s.port p).aux.getLsbD 0 = false → ∀ (i : Nat) (hi : i < data.length), i ≤ nfld (s.port p).aux.toNat 4 4 →
        t.r (pgVP p) ⟨0x130 + i / 4 * 4, 8 * (i % 4), 8⟩ = (data[i]).toNat) ∧
      t.mem = s.mem ∧ t.owners = s.owners ∧ t.locks = s.locks ∧ t.hist = s.hist)

/-- Self-test requests, a forced test, a test's end, and RESUME of a parked relief engine (08_heads_video_ports_relief R216, R217, R218, R219, R220). -/
def Obligations.SelfTestsAreQueuedForcedAndEnd : Prop :=
  (∀ (s : State) (e : Nat) (wr : Code), e < 32 → Admits s 0 (pgPE e) 0x900 4 wr →
    (s.r (pgPE e) PE.BIST_STAT_QUEUED = 0 → s.r (pgPE e) PE.BIST_STAT_RUNNING = 0 → s.fenced 0 (pgPE e) = false →
      exec (.bistReq e wr) s = .next (({ s.w (pgPE e) PE.BIST_STAT_QUEUED 1 with
        relief := { s.relief with queued := s.relief.queued ++ [e] } } : State).journalWrite (wr32 0 (pgPE e) 0x900 1 wr) s)) ∧
    (s.r (pgPE e) PE.BIST_STAT_QUEUED = 1 ∨ s.r (pgPE e) PE.BIST_STAT_RUNNING = 1 →
      exec (.bistReq e wr) s = .next (s.journalWrite (wr32 0 (pgPE e) 0x900 1 wr) s)) ∧
    (s.servedBy e = e → s.r (pgPE e) PE.BIST_STAT_RUNNING = 0 → s.fenced 0 (pgPE e) = false →
      ∃ t : State, exec (.bistForce e wr) s = .next (t.journalWrite (wr32 0 (pgPE e) 0x900 2 wr) s) ∧
        t.r (pgPE e) PE.BIST_STAT_RUNNING = 1 ∧ t.r (pgPE e) PE.BIST_STAT_QUEUED = 0 ∧ (t.eng e).forced = true ∧
        (t.eng e).composing = none ∧ t.relief.queued = s.relief.queued.filter (fun n => n != e) ∧ t.mem = s.mem ∧ t.hist = s.hist)) ∧
  (∀ (s : State) (e code : Nat), UnitUp s 0 (pgPE e) .kPE e → s.r (pgPE e) PE.BIST_STAT_RUNNING = 1 → code < 256 →
    ∃ t : State, exec (.bistDone e code) s = .next t ∧
      (e < 32 → t.r (pgPE e) PE.BIST_STAT_RUNNING = 0 ∧ t.r (pgPE e) PE.BIST_STAT_RESULT = (if code = 0 then 1 else 2) ∧
        t.r (pgPE e) PE.BIST_STAT_CODE = code ∧ t.r (pgPE e) PE.BIST_FRAME = (s.hd e).frame.toNat % 2 ^ 32) ∧
      (code = 0 → (t.eng e).failedTest = false ∧ t.fenced 0 (pgPE e) = s.fenced 0 (pgPE e)) ∧
      (code ≠ 0 → (t.eng e).failedTest = true ∧ t.fenced 0 (pgPE e) = true) ∧
      t.mem = s.mem ∧ t.owners = s.owners ∧ t.locks = s.locks) ∧
  (∀ (s : State) (v : BitVec 32) (wr : Code), Admits s 0 (pgPE 32) 0x980 4 wr → v.getLsbD 1 = true →
    (s.resumeOk = true → exec (.relResume v wr) s =
      .next ((s.plain (wr32 0 (pgPE 32) 0x980 v wr)).1.relResume.journalWrite (wr32 0 (pgPE 32) 0x980 v wr) s)) ∧
    (s.resumeOk = false → exec (.relResume v wr) s = .next (s.accEventOpen 0 (pgPE 32) Ev.BAD_STATE))) ∧
  (∀ s : State, s.relHead < 32 → ∃ t : State, s.relResume = t ∧ t.relPhase = 3 ∧ t.r (pgPE s.relHead) PE.BIST_STAT_RUNNING = 1 ∧
    t.relief.testFailed = false ∧ t.mem = s.mem ∧ t.owners = s.owners)

/-- MOV, the sums, logic, shifts and rotates, CMP and TST, in every operand form (C of SBC: log entry 43) (13_crook_instruction_set R345, R354, R355, R356, R357, R358; 14_shepherd_pipeline_paddocks R375). -/
def Obligations.AluInstructionsGiveTheirResultsAndFlags : Prop :=
  (∀ (s : State) (c d : Nat) (b : Opnd), Issues s c (opndLen b) (d :: opndRegs b) →
    let x := s.core c
    let a := x.get d
    let v := x.operand b
    let k := b2n x.c
    let n := v.toNat % 32
    let next := (x.pc + opndLen b) % 0x20000
    let ovf := fun (e : Int) => decide (e < -2 ^ 31 ∨ 2 ^ 31 ≤ e)
    (∃ t : State, exec (.mov c d b) s = .next t ∧ Completes s t c 1 { x.put d v with pc := next }) ∧
    (∀ p ∈ ([(Instr.add c d b, a + v, decide (2 ^ 32 ≤ a.toNat + v.toNat), ovf (a.toInt + v.toInt)),
        (Instr.adc c d b, a + v + BitVec.ofNat 32 k, decide (2 ^ 32 ≤ a.toNat + v.toNat + k), ovf (a.toInt + v.toInt + k)),
        (Instr.sub c d b, a - v, decide (v.toNat ≤ a.toNat), ovf (a.toInt - v.toInt)),
        (Instr.sbc c d b, a - v - BitVec.ofNat 32 (1 - k), decide (v.toNat + (1 - k) ≤ a.toNat), ovf (a.toInt - v.toInt - (1 - (k : Int)))),
        (Instr.and c d b, a &&& v, x.c, x.v),
        (Instr.or c d b, a ||| v, x.c, x.v),
        (Instr.xor c d b, a ^^^ v, x.c, x.v),
        (Instr.shl c d b, a <<< n, if n = 0 then x.c else a.getLsbD (32 - n), x.v),
        (Instr.shr c d b, a >>> n, if n = 0 then x.c else a.getLsbD (n - 1), x.v),
        (Instr.sar c d b, a.sshiftRight n, if n = 0 then x.c else a.getLsbD (n - 1), x.v),
        (Instr.rol c d b, a.rotateLeft n, x.c, x.v)] : List (Instr × BitVec 32 × Bool × Bool)),
      ∃ t : State, exec p.1 s = .next t ∧ Completes s t c 1
        { x.put d p.2.1 with pc := next, n := p.2.1.msb, z := p.2.1 == 0, c := p.2.2.1, v := p.2.2.2 }) ∧
    (∃ t : State, exec (.cmp c d b) s = .next t ∧ Completes s t c 1
      { x with pc := next, n := (a - v).msb, z := a == v, c := decide (v.toNat ≤ a.toNat), v := ovf (a.toInt - v.toInt) }) ∧
    (∃ t : State, exec (.tst c d b) s = .next t ∧ Completes s t c 1
      { x with pc := next, n := (a &&& v).msb, z := (a &&& v) == 0 })) ∧
  (∀ (x : Core) (r : Nat) (i : BitVec 8) (w : BitVec 32), x.operand (.reg r) = x.get r ∧ x.operand (.imm8 i) = i.signExtend 32 ∧
    x.operand (.imm32 w) = w ∧ opndLen (.reg r) = 2 ∧ opndLen (.imm8 i) = 3 ∧ opndLen (.imm32 w) = 6) ∧
  (∀ (x : Core) (d : Nat) (w : BitVec 32), (x.put d w).get d = w ∧ (∀ r : Nat, r % 16 ≠ d % 16 → (x.put d w).get r = x.get r) ∧
    { x.put d w with g := x.g } = x) ∧
  (∀ p ∈ ([(0, Instr.mov), (1, Instr.add), (2, Instr.sub), (3, Instr.adc), (4, Instr.sbc), (5, Instr.and), (6, Instr.or), (7, Instr.xor),
      (8, Instr.shl), (9, Instr.shr), (10, Instr.sar), (11, Instr.rol), (12, Instr.cmp), (13, Instr.tst)] :
      List (Nat × (Nat → Nat → Opnd → Instr))),
    ∀ (c d r : Nat) (i : BitVec 8) (w : BitVec 32) (more : List (BitVec 8)), d < 16 → r < 16 →
      crookDecode c (BitVec.ofNat 8 (0x10 + p.1) :: BitVec.ofNat 8 (16 * d + r) :: more) = .op (p.2 c d (.reg r)) 2 ∧
      crookDecode c (BitVec.ofNat 8 (0x20 + p.1) :: BitVec.ofNat 8 (16 * d) :: i :: more) = .op (p.2 c d (.imm8 i)) 3 ∧
      crookDecode c (BitVec.ofNat 8 (0x30 + p.1) :: BitVec.ofNat 8 (16 * d) :: (leBytes 4 w.toNat ++ more)) = .op (p.2 c d (.imm32 w)) 6 ∧
      (0 < r → crookDecode c (BitVec.ofNat 8 (0x20 + p.1) :: BitVec.ofNat 8 (16 * d + r) :: i :: more) = .illegal 3 ∧
        crookDecode c (BitVec.ofNat 8 (0x30 + p.1) :: BitVec.ofNat 8 (16 * d + r) :: (leBytes 4 w.toNat ++ more)) = .illegal 6) ∧
      (∀ q : BitVec 8, q = 0xF0 ∨ q = 0xF1 ∨ q = 0xF2 ∨ q = 0xF3 →
        crookDecode c (q :: BitVec.ofNat 8 (0x10 + p.1) :: BitVec.ofNat 8 (16 * d + r) :: more) = .illegal 3)) ∧
  (∀ (c op : Nat) (more : List (BitVec 8)), 0x0D ≤ op ∧ op ≤ 0x0F ∨ op = 0x2E ∨ op = 0x2F ∨ op = 0x3E ∨ op = 0x3F ∨ op = 0x47 ∨ op = 0x4E ∨
    op = 0x4F ∨ 0x54 ≤ op ∧ op ≤ 0x57 ∨ 0x5B ≤ op ∧ op ≤ 0x5F ∨ 0x65 ≤ op ∧ op ≤ 0x6F ∨ 0x98 ≤ op ∧ op ≤ 0xEF ∨ 0xF4 ≤ op ∧ op ≤ 0xFF →
    crookDecode c (BitVec.ofNat 8 op :: more) = .illegal 1)

/-- NOT, NEG, the products, divisions and remainders, and the bit instructions, with DIV_ZERO (13_crook_instruction_set R357, R358, R364, R365; 14_shepherd_pipeline_paddocks R373). -/
def Obligations.RegisterInstructionsGiveTheirResultsAndFlags : Prop :=
  (∀ (s : State) (c d r : Nat), Issues s c 2 [d, r] →
    let x := s.core c
    let a := x.get d
    let v := x.get r
    let next := (x.pc + 2) % 0x20000
    let bits := ((List.range 32).filter (fun i => v.getLsbD i)).length
    (∀ p ∈ ([(Instr.not c d r, 1, fun y => y = ~~~v), (Instr.mul c d r, 2, fun y => y = a * v),
        (Instr.mulhu c d r, 2, fun y => y.toNat = a.toNat * v.toNat / 2 ^ 32),
        (Instr.mulhs c d r, 2, fun y => y = (a.signExtend 64 * v.signExtend 64).extractLsb' 32 32),
        (Instr.par c d r, 1, fun y => y.toNat = bits % 2),
        (Instr.popc c d r, 1, fun y => y.toNat = bits),
        (Instr.brev c d r, 1, fun y => ∀ i : Nat, i < 32 → y.getLsbD i = v.getLsbD (31 - i)),
        (Instr.brevb c d r, 1, fun y => ∀ i : Nat, i < 32 → y.getLsbD i = v.getLsbD (i / 8 * 8 + (7 - i % 8))),
        (Instr.bswap c d r, 1, fun y => ∀ i : Nat, i < 4 → y.extractLsb' (8 * i) 8 = v.extractLsb' (8 * (3 - i)) 8),
        (Instr.clz c d r, 1, fun y => y.toNat ≤ 32 ∧ (∀ i : Nat, 32 - y.toNat ≤ i → v.getLsbD i = false) ∧
          (y.toNat < 32 → v.getLsbD (31 - y.toNat) = true))] : List (Instr × Nat × (BitVec 32 → Prop))),
      ∃ (t : State) (y : BitVec 32), p.2.2 y ∧ exec p.1 s = .next t ∧ Completes s t c p.2.1
        { x.put d y with pc := next, n := y.msb, z := y == 0 }) ∧
    (∃ t : State, exec (.neg c d r) s = .next t ∧ Completes s t c 1 { x.put d (-v) with
      pc := next
      n := (-v).msb
      z := v == 0
      c := v == 0
      v := v == 0x80000000 }) ∧
    (v ≠ 0 →
      (∃ (t : State) (y : BitVec 32), y.toNat = a.toNat / v.toNat ∧ exec (.divu c d r) s = .next t ∧
        Completes s t c 18 { x.put d y with pc := next, n := y.msb, z := y == 0, v := false }) ∧
      (∃ (t : State) (y : BitVec 32), exec (.divs c d r) s = .next t ∧
        (if a = 0x80000000 ∧ v = 0xFFFFFFFF then y = 0x80000000 else y.toInt = a.toInt.tdiv v.toInt) ∧
        Completes s t c 18 { x.put d y with
          pc := next
          n := y.msb
          z := y == 0
          v := a == 0x80000000 && v == 0xFFFFFFFF }) ∧
      (∃ (t : State) (y : BitVec 32), y.toNat = a.toNat % v.toNat ∧ exec (.remu c d r) s = .next t ∧
        Completes s t c 18 { x.put d y with pc := next, n := y.msb, z := y == 0 }) ∧
      (∃ (t : State) (y : BitVec 32), y.toInt = a.toInt.tmod v.toInt ∧ exec (.rems c d r) s = .next t ∧
        Completes s t c 18 { x.put d y with pc := next, n := y.msb, z := y == 0 })) ∧
    (v = 0 → x.rs.length < 16 →
      ∀ i ∈ [Instr.divu c d r, Instr.divs c d r, Instr.remu c d r, Instr.rems c d r],
        exec i s = .next (Trapped s c 0x0A 0 (BitVec.ofNat 32 x.pc) x.pc)))

/-- Bcc is taken exactly when its condition of the sixteen holds (13_crook_instruction_set R359). -/
def Obligations.BranchConditionsHoldAsTheTableSays : Prop :=
  ∀ (s : State) (c : Nat) (cc : BitVec 4) (rel : Rel),
    let len := match rel with | .r8 _ => 2 | .r32 _ => 5
    let dist : Int := match rel with | .r8 v => v.toInt | .r32 v => v.toInt
    Issues s c len [] →
    let x := s.core c
    let holds := match cc.toNat with
      | 0 => True
      | 1 => x.z = true
      | 2 => x.z = false
      | 3 => x.n ≠ x.v
      | 4 => x.n = x.v
      | 5 => x.c = false
      | 6 => x.c = true
      | 7 => x.z = false ∧ x.n = x.v
      | 8 => x.z = true ∨ x.n ≠ x.v
      | 9 => x.c = true ∧ x.z = false
      | 10 => x.c = false ∨ x.z = true
      | 11 => x.n = true
      | 12 => x.n = false
      | 13 => x.v = true
      | 14 => x.v = false
      | _ => x.k = true
    (holds → ∃ t : State, exec (.bcc c cc rel) s = .next t ∧
      Completes s t c 2 { x with pc := (((x.pc + len : Nat) + dist) % (2 ^ 17 : Int)).toNat }) ∧
    (¬ holds → ∃ t : State, exec (.bcc c cc rel) s = .next t ∧ Completes s t c 1 { x with pc := (x.pc + len) % 2 ^ 17 })

/-- CALL, CALLR, JMPR, RET, RETI, TRAP, ILLEGAL, FETCH_FAULT, interrupt entry and LOCKUP (13_crook_instruction_set R352, R353, R357, R364, R365, R366, R367, R368). -/
def Obligations.CallsReturnsAndEntriesKeepTheReturnStack : Prop :=
  (∀ (s : State) (c : Nat) (rel : BitVec 32) (r : Nat),
    let x := s.core c
    let target := (((x.pc + 5 : Nat) + rel.toInt) % (2 ^ 17 : Int)).toNat
    let free := (16 - x.rs.length) + (x.rsHi.toNat - x.rsp.toNat) / 4
    (Issues s c 5 [] → 3 ≤ free → x.rs.length < 16 → ∃ t : State, exec (.call c rel) s = .next t ∧
      Completes s t c 2 { x with rs := BitVec.ofNat 32 ((x.pc + 5) % 2 ^ 17) :: x.rs, pc := target }) ∧
    (Issues s c 5 [] → 3 ≤ free → x.rs.length = 16 → x.stores.length < 8 → ∃ t : State, exec (.call c rel) s = .next t ∧
      Completes s t c 2 { x with
        rs := BitVec.ofNat 32 ((x.pc + 5) % 2 ^ 17) :: x.rs.dropLast
        rsp := x.rsp + 4
        stores := x.stores ++ [{ target := .pad (c / 8) (x.rsp.toNat % 2 ^ 20), size := 4, data := x.rs.getLastD 0 }]
        pc := target }) ∧
    (Issues s c 5 [] → free < 3 → x.rs.length < 16 → exec (.call c rel) s = .next (Trapped s c 0x07 0 (BitVec.ofNat 32 x.pc) x.pc)) ∧
    (Issues s c 2 [r] → 3 ≤ free → x.rs.length < 16 → ∃ t : State, exec (.callr c r) s = .next t ∧
      Completes s t c 2 { x with rs := BitVec.ofNat 32 ((x.pc + 2) % 2 ^ 17) :: x.rs, pc := (x.get r).toNat % 2 ^ 17 }) ∧
    (Issues s c 2 [r] → free < 3 → x.rs.length < 16 → exec (.callr c r) s = .next (Trapped s c 0x07 0 (BitVec.ofNat 32 x.pc) x.pc)) ∧
    (Issues s c 2 [r] → ∃ t : State, exec (.jmpr c r) s = .next t ∧ Completes s t c 2 { x with pc := (x.get r).toNat % 2 ^ 17 })) ∧
  (∀ (s : State) (c : Nat), Issues s c 1 [] →
    let x := s.core c
    (∀ (e : BitVec 32) (l : List (BitVec 32)), x.rs = e :: l →
      (e.getLsbD 31 = false → ∃ t : State, exec (.ret c) s = .next t ∧ Completes s t c 2 { x with rs := l, pc := e.toNat % 2 ^ 17 }) ∧
      (e.getLsbD 31 = true → ∃ t : State, exec (.reti c) s = .next t ∧ Completes s t c 3 { x with
        rs := l
        pc := e.toNat % 2 ^ 17
        n := e.getLsbD 17
        z := e.getLsbD 18
        c := e.getLsbD 19
        v := e.getLsbD 20
        k := e.getLsbD 21
        rprio := e.toNat / 2 ^ 22 % 8
        ie := e.getLsbD 25 }) ∧
      (x.rs.length < 16 → e.getLsbD 31 = true → exec (.ret c) s = .next (Trapped s c 0x09 0 (BitVec.ofNat 32 x.pc) x.pc)) ∧
      (x.rs.length < 16 → e.getLsbD 31 = false → exec (.reti c) s = .next (Trapped s c 0x09 0 (BitVec.ofNat 32 x.pc) x.pc))) ∧
    (x.rs = [] → x.rsp = x.rsLo → exec (.ret c) s = .next (Trapped s c 0x08 0 (BitVec.ofNat 32 x.pc) x.pc) ∧
      exec (.reti c) s = .next (Trapped s c 0x08 0 (BitVec.ofNat 32 x.pc) x.pc))) ∧
  (∀ (s : State) (c : Nat) (imm : BitVec 8), (s.core c).rs.length < 16 →
    let x := s.core c
    (Issues s c 2 [] → exec (.trap c imm) s = .next (Trapped (s.setCore c { x with cycles := x.cycles + 1 }) c 0x0B imm.toNat (BitVec.ofNat 32 x.pc) (x.pc + 2))) ∧
    (Issues s c 0 [] → exec (.illegal c) s = .next (Trapped s c 0x01 0 (BitVec.ofNat 32 x.pc) x.pc) ∧
      exec (.fetchFault c) s = .next (Trapped s c 0x02 0 (BitVec.ofNat 32 x.pc) x.pc))) ∧
  (∀ (s : State) (c src p : Nat), s.coreUp c = true → s.fenced 0 (pgSC c) = false → (s.core c).running = true →
    (s.core c).lockup = false → (s.core c).irq = some (src, p) →
    let x := s.core c
    (x.rs.length < 16 → exec (.interruptEntry c) s = .next ((s.setCore c { x with
      irq := none
      halted := false
      waiting := none
      rs := x.entryWord x.pc :: x.rs
      ie := false
      rprio := p
      isrc := BitVec.ofNat 32 src
      cycles := x.cycles + BitVec.ofNat 32 (4 + s.refetchCc c (x.ivec.toNat % 2 ^ 17))
      pc := x.ivec.toNat % 2 ^ 17 }).refetch c)) ∧
    (x.rs.length = 16 → x.rsHi.toNat < x.rsp.toNat + 4 → ∃ t : State, exec (.interruptEntry c) s = .next t ∧
      t.core c = { x with lockup := true, running := false, halted := false, waiting := none, irq := none } ∧
      t.r (pgSC c) SC.STATUS_LOCKUP = 1 ∧ t.r (pgSC c) (INT_PEND_BIT 0) = 1 ∧ t.mem = s.mem ∧ t.pad = s.pad ∧
      t.owners = s.owners ∧ t.locks = s.locks ∧ OtherPages s t (pgSC c))) ∧
  (∀ (x : Core) (ret : Nat), x.rprio < 8 → let e := x.entryWord ret
    e.toNat % 2 ^ 17 = ret % 2 ^ 17 ∧ e.getLsbD 17 = x.n ∧ e.getLsbD 18 = x.z ∧ e.getLsbD 19 = x.c ∧ e.getLsbD 20 = x.v ∧
    e.getLsbD 21 = x.k ∧ e.toNat / 2 ^ 22 % 8 = x.rprio ∧ e.getLsbD 25 = x.ie ∧ e.toNat / 2 ^ 26 % 32 = 0 ∧ e.getLsbD 31 = true)

/-- DUP, DROP, SWAP, OVER, PUSH, POP, PUSHI, PUSHM and POPM, a spill, a refill, overflow and underflow (13_crook_instruction_set R351, R357, R358; 14_shepherd_pipeline_paddocks R375, R377). -/
def Obligations.TheDataStackPushesPopsSpillsAndRefills : Prop :=
  (∀ (s : State) (c : Nat), Issues s c 1 [] →
    let x := s.core c
    let next := (x.pc + 1) % 0x20000
    (∀ (a : BitVec 32) (l : List (BitVec 32)), x.ds = a :: l →
      (x.ds.length < 8 → ∃ t : State, exec (.dup c) s = .next t ∧ Completes s t c 1 { x with ds := a :: a :: l, pc := next }) ∧
      (∃ t : State, exec (.drop c) s = .next t ∧ Completes s t c 1 { x with ds := l, pc := next })) ∧
    (∀ (a b : BitVec 32) (l : List (BitVec 32)), x.ds = a :: b :: l →
      (∃ t : State, exec (.swap c) s = .next t ∧ Completes s t c 1 { x with ds := b :: a :: l, pc := next }) ∧
      (x.ds.length < 8 → ∃ t : State, exec (.over c) s = .next t ∧ Completes s t c 1 { x with ds := b :: a :: b :: l, pc := next })) ∧
    (x.ds = [] → x.dsp = x.dsLo → x.rs.length < 16 → ∀ i ∈ [Instr.dup c, Instr.drop c, Instr.swap c, Instr.over c],
      exec i s = .next (Trapped s c 0x06 0 (BitVec.ofNat 32 x.pc) x.pc))) ∧
  (∀ (s : State) (c r : Nat), Issues s c 2 [r] →
    let x := s.core c
    let next := (x.pc + 2) % 0x20000
    (x.ds.length < 8 → ∃ t : State, exec (.push c r) s = .next t ∧ Completes s t c 1 { x with ds := x.get r :: x.ds, pc := next }) ∧
    (x.ds.length = 8 → x.dsp.toNat + 4 ≤ x.dsHi.toNat → x.stores.length < 8 →
      ∃ t : State, exec (.push c r) s = .next t ∧ Completes s t c 1 { x with
        ds := x.get r :: x.ds.dropLast
        dsp := x.dsp + 4
        stores := x.stores ++ [{ target := .pad (c / 8) (x.dsp.toNat % 2 ^ 20), size := 4, data := x.ds.getLastD 0 }]
        pc := next }) ∧
    (x.ds.length = 8 → x.dsHi.toNat < x.dsp.toNat + 4 → x.rs.length < 16 →
      exec (.push c r) s = .next (Trapped s c 0x05 0 (BitVec.ofNat 32 x.pc) x.pc)) ∧
    (∀ (a : BitVec 32) (l : List (BitVec 32)), x.ds = a :: l →
      ∃ t : State, exec (.pop c r) s = .next t ∧ Completes s t c 1 { x.put r a with ds := l, pc := next }) ∧
    (x.ds = [] → x.dsp ≠ x.dsLo → x.stores = [] → x.loads = [] → s.padUp (c / 8) = true →
      let o := (x.dsp - 4).toNat % 2 ^ 20
      o % 4 = 0 → s.padErrAt (c / 8) o = 0 → ∃ t : State, exec (.pop c r) s = .next t ∧
        Completes s t c 1 { x.put r (BitVec.ofNat 32 (leNat (s.padRead (c / 8) o 4))) with dsp := x.dsp - 4, pc := next }) ∧
    (x.ds = [] → x.dsp = x.dsLo → x.rs.length < 16 → exec (.pop c r) s = .next (Trapped s c 0x06 0 (BitVec.ofNat 32 x.pc) x.pc))) ∧
  (∀ (s : State) (c : Nat) (imm : BitVec 32), Issues s c 5 [] → (s.core c).ds.length < 8 →
    ∃ t : State, exec (.pushi c imm) s = .next t ∧
      Completes s t c 1 { s.core c with ds := imm :: (s.core c).ds, pc := ((s.core c).pc + 5) % 0x20000 }) ∧
  (∀ (s : State) (c : Nat) (mask : BitVec 16),
    let x := s.core c
    let regs := (List.range 16).filter (fun i => mask.getLsbD i)
    let next := (x.pc + 3) % 0x20000
    (mask ≠ 0 → Issues s c 3 regs → x.ds.length + regs.length ≤ 8 → ∃ t : State, exec (.pushm c mask) s = .next t ∧
      Completes s t c regs.length { x with ds := (regs.map x.get).reverse ++ x.ds, pc := next }) ∧
    (mask ≠ 0 → Issues s c 3 regs → regs.length ≤ x.ds.length → ∃ (t : State) (y : Core), exec (.popm c mask) s = .next t ∧
      Completes s t c regs.length { x with g := y.g, ds := x.ds.drop regs.length, pc := next } ∧
      ∀ i : Nat, i < 16 → y.get i =
        if mask.getLsbD i then x.ds.getD (regs.filter (fun j => decide (i < j))).length 0 else x.get i) ∧
    (mask = 0 → Issues s c 3 [] → x.rs.length < 16 →
      exec (.pushm c mask) s = .next (Trapped s c 0x01 0 (BitVec.ofNat 32 x.pc) x.pc) ∧
      exec (.popm c mask) s = .next (Trapped s c 0x01 0 (BitVec.ofNat 32 x.pc) x.pc)))

/-- MFS of every special register, ILLEGAL for MFS and MTS where the rule says, and the CRC instructions (13_crook_instruction_set R345, R361, R364, R365; 10_field_ports_check_values R263, R264). -/
def Obligations.SpecialRegistersAndCrcContextsServe : Prop :=
  (∀ (s : State) (c d : Nat) (i : BitVec 8), Issues s c 3 [d] →
    let x := s.core c
    let b := fun (f : Bool) => b2n f
    (∀ p ∈ ([(0x00, BitVec.ofNat 32 (b x.n + 2 * b x.z + 4 * b x.c + 8 * b x.v + 16 * b x.k)),
        (0x01, BitVec.ofNat 32 (b x.ie + 2 * x.rprio)), (0x02, BitVec.ofNat 32 (c + 256 * (c / 8))),
        (0x03, BitVec.ofNat 32 x.ds.length), (0x04, x.dsp), (0x05, x.dsLo), (0x06, x.dsHi), (0x07, BitVec.ofNat 32 x.rs.length),
        (0x08, x.rsp), (0x09, x.rsLo), (0x0A, x.rsHi), (0x0B, x.evec), (0x0C, x.ivec), (0x0D, x.ecause), (0x0E, x.eaddr),
        (0x0F, x.isrc), (0x10, BitVec.ofNat 32 s.tb.toNat), (0x11, BitVec.ofNat 32 (s.tb.toNat / 2 ^ 32)), (0x12, x.cycles),
        (0x13, x.dmw0), (0x14, x.dmw1), (0x20, x.crc0.cfg), (0x21, x.crc1.cfg), (0x22, x.crc2.cfg), (0x23, x.crc3.cfg),
        (0x24, x.crc0.poly), (0x25, x.crc1.poly), (0x26, x.crc2.poly), (0x27, x.crc3.poly), (0x28, x.crc0.init),
        (0x29, x.crc1.init), (0x2A, x.crc2.init), (0x2B, x.crc3.init), (0x2C, x.crc0.state), (0x2D, x.crc1.state),
        (0x2E, x.crc2.state), (0x2F, x.crc3.state)] : List (Nat × BitVec 32)), i.toNat = p.1 →
      ∃ t : State, exec (.mfs c d i) s = .next t ∧ Completes s t c 1 { x.put d p.2 with pc := (x.pc + 3) % 0x20000 }) ∧
    (0x15 ≤ i.toNat ∧ i.toNat < 0x20 ∨ 0x30 ≤ i.toNat → x.rs.length < 16 →
      exec (.mfs c d i) s = .next (Trapped s c 0x01 0 (BitVec.ofNat 32 x.pc) x.pc))) ∧
  (∀ (s : State) (c k r : Nat), Issues s c 2 [r] → k < 4 →
    let x := s.core c
    let v := x.crc k
    let next := (x.pc + 2) % 0x20000
    (∃ t : State, exec (.crcb c k r) s = .next t ∧ Completes s t c 1
      { x.setCrc k { v with state := BitVec.ofNat 32 (v.set.byte v.state.toNat (BitVec.ofNat 8 (x.get r).toNat)) } with pc := next }) ∧
    (let st := ((List.range 4).map (fun i => BitVec.ofNat 8 ((x.get r).toNat / 256 ^ i))).foldl v.set.byte v.state.toNat
      ∃ t : State, exec (.crcw c k r) s = .next t ∧ Completes s t c 2 { x.setCrc k { v with state := BitVec.ofNat 32 st } with pc := next }) ∧
    (∃ (t : State) (y : BitVec 32), exec (.crcf c r k) s = .next t ∧ y = BitVec.ofNat 32 (v.set.final v.state.toNat) ∧
      Completes s t c 1 { x.put r y with pc := next, n := y.msb, z := y == 0 }) ∧
    (∃ t : State, exec (.crci c k) s = .next t ∧ Completes s t c 1 { x.setCrc k { v with state := v.init } with pc := next })) ∧
  (∀ (s : State) (c k r : Nat), Issues s c 2 [r] → 3 < k → (s.core c).rs.length < 16 →
    ∀ i ∈ [Instr.crcb c k r, Instr.crcw c k r, Instr.crcf c r k, Instr.crci c k],
      exec i s = .next (Trapped s c 0x01 0 (BitVec.ofNat 32 (s.core c).pc) (s.core c).pc)) ∧
  (∀ (s : State) (c r : Nat) (i : BitVec 8), Issues s c 3 [r] → (s.core c).rs.length < 16 →
    i.toNat ∈ [0x02, 0x03, 0x07, 0x0D, 0x0E, 0x0F, 0x10, 0x11, 0x12] ∨ 0x15 ≤ i.toNat ∧ i.toNat < 0x20 ∨ 0x30 ≤ i.toNat ∨
      i = 0 ∧ 32 ≤ ((s.core c).get r).toNat ∨ i = 1 ∧ 16 ≤ ((s.core c).get r).toNat →
    exec (.mts c i r) s = .next (Trapped s c 0x01 0 (BitVec.ofNat 32 (s.core c).pc) (s.core c).pc)) ∧
  (∀ (x : Core) (k j : Nat) (v : CrcCtx), k < 4 → j < 4 → (x.setCrc k v).crc j = if j = k then v else x.crc j)

/-- MTS writes its special register for the next instruction, and a lower WIDTH masks the context (13_crook_instruction_set R346). -/
def Obligations.AnMtsTakesEffectForTheNextInstruction : Prop :=
  (∀ (s : State) (c r : Nat) (i : BitVec 8), Issues s c 3 [r] →
    let x := s.core c
    let v := x.get r
    let next := (x.pc + 3) % 0x20000
    (i = 0x00 → v.toNat < 32 → ∃ t : State, exec (.mts c i r) s = .next t ∧ Completes s t c 1 { x with
      n := v.getLsbD 0
      z := v.getLsbD 1
      c := v.getLsbD 2
      v := v.getLsbD 3
      k := v.getLsbD 4
      pc := next }) ∧
    (i = 0x01 → v.toNat < 16 → ∃ t : State, exec (.mts c i r) s = .next t ∧
      Completes s t c 1 { x with ie := v.getLsbD 0, rprio := v.toNat / 2, pc := next }) ∧
    (∀ p ∈ ([(0x04, { x with dsp := v }), (0x05, { x with dsLo := v }), (0x06, { x with dsHi := v }), (0x08, { x with rsp := v }),
        (0x09, { x with rsLo := v }), (0x0A, { x with rsHi := v })] : List (Nat × Core)), i.toNat = p.1 → v.toNat % 4 = 0 →
      ∃ t : State, exec (.mts c i r) s = .next t ∧ Completes s t c 1 { p.2 with pc := next }) ∧
    (∀ p ∈ ([(0x0B, { x with evec := v }, 0x20000), (0x0C, { x with ivec := v }, 0x20000), (0x13, { x with dmw0 := v }, 128),
        (0x14, { x with dmw1 := v }, 128)] : List (Nat × Core × Nat)), i.toNat = p.1 → v.toNat < p.2.2 →
      ∃ t : State, exec (.mts c i r) s = .next t ∧ Completes s t c 1 { p.2.1 with pc := next }) ∧
    (∀ k : Nat, k < 4 →
      let e := x.crc k
      let w := e.cfg.toNat % 128
      (i.toNat = 0x24 + k → v.toNat < 2 ^ w → ∃ t : State, exec (.mts c i r) s = .next t ∧
        Completes s t c 1 { x.setCrc k { e with poly := v } with pc := next }) ∧
      (i.toNat = 0x28 + k → v.toNat < 2 ^ w → ∃ t : State, exec (.mts c i r) s = .next t ∧
        Completes s t c 1 { x.setCrc k { e with init := v } with pc := next }) ∧
      (i.toNat = 0x2C + k → ∃ t : State, exec (.mts c i r) s = .next t ∧
        Completes s t c 1 { x.setCrc k { e with state := v } with pc := next }) ∧
      (i.toNat = 0x20 + k → v.toNat < 0x2000 → v.getLsbD 7 = false → 1 ≤ v.toNat % 128 → v.toNat % 128 ≤ 32 →
        let m := v.toNat % 128
        let cut := fun (y : BitVec 32) => BitVec.ofNat 32 (y.toNat % 2 ^ m)
        (w ≤ m → ∃ t : State, exec (.mts c i r) s = .next t ∧ Completes s t c 1 { x.setCrc k { e with cfg := v } with pc := next }) ∧
        (m < w → ∃ t : State, exec (.mts c i r) s = .next t ∧ Completes s t c 1
          { x.setCrc k { cfg := v, poly := cut e.poly, init := cut e.init, state := cut e.state } with pc := next }))))

/-- LD, ST and STI issue, forward and fault; loads return, stores drain, and paddock words take their accesses (13_crook_instruction_set R347, R349, R350, R355, R360, R364; 14_shepherd_pipeline_paddocks R375, R377, R378, R379, R389, R391). -/
def Obligations.LoadsAndStoresReachTheirTargets : Prop :=
  (∀ (s : State) (c d base : Nat) (disp : Disp) (size : AccSize) (sx ord : Bool), Issues s c (2 + dispLen disp + prefixLen size sx ord) [d, base] →
    sx = false ∨ size ≠ .w →
    let x := s.core c
    let addr := x.get base + (match disp with | .d16 v => v.signExtend 32 | .d32 v => v)
    let tg := s.coreTarget c addr
    let n := accBytes size
    let next := (x.pc + (2 + dispLen disp + prefixLen size sx ord)) % 0x20000
    (addr.toNat % n = 0 → tg ≠ .bad → x.loads.length < 4 → x.stores = [] → ord = false ∨ x.loads = [] →
      ∃ t : State, exec (.ld c d base disp size sx ord) s = .next t ∧ Completes s t c 1
        { x with loads := x.loads ++ [{ d := d, target := tg, size := n, sx := sx, data := none }], pc := next }) ∧
    (∀ (l : List StoreEnt) (o v : Nat), ord = false → addr.toNat % n = 0 → 0x100000 ≤ addr.toNat → addr.toNat < 0x200000 → x.loads.length < 4 →
      x.stores = l ++ [{ target := .pad (c / 8) o, size := 4, data := BitVec.ofNat 32 v }] → o % 4 = 0 →
      o / 4 = (addr.toNat - 0x100000) / 4 → ∃ t : State, exec (.ld c d base disp size sx ord) s = .next t ∧ Completes s t c 1
        { x with
          loads := x.loads ++ [{ d := d, target := tg, size := n, sx := sx, data := some (BitVec.ofNat 32 v >>> (8 * (addr.toNat % 4))) }]
          pc := next }) ∧
    (x.rs.length < 16 → addr.toNat % n = 0 → tg = .bad →
      exec (.ld c d base disp size sx ord) s = .next (Trapped s c 0x03 0 addr x.pc)) ∧
    (x.rs.length < 16 → addr.toNat % n ≠ 0 → tg ≠ .bad →
      exec (.ld c d base disp size sx ord) s = .next (Trapped s c 0x04 0 addr x.pc))) ∧
  (∀ (s : State) (c d base : Nat) (disp : Disp) (ord : Bool), Issues s c (2 + dispLen disp + prefixLen .w true ord) [d, base] →
    (s.core c).rs.length < 16 →
    exec (.ld c d base disp .w true ord) s = .next (Trapped s c 0x01 0 (BitVec.ofNat 32 (s.core c).pc) (s.core c).pc)) ∧
  (∀ (s : State) (c base r : Nat) (disp : Disp) (size : AccSize) (ord : Bool),
    let x := s.core c
    let n := accBytes size
    ord = false ∨ x.stores = [] ∧ x.loads = [] → x.stores.length < 8 →
    (let len := 2 + dispLen disp + prefixLen size false ord
      let addr := x.get base + (match disp with | .d16 v => v.signExtend 32 | .d32 v => v)
      Issues s c len [base, r] → addr.toNat % n = 0 → s.coreTarget c addr ≠ .bad → ∃ t : State, exec (.st c base disp r size ord) s = .next t ∧
        Completes s t c 1 { x with
          stores := x.stores ++ [{ target := s.coreTarget c addr, size := n, data := BitVec.ofNat 32 ((x.get r).toNat % 256 ^ n) }]
          pc := (x.pc + len) % 0x20000 }) ∧
    (∀ dw imm : BitVec 32, let len := 10 + prefixLen size false ord
      Issues s c len [base] → (x.get base + dw).toNat % n = 0 → s.coreTarget c (x.get base + dw) ≠ .bad →
      ∃ t : State, exec (.sti c base dw imm size ord) s = .next t ∧
        Completes s t c 1 { x with
          stores := x.stores ++ [{ target := s.coreTarget c (x.get base + dw), size := n, data := BitVec.ofNat 32 (imm.toNat % 256 ^ n) }]
          pc := (x.pc + len) % 0x20000 })) ∧
  (∀ (s : State) (c base r : Nat) (disp : Disp) (dw imm : BitVec 32) (size : AccSize) (ord : Bool), (s.core c).rs.length < 16 →
    let x := s.core c
    let n := accBytes size
    (Issues s c (2 + dispLen disp + prefixLen size false ord) [base, r] →
      let addr := x.get base + (match disp with | .d16 v => v.signExtend 32 | .d32 v => v)
      (addr.toNat % n = 0 → s.coreTarget c addr = .bad → exec (.st c base disp r size ord) s = .next (Trapped s c 0x03 0 addr x.pc)) ∧
      (addr.toNat % n ≠ 0 → s.coreTarget c addr ≠ .bad → exec (.st c base disp r size ord) s = .next (Trapped s c 0x04 0 addr x.pc))) ∧
    (Issues s c (10 + prefixLen size false ord) [base] →
      let addr := x.get base + dw
      (addr.toNat % n = 0 → s.coreTarget c addr = .bad → exec (.sti c base dw imm size ord) s = .next (Trapped s c 0x03 0 addr x.pc)) ∧
      (addr.toNat % n ≠ 0 → s.coreTarget c addr ≠ .bad → exec (.sti c base dw imm size ord) s = .next (Trapped s c 0x04 0 addr x.pc)))) ∧
  (∀ (s : State) (c : Nat) (a : BitVec 32),
    (a.toNat < 0x20000 → s.coreTarget c a = .iram a.toNat) ∧
    (0x100000 ≤ a.toNat → a.toNat < 0x200000 → s.coreTarget c a = .pad (c / 8) (a.toNat - 0x100000)) ∧
    (0x200000 ≤ a.toNat → a.toNat < 0x300000 → s.coreTarget c a = .padSet (c / 8) (a.toNat - 0x200000)) ∧
    (0x300000 ≤ a.toNat → a.toNat < 0x400000 → s.coreTarget c a = .padClr (c / 8) (a.toNat - 0x300000)) ∧
    (∀ p : Nat, p < 8 → p < s.variant.clusters → 0x1000000 + p * 0x100000 ≤ a.toNat → a.toNat < 0x1100000 + p * 0x100000 →
      s.coreTarget c a = .pad p (a.toNat % 0x100000)) ∧
    (0x10000000 ≤ a.toNat → a.toNat < 0x11000000 → s.coreTarget c a = .page 0 (a.toNat / 0x1000 - 0x10000) (a.toNat % 0x1000)) ∧
    (0x12000000 ≤ a.toNat → a.toNat < 0x12100000 → s.coreTarget c a = .port (a.toNat / 0x10000 - 0x1200) (a.toNat % 0x10000)) ∧
    (0x40000000 ≤ a.toNat → a.toNat < 0x80000000 →
      s.coreTarget c a = .mem ((s.core c).dmw0.toNat % 128 * 2 ^ 30 + (a.toNat - 0x40000000))) ∧
    (0x80000000 ≤ a.toNat → a.toNat < 0xC0000000 →
      s.coreTarget c a = .mem ((s.core c).dmw1.toNat % 128 * 2 ^ 30 + (a.toNat - 0x80000000))) ∧
    (0x20000 ≤ a.toNat ∧ a.toNat < 0x100000 ∨ 0x400000 ≤ a.toNat ∧ a.toNat < 0x1000000 ∨ 0x1800000 ≤ a.toNat ∧ a.toNat < 0x10000000 ∨
      0x11040000 ≤ a.toNat ∧ a.toNat < 0x12000000 ∨ 0x12100000 ≤ a.toNat ∧ a.toNat < 0x40000000 ∨ 0xC0000000 ≤ a.toNat →
      s.coreTarget c a = .bad)) ∧
  (∀ (s : State) (c i : Nat) (l : LoadEnt), (s.core c).loads[i]? = some l →
    (∀ e ∈ (s.core c).loads.take i, e.target.key ≠ l.target.key) →
    let x := s.core c
    let y : Core := { x with loads := x.loads.eraseIdx i }
    (∀ v : BitVec 32, l.data = some v → exec (.loadReturn c i) s = .next (s.setCore c (y.put l.d (extend l.size l.sx v)))) ∧
    (∀ p o : Nat, l.data = none → l.target = .pad p o → s.padUp p = true → s.padErrAt p o = 0 → o % 4 + l.size ≤ 4 →
      exec (.loadReturn c i) s = .next (s.setCore c (y.put l.d (extend l.size l.sx (BitVec.ofNat 32 (leNat (s.padRead p o l.size))))))) ∧
    (∀ o : Nat, l.data = none → l.target = .iram o →
      exec (.loadReturn c i) s = .next (s.setCore c (y.put l.d (extend l.size l.sx (BitVec.ofNat 32 (leNat (s.iramRead (c / 8) o l.size)))))))) ∧
  (∀ v : BitVec 32, extend 1 false v = (v.setWidth 8).setWidth 32 ∧ extend 1 true v = (v.setWidth 8).signExtend 32 ∧
    extend 2 false v = (v.setWidth 16).setWidth 32 ∧ extend 2 true v = (v.setWidth 16).signExtend 32 ∧ extend 4 false v = v) ∧
  (∀ (s : State) (c i : Nat) (e : StoreEnt), (s.core c).stores[i]? = some e →
    (∀ f ∈ (s.core c).stores.take i, f.target.key ≠ e.target.key) → (s.core c).loads = [] →
    let u := s.setCore c { s.core c with stores := (s.core c).stores.eraseIdx i }
    let bs := leBytes e.size e.data.toNat
    (∀ p o : Nat, e.target = .pad p o → s.padUp p = true → exec (.storeDrain c i) s = .next (u.padWrite p o bs)) ∧
    (∀ p o : Nat, e.target = .padSet p o → s.padUp p = true →
      exec (.storeDrain c i) s = .next (u.padWrite p o (List.zipWith (fun w m => w ||| m) (s.padRead p o e.size) bs))) ∧
    (∀ p o : Nat, e.target = .padClr p o → s.padUp p = true →
      exec (.storeDrain c i) s = .next (u.padWrite p o (List.zipWith (fun w m => w &&& ~~~m) (s.padRead p o e.size) bs))) ∧
    (∀ o : Nat, e.target = .iram o → s.domainOn 0 (pgSC c) = true →
      exec (.storeDrain c i) s = .next { u with iram := memWrite s.iram (iramAddr (c / 8) o) bs }) ∧
    (∀ a : Nat, e.target = .mem a → s.canWrite .core a e.size = true → s.host.tracked = [] →
      exec (.storeDrain c i) s = .next { u with mem := memWrite s.mem a bs })) ∧
  (∀ (s : State) (p o a b d : Nat) (v w m k : BitVec 32), s.has 0 (pgPK p) .kPK p = true → s.padUp p = true → o % 4 = 0 → o + 4 ≤ 2 ^ 20 →
    s.padErrAt p o = 0 → a < b → b < d → d < 8 →
    let req := fun (port : Nat) (kind : PadKind) (x : BitVec 32) =>
      ({ port := port, kind := kind, off := o, len := 4, data := (leBytes 4 x.toNat).map some } : PadReq)
    (∃ t : State, exec (.paddockCycle p [req a .write v, req b .write w] []) s = .next t ∧ t.padNat p o 4 = v.toNat ∧
      t.r (pgPK p) PK.COLLISIONS = (s.r (pgPK p) PK.COLLISIONS + 1) % 2 ^ 32 ∧ t.r (pgPK p) PK.STATUS_COLLISION = 1 ∧
      t.r (pgPK p) (INT_PEND_BIT 1) = 1 ∧ (t.core (8 * p + b)).k = true ∧ t.core (8 * p + a) = s.core (8 * p + a) ∧
      (∀ j : Nat, j < 2 ^ 20 → j / 4 ≠ o / 4 → t.padByte p j = s.padByte p j) ∧ t.mem = s.mem ∧ t.iram = s.iram) ∧
    (∃ t : State, exec (.paddockCycle p [req a .write v, req b .set m, req d .clear k] []) s = .next t ∧
      t.padNat p o 4 = ((v ||| m) &&& ~~~k).toNat ∧ t.cores = s.cores ∧
      (∀ j : Nat, j < 2 ^ 20 → j / 4 ≠ o / 4 → t.padByte p j = s.padByte p j) ∧ t.mem = s.mem ∧ t.iram = s.iram) ∧
    (∃ t : State, exec (.paddockCycle p [req a .read 0] []) s = .next t ∧ t.resp = .data (s.padRead p o 4) ∧ t.pad = s.pad ∧
      t.cores = s.cores ∧ t.mem = s.mem))

/-- NOP, EI, DI, FENCE, IFLUSH, HALT, WAITL and its wake, NUDGE and CTRL.ENABLE of a core (13_crook_instruction_set R357, R362, R363, R367, R369; 14_shepherd_pipeline_paddocks R374, R382, R384). -/
def Obligations.CoresWaitResumeAndStop : Prop :=
  (∀ (s : State) (c : Nat), Issues s c 1 [] →
    let x := s.core c
    let u := s.settleCore c
    let next := (x.pc + 1) % 0x20000
    let kept := (s.window c).drop 1
    (∃ t : State, exec (.nop c) s = .next t ∧ Completes s t c 1 { x with pc := next } ∧
      t.window c = kept ++ s.codeAt c (next + kept.length) (16 - kept.length)) ∧
    (∃ t : State, exec (.ei c) s = .next t ∧ Completes s t c 1 { x with ie := true, pc := next }) ∧
    (∃ t : State, exec (.di c) s = .next t ∧ Completes s t c 1 { x with ie := false, pc := next }) ∧
    (∃ t : State, exec (.fence c) s = .next t ∧ Completes u t c 1 { u.core c with pc := next }) ∧
    (∃ t : State, exec (.iflush c) s = .next t ∧ Completes u t c 3 { u.core c with pc := next } ∧
      t.window c = u.codeAt c next 16) ∧
    (∃ t : State, exec (.halt c) s = .next t ∧ Completes u t c 1 { u.core c with pc := next, halted := true }) ∧
    (x.stores = [] → x.loads = [] → u = s)) ∧
  (∀ (s : State) (c d r : Nat), Issues s c 2 [d, r] →
    let x := s.core c
    let h := (x.get d).toNat % 32
    let l0 := (x.get r).toNat % 4096
    let l1 := (x.get r).toNat / 65536 % 4096
    let beam := s.r (pgHEAD h) HEAD.BEAM_LINE
    let inside := if l0 ≤ l1 then l0 ≤ beam ∧ beam ≤ l1 else l0 ≤ beam ∨ beam ≤ l1
    let next := (x.pc + 2) % 0x20000
    let good := s.present 0 (pgHEAD h) = true ∧ s.enabled (pgHEAD h) = true ∧ l0 < (s.mode h).vTot ∧ l1 < (s.mode h).vTot
    (good → inside → ∃ t : State, exec (.waitl c d r) s = .next t ∧ Completes s t c 2 { x with z := true, pc := next }) ∧
    (good → ¬ inside → exec (.waitl c d r) s = .next (s.setCore c { x with waiting := some (h, l0, l1) })) ∧
    (¬ good → ∃ t : State, exec (.waitl c d r) s = .next t ∧ Completes s t c 2 { x with z := false, pc := next })) ∧
  (∀ (s : State) (c h l0 l1 : Nat), c < 64 → (s.core c).waiting = some (h, l0, l1) → (s.core c).irq = none →
    let x := s.core c
    let beam := s.r (pgHEAD h) HEAD.BEAM_LINE
    (l0 ≤ beam → beam ≤ l1 → ∃ t : State, exec (.waitlWake c) s = .next t ∧
      Completes s t c 2 { x with waiting := none, z := true, pc := (x.pc + 2) % 0x20000 }) ∧
    (beam < l0 → l0 ≤ l1 → exec (.waitlWake c) s = .next s)) ∧
  (∀ (s : State) (c : Nat) (v : BitVec 32) (wr : Code), c < 64 →
    (Admits s 0 (pgSC c) 0x118 4 wr → v.getLsbD 0 = true → (s.core c).halted = true →
      exec (.nudge c v wr) s = .next (s.setCore c { s.core c with halted := false })) ∧
    (Admits s 0 (pgSC c) 0x118 4 wr → (s.core c).halted = false → exec (.nudge c v wr) s = .next s) ∧
    (Admits s 0 (pgSC c) 0x008 4 wr → v.toNat % 8 = 0 →
      exec (.coreEnable c v wr) s = .next ((s.w (pgSC c) CTRL_ENABLE 0).setCore c
        { s.core c with running := false, halted := false, waiting := none })) ∧
    (Admits s 0 (pgSC c) 0x008 4 wr → v.toNat % 8 = 1 → s.fenced 0 (pgSC c) = false → (s.core c).running = false →
      (s.core c).lockup = false →
      exec (.coreEnable c v wr) s = .next (((s.w (pgSC c) CTRL_ENABLE 1).setCore c
        { s.core c with running := true, cycles := 0 }).refetch c)))

/-- Submission of lists, RESUME and FLUSH, the watermark and the pause (09_blitter R225, R226, R238, R239, R241). -/
def Obligations.BlitterListsAreSubmittedResumedAndFlushed : Prop :=
  (∀ (s : State) (v : BitVec 64) (wr : Code), Admits s 0 pBLITTER 0x108 8 wr →
    let u := Released s 0 pBLITTER 0x108 wr
    let l : BltList := { addr := v.toNat, pc := v.toNat, wmEn := s.b pBLITTER BLITTER.RACE_WMARK_EN, wmHead := s.r pBLITTER BLITTER.RACE_WMARK_HEAD, wmLine := s.r pBLITTER BLITTER.RACE_WMARK_LINE }
    (v.toNat % 64 = 0 → s.inPart 1 v.toNat 64 = true → s.active pBLITTER = true → s.r pBLITTER BLITTER.STATUS_RACE_HALT = 0 →
      s.blt.race.cur = none → s.blt.race.queue = [] →
      exec (.raceSubmit v wr) s = .next { u with blt := { s.blt with race := { s.blt.race with cur := some l } } }) ∧
    (v.toNat % 64 = 0 → s.inPart 1 v.toNat 64 = true → s.blt.race.queue.length < 16 →
      s.blt.race.cur ≠ none ∨ s.r pBLITTER BLITTER.STATUS_RACE_HALT = 1 →
      exec (.raceSubmit v wr) s = .next { u with blt := { s.blt with race := { s.blt.race with queue := s.blt.race.queue ++ [l] } } }) ∧
    (v.toNat % 64 = 0 → s.inPart 1 v.toNat 64 = true → 16 ≤ s.blt.race.queue.length →
      exec (.raceSubmit v wr) s = .next ((u.w pBLITTER (STATUS_BIT 5) 1).event pBLITTER Ev.QUEUE_FULL 0)) ∧
    (v.toNat % 64 ≠ 0 ∨ s.inPart 1 v.toNat 64 = false →
      exec (.raceSubmit v wr) s = .next (u.accEventOpen 0 pBLITTER Ev.BAD_VALUE))) ∧
  (∀ (s : State) (v : BitVec 64) (wr : Code), Admits s 0 pBLITTER 0x110 8 wr → v.toNat % 64 = 0 → s.inPart 1 v.toNat 64 = true →
    let u := Released s 0 pBLITTER 0x110 wr
    let l : BltList := { addr := v.toNat, pc := v.toNat, wmEn := false, wmHead := s.r pBLITTER BLITTER.RACE_WMARK_HEAD, wmLine := s.r pBLITTER BLITTER.RACE_WMARK_LINE }
    (s.active pBLITTER = true → s.r pBLITTER BLITTER.STATUS_BATCH_HALT = 0 → s.blt.batch.cur = none → s.blt.batch.queue = [] →
      exec (.batchSubmit v wr) s = .next { u with blt := { s.blt with batch := { s.blt.batch with cur := some l } } }) ∧
    (s.blt.batch.queue.length < 16 → s.blt.batch.cur ≠ none ∨ s.r pBLITTER BLITTER.STATUS_BATCH_HALT = 1 →
      exec (.batchSubmit v wr) s = .next { u with blt := { s.blt with batch := { s.blt.batch with queue := s.blt.batch.queue ++ [l] } } }) ∧
    (16 ≤ s.blt.batch.queue.length →
      exec (.batchSubmit v wr) s = .next ((u.w pBLITTER (STATUS_BIT 5) 1).event pBLITTER Ev.QUEUE_FULL 1))) ∧
  (∀ (s : State) (v : BitVec 64) (wr : Code), Admits s 0 pBLITTER 0x110 8 wr → v.toNat % 64 ≠ 0 ∨ s.inPart 1 v.toNat 64 = false →
    exec (.batchSubmit v wr) s = .next ((Released s 0 pBLITTER 0x110 wr).accEventOpen 0 pBLITTER Ev.BAD_VALUE)) ∧
  (∀ (s : State) (wr : Code), Admits s 0 pBLITTER 0x11C 4 wr →
    exec (.raceResume wr) s = .next ((s.w pBLITTER BLITTER.STATUS_RACE_HALT 0).bltStart .race) ∧
    exec (.batchResume wr) s = .next ((s.w pBLITTER BLITTER.STATUS_BATCH_HALT 0).bltStart .batch) ∧
    (s.blt.race.cur = none ∨ (∃ l : BltList, s.blt.race.cur = some l ∧ l.rowAt = 0) →
      exec (.raceFlush wr) s = .next (({ s with blt := { s.blt with race := { s.blt.race with queue := [], cur := none } } } : State).w
        pBLITTER BLITTER.STATUS_RACE_HALT 0)) ∧
    (s.blt.batch.cur = none ∨ (∃ l : BltList, s.blt.batch.cur = some l ∧ l.rowAt = 0) →
      exec (.batchFlush wr) s = .next (({ s with blt := { s.blt with batch := { s.blt.batch with queue := [], cur := none } } } : State).w
        pBLITTER BLITTER.STATUS_BATCH_HALT 0)) ∧
    (∀ l : BltList, s.blt.batch.cur = some l → l.rowAt ≠ 0 →
      exec (.batchFlush wr) s = .next (({ s with blt := { s.blt with batch := { s.blt.batch with queue := [], cur := some { l with stop := true } } } } : State).w
        pBLITTER BLITTER.STATUS_BATCH_HALT 0))) ∧
  (∀ (s : State) (c : BltClass) (l : BltList) (q : List BltList), s.active pBLITTER = true → s.r pBLITTER (clsHalt c) = 0 →
    (s.bltCls c).cur = none → (s.bltCls c).queue = l :: q →
    s.bltStart c = s.setBltCls c { s.bltCls c with queue := q, cur := some l }) ∧
  (∀ (s : State) (l : BltList), s.domainOn 0 pBLITTER = true → s.blt.race.cur = some l → l.begun = true → l.wmEn = true →
    l.late = false → s.present 0 (pgHEAD l.wmHead) = true → s.enabled (pgHEAD l.wmHead) = true → s.beam l.wmHead = l.wmLine →
    l.onLine ≠ some (s.hd l.wmHead).frame →
    ∃ t : State, exec .raceLate s = .next t ∧ t.blt.race.cur = some { l with late := true } ∧ t.r pBLITTER BLITTER.STATUS_RACE_LATE = 1 ∧
      t.r pBLITTER (INT_PEND_BIT 2) = 1 ∧ t.r pBLITTER BLITTER.RACE_LATE_COUNT = (s.r pBLITTER BLITTER.RACE_LATE_COUNT + 1) % 2 ^ 32 ∧
      t.hist = (s.event pBLITTER Ev.RACE_LATE (mkDetail [(l.wmHead, 0), (l.wmLine, 16)])).hist ∧ t.mem = s.mem ∧ t.owners = s.owners ∧ t.locks = s.locks) ∧
  (∀ (s : State) (l : BltList), s.domainOn 0 pBLITTER = true → s.blt.race.cur = some l →
    l.late = true ∨ l.onLine = some (s.hd l.wmHead).frame → exec .raceLate s = .next s) ∧
  (∀ (s : State) (c : BltClass) (f : Nat), s.domainOn 0 pBLITTER = true → (s.bltCls c).pause = some f →
    exec (.paceDeadtimeEnd c) s = .next ((s.advanceFc f).setBltCls c { s.bltCls c with pause := none }))

/-- Each list command, next in its list and without a fault, has its effect and the list moves on (09_blitter R227, R228, R229, R230, R231, R232, R233, R234, R235, R236, R238, R240). -/
def Obligations.BlitterCommandsDoWhatTheirWordsSay : Prop :=
  (∀ (s : State) (c : BltClass) (l : BltList), NextCommand s c l 0 → ∃ t : State, exec (.bltNop c false) s = .next t ∧
    BltGoesOn s t c l (l.pc + 64) ∧ t.mem = s.mem) ∧
  (∀ (s : State) (c : BltClass) (l : BltList) (op : Nat), NextCommand s c l op →
    bltKnown (op % 256) = false ∨ op % 256 = 0 ∧ op ≠ 0 →
    ∃ t : State, exec (.bltNop c false) s = .next t ∧ BltFaulted t c l.pc 1 ∧ t.mem = s.mem) ∧
  (∀ (s : State) (c : BltClass) (l : BltList) (rows : Option Nat), NextCommand s c l 1 →
    let ws := s.bltWords l.pc
    rectFault ws = none → (rectOf ws).w ≠ 0 → (rectOf ws).h ≠ 0 → (∀ j ∈ RowsNow c rows ws 0, s.bltRowDenied (rectOf ws) j = none) →
    ∃ t : State, exec (.bltCopy c .none rows) s = .next t ∧ RectDone s t c l ws rows) ∧
  (∀ (s : State) (c : BltClass) (l : BltList) (rows : Option Nat), NextCommand s c l 2 →
    let ws := s.bltWords l.pc
    rectFault ws = none → (rectOf ws).w ≠ 0 → (rectOf ws).h ≠ 0 → (∀ j ∈ RowsNow c rows ws 0, s.bltRowDenied (rectOf ws) j = none) →
    ∃ t : State, exec (.bltFill c .none rows) s = .next t ∧ RectDone s t c l ws rows) ∧
  (∀ (s : State) (c : BltClass) (l : BltList) (rows : Option Nat), NextCommand s c l 3 →
    let ws := s.bltWords l.pc
    rectFault ws = none → (rectOf ws).w ≠ 0 → (rectOf ws).h ≠ 0 → (∀ j ∈ RowsNow c rows ws 0, s.bltRowDenied (rectOf ws) j = none) →
    ∃ t : State, exec (.bltExpand c .none rows) s = .next t ∧ RectDone s t c l ws rows) ∧
  (∀ (s : State) (c : BltClass) (l : BltList) (rows : Option Nat), NextCommand s c l 4 →
    let ws := s.bltWords l.pc
    rectFault ws = none → (rectOf ws).w ≠ 0 → (rectOf ws).h ≠ 0 → (∀ j ∈ RowsNow c rows ws 0, s.bltRowDenied (rectOf ws) j = none) →
    ∃ t : State, exec (.bltBlend c .none rows) s = .next t ∧ RectDone s t c l ws rows) ∧
  (∀ (s : State) (c : BltClass) (l : BltList) (rows : Option Nat), NextCommand s c l 5 →
    let ws := s.bltWords l.pc
    rectFault ws = none → (rectOf ws).w ≠ 0 → (rectOf ws).h ≠ 0 → (∀ j ∈ RowsNow c rows ws 0, s.bltRowDenied (rectOf ws) j = none) →
    ∃ t : State, exec (.bltConvert c .none rows) s = .next t ∧ RectDone s t c l ws rows) ∧
  (∀ (s : State) (c : BltClass) (l : BltList) (err : BltErr) (rows : Option Nat), NextCommand s c l 1 →
    let ws := s.bltWords l.pc
    (err = .list → ∃ t : State, exec (.bltCopy c err rows) s = .next t ∧ BltFaulted t c l.pc 7 ∧ t.mem = s.mem) ∧
    (err ≠ .list → (rectOf ws).w = 0 ∨ (rectOf ws).h = 0 → rectFault ws = none →
      ∃ t : State, exec (.bltCopy c err rows) s = .next t ∧ BltGoesOn s t c l (l.pc + 64) ∧ t.mem = s.mem) ∧
    (∀ code : Nat, err ≠ .list → rectFault ws = some code →
      ∃ t : State, exec (.bltCopy c err rows) s = .next t ∧ BltFaulted t c l.pc code ∧ t.mem = s.mem)) ∧
  (∀ (s : State) (c : BltClass) (l : BltList) (err : BltErr) (rows : Option Nat), NextCommand s c l 2 →
    let ws := s.bltWords l.pc
    (err = .list → ∃ t : State, exec (.bltFill c err rows) s = .next t ∧ BltFaulted t c l.pc 7 ∧ t.mem = s.mem) ∧
    (err ≠ .list → (rectOf ws).w = 0 ∨ (rectOf ws).h = 0 → rectFault ws = none →
      ∃ t : State, exec (.bltFill c err rows) s = .next t ∧ BltGoesOn s t c l (l.pc + 64) ∧ t.mem = s.mem) ∧
    (∀ code : Nat, err ≠ .list → rectFault ws = some code →
      ∃ t : State, exec (.bltFill c err rows) s = .next t ∧ BltFaulted t c l.pc code ∧ t.mem = s.mem)) ∧
  (∀ (s : State) (c : BltClass) (l : BltList) (err : BltErr) (rows : Option Nat), NextCommand s c l 3 →
    let ws := s.bltWords l.pc
    (err = .list → ∃ t : State, exec (.bltExpand c err rows) s = .next t ∧ BltFaulted t c l.pc 7 ∧ t.mem = s.mem) ∧
    (err ≠ .list → (rectOf ws).w = 0 ∨ (rectOf ws).h = 0 → rectFault ws = none →
      ∃ t : State, exec (.bltExpand c err rows) s = .next t ∧ BltGoesOn s t c l (l.pc + 64) ∧ t.mem = s.mem) ∧
    (∀ code : Nat, err ≠ .list → rectFault ws = some code →
      ∃ t : State, exec (.bltExpand c err rows) s = .next t ∧ BltFaulted t c l.pc code ∧ t.mem = s.mem)) ∧
  (∀ (s : State) (c : BltClass) (l : BltList) (err : BltErr) (rows : Option Nat), NextCommand s c l 4 →
    let ws := s.bltWords l.pc
    (err = .list → ∃ t : State, exec (.bltBlend c err rows) s = .next t ∧ BltFaulted t c l.pc 7 ∧ t.mem = s.mem) ∧
    (err ≠ .list → (rectOf ws).w = 0 ∨ (rectOf ws).h = 0 → rectFault ws = none →
      ∃ t : State, exec (.bltBlend c err rows) s = .next t ∧ BltGoesOn s t c l (l.pc + 64) ∧ t.mem = s.mem) ∧
    (∀ code : Nat, err ≠ .list → rectFault ws = some code →
      ∃ t : State, exec (.bltBlend c err rows) s = .next t ∧ BltFaulted t c l.pc code ∧ t.mem = s.mem)) ∧
  (∀ (s : State) (c : BltClass) (l : BltList) (err : BltErr) (rows : Option Nat), NextCommand s c l 5 →
    let ws := s.bltWords l.pc
    (err = .list → ∃ t : State, exec (.bltConvert c err rows) s = .next t ∧ BltFaulted t c l.pc 7 ∧ t.mem = s.mem) ∧
    (err ≠ .list → (rectOf ws).w = 0 ∨ (rectOf ws).h = 0 → rectFault ws = none →
      ∃ t : State, exec (.bltConvert c err rows) s = .next t ∧ BltGoesOn s t c l (l.pc + 64) ∧ t.mem = s.mem) ∧
    (∀ code : Nat, err ≠ .list → rectFault ws = some code →
      ∃ t : State, exec (.bltConvert c err rows) s = .next t ∧ BltFaulted t c l.pc code ∧ t.mem = s.mem)) ∧
  (∀ (s : State) (l : BltList) (rows : Option Nat), s.active pBLITTER = true → s.r pBLITTER BLITTER.STATUS_BATCH_HALT = 0 →
    s.blt.batch.cur = some l → s.blt.batch.pause = none → l.waiting = false → l.begun = true → l.rowAt ≠ 0 → l.stop = false →
    s.raceRunnable = false → s.b pMEMCTL MEMCTL.TRAIN_STAT_RUNNING = false →
    rectFault l.words = none → (rectOf l.words).w ≠ 0 → (rectOf l.words).h ≠ 0 →
    (∀ j ∈ RowsNow .batch rows l.words l.rowAt, s.bltRowDenied (rectOf l.words) j = none) →
    ∀ p ∈ ([(Instr.bltCopy .batch .none rows, 1), (Instr.bltFill .batch .none rows, 2), (Instr.bltExpand .batch .none rows, 3),
      (Instr.bltBlend .batch .none rows, 4), (Instr.bltConvert .batch .none rows, 5)] : List (Instr × Nat)), l.words.getD 0 0 = p.2 →
    ∃ t : State, exec p.1 s = .next t ∧ RectDone s t .batch l l.words rows) ∧
  (∀ (s : State) (c : BltClass) (l : BltList) (op : Nat) (rows : Option Nat), NextCommand s c l op →
    let ws := s.bltWords l.pc
    let r := rectOf ws
    rectFault ws = none → r.w ≠ 0 → r.h ≠ 0 → rows ≠ some 0 →
    ∀ j k a n : Nat, r.rows.head? = some j →
    ∀ p ∈ ([(fun e => Instr.bltCopy c e rows, 1), (fun e => Instr.bltFill c e rows, 2), (fun e => Instr.bltExpand c e rows, 3),
      (fun e => Instr.bltBlend c e rows, 4), (fun e => Instr.bltConvert c e rows, 5)] : List ((BltErr → Instr) × Nat)), p.2 = op →
    (s.bltRowDenied r j = some (k, a) →
      ∃ t : State, exec (p.1 .none) s = .next t ∧ BltFaulted t c l.pc 6 ∧ t.mem = (s.bltRowPart r j k).mem) ∧
    (op ≠ 2 → s.bltRowDenied r j = none → n < r.units →
      ∃ t : State, exec (p.1 (.data n)) s = .next t ∧ BltFaulted t c l.pc 7 ∧ t.mem = (s.bltRowPart r j n).mem)) ∧
  (∀ (s : State) (c : BltClass) (l : BltList), NextCommand s c l 7 →
    let a := (s.bltWords l.pc).getD 2 0 + (s.bltWords l.pc).getD 3 0 * 2 ^ 32
    a % 64 = 0 → (∀ k : Nat, k < 32 → s.canRead .blitter (a + 64 * k) 64 = true) →
    ∃ t : State, exec (.bltPalette c .none) s = .next t ∧
      (∀ i : Nat, i < 256 → t.bltPalette i = BitVec.ofNat 64 (leNat (memRead s.mem (a + 8 * i) 8))) ∧
      BltGoesOn s t c l (l.pc + 64) ∧ t.mem = s.mem) ∧
  (∀ (s : State) (c : BltClass) (l : BltList) (err : BltErr), NextCommand s c l 7 →
    let a := (s.bltWords l.pc).getD 2 0 + (s.bltWords l.pc).getD 3 0 * 2 ^ 32
    err = .list ∨ err ≠ .none ∧ a % 64 = 0 ∧ (∀ k : Nat, k < 32 → s.canRead .blitter (a + 64 * k) 64 = true) →
    ∃ t : State, exec (.bltPalette c err) s = .next t ∧ BltFaulted t c l.pc 7 ∧ t.blt.pal = s.blt.pal ∧ t.mem = s.mem) ∧
  (∀ (s : State) (c : BltClass) (l : BltList), NextCommand s c l 6 →
    let q := waitOf (s.bltWords l.pc)
    s.present 0 (pgHEAD q.1) = true → s.enabled (pgHEAD q.1) = true → q.2.1 < (s.mode q.1).vTot → q.2.2 < (s.mode q.1).vTot →
    ∃ t : State, exec (.bltWaitline c false) s = .next t ∧ t.mem = s.mem ∧
      (inWindow q.2.1 q.2.2 (s.beam q.1) = true → BltGoesOn s t c l (l.pc + 64)) ∧
      (inWindow q.2.1 q.2.2 (s.beam q.1) = false →
        (t.bltCls c).cur = some { s.bltBegin l with waiting := true, words := s.bltWords l.pc } ∧ BltKeeps s t c)) ∧
  (∀ (s : State) (c : BltClass) (l : BltList), NextCommand s c l 6 →
    let q := waitOf (s.bltWords l.pc)
    s.present 0 (pgHEAD q.1) = false ∨ s.enabled (pgHEAD q.1) = false ∨ (s.mode q.1).vTot ≤ q.2.1 ∨ (s.mode q.1).vTot ≤ q.2.2 →
    ∃ t : State, exec (.bltWaitline c false) s = .next t ∧ BltFaulted t c l.pc 8 ∧ t.mem = s.mem) ∧
  (∀ (s : State) (c : BltClass) (l : BltList), s.active pBLITTER = true → (s.bltCls c).cur = some l → l.waiting = true → l.stop = false →
    inWindow (waitOf l.words).2.1 (waitOf l.words).2.2 (s.beam (waitOf l.words).1) = true →
    exec (.bltWaitlineDone c) s = .next (s.setBltCls c { s.bltCls c with cur := some { l with pc := l.pc + 64, waiting := false, words := [], rowAt := 0 } })) ∧
  (∀ (s : State) (c : BltClass) (l : BltList), NextCommand s c l 8 → ∃ t : State, exec (.bltSignal c false) s = .next t ∧
    t.r pBLITTER BLITTER.SIG_TAG = (s.bltWords l.pc).getD 1 0 % 2 ^ 32 ∧ t.r pBLITTER (INT_PEND_BIT 4) = 1 ∧
    (t.bltCls c).cur = some { s.bltBegin l with pc := l.pc + 64, waiting := false, words := [], rowAt := 0 } ∧ t.mem = s.mem ∧
    t.owners = s.owners ∧ t.locks = s.locks ∧ (Unpaced s c → t.hist = s.hist)) ∧
  (∀ (s : State) (c : BltClass) (l : BltList), NextCommand s c l 0x0E →
    let a := (s.bltWords l.pc).getD 2 0 + (s.bltWords l.pc).getD 3 0 * 2 ^ 32
    (a % 64 = 0 → s.inPart 1 a 64 = true → ∃ t : State, exec (.bltLink c false) s = .next t ∧ BltGoesOn s t c l a ∧ t.mem = s.mem) ∧
    (a % 64 ≠ 0 ∨ s.inPart 1 a 64 = false →
      ∃ t : State, exec (.bltLink c false) s = .next t ∧ BltFaulted t c l.pc 9 ∧ t.mem = s.mem)) ∧
  (∀ (s : State) (l : BltList), NextCommand s .race l 0x0F → s.blt.race.queue = [] → ∃ t : State, exec (.bltEnd .race false) s = .next t ∧
    t.blt.race.cur = none ∧ t.r pBLITTER BLITTER.RACE_LAST = l.addr % 2 ^ 64 ∧
    t.r pBLITTER BLITTER.LISTS_DONE_RACE = (s.r pBLITTER BLITTER.LISTS_DONE_RACE + 1) % 2 ^ 16 ∧
    t.r pBLITTER BLITTER.RACE_STAT = b2n (l.wmEn && !l.late) ∧ t.r pBLITTER (INT_PEND_BIT 0) = 1 ∧ t.mem = s.mem ∧
    (Unpaced s .race → t.hist = s.hist)) ∧
  (∀ (s : State) (l m : BltList) (q : List BltList), NextCommand s .batch l 0x0F → s.blt.batch.queue = m :: q →
    ∃ t : State, exec (.bltEnd .batch false) s = .next t ∧ t.blt.batch.cur = some m ∧ t.blt.batch.queue = q ∧
    t.r pBLITTER BLITTER.BATCH_LAST = l.addr % 2 ^ 64 ∧ t.r pBLITTER (INT_PEND_BIT 1) = 1 ∧ t.mem = s.mem ∧
    (Unpaced s .batch → t.hist = s.hist)) ∧
  (∀ (s : State) (c : BltClass) (l : BltList), NextCommand s c l 0 →
    ∃ t : State, exec (.bltNop c true) s = .next t ∧ BltFaulted t c l.pc 7 ∧ t.mem = s.mem) ∧
  (∀ (s : State) (c : BltClass) (l : BltList), NextCommand s c l 6 →
    ∃ t : State, exec (.bltWaitline c true) s = .next t ∧ BltFaulted t c l.pc 7 ∧ t.mem = s.mem) ∧
  (∀ (s : State) (c : BltClass) (l : BltList), NextCommand s c l 8 →
    ∃ t : State, exec (.bltSignal c true) s = .next t ∧ BltFaulted t c l.pc 7 ∧ t.mem = s.mem) ∧
  (∀ (s : State) (c : BltClass) (l : BltList), NextCommand s c l 0x0E →
    ∃ t : State, exec (.bltLink c true) s = .next t ∧ BltFaulted t c l.pc 7 ∧ t.mem = s.mem) ∧
  (∀ (s : State) (c : BltClass) (l : BltList), NextCommand s c l 0x0F →
    ∃ t : State, exec (.bltEnd c true) s = .next t ∧ BltFaulted t c l.pc 7 ∧ t.mem = s.mem)

/-- Enabling a field port, characters and their errors, what ends a frame, and how a frame is counted (10_field_ports_check_values R246, R247, R250, R251, R253, R254, R257, R259, R261, R272). -/
def Obligations.FieldPortsReceiveAndDeliver : Prop :=
  (∀ (s : State) (n : Nat) (v : BitVec 32) (wr : Code), n < 16 → Admits s 0 (pgFP n) 0x008 4 wr → v.toNat % 8 = 1 →
    s.r (pgFP n) CTRL_ENABLE = 0 →
    (s.fpEnableOk n = true → ∃ t : State, exec (.fpEnable n v wr) s = .next t ∧ t.r (pgFP n) CTRL_ENABLE = 1 ∧
      t.r (pgFP n) FP.RX_HEAD = 0 ∧ t.r (pgFP n) FP.RX_TAIL = 0 ∧ t.r (pgFP n) FP.TX_HEAD = 0 ∧ t.r (pgFP n) FP.TX_TAIL = 0 ∧
      OtherPages s t (pgFP n) ∧ t.mem = s.mem ∧ t.owners = s.owners ∧ t.locks = s.locks ∧ t.hist = s.hist) ∧
    (s.fpEnableOk n = false → exec (.fpEnable n v wr) s = .next (s.accEventOpen 0 (pgFP n) Ev.BAD_VALUE))) ∧
  (∀ (s : State) (n : Nat) (v : BitVec 32) (wr : Code), n < 16 → Admits s 0 (pgFP n) 0x008 4 wr → v.toNat % 8 = 0 →
    s.r (pgFP n) CTRL_ENABLE = 1 → (s.fp n).txTxn = none → (s.fp n).dispQ = [] →
    ∃ t : State, exec (.fpDisable n v wr) s = .next t ∧ t.r (pgFP n) CTRL_ENABLE = 0 ∧ t.r (pgFP n) FP.STATUS_PTT = 0 ∧
      t.r (pgFP n) FP.STATUS_TX_ACTIVE = 0 ∧ t.r (pgFP n) FP.STATUS_RX_ACTIVE = 0 ∧ (t.fp n).phase = .idle ∧ (t.fp n).rx = [] ∧
      t.r (pgFP n) FP.TX_TAIL = s.r (pgFP n) FP.TX_TAIL ∧ t.mem = s.mem ∧ t.owners = s.owners ∧ t.locks = s.locks ∧ t.hist = s.hist) ∧
  (∀ (s : State) (n idle : Nat) (b : BitVec 8) (framing parity : Bool), UnitUp s 0 (pgFP n) .kFP n → s.rxOpen n = true →
    s.r (pgFP n) FP.ASSIST_CV_EN = 0 →
    ((s.fp n).phase = .quiet → s.r (pgFP n) FP.LINE_CFG_DUPLEX = 0 ∨ s.r (pgFP n) FP.LINE_CFG_LBT = 1) →
    (s.r (pgFP n) FP.LINE_CFG_MODE = 0 → s.r (pgFP n) FP.ASSIST_KIND = 0 → (s.fp n).needIdle = false →
      ∃ t : State, exec (.rxCharacter n (.char b framing parity) idle) s = .next t ∧ (t.fp n).rx = (s.fp n).rx ++ [b] ∧
        (t.fp n).inFrame = true ∧ (t.fp n).rxE = (s.fp n).rxE ++ [{ framing := framing, parity := parity }] ∧
        t.r (pgFP n) FP.STATUS_RX_ACTIVE = 1 ∧ t.mem = s.mem ∧ t.owners = s.owners ∧ t.locks = s.locks ∧ t.hist = s.hist) ∧
    (s.r (pgFP n) FP.LINE_CFG_MODE ≠ 0 → s.r (pgFP n) FP.ASSIST_KIND = 4 → (s.fp n).opened = true →
      ∃ t : State, exec (.rxCharacter n (.byte b) idle) s = .next t ∧ (t.fp n).rx = (s.fp n).rx ++ [b] ∧
        (t.fp n).inFrame = true ∧ t.r (pgFP n) FP.STATUS_RX_ACTIVE = 1 ∧ t.mem = s.mem ∧ t.hist = s.hist) ∧
    (s.r (pgFP n) FP.LINE_CFG_MODE ≠ 0 → (s.fp n).opened = false →
      exec (.rxCharacter n (.flag 0) idle) s = .next (s.setFp n { s.fp n with opened := true, flagT := s.stamp }) ∧
      exec (.rxCharacter n (.byte b) idle) s = .next s)) ∧
  (∀ (s : State) (n : Nat), UnitUp s 0 (pgFP n) .kFP n → s.rxOpen n = true → (s.fp n).inFrame = true →
    (s.r (pgFP n) FP.LINE_CFG_MODE = 0 → exec (.rxBreak n) s = .next ((s.setFp n { s.fp n with brk := true }).rxFinish n)) ∧
    (s.r (pgFP n) FP.ASSIST_KIND = 0 → exec (.rxGapTimeout n) s = .next (s.rxFinish n)) ∧
    (s.r (pgFP n) FP.ASSIST_KIND = 2 → exec (.t35Silence n) s = .next (s.rxFinish n)) ∧
    (s.r (pgFP n) FP.LINE_CFG_MODE ≠ 0 → let u := (s.setFp n { s.fp n with aborted := true }).rxFinish n
      exec (.hdlcAbort n) s = .next (u.setFp n { u.fp n with opened := false }))) ∧
  (∀ (s : State) (n : Nat) (level : Bool), UnitUp s 0 (pgFP n) .kFP n → s.active (pgFP n) = true →
    s.r (pgFP n) FP.STATUS_CD = b2n (!level) → (level = true → s.cdPin n = true) →
    let u := (s.w (pgFP n) FP.STATUS_CD (b2n level)).w (pgFP n) (INT_PEND_BIT 4) 1
    (s.r (pgFP n) FP.LINE_CFG_CD_GATE = 0 ∨ level = true ∨ (s.fp n).inFrame = false → exec (.cdChange n level) s = .next u) ∧
    (s.r (pgFP n) FP.LINE_CFG_CD_GATE = 1 → level = false → (s.fp n).inFrame = true →
      exec (.cdChange n level) s = .next ((u.setFp n { s.fp n with format := true }).rxFinish n))) ∧
  (∀ (s : State) (n : Nat), UnitUp s 0 (pgFP n) .kFP n → s.cdPin n = false → s.r (pgFP n) FP.STATUS_CD = 0 →
    exec (.cdChange n true) s = .next s) ∧
  (∀ (s : State) (n : Nat), n < 16 → s.r (pgFP n) FP.ASSIST_CV_EN = 0 → s.r (pgFP n) FP.ASSIST_KIND = 0 →
    let t := s.rxEnd n
    let x := s.fp n
    let level := s.rxLevel (fpRing n)
    ((t.fp n).phase ≠ .quiet → s.rxFinish n = t) ∧
    (t.fp n).rx = [] ∧ (t.fp n).inFrame = false ∧ t.r (pgFP n) FP.STATUS_RX_ACTIVE = 0 ∧
    ((∀ m ∈ x.rxE, m.framing = false ∧ m.parity = false ∧ m.gap = false) → x.format = false → x.aborted = false → x.brk = false → x.cvBad = false →
      x.rx.length ≤ s.r (pgFP n) FP.RX_MAX → level < 2 ^ s.r (pgFP n) FP.RX_DESC_COUNT →
      (x.ring.lens.take level).foldl (· + ·) 0 + x.rx.length ≤ 2 ^ s.r (pgFP n) FP.RX_DATA_SIZE → s.padUp (s.r (pgFP n) FP.RING) = true →
      t.r (pgFP n) FP.RX_FRAMES = (s.r (pgFP n) FP.RX_FRAMES + 1) % 2 ^ 32 ∧
      t.r (pgFP n) FP.RX_HEAD = (s.r (pgFP n) FP.RX_HEAD + 1) % 2 ^ 16 ∧ t.r (pgFP n) (INT_PEND_BIT 0) = 1 ∧
      t.r (pgFP n) FP.RX_BAD = s.r (pgFP n) FP.RX_BAD) ∧
    (x.rxE.any (·.framing) = true → s.r (pgFP n) FP.ASSIST_KEEP_BAD = 0 →
      t.r (pgFP n) FP.RX_BAD = (s.r (pgFP n) FP.RX_BAD + 1) % 2 ^ 32 ∧ t.r (pgFP n) FP.STATUS_RX_ERROR = 1 ∧
      t.r (pgFP n) (INT_PEND_BIT 2) = 1 ∧ t.r (pgFP n) FP.RX_HEAD = s.r (pgFP n) FP.RX_HEAD ∧
      t.r (pgFP n) FP.RX_FRAMES = s.r (pgFP n) FP.RX_FRAMES))

/-- A frame to send from its descriptor to the end of the tail, the port's index writes, and TX_MAX (10_field_ports_check_values R248, R249, R252, R255, R256). -/
def Obligations.FieldPortsKeyAndSend : Prop :=
  (∀ (s : State) (n : Nat) (v : BitVec 32) (wr : Code), n < 16 → Admits s 0 (pgFP n) 0x138 4 wr →
    let d := (v.toNat % 65536 + 65536 - s.r (pgFP n) FP.TX_TAIL) % 65536
    (d ≤ 2 ^ s.r (pgFP n) FP.TX_DESC_COUNT → exec (.txHeadWrite n v wr) s = .next (s.plain (wr32 0 (pgFP n) 0x138 v wr)).1) ∧
    (2 ^ s.r (pgFP n) FP.TX_DESC_COUNT < d → exec (.txHeadWrite n v wr) s = .next (s.accEventOpen 0 (pgFP n) Ev.BAD_VALUE))) ∧
  (∀ (s : State) (n : Nat) (v : BitVec 32) (wr : Code), n < 16 → Admits s 0 (pgFP n) 0x134 4 wr →
    let d := (s.r (pgFP n) FP.RX_HEAD + 65536 - v.toNat % 65536) % 65536
    (d ≤ s.rxLevel (fpRing n) → exec (.rxTailWrite n v wr) s = .next (s.plain (wr32 0 (pgFP n) 0x134 v wr)).1) ∧
    (s.rxLevel (fpRing n) < d → exec (.rxTailWrite n v wr) s = .next (s.accEventOpen 0 (pgFP n) Ev.BAD_VALUE))) ∧
  (∀ (s : State) (n : Nat), UnitUp s 0 (pgFP n) .kFP n → s.txOpen n = true → (s.fp n).phase = .idle ∨ (s.fp n).phase = .held →
    let p := pgFP n
    let cl := s.r p FP.RING
    let d := s.padRead cl (s.r p FP.TX_DESC_BASE + 16 * (s.r p FP.TX_TAIL % 2 ^ s.r p FP.TX_DESC_COUNT)) 16
    ((s.fp n).dispQ = [] → s.r p FP.TX_HEAD ≠ s.r p FP.TX_TAIL → s.padUp cl = true → 1 ≤ fieldLE d 4 2 → fieldLE d 4 2 ≤ 4096 →
      fieldLE d 6 2 < 16 → fieldLE d 6 2 % 2 = 0 → fieldLE d 8 8 ≠ 0 → s.stamp.toNat < fieldLE d 8 8 →
      exec (.txDescriptorTake n) s = .next (s.setFp n { s.fp n with
        txIn := s.padRingRead cl (s.r p FP.TX_DATA_BASE) (2 ^ s.r p FP.TX_DATA_SIZE) (fieldLE d 0 4) (fieldLE d 4 2)
        txFlags := fieldLE d 6 2
        txTime := fieldLE d 8 8
        txTxn := none
        phase := .notBefore })) ∧
    (∀ (t : Nat) (bytes : List (BitVec 8)) (l : List (Nat × List (BitVec 8))), (s.fp n).dispQ = (t, bytes) :: l →
      s.dispBarred n (t, bytes) = false → s.r p FP.LINE_CFG_LBT = 1 → ∃ u : State, exec (.txDescriptorTake n) s = .next u ∧ u.fp n = { s.fp n with
        dispQ := l
        txIn := bytes
        txFlags := 3
        txTime := 0
        txTxn := some t
        phase := .quiet } ∧ u.regs = s.regs ∧ u.mem = s.mem ∧ u.hist = s.hist) ∧
    (∀ (t : Nat) (bytes : List (BitVec 8)), (s.fp n).dispQ = [(t, bytes)] → s.dispBarred n (t, bytes) = true →
      s.r p FP.TX_HEAD = s.r p FP.TX_TAIL → exec (.txDescriptorTake n) s = .next (s.dispDrop n [(t, bytes)]))) ∧
  (∀ (s : State) (n : Nat), UnitUp s 0 (pgFP n) .kFP n → s.txOpen n = true →
    ((s.fp n).phase = .notBefore → s.r (pgFP n) FP.LINE_CFG_LBT = 1 →
      let u := s.advanceTb (s.fp n).txTime
      exec (.txNotBefore n) s = .next (u.setFp n { u.fp n with phase := .quiet })) ∧
    ((s.fp n).phase = .quiet → s.r (pgFP n) FP.STATUS_CD = 0 → (s.fp n).inFrame = false → s.r (pgFP n) FP.STATUS_PTT = 0 →
      s.txBarred n = false →
      exec (.lbtQuiet n) s = .next ((s.w (pgFP n) FP.STATUS_PTT 1).setFp n { s.fp n with phase := .keyup })) ∧
    ((s.fp n).phase = .quiet → s.r (pgFP n) FP.STATUS_CD = 0 → (s.fp n).inFrame = false → s.txBarred n = true →
      exec (.lbtQuiet n) s = .next (s.txUnsent n)) ∧
    ((s.fp n).phase = .keyup → s.txBarred n = true → exec (.keyupEnd n) s = .next (s.txUnsent n)) ∧
    ((s.fp n).phase = .keyup → s.txBarred n = false → ∃ t : State, exec (.keyupEnd n) s = .next t ∧
      (t.fp n).phase = .sending ∧ t.r (pgFP n) FP.STATUS_TX_ACTIVE = 1 ∧ (t.fp n).txIn = (s.fp n).txIn ∧
      (t.fp n).txLine.length = (s.lineBits n (t.fp n).txBytes).length ∧ t.mem = s.mem ∧ t.owners = s.owners ∧ t.locks = s.locks ∧ t.hist = s.hist) ∧
    ((s.fp n).phase = .keyup → s.r (pgFP n) FP.ASSIST_CV_EN = 0 → (s.fp n).txTxn = none →
      s.r (pgFP n) FP.ASSIST_KIND ≠ 2 ∨ (s.fp n).lineFc = none →
      exec (.keyupEnd n) s = .next ((s.setFp n { s.fp n with phase := .sending, txBytes := (s.fp n).txIn, txLine := s.lineBits n (s.fp n).txIn }).w
        (pgFP n) FP.STATUS_TX_ACTIVE 1)) ∧
    (∀ f : Nat, (s.fp n).phase = .keyup → s.r (pgFP n) FP.ASSIST_CV_EN = 0 → (s.fp n).txTxn = none →
      s.r (pgFP n) FP.ASSIST_KIND = 2 → (s.fp n).lineFc = some f →
      let u := s.advanceFc (f + 12 * s.t35 n)
      exec (.keyupEnd n) s = .next ((u.setFp n { u.fp n with phase := .sending, txBytes := (s.fp n).txIn, txLine := s.lineBits n (s.fp n).txIn }).w
        (pgFP n) FP.STATUS_TX_ACTIVE 1)) ∧
    ((s.fp n).phase = .sending → (s.fp n).txTxn = none → ∃ t : State, exec (.txLastBit n) s = .next t ∧
      (t.fp n).phase = (if nbit (s.fp n).txFlags 2 then .held else .tail) ∧ (t.fp n).sentLast = (s.fp n).txBytes ∧
      (t.fp n).lineLast = (s.fp n).txLine ∧ (t.fp n).lineFc = some s.fc ∧
      t.r (pgFP n) FP.STATUS_TX_ACTIVE = 0 ∧ t.r (pgFP n) FP.TX_FRAMES = (s.r (pgFP n) FP.TX_FRAMES + 1) % 2 ^ 32 ∧
      t.r (pgFP n) FP.TX_TAIL = (s.r (pgFP n) FP.TX_TAIL + 1) % 2 ^ 16 ∧
      (nbit (s.fp n).txFlags 3 = true → t.r (pgFP n) (INT_PEND_BIT 1) = 1) ∧ t.r (pgFP n) FP.STATUS_PTT = s.r (pgFP n) FP.STATUS_PTT ∧
      OtherPages s t (pgFP n) ∧ t.mem = s.mem ∧ t.owners = s.owners ∧ t.locks = s.locks ∧ t.hist = s.hist) ∧
    ((s.fp n).phase = .tail → exec (.tailEnd n) s = .next ((s.setFp n { s.fp n with phase := .idle }).w (pgFP n) FP.STATUS_PTT 0))) ∧
  (∀ (s : State) (n : Nat), UnitUp s 0 (pgFP n) .kFP n → s.active (pgFP n) = true → s.r (pgFP n) FP.STATUS_PTT = 1 →
    s.r (pgFP n) FP.TX_LIMITS_TX_MAX ≠ 0 → (s.fp n).phase = .sending → (s.fp n).txTxn = none → (s.fp n).dispQ = [] →
    ∃ t : State, exec (.txTimeout n) s = .next t ∧ t.r (pgFP n) FP.STATUS_PTT = 0 ∧ t.r (pgFP n) FP.STATUS_TX_ACTIVE = 0 ∧
      t.r (pgFP n) FP.STATUS_TX_TIMEOUT = 1 ∧ t.r (pgFP n) (INT_PEND_BIT 3) = 1 ∧
      t.r (pgFP n) FP.TX_TAIL = (s.r (pgFP n) FP.TX_TAIL + 1) % 2 ^ 16 ∧ (t.fp n).phase = .idle ∧ OtherPages s t (pgFP n) ∧
      t.mem = s.mem ∧ t.owners = s.owners ∧ t.locks = s.locks)

/-- SRC, the feeds, FINISH, context save and load, and the self-check of a check-value unit (10_field_ports_check_values R263, R264, R266, R268, R269). -/
def Obligations.CheckValueUnitsFeedFinishSaveAndCheck : Prop :=
  (∀ (s : State) (u : Nat) (v : BitVec 32) (wr : Code), u < 16 → Admits s 0 (pgCV u) 0x100 4 wr →
    ((s.cv u).midFrame = [] → (s.cv u).ctxCmd = none → (s.cv u).self = false →
      exec (.cvSrcWrite u v wr) s = .next (s.plain (wr32 0 (pgCV u) 0x100 v wr)).1) ∧
    ((s.cv u).midFrame ≠ [] ∨ (s.cv u).ctxCmd ≠ none ∨ (s.cv u).self = true →
      exec (.cvSrcWrite u v wr) s = .next (s.accEventOpen 0 (pgCV u) Ev.BAD_STATE))) ∧
  (∀ (s : State) (u : Nat) (v : BitVec 32) (wr : Code), u < 16 → Admits s 0 (pgCV u) 0x180 4 wr →
    s.r (pgCV u) CV.SRC_KIND = 3 → s.r (pgCV u) (ctxFld CV.CFG_WIDTH (s.r (pgCV u) CV.CTX_SEL)) ≤ 64 →
    let c := s.r (pgCV u) CV.CTX_SEL
    ∃ t : State, exec (.feed8 u v wr) s = .next t ∧
      t.r (pgCV u) (ctxFld CV.STATE c) = (leBytes 1 v.toNat).foldl (s.cvSet u c).byte (s.r (pgCV u) (ctxFld CV.STATE c)) ∧
      t.r (pgCV u) (ctxFld CV.COUNT c) = (s.r (pgCV u) (ctxFld CV.COUNT c) + 1) % 2 ^ 32 ∧ c ∈ (t.cv u).midFrame ∧
      OtherPages s t (pgCV u) ∧ t.mem = s.mem ∧ t.owners = s.owners ∧ t.locks = s.locks ∧ t.hist = s.hist) ∧
  (∀ (s : State) (u : Nat) (v : BitVec 32) (wr : Code), u < 16 → Admits s 0 (pgCV u) 0x184 4 wr →
    s.r (pgCV u) CV.SRC_KIND = 3 → s.r (pgCV u) (ctxFld CV.CFG_WIDTH (s.r (pgCV u) CV.CTX_SEL)) ≤ 64 →
    let c := s.r (pgCV u) CV.CTX_SEL
    ∃ t : State, exec (.feed32 u v wr) s = .next t ∧
      t.r (pgCV u) (ctxFld CV.STATE c) = (leBytes 4 v.toNat).foldl (s.cvSet u c).byte (s.r (pgCV u) (ctxFld CV.STATE c)) ∧
      t.r (pgCV u) (ctxFld CV.COUNT c) = (s.r (pgCV u) (ctxFld CV.COUNT c) + 4) % 2 ^ 32 ∧ c ∈ (t.cv u).midFrame ∧
      OtherPages s t (pgCV u) ∧ t.mem = s.mem ∧ t.owners = s.owners ∧ t.locks = s.locks ∧ t.hist = s.hist) ∧
  (∀ (s : State) (u : Nat) (v : BitVec 64) (wr : Code), u < 16 → Admits s 0 (pgCV u) 0x188 8 wr →
    s.r (pgCV u) CV.SRC_KIND = 3 → s.r (pgCV u) (ctxFld CV.CFG_WIDTH (s.r (pgCV u) CV.CTX_SEL)) ≤ 64 →
    let c := s.r (pgCV u) CV.CTX_SEL
    ∃ t : State, exec (.feed64 u v wr) s = .next t ∧
      t.r (pgCV u) (ctxFld CV.STATE c) = (leBytes 8 v.toNat).foldl (s.cvSet u c).byte (s.r (pgCV u) (ctxFld CV.STATE c)) ∧
      t.r (pgCV u) (ctxFld CV.COUNT c) = (s.r (pgCV u) (ctxFld CV.COUNT c) + 8) % 2 ^ 32 ∧ c ∈ (t.cv u).midFrame ∧
      OtherPages s t (pgCV u) ∧ t.mem = s.mem ∧ t.owners = s.owners ∧ t.locks = s.locks ∧ t.hist = s.hist) ∧
  (∀ (s : State) (u : Nat) (v : BitVec 32) (wr : Code), u < 16 → Admits s 0 (pgCV u) 0x180 4 wr → s.r (pgCV u) CV.SRC_KIND ≠ 3 →
    exec (.feed8 u v wr) s = .next (s.accEventOpen 0 (pgCV u) Ev.BAD_STATE)) ∧
  (∀ (s : State) (u : Nat) (v : BitVec 32) (wr : Code), u < 16 → Admits s 0 (pgCV u) 0x184 4 wr → s.r (pgCV u) CV.SRC_KIND ≠ 3 →
    exec (.feed32 u v wr) s = .next (s.accEventOpen 0 (pgCV u) Ev.BAD_STATE)) ∧
  (∀ (s : State) (u : Nat) (v : BitVec 64) (wr : Code), u < 16 → Admits s 0 (pgCV u) 0x188 8 wr → s.r (pgCV u) CV.SRC_KIND ≠ 3 →
    exec (.feed64 u v wr) s = .next ((Released s 0 (pgCV u) 0x188 wr).accEventOpen 0 (pgCV u) Ev.BAD_STATE)) ∧
  (∀ (s : State) (u : Nat) (v : BitVec 32) (wr : Code), u < 16 → Admits s 0 (pgCV u) 0x190 4 wr → s.r (pgCV u) CV.SRC_KIND = 3 →
    v.getLsbD 0 = true → s.r (pgCV u) (ctxFld CV.CFG_WIDTH (s.r (pgCV u) CV.CTX_SEL)) ≤ 64 →
    let c := s.r (pgCV u) CV.CTX_SEL
    ∃ t : State, exec (.finish u v wr) s = .next t ∧
      t.r (pgCV u) (ctxFld CV.RESULT c) = (s.cvSet u c).final (s.r (pgCV u) (ctxFld CV.STATE c)) ∧
      t.r (pgCV u) (ctxFld CV.STATE c) = s.r (pgCV u) (ctxFld CV.INIT c) ∧ t.r (pgCV u) (ctxFld CV.COUNT c) = 0 ∧
      t.r (pgCV u) (ctxFld CV.CHECKS c) = (s.r (pgCV u) (ctxFld CV.CHECKS c) + 1) % 2 ^ 32 ∧ c ∉ (t.cv u).midFrame ∧
      OtherPages s t (pgCV u) ∧ t.mem = s.mem ∧ t.owners = s.owners ∧ t.locks = s.locks ∧ t.hist = s.hist) ∧
  (∀ (s : State) (u : Nat) (v : BitVec 32) (wr : Code), u < 16 → Admits s 0 (pgCV u) 0x1A0 4 wr →
    let c := v.toNat % 4
    ((s.cv u).ctxCmd = none → c ∉ (s.cv u).midFrame → v.getLsbD 4 = true → v.getLsbD 5 = false →
      exec (.ctxSave u v wr) s = .next ((s.w (pgCV u) CV.CTX_MEM_CTX c).setCv u { s.cv u with ctxCmd := some (c, true) })) ∧
    ((s.cv u).ctxCmd = none → c ∉ (s.cv u).midFrame → v.getLsbD 4 = false → v.getLsbD 5 = true →
      exec (.ctxLoad u v wr) s = .next ((s.w (pgCV u) CV.CTX_MEM_CTX c).setCv u { s.cv u with ctxCmd := some (c, false) })) ∧
    ((s.cv u).ctxCmd ≠ none ∨ c ∈ (s.cv u).midFrame → v.getLsbD 4 = true →
      exec (.ctxSave u v wr) s = .next (s.accEventOpen 0 (pgCV u) Ev.BAD_STATE))) ∧
  (∀ (s : State) (u c : Nat) (save : Bool), UnitUp s 0 (pgCV u) .kCV u → (s.cv u).ctxCmd = some (c, save) →
    s.padUp (s.r (pgCV u) CV.CTX_ADDR_CLUSTER) = true →
    let cl := s.r (pgCV u) CV.CTX_ADDR_CLUSTER
    let off := s.r (pgCV u) CV.CTX_ADDR_OFFSET
    let x := s.setCv u { s.cv u with ctxCmd := none }
    exec (.ctxDone u) s = .next ((if save then x.padWrite cl off (s.ctxRecord u c) else x.ctxTake u c (s.padRead cl off 64)).w
      (pgCV u) (INT_PEND_BIT 0) 1)) ∧
  (∀ (s : State) (u : Nat) (v : BitVec 32) (wr : Code), u < 16 → Admits s 0 (pgCV u) 0x1B0 4 wr → v.getLsbD 0 = true →
    (s.cvIdle u = true → s.fenced 0 (pgCV u) = false → (s.cv u).self = false →
      exec (.selfcheck u v wr) s = .next (s.setCv u { s.cv u with self := true })) ∧
    (s.cvIdle u = false → exec (.selfcheck u v wr) s = .next (((s.w (pgCV u) CV.SELFCHECK_STAT_RESULT 3).w (pgCV u)
      CV.SELFCHECK_STAT_FAILED 0).accEventOpen 0 (pgCV u) Ev.SELFCHECK_REFUSED))) ∧
  (∀ (s : State) (u k : Nat), UnitUp s 0 (pgCV u) .kCV u → (s.cv u).self = true → k ≤ 6 →
    exec (.selfcheckDone u k) s = .next ((((s.setCv u { s.cv u with self := false }).w (pgCV u) CV.SELFCHECK_STAT_RESULT
      (if k = 0 then 1 else 2)).w (pgCV u) CV.SELFCHECK_STAT_FAILED k).w (pgCV u) (INT_PEND_BIT 1) 1))

/-- A request ring's writes, the taking of a commit, its refusal, and its application (11_points_brands_commands R276, R280, R281, R282, R283, R285, R286, R288, R291). -/
def Obligations.RequestRingsFeedTheCommitEngine : Prop :=
  (∀ (s : State) (n : Nat) (v : BitVec 32) (wr : Code), n < 16 → Admits s 0 pPOINTS (0x400 + 0x40 * n) 4 wr →
    (s.crEn n = false → v.getLsbD 0 = true → 2 ≤ v.toNat / 256 % 16 →
      s.crGeometry n (v.toNat / 2 % 2) (v.toNat / 4 % 16) (v.toNat / 256 % 16) = true →
      ∃ t : State, exec (.crEnWrite n v wr) s = .next t ∧ t.crEn n = true ∧ t.crSize n = 2 ^ (v.toNat / 256 % 16) ∧
        t.r pPOINTS (crFld POINTS.CR_HEAD n) = 0 ∧ t.r pPOINTS (crFld POINTS.CR_TAIL n) = 0 ∧
        t.r pPOINTS (crFld POINTS.CR_RES_HEAD n) = 0 ∧ t.r pPOINTS (crFld POINTS.CR_RES_TAIL n) = 0 ∧ OtherPages s t pPOINTS ∧
        t.mem = s.mem ∧ t.owners = s.owners ∧ t.locks = s.locks ∧ t.hist = s.hist) ∧
    (s.crEn n = true → v.getLsbD 0 = false → exec (.crEnWrite n v wr) s = .next (s.w pPOINTS (crFld POINTS.CR_CFG_EN n) 0)) ∧
    (s.crEn n = true → v.getLsbD 0 = true → exec (.crEnWrite n v wr) s = .next (s.accEventOpen 0 pPOINTS Ev.BAD_STATE))) ∧
  (∀ (s : State) (n : Nat) (v : BitVec 32) (wr : Code), n < 16 → Admits s 0 pPOINTS (0x418 + 0x40 * n) 4 wr →
    let d := (v.toNat % 65536 + 65536 - s.r pPOINTS (crFld POINTS.CR_TAIL n)) % 65536
    (d ≤ s.crSize n → exec (.crHeadWrite n v wr) s = .next (s.plain (wr32 0 pPOINTS (0x418 + 0x40 * n) v wr)).1) ∧
    (s.crSize n < d → exec (.crHeadWrite n v wr) s = .next (s.accEventOpen 0 pPOINTS Ev.BAD_VALUE))) ∧
  (∀ (s : State) (n : Nat) (v : BitVec 32) (wr : Code), n < 16 → Admits s 0 pPOINTS (0x424 + 0x40 * n) 4 wr →
    let d := (s.r pPOINTS (crFld POINTS.CR_RES_HEAD n) + 65536 - v.toNat % 65536) % 65536
    (d ≤ s.crResLevel n → exec (.crResTailWrite n v wr) s = .next (s.plain (wr32 0 pPOINTS (0x424 + 0x40 * n) v wr)).1) ∧
    (s.crResLevel n < d → exec (.crResTailWrite n v wr) s = .next (s.accEventOpen 0 pPOINTS Ev.BAD_VALUE))) ∧
  (∀ (s : State) (n : Nat) (v : BitVec 32) (wr : Code), n < 16 → Admits s 0 pPOINTS (0x404 + 0x40 * n) 4 wr →
    s.itemOwner pPOINTS (crFld POINTS.CR_OWNER n) ≠ 0xFF → s.validOwner (v.setWidth 8) = true →
    exec (.crOwnerWrite n v wr) s = .next (s.w pPOINTS (crFld POINTS.CR_OWNER n) (v.toNat % 256))) ∧
  (∀ (s : State) (n : Nat) (v : BitVec 32) (wr : Code), n < 16 → Admits s 0 pPOINTS (0x404 + 0x40 * n) 4 wr →
    s.itemOwner pPOINTS (crFld POINTS.CR_OWNER n) = 0xFF ∨ s.validOwner (v.setWidth 8) = false →
    exec (.crOwnerWrite n v wr) s = .next (s.accEvent 0 pPOINTS Ev.OWNER_DENY (denyDetail wr (0x404 + 0x40 * n)))) ∧
  (∀ (s : State) (n : Nat) (b : List (BitVec 8)), s.active pPOINTS = true → s.points.taken = none → s.following = false →
    s.nextRing 0 s.points.nextRing (fun _ => true) = some n →
    s.ringRead n (s.r pPOINTS (crFld POINTS.CR_REQ_BASE n)) (s.r pPOINTS (crFld POINTS.CR_TAIL n)) = some b →
    let w0 := fieldLE b 0 4
    let p := w0 % 2 ^ 20
    let op := w0 / 2 ^ 20 % 16
    p < s.r pPOINTS POINTS.REC_COUNT → s.inPart 2 (s.pointAddr p) 64 = true →
    ∃ t : State, exec (.commitTake false) s = .next t ∧ t.points.nextRing = (n + 1) % 16 ∧
      t.r pPOINTS (crFld POINTS.CR_TAIL n) = (s.r pPOINTS (crFld POINTS.CR_TAIL n) + 1) % 65536 ∧
      (op ≤ 2 → w0 < 2 ^ 25 → fieldLE b 10 6 = 0 → fieldLE b 24 8 = 0 → (s.pointRec p).valid = true →
        t.points.taken = some { point := p, op := op, refresh := nbit w0 24, value := BitVec.ofNat 32 (fieldLE b 4 4), quality := BitVec.ofNat 16 (fieldLE b 8 2), time := if fieldLE b 16 8 = 0 then s.stamp else BitVec.ofNat 64 (fieldLE b 16 8), ring := n } ∧ t.hist = s.hist) ∧
      (2 < op ∨ 2 ^ 25 ≤ w0 ∨ fieldLE b 10 6 ≠ 0 ∨ fieldLE b 24 8 ≠ 0 ∨ (s.pointRec p).valid = false →
        t.points.taken = none ∧ t.r pPOINTS POINTS.REFUSED = (s.r pPOINTS POINTS.REFUSED + 1) % 2 ^ 32 ∧
        t.r pPOINTS (STATUS_BIT 3) = 1 ∧ t.r pPOINTS (INT_PEND_BIT 2) = 1) ∧
      OtherPages s t pPOINTS ∧ t.mem = s.mem ∧ t.owners = s.owners ∧ t.locks = s.locks) ∧
  (∀ (s : State) (n : Nat), s.active pPOINTS = true → s.points.taken = none →
    s.nextRing 0 s.points.nextRing (fun _ => true) = some n → ∃ t : State, exec (.commitTake true) s = .next t ∧
      t.crEn n = false ∧ t.r pPOINTS (STATUS_BIT 4) = 1 ∧ t.points.taken = none ∧ OtherPages s t pPOINTS ∧ t.mem = s.mem) ∧
  (∀ (s : State) (c : Commit), s.active pPOINTS = true → s.points.taken = some c → s.following = false → s.commitStalled = false →
    s.points.stallFc = none →
    exec .commitApply s = .next ((({ s with points := { s.points with taken := none } } : State).applyCommit c.point c.op c.refresh
      c.value.toNat c.quality.toNat c.time.toNat none).feedbackCommit c.point)) ∧
  (∀ (s : State) (p v q time : Nat) (refresh : Bool), s.inPart 2 (s.pointAddr p) 64 = true →
    let r := s.pointRec p
    let t := s.applyCommit p 0 refresh v q time none
    r.aclass % 8 = 0 → nbit r.limEn 4 = false → nfld r.brands 22 6 = 0 →
    t.mem = memWrite s.mem (s.pointAddr p) (leBytes 4 v ++ leBytes 2 q ++ leBytes 1 (r.limits v q) ++ leBytes 1 0 ++ leBytes 8 time
      ++ leBytes 4 (r.seq + 1)) ∧
    t.r pPOINTS POINTS.COMMITS = (s.r pPOINTS POINTS.COMMITS + 1) % 2 ^ 32)

/-- A command request opens a transaction or is refused; grants, timers, CANCEL, EXECUTE and the loss of authority (11_points_brands_commands R303, R304, R307, R308, R309, R310; 12_journal_and_mirror_pair R328). -/
def Obligations.CommandTransactionsOpenExpireAndEnd : Prop :=
  (∀ (s : State) (n : Nat) (b : List (BitVec 8)), s.active pCOMMANDS = true → (s.appendRole = true → s.journalReady = true) →
    s.nextRing 1 s.points.nextCmd (fun n => decide (s.crResLevel n + s.claimed n < s.crSize n)) = some n →
    s.ringRead n (s.r pPOINTS (crFld POINTS.CR_REQ_BASE n)) (s.r pPOINTS (crFld POINTS.CR_TAIL n)) = some b →
    let object := fieldLE b 0 4 % 65536
    let c := s.cmdObj object
    let refusal := s.refusal n object (decide (fieldLE b 0 4 < 2 ^ 17) && fieldLE b 28 4 == 0) (fieldLE b 8 8) (fieldLE b 24 2)
      (fieldLE b 16 8) (fieldLE b 26 2)
    ∃ t : State, exec (.commandRequest false) s = .next t ∧ t.points.nextCmd = (n + 1) % 16 ∧
      t.r pPOINTS (crFld POINTS.CR_TAIL n) = (s.r pPOINTS (crFld POINTS.CR_TAIL n) + 1) % 65536 ∧
      (refusal = none → s.channelHeld c.channel || s.channelQueued c.channel s.txnCount → t.mem = s.mem ∧
        (t.txn s.pickTxn).state = (if c.mode = 1 then 8 else 1) ∧ (t.txn s.pickTxn).object = object ∧
        (t.txn s.pickTxn).tag = BitVec.ofNat 32 (fieldLE b 4 4) ∧ (t.txn s.pickTxn).ring = n ∧ (t.txn s.pickTxn).holds = false ∧
        t.r pCOMMANDS COMMANDS.OPENED = (s.r pCOMMANDS COMMANDS.OPENED + 1) % 2 ^ 32 ∧
        ∀ m : Nat, m ≠ s.pickTxn → t.txn m = s.txn m) ∧
      (refusal ≠ none → t.txns = s.txns ∧ t.r pCOMMANDS COMMANDS.OPENED = s.r pCOMMANDS COMMANDS.OPENED ∧
        (s.r pPOINTS (crFld POINTS.CR_CFG_LOC n) < 8 → s.padUp (s.r pPOINTS (crFld POINTS.CR_CFG_LOC n)) = true →
          t.r pPOINTS (crFld POINTS.CR_RES_HEAD n) = (s.r pPOINTS (crFld POINTS.CR_RES_HEAD n) + 1) % 65536 ∧
          t.r pCOMMANDS (INT_PEND_BIT 0) = 1 ∧ t.mem = s.mem)) ∧
      t.owners = s.owners ∧ t.locks = s.locks) ∧
  (∀ (s : State) (n k : Nat), s.domainOn 0 pCOMMANDS = true → (s.txn n).state = 1 → (s.txn n).channel = k → k < 16 →
    s.channelHeld k = false → s.channelQueued k (s.txn n).opened = false → s.dispatchOpen = true →
    s.sendBarred k (s.txn n).selAddr (s.txn n).selLen = false →
    ∃ t : State, exec (.channelGrant n) s = .next t ∧ (t.txn n).state = 2 ∧ (t.txn n).holds = true ∧
      (t.fp k).dispQ = (s.fp k).dispQ ++ [(n, memRead s.mem (s.txn n).selAddr (s.txn n).selLen)] ∧
      (∀ m : Nat, m ≠ n → t.txn m = s.txn m) ∧ t.mem = s.mem ∧ t.owners = s.owners ∧ t.locks = s.locks) ∧
  (∀ (s : State) (n : Nat), s.domainOn 0 pCOMMANDS = true → s.following = false →
    let x := s.txn n
    let c := s.cmdObj x.object
    (x.state = 1 ∨ x.state = 3 → exec (.selectToExpiry n) s = .next ((s.advanceTb (timerDue x c.selectTo)).endTxn n 9)) ∧
    (x.state = 4 → exec (.windowExpiry n) s =
      .next ((s.advanceTb (x.window.toNat + (c.window - c.margin) * msTick + 1)).endTxn n 11)) ∧
    (x.state = 6 ∨ x.state = 8 → exec (.operateToExpiry n) s = .next ((s.advanceTb (timerDue x c.operateTo)).endTxn n 13)) ∧
    (x.state = 7 → exec (.feedbackToExpiry n) s = .next ((s.advanceTb (timerDue x (10 * c.fbTo))).endTxn n 15))) ∧
  (∀ (s : State) (v : BitVec 32) (wr : Code), Admits s 0 pCOMMANDS 0x120 4 wr →
    let n := v.toNat % 4096
    (s.txnWriter n wr = true → (s.txn n).state = 1 ∨ (s.txn n).state = 3 ∨ (s.txn n).state = 4 ∨ (s.txn n).state = 8 →
      exec (.cancel v wr) s = .next (s.endTxn n 16)) ∧
    (s.txnWriter n wr = true → (s.txn n).state = 0 ∨ (s.txn n).state = 2 ∨ 5 ≤ (s.txn n).state ∧ (s.txn n).state ≤ 7 →
      exec (.cancel v wr) s = .next (s.accEventOpen 0 pCOMMANDS Ev.BAD_STATE)) ∧
    (s.txnWriter n wr = false →
      exec (.cancel v wr) s = .next (s.accEvent 0 pCOMMANDS Ev.OWNER_DENY (denyDetail wr 0x120)))) ∧
  (∀ (s : State) (v : BitVec 32) (wr : Code), Admits s 0 pCOMMANDS 0x124 4 wr → s.txnWriter (v.toNat % 4096) wr = true →
    ((s.txn (v.toNat % 4096)).state = 4 → (s.txn (v.toNat % 4096)).hold = true →
      exec (.execute v wr) s = .next (s.operateCheck (v.toNat % 4096))) ∧
    ((s.txn (v.toNat % 4096)).state ≠ 4 ∨ (s.txn (v.toNat % 4096)).hold = false →
      exec (.execute v wr) s = .next (s.accEventOpen 0 pCOMMANDS Ev.BAD_STATE))) ∧
  (∀ (s : State) (v : BitVec 32) (wr : Code), Admits s 0 pCOMMANDS 0x124 4 wr → s.txnWriter (v.toNat % 4096) wr = false →
    exec (.execute v wr) s = .next (s.accEvent 0 pCOMMANDS Ev.OWNER_DENY (denyDetail wr 0x124))) ∧
  (∀ (s : State) (n result : Nat), (s.txn n).state ≠ 0 →
    let t := s.endTxn n result
    t.txn n = {} ∧ (∀ m : Nat, m ≠ n → t.txn m = s.txn m) ∧
    t.r pCOMMANDS COMMANDS.COMPLETED = (s.r pCOMMANDS COMMANDS.COMPLETED + b2n (decide (result < 2))) % 2 ^ 32 ∧
    t.r pCOMMANDS COMMANDS.FAILED = (s.r pCOMMANDS COMMANDS.FAILED + b2n (decide (2 ≤ result))) % 2 ^ 32) ∧
  (∀ s : State, s.mainUp = true → s.authority = true → ∃ t : State, exec .authorityLoss s = .next t ∧ t.authority = false ∧
    (∀ n : Nat, (t.txn n).state = 0 ∨ (t.txn n).state = 6 ∨ (t.txn n).state = 7 ∨ 8 < (t.txn n).state) ∧ t.host.orQ = [] ∧
    (∀ n : Nat, n < 16 → (t.fp n).dispQ = []) ∧ t.r pCOMMANDS (INT_PEND_BIT 2) = 1 ∧ t.r pMIRROR (INT_PEND_BIT 2) = 1)

/-- AUDIO's ENABLE, voice actions, sample boundaries, PCM fetches, duration and cadence ends, PR_DATA (15_annunciation_audio R396, R399, R400, R401, R402, R404, R405, R406, R407, R410, R414, R415). -/
def Obligations.VoicesTakeActionsAndSound : Prop :=
  (∀ (s : State) (v : BitVec 32) (wr : Code), Admits s 0 pAUDIO 0x008 4 wr →
    (v.toNat % 8 = 1 → s.r pAUDIO CTRL_ENABLE = 0 → ∃ t : State, exec (.audioEnable v wr) s = .next t ∧
      t.r pAUDIO CTRL_ENABLE = 1 ∧ t.r pAUDIO AUDIO.SAMPLE_COUNT = 0 ∧ t.audio = { s.audio with waitAlign := s.b pAUDIO AUDIO.CFG, dueFc := (s.fc / 12 + 1) * 12 } ∧
      t.mem = s.mem ∧ t.owners = s.owners ∧ t.locks = s.locks ∧ t.hist = s.hist ∧ OtherPages s t pAUDIO) ∧
    (v.toNat % 8 = 0 → s.r pAUDIO CTRL_ENABLE = 1 → s.protRoutes = [] → s.audio.voices = [] →
      exec (.audioEnable v wr) s = .next { s.w pAUDIO CTRL_ENABLE 0 with audio := { s.audio with
        queue := []
        routes := []
        busses := []
        outs := []
        stage := []
        frame := [] } }) ∧
    (v.toNat % 8 = 0 → s.r pAUDIO CTRL_ENABLE = 1 → s.protRoutes = [] → ∃ t : State, exec (.audioEnable v wr) s = .next t ∧
      t.r pAUDIO CTRL_ENABLE = 0 ∧ t.audio.voices = [] ∧ t.audio.queue = [] ∧ OtherPages s t pAUDIO ∧ t.mem = s.mem ∧
      t.owners = s.owners ∧ t.locks = s.locks) ∧
    (v.toNat % 8 = 0 → s.protRoutes ≠ [] → wr ≠ 0x02 → wr ≠ 0x7E →
      exec (.audioEnable v wr) s = .next (s.accEvent 0 pAUDIO Ev.PROT_DENY (denyDetail wr 0x008)))) ∧
  (∀ (s : State) (v : Nat) (param : BitVec 32) (wr : Code), v < 64 → Admits s 0 pAUDIO 0x108 8 wr → s.audioRuns = true →
    let u := Released s 0 pAUDIO 0x108 wr
    let act := fun (k : Nat) => ({ voice := v, act := k, param := param, wr := wr, rank := actionRank wr, fc := s.fc } : VAction)
    let sent := fun (k : Nat) => ({ u with audio := { s.audio with queue := queueAction (act k) s.audio.queue } } : State).journalWrite
      (wr64 0 pAUDIO 0x108 (BitVec.ofNat 64 (param.toNat + v * 2 ^ 32 + k * 2 ^ 40)) wr) u
    let denied := u.accEvent 0 pAUDIO Ev.OWNER_DENY (denyDetail wr 0x108)
    (s.r pAUDIO (AUDIO.VOWNER_OWNER.at (4 * v)) = wr.toNat → s.audio.queue.length < 256 →
      exec (.voiceStart v param wr) s = .next (sent 0) ∧
      exec (.voiceRelease v param wr) s = .next (sent 1) ∧
      exec (.voiceStop v param wr) s = .next (sent 2) ∧
      exec (.voicePreload v param wr) s = .next (sent 3)) ∧
    (s.r pAUDIO (AUDIO.VOWNER_OWNER.at (4 * v)) ≠ wr.toNat → s.r pAUDIO (AUDIO.VOWNER_ACT.at (4 * v)) ≠ wr.toNat → wr ≠ 0x02 → wr ≠ 0x7E →
      exec (.voiceStart v param wr) s = .next denied ∧
      exec (.voiceRelease v param wr) s = .next denied ∧
      exec (.voiceStop v param wr) s = .next denied ∧
      exec (.voicePreload v param wr) s = .next denied)) ∧
  (∀ (s : State) (b : Nat) (x z : Int), (s.busOut b x z).natAbs ≤ 8388607 ∧
    (s.r pAUDIO (busFld AUDIO.LIMIT_EN b) = 1 → (s.busOut b x z).natAbs ≤ s.r pAUDIO (busFld AUDIO.LIMIT_CEIL b) * 256)) ∧
  (∀ (a b : VAction) (l : List VAction), queueAction a [] = [a] ∧ (b.fc ≠ a.fc → queueAction a (b :: l) = b :: queueAction a l) ∧
    (b.fc = a.fc → a.rank < b.rank → queueAction a (b :: l) = a :: b :: l)) ∧
  (∀ (s : State) (sdi : List (BitVec 32)), s.mainUp = true → (∀ p : Nat, p < 4 → s.r pAUDIO (AUDIO.TCTRL_EN.at (0x10 * p)) = 0) →
    s.domainOn 0 pAUDIO = true →
    let due := s.audio.dueFc
    let u := s.advanceFc due
    let w := s.advanceFc s.nextBoundary
    (s.audioRuns = false → exec (.sampleBoundary sdi) s =
      .next { w with audio := { s.audio with frame := [], stage := [], dueFc := s.nextBoundary + 37125 } }) ∧
    (s.audioRuns = true → s.audio.waitAlign = true → exec (.sampleBoundary sdi) s =
      .next { u with audio := { s.audio with frame := [], stage := [], dueFc := due + 37125 } }) ∧
    (s.audioRuns = true → s.audio.waitAlign = false → s.devState = stRUNNING → s.audio.voices = [] → s.audio.queue = [] →
      ∃ t : State, exec (.sampleBoundary sdi) s = .next t ∧
        t.r pAUDIO AUDIO.SAMPLE_COUNT = (s.r pAUDIO AUDIO.SAMPLE_COUNT + 1) % 2 ^ 32 ∧ t.audio.frame = s.audio.stage ∧
        t.fc = max s.fc due ∧ t.audio.dueFc = due + 37125 ∧
        t.audio.voices = [] ∧ t.audio.stage.length = 32 ∧ t.mem = s.mem ∧ t.owners = s.owners ∧ t.locks = s.locks ∧
        t.hist = u.hist ∧ OtherPages u t pAUDIO) ∧
    (∀ (v atk f rank : Nat) (param : BitVec 32) (wr : Code), s.audioRuns = true → s.audio.waitAlign = false → s.audio.voices = [] →
      s.audio.queue = [{ voice := v, act := 0, param := param, wr := wr, rank := rank, fc := f }] → f + 64 ≤ s.fc → v < 64 →
      s.r pAUDIO (voiceFld AUDIO.VCTRL_KIND v) < 2 → s.r pAUDIO (voiceFld AUDIO.ENV_ATTACK v) = atk → atk ≠ 0 →
      param.toNat % 65536 ≠ 0 →
      let lv := param.toNat % 65536
      let duty := s.r pAUDIO (voiceFld AUDIO.VCTRL_DUTY v)
      let w : Int := if s.r pAUDIO (voiceFld AUDIO.VCTRL_KIND v) = 0 ∧ 0 < duty then 8388607 else -8388607
      ∃ t : State, exec (.sampleBoundary sdi) s = .next t ∧ (t.voice v).state = .attack ∧ t.audio.queue = [] ∧
        (t.voice v).dur = param.toNat / 65536 * 480 ∧ t.r pAUDIO (voiceFld AUDIO.LEVEL v) = lv ∧
        (t.voice v).sample = (w * (lv / atk : Nat) + 32768) / 65536 ∧ t.mem = s.mem ∧ t.owners = s.owners ∧ t.locks = s.locks)) ∧
  (∀ (s : State) (v : Nat), v < 64 → s.audioRuns = true → s.domainOn 0 pAUDIO = true →
    let x := s.voice v
    let n := min 256 (s.pcmTotal v - x.fetched)
    let a := s.r pAUDIO (voiceFld AUDIO.PCM_BASE v) + x.fetched
    s.voiceKind v = 3 → x.state = .fetch → x.startOn = true → x.buf.length ≤ 768 → x.fetched < s.pcmTotal v → x.owed = 0 →
    s.r pAUDIO (voiceFld AUDIO.VCTRL_LOOP v) = 0 → s.canRead .audio a n = true →
    exec (.pcmFetchDone v false) s = .next (s.setVoice v { x with fetched := x.fetched + n, buf := x.buf ++ memRead s.mem a n }) ∧
    ∃ t : State, exec (.pcmFetchDone v true) s = .next t ∧
      t.voice v = { x with fetched := x.fetched + n, buf := x.buf ++ List.replicate n 0 } ∧ t.r pAUDIO AUDIO.STATUS_PCM_FAULT = 1 ∧
      t.r pAUDIO (INT_PEND_BIT 2) = 1 ∧ t.mem = s.mem ∧ t.owners = s.owners ∧ t.locks = s.locks) ∧
  (∀ (s : State) (v : Nat), v < 64 → s.audioRuns = true → s.domainOn 0 pAUDIO = true →
    let x := s.voice v
    x.state = .attack ∨ x.state = .sustain ∨ x.state = .release ∨ x.state = .stopping →
    (x.dur = 1 → exec (.durationEnd v) s = .next (s.setVoice v { x with
      state := .release
      env := { src := x.env.now, dst := 0, len := s.r pAUDIO (voiceFld AUDIO.ENV_RELEASE v), pos := 0 }
      dur := 0 })) ∧
    (x.dur ≠ 1 → exec (.durationEnd v) s = .next s) ∧
    (x.cadLeft ≤ 1 → s.r pAUDIO (voiceFld AUDIO.CADENCE_OFF v) ≠ 0 → exec (.cadenceToggle v) s = .next (s.setVoice v { x with
      gateOpen := !x.gateOpen
      gate := { src := x.gate.now, dst := if x.gateOpen then 0 else 64, len := 64, pos := 0 }
      cadLeft := 480 * s.r pAUDIO (voiceFld (if x.gateOpen then AUDIO.CADENCE_OFF else AUDIO.CADENCE_ON) v) + 1 })) ∧
    (s.r pAUDIO (voiceFld AUDIO.CADENCE_OFF v) = 0 → exec (.cadenceToggle v) s = .next s)) ∧
  (∀ (s : State) (v : BitVec 32) (b : Nat), Admits s 1 pPROTR 0x604 4 0x02 → s.r1 pPROTR PROTR.PR_ADDR_PAGE = 0 → b < 16 →
    s.r1 pPROTR PROTR.PR_ADDR_OFFSET = 0xC00 + 0x20 * b → s.locked 0 pAUDIO = false → s.domainOn 0 pAUDIO = true →
    exec (.prDataWrite v) s = .next (((s.plain (wr32 0 pAUDIO (0xC00 + 0x20 * b) v 0x02)).1).journalWrite
      (wr32 0 pAUDIO (0xC00 + 0x20 * b) v 0x02) s))

/-- DOORBELL, a delivery to a vector or a core, the hold-off timer and the coalescing window (16_interrupts_drover_timebase R421, R422, R423, R424, R425, R426). -/
def Obligations.InterruptsAreRungDeliveredHeldOffAndCoalesced : Prop :=
  (∀ (s : State) (v : BitVec 32) (wr : Code), Admits s 0 pINTC 0x100 4 wr →
    let n := v.toNat % 4096
    let g := n / 64
    let i := n % 64
    let ringer := s.r (pgINTCG g) ((INTCG.SCFG_RINGER).at (0x10 * i))
    (n < 2560 → exec (.doorbell v wr) s = .next (s.accEventOpen 0 pINTC Ev.BAD_VALUE)) ∧
    (2560 ≤ n → ringer ≠ 0 → ringer ≠ wr.toNat → exec (.doorbell v wr) s = .next (s.accEvent 0 pINTC Ev.OWNER_DENY (denyDetail wr 0x100))) ∧
    (2560 ≤ n → ringer = 0 ∨ ringer = wr.toNat → nbit (s.r (pgINTCG g) INTCG.DB_PEND) i = false →
      exec (.doorbell v wr) s = .next (s.w (pgINTCG g) INTCG.DB_PEND (s.r (pgINTCG g) INTCG.DB_PEND ||| 2 ^ i))) ∧
    (2560 ≤ n → ringer = 0 ∨ ringer = wr.toNat → nbit (s.r (pgINTCG g) INTCG.DB_PEND) i = true →
      exec (.doorbell v wr) s = .next (s.w (pgINTCG g) INTCG.DB_MERGED (s.r (pgINTCG g) INTCG.DB_MERGED + 1)))) ∧
  (∀ (s : State) (g i since ran : Nat), s.mainUp = true → g < 64 → i < 64 →
    let u := s.scanSources.levelSettleAll
    let p := pgINTCG g
    let prio := u.r p (INTCG.SCFG_PRIO.at (0x10 * i))
    (u.fc < (u.group g).slotFc → exec (.interruptDelivery g) s = .next u) ∧
    (u.r pINTC INTC.SERVICE = 0 → u.fc < (u.group g).freeFc → exec (.interruptDelivery g) s = .next u) ∧
    (u.r pINTC INTC.SERVICE = 0 → (u.group g).freeFc ≤ u.fc → (u.group g).waiting = [] → (u.group g).promoted = [] →
      exec (.interruptDelivery g) s = .next u) ∧
    (u.r pINTC INTC.SERVICE = 0 → (u.group g).slotFc ≤ u.fc → (u.group g).freeFc ≤ u.fc → (u.group g).waiting = [(i, since, ran)] → (u.group g).promoted = [] →
      u.r p (INTCG.SCFG_PATIENCE.at (0x10 * i)) = 0 → prio ≠ 0 →
      (u.r p (INTCG.SCFG_HOST.at (0x10 * i)) = 1 →
        let v := u.r p (INTCG.SCFG_VECTOR.at (0x10 * i))
        ∃ t : State, exec (.interruptDelivery g) s = .next t ∧ (t.group g).waiting = [] ∧
          (t.group g).freeFc = u.fc + u.r p INTCG.GCFG_HOLDOFF * 1782 ∧ (t.group g).slotFc = u.fc + 1 ∧
          t.r p INTCG.DELIVERED = (u.r p INTCG.DELIVERED + 1) % 2 ^ 32 ∧ t.r pINTC INTC.DELIVERIES = (u.r pINTC INTC.DELIVERIES + 1) % 2 ^ 32 ∧
          (40 ≤ g → nbit (t.r p INTCG.DB_PEND) i = false) ∧
          (u.vectorOpen v = true → t.host.sentMsi = u.host.sentMsi ++ [v] ∧ t.host.pba = u.host.pba) ∧
          (u.vectorOpen v = false → t.host.sentMsi = u.host.sentMsi ∧ v ∈ t.host.pba) ∧ t.cores = u.cores ∧
          t.mem = u.mem ∧ t.owners = u.owners ∧ t.locks = u.locks ∧ t.hist = u.hist) ∧
      (∀ c : Nat, c < 64 → u.r p (INTCG.SCFG_HOST.at (0x10 * i)) = 0 → u.r p (INTCG.TARGET.at (0x10 * i)) = 2 ^ c →
        u.coreUp c = true → u.enabled (pgSC c) = true → (u.core c).running = true → u.fenced 0 (pgSC c) = false →
        (u.core c).lockup = false → (u.core c).irq = none → (u.core c).ie = true → (u.core c).rprio < prio →
        ∃ t : State, exec (.interruptDelivery g) s = .next t ∧ (t.group g).waiting = [] ∧
          t.core c = { u.core c with irq := some (64 * g + i, prio) } ∧ (∀ k : Nat, k ≠ c → t.core k = u.core k) ∧
          (t.group g).freeFc = u.fc + u.r p INTCG.GCFG_HOLDOFF * 1782 ∧ t.r p INTCG.DELIVERED = (u.r p INTCG.DELIVERED + 1) % 2 ^ 32 ∧
          t.host = u.host ∧ t.mem = u.mem ∧ t.owners = u.owners ∧ t.locks = u.locks ∧ t.hist = u.hist)) ∧
    (u.r pINTC INTC.SERVICE = 1 → (u.group g).draining = false → (u.group g).window = none →
      (u.group g).waiting.length < u.r p INTCG.GCFG_COAL_COUNT → exec (.interruptDelivery g) s = .next u)) ∧
  (∀ (s : State) (g i since ran : Nat), s.mainUp = true → g < 64 → i < 64 → s.r pINTC INTC.SERVICE = 0 →
    let u := s.advanceFc (s.group g).freeFc
    let x := u.group g
    let p := u.r (pgINTCG g) (INTCG.SCFG_PATIENCE.at (0x10 * i))
    (x.waiting = [] → exec (.holdoffEnd g) s = .next u) ∧
    (x.waiting = [(i, since, ran)] → x.promoted = [] → p ≠ 0 → p * 1782 < ran + (min u.fc x.freeFc - max since x.timerFc) →
      exec (.holdoffEnd g) s = .next ((u.setGroup g { x with promoted := [i] }).w (pgINTCG g) INTCG.PROMOTED
        (u.r (pgINTCG g) INTCG.PROMOTED + 1)))) ∧
  (∀ (s : State) (g t : Nat), s.mainUp = true → g < 64 → s.r pINTC INTC.SERVICE = 1 → (s.group g).window = some t →
    let u := s.advanceFc (t + s.r (pgINTCG g) INTCG.COAL_TIME * 1782)
    exec (.coalWindowEnd g) s = .next (u.setGroup g { u.group g with draining := true }))

/-- A compare channel's match, its catch-up, and the end of a calibration window (16_interrupts_drover_timebase R438, R440, R441). -/
def Obligations.CompareChannelsMatchAndTheTimeBaseCalibrates : Prop :=
  (∀ (s : State) (n : Nat), n < 64 → s.mainUp = true → s.pdOn 48 = true →
    let f := fun (x : Fld) => x.at (0x20 * n)
    s.r pTIMEBASE (f TIMEBASE.CMP_CTRL_EN) = 1 → s.r pTIMEBASE (f TIMEBASE.CMP_STATUS_CATCHING) = 0 →
    let c := s.r pTIMEBASE (f TIMEBASE.CMP_COMPARE)
    let i := s.r pTIMEBASE (f TIMEBASE.CMP_INTERVAL)
    let u := s.advanceTb c
    c ≤ u.tb.toNat → ∃ t : State, exec (.compareMatch n) s = .next t ∧ t.r pTIMEBASE (f TIMEBASE.CMP_STATUS_MATCH) = 1 ∧
      (c < u.tb.toNat → t.r pTIMEBASE (f TIMEBASE.CMP_STATUS_LATE) = 1) ∧
      (c = u.tb.toNat → t.r pTIMEBASE (f TIMEBASE.CMP_STATUS_LATE) = s.r pTIMEBASE (f TIMEBASE.CMP_STATUS_LATE)) ∧
      (i = 0 → t.r pTIMEBASE (f TIMEBASE.CMP_CTRL_EN) = 0 ∧ t.r pTIMEBASE (f TIMEBASE.CMP_COMPARE) = c) ∧
      (i ≠ 0 → t.r pTIMEBASE (f TIMEBASE.CMP_CTRL_EN) = 1 ∧ t.r pTIMEBASE (f TIMEBASE.CMP_COMPARE) = (c + i) % 2 ^ 64 ∧
        t.r pTIMEBASE (f TIMEBASE.CMP_STATUS_CATCHING) = b2n (decide ((c + i) % 2 ^ 64 ≤ u.tb.toNat))) ∧
      t.tb = u.tb ∧ t.fc = u.fc ∧ t.mem = s.mem ∧ t.owners = s.owners ∧ t.locks = s.locks ∧ t.hist = s.hist ∧ OtherPages s t pTIMEBASE) ∧
  (∀ (s : State) (n : Nat), n < 64 → s.mainUp = true → s.pdOn 48 = true →
    let f := fun (x : Fld) => x.at (0x20 * n)
    (s.r pTIMEBASE (f TIMEBASE.CMP_STATUS_CATCHING) = 1 →
      let u := s.advanceFc (s.fc + 1)
      let c := (s.r pTIMEBASE (f TIMEBASE.CMP_COMPARE) + s.r pTIMEBASE (f TIMEBASE.CMP_INTERVAL)) % 2 ^ 64
      ∃ t : State, exec (.catchUp n) s = .next t ∧ t.r pTIMEBASE (f TIMEBASE.CMP_COMPARE) = c ∧
        t.r pTIMEBASE (f TIMEBASE.CMP_STATUS_MISSED) = min 255 (s.r pTIMEBASE (f TIMEBASE.CMP_STATUS_MISSED) + 1) ∧
        t.r pTIMEBASE (f TIMEBASE.CMP_STATUS_CATCHING) = b2n (decide (c ≤ u.tb.toNat)) ∧ t.fc = s.fc + 1 ∧ t.tb = u.tb ∧
        t.mem = s.mem ∧ t.owners = s.owners ∧ t.locks = s.locks ∧ t.hist = s.hist ∧ OtherPages s t pTIMEBASE) ∧
    (s.r pTIMEBASE (f TIMEBASE.CMP_STATUS_CATCHING) = 0 → exec (.catchUp n) s = .next s)) ∧
  (∀ (s : State) (count : Nat), s.mainUp = true → s.pdOn 48 = true →
    let u := s.w pTIMEBASE TIMEBASE.CAL_COUNT count
    (s.r pCLOCKS CLOCKS.STATUS_HOLDOVER = 0 → 26986500 ≤ count → count ≤ 27013500 → exec (.calWindowEnd count) s =
      .next (((u.w pTIMEBASE TIMEBASE.RATIO (count * 720896)).w pCLOCKS CLOCKS.STATUS_SLOW_OK 1).w pTIMEBASE (INT_PEND_BIT 0) 1)) ∧
    (s.r pCLOCKS CLOCKS.STATUS_HOLDOVER = 1 ∨ count < 26986500 ∨ 27013500 < count →
      exec (.calWindowEnd count) s = .next (u.w pTIMEBASE (INT_PEND_BIT 1) 1)))

/-- GO and its refusals, STOP, the beats of one channel, a collided write, DONE (16_interrupts_drover_timebase R429, R430, R431, R432, R433, R434, R435). -/
def Obligations.DroverChannelsGoMoveAndStop : Prop :=
  (∀ (s : State) (n : Nat) (wr : Code), n < 32 → Admits s 0 (pgDV n) 0x140 4 wr →
    (s.r (pgDV n) DV.STATE ≠ 1 → s.dvRefusal n = none →
      exec (.dvGo n wr) s = .next (((s.setDv n { servedFc := s.fc }).w (pgDV n) DV.STATE 1).w (pgDV n) DV.REMAIN
        (s.r (pgDV n) DV.ELEM * s.r (pgDV n) (DV.C.at 0) * s.r (pgDV n) (DV.C.at 4) * s.r (pgDV n) (DV.C.at 8)))) ∧
    (∀ code : Nat, s.r (pgDV n) DV.STATE ≠ 1 → s.dvRefusal n = some code → ∃ t : State, exec (.dvGo n wr) s = .next t ∧
      t.r (pgDV n) DV.STATE = 3 ∧ t.r (pgDV n) DV.FAULT_INFO = code ∧ t.r (pgDV n) DV.STATUS_FAULT = 1 ∧
      t.r (pgDV n) (INT_PEND_BIT 1) = 1 ∧ (t.dvst n).staging = [] ∧ t.mem = s.mem ∧ t.owners = s.owners ∧ t.locks = s.locks) ∧
    (s.r (pgDV n) DV.STATE = 1 → exec (.dvGo n wr) s = .next (s.accEventOpen 0 (pgDV n) Ev.BAD_STATE)) ∧
    (s.r (pgDV n) DV.STATE = 1 → exec (.dvStop n wr) s = .next ((s.setDv n { s.dvst n with
      staging := []
      starved := false
      moved := 0 }).w (pgDV n) DV.STATE 4)) ∧
    (s.r (pgDV n) DV.STATE ≠ 1 → exec (.dvStop n wr) s = .next s)) ∧
  (∀ (s : State) (n : Nat), n < 32 → s.r (pgDV n) DV.CFG_SSPACE = 0 → s.r (pgDV n) DV.CFG_DSPACE = 0 →
    (s.r (pgDV n) DV.ELEM = 0 ∨ s.r (pgDV n) (DV.C.at 0) = 0 ∨ s.r (pgDV n) (DV.C.at 4) = 0 ∨ s.r (pgDV n) (DV.C.at 8) = 0 →
      s.dvRefusal n = some 2) ∧
    (s.r (pgDV n) DV.ELEM ≠ 0 → s.r (pgDV n) (DV.C.at 0) = 1 → s.r (pgDV n) (DV.C.at 4) = 1 → s.r (pgDV n) (DV.C.at 8) = 1 →
      let e := s.r (pgDV n) DV.ELEM
      let a := s.r (pgDV n) DV.SRC
      let b := s.r (pgDV n) DV.DST
      s.dvRefusal n = if a < b + e ∧ b < a + e then some 4 else none)) ∧
  (∀ s : State, s.domainOn 0 pDROVER = true → (∀ k : Nat, k < 32 → s.r (pgDV k) DV.STATE ≠ 1) →
    exec (.droverBeat false false) s = .next s) ∧
  (∀ (s : State) (n : Nat), n < 32 → s.domainOn 0 pDROVER = true → s.active pDROVER = true → s.fenced 0 (pgDV n) = false →
    s.r (pgDV n) DV.STATE = 1 → (∀ k : Nat, k < 32 → k ≠ n → s.r (pgDV k) DV.STATE ≠ 1) →
    s.r (pgDV n) (DV.C.at 0) = 1 → s.r (pgDV n) (DV.C.at 4) = 1 → s.r (pgDV n) (DV.C.at 8) = 1 → s.r (pgDV n) DV.CFG_SSPACE = 0 →
    let e := s.r (pgDV n) DV.ELEM
    let a := s.r (pgDV n) DV.SRC
    let b := s.r (pgDV n) DV.DST
    let x := s.dvst n
    (s.fc < s.dvNext → exec (.droverBeat false false) s = .next s) ∧
    (s.dvNext ≤ s.fc → e ≠ 0 → s.r (pgDV n) DV.REMAIN = e → a % 64 + e ≤ 64 → b % 64 + e ≤ 64 → s.host.tracked = [] →
    (x.readPos = 0 → x.staging = [] →
      (s.canRead .drover a e = true →
        (∃ t : State, exec (.droverBeat false false) s = .next t ∧ (t.dvst n).staging = memRead s.mem a e ∧ (t.dvst n).readPos = e ∧
          (t.dvst n).writePos = x.writePos ∧ t.r pDROVER DROVER.BEATS = (s.r pDROVER DROVER.BEATS + 1) % 2 ^ 32 ∧ t.dvLast = n ∧
          t.r (pgDV n) DV.REMAIN = e ∧ t.mem = s.mem ∧ t.pad = s.pad ∧ t.owners = s.owners ∧ t.locks = s.locks ∧ t.hist = s.hist) ∧
        (∃ t : State, exec (.droverBeat true false) s = .next t ∧ t.r (pgDV n) DV.STATE = 3 ∧ t.r (pgDV n) DV.FAULT_INFO = 7 ∧
          t.r (pgDV n) DV.FAULT_ADDR = a ∧ t.mem = s.mem ∧ t.owners = s.owners ∧ t.locks = s.locks)) ∧
      (s.canRead .drover a e = false → ∃ t : State, exec (.droverBeat false false) s = .next t ∧ t.r (pgDV n) DV.STATE = 3 ∧
        t.r (pgDV n) DV.FAULT_INFO = 6 ∧ t.r (pgDV n) DV.FAULT_ADDR = a ∧ t.mem = s.mem ∧ t.owners = s.owners ∧ t.locks = s.locks)) ∧
    (x.readPos = e → x.writePos = 0 → x.staging.length = e →
      (s.r (pgDV n) DV.CFG_DSPACE = 0 → s.canWrite .drover b e = true → ∃ t : State, exec (.droverBeat false false) s = .next t ∧
        t.mem = memWrite s.mem b x.staging ∧ (t.dvst n).staging = [] ∧ (t.dvst n).writePos = e ∧ t.r (pgDV n) DV.REMAIN = 0 ∧
        t.r (pgDV n) DV.STATE = 1 ∧ t.pad = s.pad ∧ t.owners = s.owners ∧ t.locks = s.locks ∧ t.hist = s.hist) ∧
      (s.r (pgDV n) DV.CFG_DSPACE = 1 → b < 2 ^ 23 → s.padUp (b / 2 ^ 20) = true → ∃ t : State, exec (.droverBeat false true) s = .next t ∧
        t.pad = s.pad ∧ t.mem = s.mem ∧ t.r (pgDV n) DV.COLLISIONS = (s.r (pgDV n) DV.COLLISIONS + 1) % 2 ^ 32 ∧
        t.r (pgDV n) DV.STATUS_COLLIDED = 1 ∧ t.r (pgDV n) DV.REMAIN = 0 ∧ (t.dvst n).writePos = e ∧
        t.r (pgPK (b / 2 ^ 20)) PK.COLLISIONS = (s.r (pgPK (b / 2 ^ 20)) PK.COLLISIONS + 1) % 2 ^ 32 ∧
        t.owners = s.owners ∧ t.locks = s.locks)))) ∧
  (∀ (s : State) (n : Nat), UnitUp s 0 (pgDV n) .kDV n →
    (s.r (pgDV n) DV.STATE = 1 → s.r (pgDV n) DV.REMAIN = 0 →
      exec (.dvDone n) s = .next ((s.w (pgDV n) DV.STATE 2).w (pgDV n) (INT_PEND_BIT 0) 1)) ∧
    (s.r (pgDV n) DV.STATE ≠ 1 ∨ s.r (pgDV n) DV.REMAIN ≠ 0 → exec (.dvDone n) s = .next s))

/-- Link up, reset and integrity failure, configuration, HDM commit, vectors, and the relay rings (17_host_attachment R444, R447, R449, R450, R452, R455, R456, R457, R458, R459, R460, R461). -/
def Obligations.TheHostAttachesAndItsRingsRelay : Prop :=
  (∀ (s : State) (rate width : Nat) (flit mem io cm : Bool), s.mainUp = true → s.phase ≠ .held → s.phase ≠ .tripped →
    1 ≤ rate → rate ≤ 3 → 1 ≤ width → width ≤ 3 →
    let cap := if s.straps.toNat / 4 % 4 = 0 then 3 else if s.straps.toNat / 4 % 4 = 1 then 2 else 1
    ∃ t : State, exec (.cxlLinkUp rate width flit mem io cm) s = .next t ∧ t.r pHOST HOST.LINK_STAT_RATE = min rate cap ∧
      t.r pHOST HOST.LINK_STAT_WIDTH = width ∧ t.r pHOST HOST.LINK_STAT_FLIT256 = b2n (flit || min rate cap == 3) ∧
      t.r pHOST HOST.LINK_STAT_CACHE = b2n mem ∧ t.r pHOST HOST.LINK_STAT_MEM = b2n mem ∧ t.r pHOST HOST.LINK_STAT_IDE_IO = b2n io ∧
      t.r pHOST HOST.LINK_STAT_IDE_CM = b2n (cm && mem) ∧ t.r pHOST HOST.STATUS_CXL_UP = b2n mem ∧ t.r pHOST (INT_PEND_BIT 2) = 1 ∧
      t.host = { s.host with wake := false } ∧ OtherPages s t pHOST ∧ t.mem = s.mem ∧ t.owners = s.owners ∧ t.locks = s.locks ∧
      t.hist = s.hist) ∧
  (∀ s : State, s.mainUp = true → s.r pHOST HOST.LINK_STAT_RATE ≠ 0 →
    (∃ t : State, exec .cxlReset s = .next t ∧ t.r pHOST HOST.LINK_STAT = 0 ∧ t.r pHOST HOST.HDM_BASE = 0 ∧ t.r pHOST HOST.BISNP = 0 ∧
      t.r pHOST HOST.STATUS_CXL_UP = 0 ∧ t.r pHOST HOST.STATUS_HDM_ON = 0 ∧ t.r pHOST HOST.STATUS_LINK_DOWN = 1 ∧
      (∀ n : Nat, n < 8 → t.r pHOST (HOST.IR_CFG.at (0x20 * n)) = wfld (resetVal 0 pHOST (0x208 + 0x20 * n)) 0 32 ∧
        t.r pHOST (HOST.OR_CFG.at (0x20 * n)) = wfld (resetVal 0 pHOST (0x308 + 0x20 * n)) 0 32) ∧
      t.r pHOST HOST.RTX_CFG = s.r pHOST HOST.RTX_CFG ∧ t.r pHOST HOST.RTX_HEAD = s.r pHOST HOST.RTX_HEAD ∧
      t.r pHOST HOST.RTX_TAIL = s.r pHOST HOST.RTX_TAIL ∧ t.host = { s.host with
        committed := false
        decSize := 0
        commitErr := false
        tracked := []
        open_ := []
        pba := []
        msix := []
        bars := []
        cfg := []
        cacheEn := false } ∧ OtherPages s t pHOST ∧ t.mem = s.mem ∧ t.hostMem = s.hostMem ∧ t.owners = s.owners ∧ t.locks = s.locks ∧
      t.hist = s.hist) ∧
    (∃ t : State, exec .ideFault s = .next t ∧ t.r pHOST HOST.LINK_STAT = 0 ∧ t.r pHOST HOST.STATUS_IDE_FAULT = 1 ∧
      t.r pHOST HOST.STATUS_LINK_DOWN = 1 ∧ t.host.committed = false ∧ t.mem = s.mem ∧ t.owners = s.owners ∧ t.locks = s.locks)) ∧
  (∀ (s : State) (f : Nat) (r : CfgReg) (d : Option (BitVec 32)), s.mainUp = false →
    exec (.configRequest f r d) s = .next { s with resp := .retry }) ∧
  (∀ (s : State) (f : Nat) (r : CfgReg), s.mainUp = true → ∃ t : State, exec (.configRequest f r none) s = .next t ∧
    t.resp = .data (s.cfgRead f r) ∧ t.host = s.host ∧ t.regs = s.regs ∧ t.mem = s.mem ∧ t.owners = s.owners ∧ t.hist = s.hist) ∧
  (∀ (s : State) (f i : Nat) (x : BitVec 32), s.mainUp = true → f < 2 → i < 6 →
    ∃ t : State, exec (.configRequest f (.bar i) (some x)) s = .next t ∧ t.resp = .none ∧
      t.cfgRead f (.bar i) = leBytes 4 ((x.toNat &&& (barMask f i).1) + (barMask f i).2) ∧
      (∀ g j : Nat, g < 2 → j < 6 → g ≠ f ∨ j ≠ i → t.cfgRead g (.bar j) = s.cfgRead g (.bar j)) ∧
      t.regs = s.regs ∧ t.mem = s.mem ∧ t.owners = s.owners ∧ t.hist = s.hist) ∧
  (∀ (s : State) (f : Nat) (x : BitVec 32), s.mainUp = true → f < 2 →
    (∃ t : State, exec (.configRequest f .msix (some x)) s = .next t ∧
      t.cfgRead f .msix = leBytes 4 ((x.toNat &&& 0xC000) + (if f = 0 then 1791 else 255)) ∧
      t.host.pba = s.host.pba.filter (fun v => !t.vectorOpen v) ∧ t.host.sentMsi = s.host.sentMsi ++ s.host.pba.filter t.vectorOpen ∧
      t.regs = s.regs ∧ t.mem = s.mem) ∧
    (∃ t : State, exec (.configRequest f .command (some x)) s = .next t ∧ t.cfgRead f .command = leBytes 4 (x.toNat &&& 6) ∧
      t.host.pba = s.host.pba.filter (fun v => !t.vectorOpen v) ∧ t.host.sentMsi = s.host.sentMsi ++ s.host.pba.filter t.vectorOpen ∧
      t.regs = s.regs ∧ t.mem = s.mem)) ∧
  (∀ (s : State) (base : BitVec 64) (size : Nat), s.mainUp = true → s.r pHOST HOST.LINK_STAT_RATE ≠ 0 → size % 0x10000000 = 0 →
    let room := (s.r pPARTITIONS PARTITIONS.PART_SIZE + s.r pPARTITIONS PARTITIONS.HIST_WIN_SIZE) * 2 ^ 30
    (s.host.memActive = true → size ≤ room → exec (.hdmCommit base size) s =
      .next (({ s with host := { s.host with
        committed := true
        commitErr := false
        decSize := size
        tracked := [] } }.w pHOST HOST.HDM_BASE base.toNat).w pHOST HOST.STATUS_HDM_ON (b2n (s.devState == stRUNNING)))) ∧
    (s.host.memActive = false ∨ room < size →
      exec (.hdmCommit base size) s = .next { s with host := { s.host with commitErr := true } })) ∧
  (∀ (s : State) (v : Nat), s.mainUp = true → v < 2048 → (∀ x ∈ s.host.pba, s.vectorOpen x = false) →
    (v ∈ s.host.open_ → exec (.vectorUnmask v) s = .next s) ∧
    (v ∉ s.host.open_ → v ∉ s.host.pba → exec (.vectorUnmask v) s = .next { s with host := { s.host with open_ := s.host.open_ ++ [v] } }) ∧
    (v ∉ s.host.open_ → s.host.pba.filter (fun x => x == v) = [v] →
      (({ s with host := { s.host with open_ := s.host.open_ ++ [v] } } : State).vectorOpen v) = true → exec (.vectorUnmask v) s = .next { s with host := { s.host with
      open_ := s.host.open_ ++ [v]
      pba := s.host.pba.filter (fun x => x != v)
      sentMsi := s.host.sentMsi ++ [v] } })) ∧
  (∀ (s : State) (n : Nat) (v : BitVec 32) (wr : Code), n < 8 →
    (Admits s 0 pHOST (0x20C + 0x20 * n) 4 wr →
      let d := (v.toNat % 65536 + 65536 - s.r pHOST (HOST.IR_TAIL.at (0x20 * n))) % 65536
      let size := 2 ^ s.r pHOST (HOST.IR_CFG_SIZE.at (0x20 * n))
      (d ≤ size → exec (.irHeadWrite n v wr) s = .next (s.plain (wr32 0 pHOST (0x20C + 0x20 * n) v wr)).1) ∧
      (size < d → exec (.irHeadWrite n v wr) s = .next (s.accEventOpen 0 pHOST Ev.BAD_VALUE))) ∧
    (Admits s 0 pHOST (0x310 + 0x20 * n) 4 wr →
      let tail := s.r pHOST (HOST.OR_TAIL.at (0x20 * n))
      let d := (v.toNat % 65536 + 65536 - tail) % 65536
      let used := (s.r pHOST (HOST.OR_HEAD.at (0x20 * n)) + 65536 - tail) % 65536
      (d ≤ used → exec (.orTailWrite n v wr) s = .next (s.plain (wr32 0 pHOST (0x310 + 0x20 * n) v wr)).1) ∧
      (used < d → exec (.orTailWrite n v wr) s = .next (s.accEventOpen 0 pHOST Ev.BAD_VALUE))) ∧
    (Admits s 0 pHOST 0x40C 4 wr →
      let d := (v.toNat % 65536 + 65536 - s.r pHOST HOST.RTX_TAIL) % 65536
      (d ≤ 2 ^ s.r pHOST HOST.RTX_DESC_COUNT → exec (.rtxHeadWrite v wr) s = .next (s.plain (wr32 0 pHOST 0x40C v wr)).1) ∧
      (2 ^ s.r pHOST HOST.RTX_DESC_COUNT < d → exec (.rtxHeadWrite v wr) s = .next (s.accEventOpen 0 pHOST Ev.BAD_VALUE)))) ∧
  (∀ (s : State) (n : Nat) (l : RelayLine), n < 8 → s.mainUp = true → s.pdOn 49 = true → s.fenced 0 pHOST = false → s.active pFIELD = true →
    s.r pHOST (HOST.IR_CFG_EN.at (0x20 * n)) = 1 →
    let f := fun (x : Fld) => x.at (0x20 * n)
    s.r pHOST (f HOST.IR_HEAD) ≠ s.r pHOST (f HOST.IR_TAIL) → s.r pHOST (f HOST.IR_TAIL_ADDR) = 0 →
    let next := (s.r pHOST (f HOST.IR_TAIL) + 1) % 65536
    (∃ t : State, exec (.relayInboundFrame n [l] true) s = .next t ∧ t.r pHOST (f HOST.IR_CFG_EN) = 0 ∧
      t.r pHOST HOST.STATUS_RELAY_FAULT = 1 ∧ t.r pHOST (INT_PEND_BIT 1) = 1 ∧ t.r pHOST (f HOST.IR_TAIL) = s.r pHOST (f HOST.IR_TAIL) ∧
      t.mem = s.mem ∧ t.pad = s.pad ∧ t.owners = s.owners ∧ t.locks = s.locks) ∧
    (s.cacheUp = true → fieldLE l 2 2 = 3 → 1 ≤ fieldLE l 4 1 → fieldLE l 4 1 ≤ 56 → fieldLE l 5 3 = 0 →
      s.chanValid (fieldLE l 0 2) = false →
      ∃ t : State, exec (.relayInboundFrame n [l] false) s = .next t ∧ t.r pHOST (f HOST.IR_TAIL) = next ∧
        t.r pHOST HOST.IN_FRAMES = (s.r pHOST HOST.IN_FRAMES + 1) % 2 ^ 32 ∧ t.r pHOST HOST.BROKEN = s.r pHOST HOST.BROKEN ∧
        t.mem = s.mem ∧ t.pad = s.pad ∧ t.hostMem = s.hostMem ∧ t.owners = s.owners ∧ t.locks = s.locks) ∧
    (s.cacheUp = true → fieldLE l 4 1 = 0 →
      ∃ t : State, exec (.relayInboundFrame n [l] false) s = .next t ∧ t.r pHOST (f HOST.IR_TAIL) = next ∧
        t.r pHOST HOST.BROKEN = (s.r pHOST HOST.BROKEN + 1) % 2 ^ 32 ∧ t.r pHOST HOST.IN_FRAMES = s.r pHOST HOST.IN_FRAMES ∧
        t.mem = s.mem ∧ t.pad = s.pad ∧ t.hostMem = s.hostMem ∧ t.owners = s.owners ∧ t.locks = s.locks)) ∧
  (∀ (s : State) (o : Nat), o < 8 → s.mainUp = true → s.pdOn 49 = true → s.fenced 0 pHOST = false → s.active pFIELD = true →
    s.cacheUp = true → sget [] s.host.orQ o = [] →
    let f := fun (x : Fld) => x.at (0x20 * o)
    let cl := s.r pHOST HOST.RTX_CFG_CLUSTER
    let d := s.padRead cl (s.r pHOST HOST.RTX_DESC_BASE + 16 * (s.r pHOST HOST.RTX_TAIL % 2 ^ s.r pHOST HOST.RTX_DESC_COUNT)) 16
    let k := fieldLE d 6 2 / 16
    s.r pHOST (f HOST.OR_CFG_EN) = 1 → s.r pHOST (f HOST.OR_CFG_INT) = 0 → s.r pHOST (f HOST.OR_HEAD_ADDR) = 0 →
    s.r pHOST HOST.RTX_CFG_EN = 1 → s.r pHOST HOST.RTX_HEAD ≠ s.r pHOST HOST.RTX_TAIL → s.padUp cl = true → s.chanValid k = true →
    1 ≤ fieldLE d 4 2 → fieldLE d 4 2 ≤ 4096 → fieldLE d 8 8 = 0 → k / 512 = o → nbit (fieldLE d 6 2) 0 = false →
    let bytes := s.padRingRead cl (s.r pHOST HOST.RTX_DATA_BASE) (2 ^ s.r pHOST HOST.RTX_DATA_SIZE) (fieldLE d 0 4) (fieldLE d 4 2)
    let u := s.relayBuild k false bytes
    let head := s.r pHOST (f HOST.OR_HEAD)
    let used := (head + 65536 - s.r pHOST (f HOST.OR_TAIL)) % 65536
    let size := 2 ^ s.r pHOST (f HOST.OR_CFG_SIZE)
    (1 ≤ u.2.1.length → u.2.1.length ≤ 56 → used + 1 ≤ size → exec (.relayOutboundFrame o false) s =
      .next ((((u.1.hostWrite (s.r pHOST (f HOST.OR_BASE) + 64 * (head % size))
        (leBytes 2 k ++ leBytes 2 3 ++ leBytes 1 u.2.1.length ++ leBytes 3 0 ++ u.2.1 ++ List.replicate (56 - u.2.1.length) 0)).w
        pHOST (f HOST.OR_HEAD) ((head + 1) % 65536)).inc pHOST HOST.OUT_FRAMES).inc pHOST HOST.RTX_TAIL)) ∧
    (used + (u.2.1.length + 55) / 56 > size → exec (.relayOutboundFrame o false) s = .next s) ∧
    exec (.relayOutboundFrame o true) s = .next s)

/-- Pin configuration, GPIO banks, bank supplies, I2C and SPI transfers (19_package_pins_electrical R482, R484, R487, R489, R490, R491). -/
def Obligations.PinsAreConfiguredDrivenAndTalkSerial : Prop :=
  (∀ (s : State) (k : Nat) (v : BitVec 32) (wr : Code), k < 128 → Admits s 0 pPINS (0x100 + 4 * k) 4 wr →
    s.r pPINS (PINS.MP_CFG_OWNER.at (4 * k)) = wr.toNat →
    (v.getLsbD 0 = true → 96 ≤ k ∧ k < 112 ∨ 124 ≤ k → exec (.pinCfgWrite k v wr) s = .next (s.accEventOpen 0 pPINS Ev.BAD_VALUE)) ∧
    (v.getLsbD 0 = false ∨ k < 96 ∨ 112 ≤ k ∧ k < 124 → v.toNat / 2 ^ 24 = wr.toNat →
      exec (.pinCfgWrite k v wr) s = .next ((s.plain (wr32 0 pPINS (0x100 + 4 * k) v wr)).1.pinConflicts s))) ∧
  (∀ (s : State) (b : Nat) (v : BitVec 32) (wr : Code), b < 4 →
    let out := PINS.GPIO_OUT.at (0x20 * b)
    let oe := PINS.GPIO_OE.at (0x20 * b)
    let old := BitVec.ofNat 32 (s.r pPINS out)
    ((∀ j : Nat, j < 32 → s.r pPINS (PINS.MP_CFG_OWNER.at (4 * (32 * b + j))) = wr.toNat) →
      (Admits s 0 pPINS (0x300 + 0x20 * b) 4 wr → exec (.gpioOutWrite b false v wr) s = .next (s.w pPINS out v.toNat)) ∧
      (Admits s 0 pPINS (0x310 + 0x20 * b) 4 wr → exec (.gpioOutWrite b true v wr) s = .next (s.w pPINS oe v.toNat)) ∧
      (Admits s 0 pPINS (0x304 + 0x20 * b) 4 wr → exec (.gpioSet b v wr) s = .next (s.w pPINS out (old ||| v).toNat)) ∧
      (Admits s 0 pPINS (0x308 + 0x20 * b) 4 wr → exec (.gpioClr b v wr) s = .next (s.w pPINS out (old &&& ~~~v).toNat)) ∧
      (Admits s 0 pPINS (0x30C + 0x20 * b) 4 wr → exec (.gpioTog b v wr) s = .next (s.w pPINS out (old ^^^ v).toNat))) ∧
    ((∀ j : Nat, j < 32 → s.r pPINS (PINS.MP_CFG_OWNER.at (4 * (32 * b + j))) ≠ 0 ∧
        s.r pPINS (PINS.MP_CFG_OWNER.at (4 * (32 * b + j))) ≠ wr.toNat) → wr ≠ 0x02 →
      let u := fun (rel : Nat) => s.accEvent 0 pPINS Ev.OWNER_DENY (mkDetail [(wr.toNat, 0), (0x300 + rel + 0x20 * b, 8), (32 * b, 20)])
      (v.getLsbD 0 ≠ old.getLsbD 0 → Admits s 0 pPINS (0x300 + 0x20 * b) 4 wr →
        exec (.gpioOutWrite b false v wr) s = .next ((u 0).w pPINS out ((u 0).r pPINS out))) ∧
      (v.getLsbD 0 ≠ (BitVec.ofNat 32 (s.r pPINS oe)).getLsbD 0 → Admits s 0 pPINS (0x310 + 0x20 * b) 4 wr →
        exec (.gpioOutWrite b true v wr) s = .next ((u 0x10).w pPINS oe ((u 0x10).r pPINS oe))) ∧
      (v.getLsbD 0 = true → Admits s 0 pPINS (0x304 + 0x20 * b) 4 wr →
        exec (.gpioSet b v wr) s = .next ((u 4).w pPINS out ((u 4).r pPINS out))) ∧
      (v.getLsbD 0 = true → Admits s 0 pPINS (0x308 + 0x20 * b) 4 wr →
        exec (.gpioClr b v wr) s = .next ((u 8).w pPINS out ((u 8).r pPINS out))) ∧
      (v.getLsbD 0 = true → Admits s 0 pPINS (0x30C + 0x20 * b) 4 wr →
        exec (.gpioTog b v wr) s = .next ((u 0xC).w pPINS out ((u 0xC).r pPINS out))))) ∧
  (∀ (s : State) (b : Nat) (v : BitVec 2), b < 4 → s.mainUp = true → v ≠ 3 →
    (s.bankV b = v.toNat → exec (.bankChange b v) s = .next s) ∧
    (s.bankV b ≠ v.toNat → ∃ t : State, exec (.bankChange b v) s = .next t ∧ t.bankV b = v.toNat ∧
      (∀ c : Nat, c ≠ b → t.bankV c = s.bankV c) ∧ t.r pPINS PINS.STATUS_BANK_CHANGE = 1 ∧ t.r pPINS (INT_PEND_BIT 3) = 1 ∧
      (v = 0 → t.r pPINS PINS.CONFLICT = s.r pPINS PINS.CONFLICT) ∧
      OtherPages s t pPINS ∧ t.mem = s.mem ∧ t.owners = s.owners ∧ t.locks = s.locks ∧ t.hist = s.hist)) ∧
  (∀ (s : State) (q : Nat) (v : BitVec 32) (wr : Code), v.getLsbD 31 = true →
    (q < 4 → Admits s 0 pPINS (0x404 + 0x20 * q) 4 wr → s.r pPINS (PINS.I2C_CFG_EN.at (0x20 * q)) = 1 →
      (s.r pPINS (PINS.I2C_STAT_BUSY.at (0x20 * q)) = 0 → exec (.i2cGo q v wr) s =
        .next ((s.plain (wr32 0 pPINS (0x404 + 0x20 * q) v wr)).1.w pPINS (PINS.I2C_STAT.at (0x20 * q)) 1)) ∧
      (s.r pPINS (PINS.I2C_STAT_BUSY.at (0x20 * q)) = 1 → exec (.i2cGo q v wr) s = .next (s.accEventOpen 0 pPINS Ev.BAD_STATE))) ∧
    (q < 2 → Admits s 0 pPINS (0x504 + 0x20 * q) 4 wr → s.r pPINS (PINS.SPI_CFG_EN.at (0x20 * q)) = 1 →
      (s.r pPINS (PINS.SPI_STAT.at (0x20 * q)) = 0 → exec (.spiGo q v wr) s =
        .next ((s.plain (wr32 0 pPINS (0x504 + 0x20 * q) v wr)).1.w pPINS (PINS.SPI_STAT.at (0x20 * q)) 1)) ∧
      (s.r pPINS (PINS.SPI_STAT.at (0x20 * q)) = 1 → exec (.spiGo q v wr) s = .next (s.accEventOpen 0 pPINS Ev.BAD_STATE)))) ∧
  (∀ (s : State) (q : Nat) (d : BitVec 32), q < 4 → s.mainUp = true → s.r pPINS (PINS.I2C_STAT_BUSY.at (0x20 * q)) = 1 →
    let n := 8 * (s.r pPINS (PINS.I2C_CMD_LEN.at (0x20 * q)) + 1)
    let rest := s.pins.i2cOpen.filter (fun x => x != q)
    (s.pinIn (81 + 2 * q) = true → ∃ t : State, exec (.i2cDone q false d) s = .next t ∧ t.r pPINS (PINS.I2C_STAT.at (0x20 * q)) = 0 ∧ t.r pPINS (INT_PEND_BIT 1) = 1 ∧
      t.r pPINS (PINS.I2C_DATA.at (0x20 * q)) = (if s.r pPINS (PINS.I2C_CMD_READ.at (0x20 * q)) = 1
        then s.r pPINS (PINS.I2C_DATA.at (0x20 * q)) / 2 ^ n * 2 ^ n + d.toNat % 2 ^ n else s.r pPINS (PINS.I2C_DATA.at (0x20 * q))) ∧
      t.pins.i2cOpen = (if s.r pPINS (PINS.I2C_CMD_STOP.at (0x20 * q)) = 1 then rest else rest ++ [q]) ∧
      OtherPages s t pPINS ∧ t.mem = s.mem ∧ t.owners = s.owners ∧ t.locks = s.locks ∧ t.hist = s.hist) ∧
    (∀ nack : Bool, nack = true ∨ s.pinIn (81 + 2 * q) = false → ∃ t : State, exec (.i2cDone q nack d) s = .next t ∧ t.r pPINS (PINS.I2C_STAT.at (0x20 * q)) = 2 ∧ t.pins.i2cOpen = rest ∧
      t.r pPINS PINS.STATUS_I2C_ERROR = 1 ∧ t.r pPINS (INT_PEND_BIT 1) = 1 ∧
      t.r pPINS (PINS.I2C_DATA.at (0x20 * q)) = s.r pPINS (PINS.I2C_DATA.at (0x20 * q)) ∧
      OtherPages s t pPINS ∧ t.mem = s.mem ∧ t.owners = s.owners ∧ t.locks = s.locks ∧ t.hist = s.hist) ∧
    (s.pinIn (80 + 2 * q) = false → exec (.i2cTimeout q) s = .next s) ∧
    (s.pinIn (80 + 2 * q) = true → ∃ t : State, exec (.i2cTimeout q) s = .next t ∧ t.r pPINS (PINS.I2C_STAT.at (0x20 * q)) = 4 ∧ t.pins.i2cOpen = rest ∧
      t.r pPINS PINS.STATUS_I2C_ERROR = 1 ∧ t.r pPINS (INT_PEND_BIT 1) = 1 ∧
      OtherPages s t pPINS ∧ t.mem = s.mem ∧ t.owners = s.owners ∧ t.locks = s.locks ∧ t.hist = s.hist)) ∧
  (∀ (s : State) (q : Nat) (d : BitVec 32), q < 2 → s.mainUp = true → s.r pPINS (PINS.SPI_STAT.at (0x20 * q)) = 1 →
    let n := 8 * (s.r pPINS (PINS.SPI_CMD_LEN.at (0x20 * q)) + 1)
    let rest := s.pins.spiHeld.filter (fun x => x != q)
    ∃ t : State, exec (.spiDone q d) s = .next t ∧ t.r pPINS (PINS.SPI_STAT.at (0x20 * q)) = 0 ∧ t.r pPINS (INT_PEND_BIT 2) = 1 ∧
      t.r pPINS (PINS.SPI_RX.at (0x20 * q)) = s.r pPINS (PINS.SPI_RX.at (0x20 * q)) / 2 ^ n * 2 ^ n +
        (if s.pinIn (90 + 4 * q) then d.toNat % 2 ^ n else 0) ∧
      t.pins.spiHeld = (if s.r pPINS (PINS.SPI_CMD_HOLD_CS.at (0x20 * q)) = 1 then rest ++ [q] else rest) ∧
      OtherPages s t pPINS ∧ t.mem = s.mem ∧ t.owners = s.owners ∧ t.locks = s.locks ∧ t.hist = s.hist)

/-- USER records, window and staging writes, flushes, checkpoints and replay (12_journal_and_mirror_pair R315, R316, R317, R318, R319, R320, R321, R322, R323, R324, R326). -/
def Obligations.TheJournalAppendsFlushesCheckpointsAndReplays : Prop :=
  (∀ s : State, s.domainOn 0 pJOURNAL = true → exec .flushWaitExpiry s =
    .next { s with journal := { s.journal with buf := s.journal.buf.map (fun e => { e with
      issued := true
      retry := false }) } }) ∧
  (∀ (s : State) (e : JEntry), s.domainOn 0 pJOURNAL = true → s.journal.buf = [e] → s.journal.waiting = [] → s.journal.user = false →
    let c := 2 ^ s.r pJOURNAL JOURNAL.STAGE_SIZE
    let a := s.r pJOURNAL JOURNAL.STAGE_BASE + e.seq.toNat % c * 64
    let b := s.r pJOURNAL JOURNAL.PW_BASE + e.seq.toNat % 2 ^ s.r pJOURNAL JOURNAL.PW_SIZE * 64
    let f := { s with journal := { s.journal with buf := [{ e with
      issued := false
      retry := true }] } }
    (e.staged = false → e.bytes.length = 64 →
      (s.canWrite .journal a 64 = false →
        exec (.windowWriteDone false true) s = .next ((s.statusBit pJOURNAL 4).event pJOURNAL Ev.PART_DENY (BitVec.ofNat 32 a))) ∧
      (s.canWrite .journal a 64 = true →
        exec (.windowWriteDone false false) s = .next ((s.statusBit pJOURNAL 4).eventOpen pJOURNAL Ev.FETCH_ERROR)) ∧
      (s.canWrite .journal a 64 = true → s.r pJOURNAL JOURNAL.CFG_PW_EN = 0 → ∃ t : State, exec (.windowWriteDone false true) s = .next t ∧
        t.mem = memWrite s.mem a e.bytes ∧ t.journal = { s.journal with buf := [] } ∧
        t.r pJOURNAL JOURNAL.DURABLE_NEXT = (e.seq.toNat + 1) % 2 ^ 64 ∧ t.r pJOURNAL JOURNAL.NEXT_SEQ = s.r pJOURNAL JOURNAL.NEXT_SEQ ∧
        t.hostMem = s.hostMem ∧ t.owners = s.owners ∧ t.locks = s.locks ∧ t.hist = s.hist)) ∧
    (e.issued = true → e.windowed = false → s.r pJOURNAL JOURNAL.CFG_PW_EN = 1 →
      exec (.windowWriteDone true false) s = .next (((f.statusBit pJOURNAL 3).pendInt pJOURNAL 2).perMs Ev.FLUSH_FAULT (fun u => u.eventOpen pJOURNAL Ev.FLUSH_FAULT)) ∧
      (s.cacheUp = false → exec (.windowWriteDone true true) s = exec (.windowWriteDone true false) s) ∧
      (s.cacheUp = true → ∃ t : State, exec (.windowWriteDone true true) s = .next t ∧ t.hostMem = memWrite s.hostMem b e.bytes ∧
        t.journal.buf = (if e.staged then [] else [{ e with windowed := true }]) ∧
        t.r pJOURNAL JOURNAL.DURABLE_NEXT = (e.seq.toNat + 1) % 2 ^ 64 ∧ t.r pJOURNAL JOURNAL.NEXT_SEQ = s.r pJOURNAL JOURNAL.NEXT_SEQ ∧
        t.mem = s.mem ∧ t.owners = s.owners ∧ t.locks = s.locks ∧ t.hist = s.hist)) ∧
    (e.issued = false → exec (.windowWriteDone true true) s = .next s)) ∧
  (∀ s : State, s.mainUp = true → exec .gpfPhase2 s = .next s) ∧
  (∀ s : State, s.mainUp = true → s.mayHandOver = false → s.domainOn 0 pJOURNAL = true →
    let all := fun (t : State) => { t with journal := { t.journal with buf := t.journal.buf.map (fun e => { e with
      issued := true
      retry := false }) } }
    let stopped := all (s.w pJOURNAL JOURNAL.STATUS_GPF 1)
    (s.journal.user = false → exec .gpfPhase1 s = .next (stopped.pendInt pJOURNAL 3)) ∧
    (s.journal.user = true → ∃ t : State, exec .gpfPhase1 s = .next t ∧ t.journal.user = false ∧
      t.r pJOURNAL JOURNAL.USER_CMD_PENDING = 0 ∧ t.r pJOURNAL JOURNAL.STATUS_GPF = 1 ∧
      t.r pJOURNAL JOURNAL.USER_STAT = s.r pJOURNAL JOURNAL.USER_STAT ∧ t.journal.buf = (all s).journal.buf ∧
      t.mem = s.mem ∧ t.owners = s.owners ∧ t.locks = s.locks) ∧
    (s.journal.user = false → s.r pJOURNAL JOURNAL.CFG_PWRFAIL_FLUSH = 1 → exec .pwrfail s = .next stopped) ∧
    (s.r pJOURNAL JOURNAL.CFG_PWRFAIL_FLUSH = 0 → exec .pwrfail s = .next s)) ∧
  (∀ (s : State) (v : BitVec 32) (wr : Code), Admits s 0 pJOURNAL 0x320 4 wr →
    let ok := s.appendRole && !s.journal.user && s.enabled pJOURNAL && !s.fenced 0 pJOURNAL && !s.b pJOURNAL JOURNAL.STATUS_GPF
    let u := (s.plain (wr32 0 pJOURNAL 0x320 v wr)).1
    let q := s.r pJOURNAL JOURNAL.NEXT_SEQ
    let chain := (List.range (v.toNat % 8 + 1)).map (fun i => s.userBuf (36 * i) 36)
    (ok = false → exec (.userCmd v wr) s = .next (s.accEventOpen 0 pJOURNAL Ev.BAD_STATE)) ∧
    (ok = true → nbit v.toNat 31 = false → exec (.userCmd v wr) s = .next u) ∧
    (ok = true → nbit v.toNat 31 = true → s.journalRoom (v.toNat % 8 + 1) = false → exec (.userCmd v wr) s =
      .next ({ u with journal := { u.journal with
        user := true
        userChain := chain } }.w pJOURNAL JOURNAL.USER_CMD_PENDING 1)) ∧
    (ok = true → nbit v.toNat 31 = true → v.toNat % 8 = 0 → s.journalRoom 1 = true → s.journalRuns = true → s.linkOpen = false →
      ∃ t : State, exec (.userCmd v wr) s = .next t ∧ t.r pJOURNAL JOURNAL.NEXT_SEQ = (q + 1) % 2 ^ 64 ∧
        t.r pJOURNAL JOURNAL.USER_STAT = q ∧ t.r pJOURNAL JOURNAL.USER_CMD_PENDING = 0 ∧ t.journal.user = false ∧
        t.journal.buf = issueBatch (s.r pJOURNAL JOURNAL.CFG_FLUSH_BATCH) (s.journal.buf ++
          [{ seq := BitVec.ofNat 64 q, bytes := jEntryBytes q s.stamp (s.r pMIRROR MIRROR.EPOCH) 0x0F01 0 (s.userBuf 0 36) }]) ∧
        OtherPages s t pJOURNAL ∧ t.mem = s.mem ∧ t.hostMem = s.hostMem ∧ t.owners = s.owners ∧ t.locks = s.locks ∧ t.hist = s.hist)) ∧
  (∀ (s : State) (wr : Code), Admits s 0 pJOURNAL 0x168 4 wr →
    let q := s.r pJOURNAL JOURNAL.NEXT_SEQ
    let k := match s.latestCp with
      | some c => 1 - c.1
      | none => 1 - s.r pJOURNAL JOURNAL.CP_LAST_SLOT
    let z := s.cacheWrite (s.r pJOURNAL (JOURNAL.CP_HOST0.at (8 * k))) (List.replicate 64 0)
    (s.marking = true → exec (.cpMark wr) s = .next (s.accEventOpen 0 pJOURNAL Ev.BAD_STATE)) ∧
    (s.marking = false → s.appendRole = false → exec (.cpMark wr) s = .next s) ∧
    (s.journal.waiting = [] → s.openTxns = [] → s.journalRoom 1 = true → s.journalRuns = true → s.linkOpen = false →
      ∃ t : State, exec (.cpMark wr) s = .next t ∧ t.r pJOURNAL JOURNAL.CP_MARK_SEQ = q ∧ t.r pJOURNAL JOURNAL.NEXT_SEQ = (q + 1) % 2 ^ 64 ∧
        t.journal.waiting = [] ∧ t.journal.buf = issueBatch (s.r pJOURNAL JOURNAL.CFG_FLUSH_BATCH) (s.journal.buf ++
          [{ seq := BitVec.ofNat 64 q, bytes := jEntryBytes q s.stamp (s.r pMIRROR MIRROR.EPOCH) 0x0003 0 (leBytes 2 0) }]) ∧
        OtherPages s t pJOURNAL ∧ t.mem = s.mem ∧ t.hostMem = s.hostMem ∧ t.owners = s.owners ∧ t.locks = s.locks ∧ t.hist = s.hist) ∧
    (s.journal.cpBusy.isSome = true → exec (.cpGo wr) s = .next (s.accEventOpen 0 pJOURNAL Ev.BAD_STATE)) ∧
    (s.journal.cpBusy = none → s.cpBad = true → exec (.cpGo wr) s = .next (s.accEventOpen 0 pJOURNAL Ev.BAD_VALUE)) ∧
    (s.journal.cpBusy = none → s.cpBad = false → exec (.cpGo wr) s = .next { z with journal := { z.journal with
      cpBusy := some (k, s.r pJOURNAL JOURNAL.CP_SRC, s.r pJOURNAL JOURNAL.CP_LEN, s.r pJOURNAL JOURNAL.CP_SEQ)
      cpOwn := false } })) ∧
  (∀ s : State,
    (s.r pJOURNAL JOURNAL.CP_SEQ ≠ s.r pJOURNAL JOURNAL.CP_MARK_SEQ → s.cpBad = true) ∧
    (s.r pJOURNAL JOURNAL.CP_LEN % 64 ≠ 0 → s.cpBad = true) ∧
    (s.r pJOURNAL JOURNAL.CP_SLOT_MIB * 0x100000 < s.r pJOURNAL JOURNAL.CP_LEN + 64 → s.cpBad = true)) ∧
  (∀ (s : State) (ok : Bool), s.domainOn 0 pJOURNAL = true → s.journal.cpBusy = none → exec (.cpDone ok) s = .next s) ∧
  (∀ (s : State) (k src len seq : Nat), s.domainOn 0 pJOURNAL = true → s.journal.cpBusy = some (k, src, len, seq) → s.journal.cpOwn = false →
    k < 2 → seq < 2 ^ 64 →
    let free := { s with journal := { s.journal with cpBusy := none } }
    let g := { s with journal := { s.journal with cpGen := s.journal.cpGen + 1 } }
    let host := s.r pJOURNAL (JOURNAL.CP_HOST0.at (8 * k))
    let body := s.devRead .journal src len
    exec (.cpDone false) s = .next ((free.statusBit pJOURNAL 6).eventOpen pJOURNAL Ev.CP_FAULT) ∧
    (s.cacheUp = false → exec (.cpDone true) s = exec (.cpDone false) s) ∧
    (s.cacheUp = true → ∃ t : State, exec (.cpDone true) s = .next t ∧
      t.hostMem = memWrite (memWrite s.hostMem (host + 64) body) host (g.cpDescriptor k seq len body) ∧
      t.r pJOURNAL JOURNAL.CP_LAST_SEQ = seq ∧ t.r pJOURNAL JOURNAL.CP_LAST_SLOT = k ∧ t.r pJOURNAL (INT_PEND_BIT 0) = 1 ∧
      t.journal.cpBusy = none ∧ t.journal.cpGen = s.journal.cpGen + 1 ∧ t.mem = s.mem ∧ t.owners = s.owners ∧ t.locks = s.locks ∧
      OtherPages s t pJOURNAL)) ∧
  (∀ (s : State) (wr : Code), Admits s 0 pJOURNAL 0x1A0 4 wr →
    (s.role ≠ 3 ∨ s.journal.replay = true → exec (.replaySetseq wr) s = .next (s.accEventOpen 0 pJOURNAL Ev.BAD_STATE) ∧
      exec (.replayGo wr) s = .next (s.accEventOpen 0 pJOURNAL Ev.BAD_STATE)) ∧
    (s.role = 3 → s.journal.replay = false →
      exec (.replaySetseq wr) s = .next (s.w pJOURNAL JOURNAL.NEXT_SEQ (s.r pJOURNAL JOURNAL.REPLAY_FROM)) ∧
      exec (.replayGo wr) s = .next (({ s with journal := { s.journal with
        replay := true
        replayAt := 0 } }).w pJOURNAL JOURNAL.STATUS_REPLAYING 1))) ∧
  (∀ (s : State) (memErr : Bool), s.domainOn 0 pJOURNAL = true → s.journal.replay = false → exec (.replayDone memErr) s = .next s) ∧
  (∀ s : State, s.domainOn 0 pJOURNAL = true → s.journal.replay = true → s.role = 3 → s.journal.replayAt = 0 →
    s.r pJOURNAL JOURNAL.REPLAY_COUNT = 1 → s.b pMEMCTL MEMCTL.TRAIN_STAT_RUNNING = false →
    let q := s.r pJOURNAL JOURNAL.NEXT_SEQ
    let e := s.devRead .journal (s.r pJOURNAL JOURNAL.REPLAY_SRC) 64
    let good := fieldLE e 60 4 = (crc32c (e.take 60)).toNat
    (good → fieldLE e 0 8 = q → fieldLE e 20 2 = 0x0F01 → nbit (fieldLE e 22 2) 0 = false → q + 1 < 2 ^ 64 →
      s.r pJOURNAL JOURNAL.STATUS_GPF = 0 → s.fenced 0 pJOURNAL = false → s.journal.buf.length < 2048 → s.linkOpen = false →
      ∃ t : State, exec (.replayDone false) s = .next t ∧ t.journal.replay = false ∧ t.r pJOURNAL JOURNAL.NEXT_SEQ = q + 1 ∧
        t.r pJOURNAL JOURNAL.REPLAY_STAT_APPLIED = 1 ∧ t.r pJOURNAL JOURNAL.REPLAY_STAT_REASON = 1 ∧
        t.r pJOURNAL JOURNAL.STATUS_REPLAYING = 0 ∧ t.r pJOURNAL (INT_PEND_BIT 1) = 1 ∧
        t.r pMIRROR MIRROR.EPOCH = max (s.r pMIRROR MIRROR.EPOCH) (fieldLE e 16 4) ∧
        t.journal.buf = issueBatch (s.r pJOURNAL JOURNAL.CFG_FLUSH_BATCH) (s.journal.buf ++ [{ seq := BitVec.ofNat 64 q, bytes := e }]) ∧
        t.mem = s.mem ∧ t.hostMem = s.hostMem ∧ t.owners = s.owners ∧ t.locks = s.locks ∧ t.hist = s.hist) ∧
    (¬ good → ∃ t : State, exec (.replayDone false) s = .next t ∧ t.journal = { s.journal with replay := false } ∧
      t.r pJOURNAL JOURNAL.NEXT_SEQ = q ∧ t.r pJOURNAL JOURNAL.REPLAY_STAT_APPLIED = 0 ∧ t.r pJOURNAL JOURNAL.REPLAY_STAT_REASON = 2 ∧
      t.r pJOURNAL JOURNAL.STATUS_REPLAY_ERROR = 1 ∧ t.r pJOURNAL (INT_PEND_BIT 1) = 1 ∧ OtherPages s t pJOURNAL ∧ t.mem = s.mem ∧
      t.hostMem = s.hostMem ∧ t.owners = s.owners ∧ t.locks = s.locks ∧ t.hist = s.hist) ∧
    (∃ t : State, exec (.replayDone true) s = .next t ∧ t.journal = { s.journal with replay := false } ∧
      t.r pJOURNAL JOURNAL.NEXT_SEQ = q ∧ t.r pJOURNAL JOURNAL.REPLAY_STAT_REASON = 5 ∧ t.r pJOURNAL JOURNAL.STATUS_REPLAY_ERROR = 1 ∧
      OtherPages s t pJOURNAL ∧ t.mem = s.mem ∧ t.hostMem = s.hostMem ∧ t.owners = s.owners ∧ t.locks = s.locks ∧ t.hist = s.hist))

/-- AUTHORITY, role changes, the hold, heartbeats, every frame of the mirror link, and RESYNC (12_journal_and_mirror_pair R329, R330, R331, R332, R333, R334, R335, R336, R337, R339, R340, R341). -/
def Obligations.TheMirrorPairClaimsHandsOverAndResyncs : Prop :=
  (∀ s : State, let m := max (s.r pMIRROR MIRROR.EPOCH) (s.r pMIRROR MIRROR.PARTNER_EPOCH)
    m < s.newEpoch ∧ s.newEpoch ≤ m + 2 ∧ s.newEpoch % 2 = s.r pMIRROR MIRROR.CFG_SIDE) ∧
  (∀ (s : State) (v : BitVec 32) (wr : Code), Admits s 0 pMIRROR 0x108 4 wr →
    let bad := fun (ev : Nat) => s.accEventOpen 0 pMIRROR ev
    (v.toNat / 256 ≠ 0x415554 → exec (.claim v wr) s = .next (bad Ev.BAD_VALUE) ∧ exec (.handover v wr) s = .next (bad Ev.BAD_VALUE)) ∧
    (v.toNat / 256 = 0x415554 → s.r pMIRROR MIRROR.ROLE_SCHEDULED = 1 →
      exec (.claim v wr) s = .next (bad Ev.BAD_STATE) ∧ exec (.handover v wr) s = .next (bad Ev.BAD_STATE)) ∧
    (s.r pMIRROR MIRROR.ROLE_SCHEDULED = 0 →
      (v = 0x41555401 → s.enabled pJOURNAL = false ∨ 0xFFFFFFFD < s.newEpoch ∨ s.role = 0 ∨ (s.role = 1 ∧ s.pairUp = false) →
        exec (.claim v wr) s = .next (bad Ev.BAD_STATE)) ∧
      (v = 0x41555401 → s.enabled pJOURNAL = true → s.newEpoch ≤ 0xFFFFFFFD →
        (s.role = 2 → ∃ t : State, exec (.claim v wr) s = .next t ∧ t.r pMIRROR MIRROR.EPOCH = s.newEpoch ∧
          t.r pMIRROR MIRROR.STATUS_AUTHORITY = 1 ∧ t.r pMIRROR MIRROR.STATUS_HOLDING = 0 ∧ t.role = 2 ∧ t.mirror.arbHeld = false ∧
          t.mem = s.mem ∧ t.hostMem = s.hostMem ∧ t.owners = s.owners ∧ t.locks = s.locks ∧ t.hist = s.hist) ∧
        (s.role = 3 → s.r pMIRROR MIRROR.CFG_PAIRED = 0 → s.bellwether.isSome = true →
          exec (.claim v wr) s = .next { s with mirror := { s.mirror with goal := some (0, 1) } }) ∧
        (s.role = 1 → s.pairUp = true →
          let z := s.sendFrame 6 (leBytes 1 3 ++ leBytes 3 0 ++ leBytes 4 (s.r pMIRROR MIRROR.EPOCH) ++
            leBytes 8 (s.r pJOURNAL JOURNAL.NEXT_SEQ - 1))
          exec (.claim v wr) s = .next { z with mirror := { z.mirror with takeFc := some s.fc } })) ∧
      (v = 0x41555402 → s.mayHandOver = false ∨ s.pairUp = false → exec (.handover v wr) s = .next (bad Ev.BAD_STATE)) ∧
      (v = 0x41555402 → s.mayHandOver = true → s.pairUp = true → s.bellwether.isSome = true → s.openTxns = [] →
        ∃ t : State, exec (.handover v wr) s = .next t ∧ t.r pMIRROR MIRROR.STATUS_AUTHORITY = 0 ∧ t.role = 0 ∧
          t.mirror = { s.mirror with
            stopAppend := true
            relFc := some s.fc
            goal := some (1, 2)
            linkSeq := s.mirror.linkSeq + 1
            sent := s.mirror.sent ++ [⟨6, s.mirror.linkSeq,
              leBytes 1 1 ++ leBytes 3 0 ++ leBytes 4 (s.r pMIRROR MIRROR.EPOCH) ++ leBytes 8 (t.r pJOURNAL JOURNAL.NEXT_SEQ - 1)⟩] } ∧
          t.mem = s.mem ∧ t.owners = s.owners ∧ t.locks = s.locks))) ∧
  (∀ s : State, s.domainOn 0 pMIRROR = true →
    (s.mirror.takeFc = none ∨ s.mirror.relFc.isSome = true → exec .claimTimeout s = .next s) ∧
    (∀ t0 : Nat, s.mirror.takeFc = some t0 → s.mirror.relFc = none →
      let u := s.advanceFc (t0 + 100 * msFc)
      exec .claimTimeout s = .next { (u.statusBit pMIRROR 6) with mirror := { u.mirror with takeFc := none } }) ∧
    (s.mirror.relFc = none ∨ s.role ≠ 1 → exec .promotionTimeout s = .next s) ∧
    (∀ t0 : Nat, s.mirror.relFc = some t0 → s.role = 1 →
      let u := s.advanceFc (t0 + 100 * msFc)
      exec .promotionTimeout s = .next { (u.w pMIRROR MIRROR.ROLE_SCHEDULED 0) with mirror := { u.mirror with
        goal := none
        scheduled := none
        takeFc := none
        relFc := none } })) ∧
  (∀ (s : State) (b : Nat), s.domainOn 0 pMIRROR = true → s.bellwether = some b →
    (s.mirror.scheduled = none ∨ s.beam b ≠ 0 → exec .roleChange s = .next s) ∧
    (∀ x : Nat, s.mirror.scheduled = some (0, x) → s.beam b = 0 → s.openTxns = [] → ∃ t : State, exec .roleChange s = .next t ∧
      t.role = 0 ∧ t.r pMIRROR MIRROR.STATUS_AUTHORITY = 1 ∧ t.r pMIRROR MIRROR.EPOCH = s.newEpoch % 2 ^ 32 ∧
      t.r pMIRROR MIRROR.ROLE_SCHEDULED = 0 ∧ t.r pMIRROR MIRROR.STATUS_HOLDING = 0 ∧ t.r pMIRROR (INT_PEND_BIT 0) = 1 ∧
      t.mirror.scheduled = none ∧ t.mirror.goal = none ∧ t.mirror.stopAppend = false ∧ t.mem = s.mem ∧ t.locks = s.locks) ∧
    (∀ x : Nat, s.mirror.scheduled = some (1, x) → s.beam b = 0 → ∃ t : State, exec .roleChange s = .next t ∧
      t.role = 1 ∧ t.r pMIRROR MIRROR.STATUS_AUTHORITY = 0 ∧ t.r pMIRROR MIRROR.ROLE_SCHEDULED = 0 ∧
      t.r pMIRROR (INT_PEND_BIT 0) = 1 ∧ (s.role = 3 → t.r pMIRROR (INT_PEND_BIT 3) = 1) ∧ t.mirror.scheduled = none ∧
      (∀ p ∈ s.mirroredPages, t.owner 0 p = if s.owner 0 p = 0xFF then 0xFF else 0x7E) ∧ t.locks = s.locks)) ∧
  (∀ s : State, s.domainOn 0 pMIRROR = true →
    (s.role ≠ 2 ∨ s.r pMIRROR MIRROR.STATUS_HOLDING = 0 → exec .isolateHoldEnd s = .next s) ∧
    (s.role = 2 → s.r pMIRROR MIRROR.STATUS_HOLDING = 1 → ∃ t : State, exec .isolateHoldEnd s = .next t ∧
      t.r pMIRROR MIRROR.STATUS_HOLDING = 0 ∧ t.role = 2 ∧ t.locks = s.locks ∧
      (s.r pMIRROR MIRROR.CFG_ARB_EN = 1 ∧ s.arbIn = true →
        t.r pMIRROR MIRROR.STATUS_AUTHORITY = s.r pMIRROR MIRROR.STATUS_AUTHORITY ∧ t.mirror.arbHeld = true) ∧
      (s.r pMIRROR MIRROR.CFG_ARB_EN = 0 ∨ s.arbIn = false → t.r pMIRROR MIRROR.STATUS_AUTHORITY = 0))) ∧
  (∀ (s : State) (level : Bool), s.domainOn 0 pMIRROR = true →
    let on := s.pinIn 112 && level != s.b pMIRROR MIRROR.CFG_ARB_INV
    (s.role ≠ 2 ∨ on = true ∨ s.mirror.arbHeld = false → exec (.arbInChange level) s =
      .next { s with mirror := { s.mirror with arbRaw := level } }) ∧
    (s.role = 2 → s.r pMIRROR MIRROR.STATUS_HOLDING = 0 → on = false → s.mirror.arbHeld = true → ∃ t : State,
      exec (.arbInChange level) s = .next t ∧ t.arbIn = false ∧ t.r pMIRROR MIRROR.STATUS_AUTHORITY = 0 ∧
      t.role = 2 ∧ t.locks = s.locks)) ∧
  (∀ s : State, s.domainOn 0 pMIRROR = true →
    (s.active pMIRROR = true → s.r pMIRROR MIRROR.CFG_PAIRED = 1 → s.mirror.trained = false → exec .mirrorLinkUp s =
      .next { s with mirror := { s.mirror with
        trained := true
        helloIn := false
        helloFc := s.fc
        linkSeq := s.mirror.linkSeq + 1
        sent := s.mirror.sent ++ [⟨1, s.mirror.linkSeq, leBytes 1 (s.r pMIRROR MIRROR.CFG_SIDE) ++
          leBytes 1 s.behaviour.toNat ++ leBytes 1 s.role ++ leBytes 1 (s.r pMIRROR MIRROR.STATUS_AUTHORITY) ++
          leBytes 4 (s.r pMIRROR MIRROR.EPOCH) ++ leBytes 8 (s.r pJOURNAL JOURNAL.NEXT_SEQ)⟩] } }) ∧
    (s.active pMIRROR = false ∨ s.r pMIRROR MIRROR.CFG_PAIRED = 0 ∨ s.mirror.trained = true → exec .mirrorLinkUp s = .next s) ∧
    exec .mirrorLinkLoss s = .next { (s.w pMIRROR MIRROR.STATUS_LINK_UP 0) with mirror := { s.mirror with
      trained := false
      helloIn := false
      resyncing := false
      cpSent := none } } ∧
    (s.mirror.trained = false ∨ s.active pMIRROR = false → exec .heartbeatSend s = .next s) ∧
    (s.mirror.trained = true → s.active pMIRROR = true → s.mirror.helloIn = false → ∃ t : State, exec .heartbeatSend s = .next t ∧
      t.mirror = { s.mirror with
        helloFc := t.fc
        linkSeq := s.mirror.linkSeq + 1
        sent := s.mirror.sent ++ [⟨1, s.mirror.linkSeq, leBytes 1 (s.r pMIRROR MIRROR.CFG_SIDE) ++
          leBytes 1 s.behaviour.toNat ++ leBytes 1 s.role ++ leBytes 1 (s.r pMIRROR MIRROR.STATUS_AUTHORITY) ++
          leBytes 4 (s.r pMIRROR MIRROR.EPOCH) ++ leBytes 8 (s.r pJOURNAL JOURNAL.NEXT_SEQ)⟩] } ∧
      t.fc = max s.fc (s.mirror.helloFc + msFc) ∧ t.owners = s.owners ∧ t.locks = s.locks ∧ t.mem = s.mem) ∧
    (s.linkOpen = true →
      let u := s.advanceFc (s.mirror.lastSendFc + s.r pMIRROR MIRROR.HB_PERIOD * msFc)
      exec .heartbeatSend s = .next { u with mirror := { u.mirror with
        lastSendFc := u.fc
        hbOut := if s.r pMIRROR MIRROR.CFG_HB_MODE = 1 then u.mirror.hbOut else s.authority && !u.mirror.hbOut
        linkSeq := u.mirror.linkSeq + 1
        sent := u.mirror.sent ++ [⟨2, u.mirror.linkSeq, leBytes 1 s.role ++ leBytes 1 (b2n s.authority) ++
          leBytes 1 (b2n s.arbIn) ++ leBytes 1 0 ++ leBytes 4 (s.r pMIRROR MIRROR.EPOCH) ++
          leBytes 8 (s.r pJOURNAL JOURNAL.NEXT_SEQ) ++ leBytes 8 (s.r pMIRROR MIRROR.APPLIED_NEXT)⟩] } }) ∧
    (s.active pMIRROR = false ∨ s.r pMIRROR MIRROR.CFG_PAIRED = 0 → exec .heartbeatMiss s = .next s) ∧
    (s.active pMIRROR = true → s.r pMIRROR MIRROR.CFG_PAIRED = 1 →
      let p := s.r pMIRROR MIRROR.HB_PERIOD * msFc
      let k := (s.fc - s.mirror.lastHbFc) / p + 1
      (k < s.r pMIRROR MIRROR.HB_MISS →
        exec .heartbeatMiss s = .next ((s.advanceFc (s.mirror.lastHbFc + k * p)).incSat pMIRROR MIRROR.HB_MISSED)) ∧
      (s.r pMIRROR MIRROR.HB_MISS ≤ k →
        s.role = 1 ∨ s.role = 0 ∧ s.r pMIRROR MIRROR.ISOLATE_HOLD ≠ 0 →
        ∃ t : State, exec .heartbeatMiss s = .next t ∧ t.role = 2 ∧
          (if max s.fc (s.mirror.lastHbFc + k * p) < s.mirror.heardFc + s.r pMIRROR MIRROR.HB_MISS * p
            then t.mirror.helloIn = s.mirror.helloIn ∧ t.r pMIRROR MIRROR.STATUS_LINK_UP = s.r pMIRROR MIRROR.STATUS_LINK_UP
            else t.mirror.helloIn = false ∧ t.r pMIRROR MIRROR.STATUS_LINK_UP = 0) ∧
          t.r pMIRROR MIRROR.STATUS_SPLIT = 1 ∧ t.r pMIRROR (INT_PEND_BIT 0) = 1 ∧ t.r pMIRROR (INT_PEND_BIT 1) = 1 ∧
          t.locks = s.locks ∧ (s.role = 1 → t.r pMIRROR MIRROR.STATUS_AUTHORITY = 0) ∧
          (s.role = 0 → t.r pMIRROR MIRROR.STATUS_HOLDING = 1 ∧
            t.r pMIRROR MIRROR.STATUS_AUTHORITY = s.r pMIRROR MIRROR.STATUS_AUTHORITY)))) ∧
  (∀ (s : State) (crcOk au : Bool) (x y z : BitVec 8) (e : BitVec 32) (n n' : BitVec 64) (bs : List (BitVec 8)),
    s.domainOn 0 pMIRROR = true →
    let later := [Instr.heartbeat crcOk x au e n n', .journalFrame crcOk bs, .ack crcOk n, .relinquish crcOk e n, .take crcOk e,
      .resyncReq crcOk n e, .cpData crcOk n bs, .cpEnd crcOk n n' e]
    (s.mirror.trained = false ∨ s.active pMIRROR = false → ∀ c ∈ .hello crcOk x y z au e n :: later, exec c s = .next s) ∧
    (s.mirror.trained = true → s.active pMIRROR = true → crcOk = false → ∀ c ∈ .hello crcOk x y z au e n :: later,
      exec c s = .next ((s.w pMIRROR MIRROR.CRC_ERRORS (s.r pMIRROR MIRROR.CRC_ERRORS + 1)).w pMIRROR (INT_PEND_BIT 4) 1)) ∧
    (s.mirror.trained = true → s.active pMIRROR = true → crcOk = true → s.mirror.helloIn = false → ∀ c ∈ later, exec c s = .next s)) ∧
  (∀ (s : State) (side compat role : BitVec 8) (au : Bool) (epoch : BitVec 32) (n : BitVec 64), s.domainOn 0 pMIRROR = true →
    s.mirror.trained = true → s.active pMIRROR = true →
    let match_ := side.toNat % 2 ≠ s.r pMIRROR MIRROR.CFG_SIDE ∧ compat = s.behaviour
    (¬ match_ → exec (.hello true side compat role au epoch n) s = .next { ((s.statusBit pMIRROR 4).w pMIRROR MIRROR.STATUS_LINK_UP 0) with mirror := { s.mirror with helloIn := false } }) ∧
    (match_ → s.mirror.helloIn = true ∨ s.role = 1 → ∃ t : State, exec (.hello true side compat role au epoch n) s = .next t ∧ t.r pMIRROR MIRROR.PARTNER_ROLE = role.toNat % 4 ∧
      t.r pMIRROR MIRROR.PARTNER_VALID = 1 ∧ t.r pMIRROR MIRROR.PARTNER_AUTHORITY = b2n au ∧
      t.r pMIRROR MIRROR.PARTNER_EPOCH = epoch.toNat ∧ t.r pMIRROR MIRROR.STATUS_LINK_UP = 1 ∧ t.role = s.role ∧
      t.mirror = { s.mirror with
        helloIn := true
        heardFc := s.fc
        ackFc := s.fc
        lastSendFc := if s.mirror.helloIn then s.mirror.lastSendFc else s.fc } ∧ OtherPages s t pMIRROR ∧
      t.mem = s.mem ∧ t.hostMem = s.hostMem ∧ t.owners = s.owners ∧ t.locks = s.locks ∧ t.hist = s.hist) ∧
    (match_ → s.mirror.helloIn = false →
      (s.role = 3 → role.toNat % 4 = 0 ∨ role.toNat % 4 = 2 → s.r pMIRROR MIRROR.CFG_PAIRED = 1 →
        ∃ (t : State) (body : List (BitVec 8)), exec (.hello true side compat role au epoch n) s = .next t ∧ t.role = 3 ∧ t.mirror.resyncing = true ∧
          t.mirror.sent = s.mirror.sent ++ [⟨7, s.mirror.linkSeq, body⟩] ∧ t.mem = s.mem ∧ t.owners = s.owners ∧ t.locks = s.locks ∧
          t.hist = s.hist) ∧
      (s.role = 2 ∧ (role.toNat % 4 = 0 ∨ role.toNat % 4 = 2) ∨ s.role = 0 ∧ role.toNat % 4 = 2 →
        s.r pMIRROR MIRROR.EPOCH < epoch.toNat → ∃ t : State, exec (.hello true side compat role au epoch n) s = .next t ∧ t.role = 3 ∧
          t.r pMIRROR MIRROR.STATUS_AUTHORITY = 0 ∧ t.r pMIRROR (INT_PEND_BIT 0) = 1 ∧ t.locks = s.locks) ∧
      (s.role = 2 → epoch.toNat < s.r pMIRROR MIRROR.EPOCH → s.bellwether.isSome = true → ∃ t : State, exec (.hello true side compat role au epoch n) s = .next t ∧ t.role = 2 ∧
        t.mirror.goal = some (0, 5) ∧ t.owners = s.owners ∧ t.locks = s.locks ∧ t.hist = s.hist))) ∧
  (∀ (s : State) (role : BitVec 8) (au : Bool) (epoch : BitVec 32) (n n' : BitVec 64), s.domainOn 0 pMIRROR = true →
    s.mirror.trained = true → s.active pMIRROR = true → s.mirror.helloIn = true →
    let told := fun (t : State) => t.r pMIRROR MIRROR.PARTNER_ROLE = role.toNat % 4 ∧ t.r pMIRROR MIRROR.PARTNER_VALID = 1 ∧
      t.r pMIRROR MIRROR.PARTNER_AUTHORITY = b2n au ∧ t.r pMIRROR MIRROR.PARTNER_EPOCH = epoch.toNat ∧
      t.r pMIRROR MIRROR.STATUS_LINK_UP = 1 ∧ OtherPages s t pMIRROR ∧ t.mem = s.mem ∧ t.owners = s.owners ∧ t.locks = s.locks ∧ t.hist = s.hist
    (s.role ≠ 3 → ∃ t : State, exec (.heartbeat true role au epoch n n') s = .next t ∧ told t ∧ t.mirror = { s.mirror with
      heardFc := s.fc
      lastHbFc := s.fc }) ∧
    (s.role = 3 → s.mirror.resyncing = false → role.toNat % 4 = 0 → s.r pMIRROR MIRROR.CFG_PAIRED = 1 → s.r pJOURNAL JOURNAL.CFG_PW_EN = 0 →
      ∃ (t : State) (body : List (BitVec 8)), exec (.heartbeat true role au epoch n n') s = .next t ∧ told t ∧
      t.mirror.sent = s.mirror.sent ++ [⟨7, s.mirror.linkSeq, body⟩] ∧ t.mirror.resyncing = true ∧ t.mirror.resyncTo = none ∧ t.role = 3) ∧
    (s.role = 3 → s.mirror.resyncing = true → role.toNat % 4 = 0 → s.mirror.resyncTo = none → s.r pJOURNAL JOURNAL.NEXT_SEQ < n.toNat →
      ∃ t : State, exec (.heartbeat true role au epoch n n') s = .next t ∧ told t ∧ t.mirror = { s.mirror with
        heardFc := s.fc
        lastHbFc := s.fc
        resyncTo := some n }) ∧
    (s.role = 3 → s.mirror.resyncing = true → role.toNat % 4 = 0 → s.mirror.resyncTo = none → n.toNat ≤ s.r pJOURNAL JOURNAL.NEXT_SEQ →
      s.mirror.cpWait = false → s.journal.cpOwn = false → s.journal.cpNext = none → s.mirror.held = [] → s.mirror.goal = none → s.mirror.scheduled = none → s.bellwether.isSome = true →
      ∃ t : State, exec (.heartbeat true role au epoch n n') s = .next t ∧ told t ∧ t.mirror = { s.mirror with
        heardFc := s.fc
        lastHbFc := s.fc
        resyncTo := some n
        goal := some (1, 0) })) ∧
  (∀ (s : State) (bytes : List (BitVec 8)), s.domainOn 0 pMIRROR = true → s.linkOpen = true →
    let q := s.r pJOURNAL JOURNAL.NEXT_SEQ
    (s.role = 0 ∨ s.role = 2 → exec (.journalFrame true bytes) s = .next (s.sendAck s.rxNext)) ∧
    (s.role = 1 → bytes.length = 64 → s.mirror.held = [] → s.mirror.chain = [] → s.mirror.cpWait = false → s.journal.cpOwn = false →
      s.journal.cpNext = none → s.b pMEMCTL MEMCTL.TRAIN_STAT_RUNNING = false → s.mirror.relFc = none → q + 1 < 2 ^ 64 →
      let good := fieldLE bytes 60 4 = (crc32c (bytes.take 60)).toNat
      (good → fieldLE bytes 0 8 = q → fieldLE bytes 20 2 = 0x0F01 → nbit (fieldLE bytes 22 2) 0 = false →
        s.r pJOURNAL JOURNAL.STATUS_GPF = 0 → s.fenced 0 pJOURNAL = false → s.journal.buf.length < 2048 →
        ∃ t : State, exec (.journalFrame true bytes) s = .next t ∧ t.r pJOURNAL JOURNAL.NEXT_SEQ = q + 1 ∧
          t.r pMIRROR MIRROR.APPLIED_NEXT = q + 1 ∧ t.r pMIRROR MIRROR.EPOCH = max (s.r pMIRROR MIRROR.EPOCH) (fieldLE bytes 16 4) ∧
          t.journal.buf = issueBatch (s.r pJOURNAL JOURNAL.CFG_FLUSH_BATCH) (s.journal.buf ++ [{ seq := BitVec.ofNat 64 q, bytes := bytes }]) ∧
          t.mirror = { s.mirror with
            linkSeq := s.mirror.linkSeq + 2
            sent := s.mirror.sent ++ [⟨3, s.mirror.linkSeq, bytes⟩, ⟨4, s.mirror.linkSeq + 1, leBytes 8 (q + 1)⟩] } ∧
          t.mem = s.mem ∧ t.owners = s.owners ∧ t.locks = s.locks ∧ t.hist = s.hist) ∧
      (good → fieldLE bytes 0 8 = q → fieldLE bytes 20 2 = 0x0F01 → nbit (fieldLE bytes 22 2) 0 = false →
        s.r pJOURNAL JOURNAL.STATUS_GPF = 1 ∨ s.fenced 0 pJOURNAL = true ∨ 2048 ≤ s.journal.buf.length →
        exec (.journalFrame true bytes) s = .next (s.sendFrame 4 (leBytes 8 q))) ∧
      (¬ good → exec (.journalFrame true bytes) s = .next (s.sendFrame 4 (leBytes 8 q))))) ∧
  (∀ (s : State) (acked : BitVec 64), s.domainOn 0 pMIRROR = true → s.linkOpen = true →
    let a := s.r pMIRROR MIRROR.ACKED_NEXT
    let q := s.r pJOURNAL JOURNAL.NEXT_SEQ
    let on := a < acked.toNat ∧ acked.toNat ≤ q
    (on → s.mirror.cpSent = none → exec (.ack true acked) s = .next { (s.w pMIRROR MIRROR.ACKED_NEXT acked.toNat) with mirror := { s.mirror with ackFc := s.fc } }) ∧
    (∀ k seq len : Nat, on → s.mirror.cpSent = some (k, seq, len) → exec (.ack true acked) s = .next { (s.w pMIRROR MIRROR.ACKED_NEXT acked.toNat) with
      mirror := { s.mirror with
        ackFc := s.fc
        cpSent := if seq < acked.toNat then none else some (k, seq, len) } }) ∧
    (¬ on → exec (.ack true acked) s = .next s) ∧
    (q ≤ a → s.mirror.cpSent = none → exec .ackTimeout s = .next s) ∧
    (s.role = 1 ∨ s.role = 3 → s.mirror.stopAppend = false → exec .ackTimeout s = .next s) ∧
    (∀ k seq len : Nat, s.cacheUp = true → s.role = 0 ∨ s.role = 2 → s.mirror.cpSent = some (k, seq, len) → ∃ (t : State) (fs : List LinkFrame),
      exec .ackTimeout s = .next t ∧ t.mirror.sent = s.mirror.sent ++ fs ∧ (fs[(len + 1023) / 1024]?).map (fun f => f.type) = some 9 ∧
      (∀ i : Nat, i < (len + 1023) / 1024 → (fs[i]?).map (fun f => f.type) = some 8) ∧
      t.fc = max s.fc (s.mirror.ackFc + 200 * usFc) ∧ t.mirror.ackFc = t.fc ∧ t.mem = s.mem ∧ t.owners = s.owners ∧ t.locks = s.locks) ∧
    (a < q → s.role = 0 ∨ s.role = 2 → s.mirror.cpSent = none →
      let v := s.advanceFc (s.mirror.ackFc + 200 * usFc)
      let u := { v with mirror := { v.mirror with ackFc := v.fc } }
      (u.entryAt a = none → exec .ackTimeout s = .next (u.w pMIRROR MIRROR.PARTNER_ROLE 3)) ∧
      (∀ b : List (BitVec 8), u.entryAt a = some b → q = a + 1 → exec .ackTimeout s =
        .next ((u.w pMIRROR MIRROR.RETRANSMITS (u.r pMIRROR MIRROR.RETRANSMITS + 1)).sendFrame 3 b)))) ∧
  (∀ (s : State) (e : BitVec 32) (last : BitVec 64), s.domainOn 0 pMIRROR = true → s.linkOpen = true →
    (s.role ≠ 1 → exec (.relinquish true e last) s = .next s) ∧
    (s.role = 1 → s.r pJOURNAL JOURNAL.NEXT_SEQ ≤ last.toNat → exec (.relinquish true e last) s = .next { s with mirror := { s.mirror with
      relFc := some s.fc
      lastSeq := last } }) ∧
    (s.role = 1 → last.toNat < s.r pJOURNAL JOURNAL.NEXT_SEQ → s.mirror.goal = none → s.mirror.scheduled = none → s.bellwether.isSome = true →
      exec (.relinquish true e last) s = .next { s with mirror := { s.mirror with
        relFc := some s.fc
        lastSeq := last
        goal := some (0, if s.mirror.takeFc.isSome then 4 else 3) } }) ∧
    (s.mayHandOver = false → exec (.take true e) s = .next s) ∧
    (s.mayHandOver = true → s.bellwether.isSome = true → s.openTxns = [] → ∃ t : State, exec (.take true e) s = .next t ∧
      t.r pMIRROR MIRROR.STATUS_AUTHORITY = 0 ∧ t.role = 0 ∧ t.mirror.stopAppend = true ∧ t.mirror.relFc = some s.fc ∧
      t.mirror.goal = some (1, 2) ∧ t.mem = s.mem ∧ t.owners = s.owners ∧ t.locks = s.locks)) ∧
  (∀ (s : State) (last : BitVec 64) (crc : BitVec 32), s.domainOn 0 pMIRROR = true → s.linkOpen = true →
    let u := { s with mirror := { s.mirror with ackFc := s.fc } }
    (s.role ≠ 0 → exec (.resyncReq true last crc) s = .next s) ∧
    (∀ b : List (BitVec 8), s.role = 0 → s.entryAt last.toNat = some b → fieldLE b 60 4 = crc.toNat →
      s.r pJOURNAL JOURNAL.NEXT_SEQ = last.toNat + 1 →
      exec (.resyncReq true last crc) s = .next (u.w pMIRROR MIRROR.ACKED_NEXT (last.toNat + 1))) ∧
    (∀ k seq len : Nat, s.role = 0 → s.entryAt last.toNat = none → s.cacheUp = true → s.latestCp = some (k, seq, len) → ∃ (t : State) (fs : List LinkFrame),
      exec (.resyncReq true last crc) s = .next t ∧ t.mirror.sent = s.mirror.sent ++ fs ∧
      (fs[(len + 1023) / 1024]?).map (fun f => f.type) = some 9 ∧ (∀ i : Nat, i < (len + 1023) / 1024 → (fs[i]?).map (fun f => f.type) = some 8) ∧
      t.r pMIRROR MIRROR.ACKED_NEXT = seq % 2 ^ 64 ∧ t.mirror.cpSent = some (k, seq, len) ∧ t.mem = s.mem ∧ t.hostMem = s.hostMem ∧ t.owners = s.owners ∧ t.locks = s.locks ∧
      t.hist = s.hist)) ∧
  (∀ (s : State) (off : BitVec 64) (bytes : List (BitVec 8)), s.domainOn 0 pMIRROR = true → s.linkOpen = true →
    let a := s.r pMIRROR MIRROR.RX_CP_BASE + off.toNat
    (s.role ≠ 3 → exec (.cpData true off bytes) s = .next s) ∧
    (s.role = 3 → ∃ t : State, exec (.cpData true off bytes) s = .next t ∧
      t.mem = (if s.canWrite .journal a bytes.length then memWrite s.mem a bytes else s.mem) ∧
      t.mirror = { s.mirror with
        linkSeq := s.mirror.linkSeq + 1
        sent := s.mirror.sent ++ [⟨4, s.mirror.linkSeq, leBytes 8 s.rxNext⟩] } ∧
      t.hostMem = s.hostMem ∧ t.owners = s.owners ∧ t.locks = s.locks ∧ t.hist = s.hist)) ∧
  (∀ (s : State) (seq len : BitVec 64) (crc : BitVec 32), s.domainOn 0 pMIRROR = true → s.linkOpen = true →
    let good := (crc32c (s.devRead .journal (s.r pMIRROR MIRROR.RX_CP_BASE) len.toNat)).toNat = crc.toNat
    (s.role ≠ 3 → exec (.cpEnd true seq len crc) s = .next s) ∧
    (s.role = 3 → good → exec (.cpEnd true seq len crc) s = .next ({ s with mirror := { s.mirror with
      cpWait := true
      cpSeq := seq
      cpLen := len
      held := []
      chain := [] } }.w pMIRROR (INT_PEND_BIT 5) 1)) ∧
    (s.role = 3 → ¬ good → s.r pMIRROR MIRROR.CFG_PAIRED = 1 → ∃ (t : State) (body : List (BitVec 8)), exec (.cpEnd true seq len crc) s = .next t ∧
      t.r pMIRROR MIRROR.STATUS_RESYNC_FAIL = 1 ∧ t.mirror.sent = s.mirror.sent ++ [⟨7, s.mirror.linkSeq, body⟩] ∧
      t.mirror.resyncing = true ∧ t.mirror.cpWait = false ∧ t.mirror.held = [] ∧ t.journal.cpNext = none ∧ t.mem = s.mem ∧ t.owners = s.owners ∧ t.locks = s.locks ∧
      t.hist = s.hist)) ∧
  (∀ (s : State) (h mode : Nat) (frame : BitVec 48), s.domainOn 0 pMIRROR = true →
    (s.following = false ∨ s.mirror.trained = false ∨ s.active pMIRROR = false → exec (.lineSyncMarker mode frame) s = .next s) ∧
    (s.following = true → s.mirror.trained = true → s.active pMIRROR = true → s.enabledHeads = [h] →
      let odd := (modeOf mode).frameTicks ≠ (s.mode h).frameTicks ∨ mode = 0 ∨ 10 < mode
      ((s.hd h).source ≠ 4 → exec (.lineSyncMarker mode frame) s = .next s) ∧
      ((s.hd h).source = 4 → odd → exec (.lineSyncMarker mode frame) s = .next (s.setHd h { s.hd h with partnerMm := true })) ∧
      ((s.hd h).source = 4 → ¬ odd → ∃ t : State, exec (.lineSyncMarker mode frame) s = .next t ∧ (t.hd h).partner = some frame ∧
        (t.hd h).partnerMm = false ∧ (∀ k : Nat, k ≠ h → t.hd k = s.hd k) ∧ OtherPages s t (pgHEAD h) ∧ t.mem = s.mem ∧
        t.owners = s.owners ∧ t.locks = s.locks ∧ t.hist = s.hist))) ∧
  (∀ (s : State) (wr : Code), Admits s 0 pMIRROR 0x140 4 wr →
    let k := match s.latestCp with
      | some c => 1 - c.1
      | none => 1 - s.r pJOURNAL JOURNAL.CP_LAST_SLOT
    let z := s.cacheWrite (s.r pJOURNAL (JOURNAL.CP_HOST0.at (8 * k))) (List.replicate 64 0)
    (s.role ≠ 3 ∨ s.mirror.cpWait = false →
      exec (.resyncLoaded wr) s = .next (s.accEventOpen 0 pMIRROR Ev.BAD_STATE)) ∧
    (s.role = 3 → s.mirror.cpWait = true → s.journal.cpBusy.isSome = true → exec (.resyncLoaded wr) s = .next { s with
      mirror := { s.mirror with cpWait := false }
      journal := { s.journal with cpNext := some (s.r pMIRROR MIRROR.RX_CP_BASE, s.mirror.cpLen.toNat, s.mirror.cpSeq.toNat) } }) ∧
    (s.role = 3 → s.mirror.cpWait = true → s.journal.cpBusy = none → exec (.resyncLoaded wr) s = .next { z with
      mirror := { s.mirror with cpWait := false }
      journal := { s.journal with
        cpBusy := some (k, s.r pMIRROR MIRROR.RX_CP_BASE, s.mirror.cpLen.toNat, s.mirror.cpSeq.toNat)
        cpOwn := true } }))
end

