-- ==== Sys2Proof/Laws/Bits.lean ====
section
/-! SUPPORT. What a field write does to a register value: the field takes the new bits, every other bit stays. -/

namespace Sys2Proof.Machine

/-- A value split at a field. -/
theorem nset_split (v lo w x : Nat) :
    nset v lo w x = 2 ^ lo * (2 ^ w * (v / 2 ^ lo / 2 ^ w) + x % 2 ^ w) + v % 2 ^ lo := by
  have h1 : v = 2 ^ lo * (v / 2 ^ lo) + v % 2 ^ lo := (Nat.div_add_mod v (2 ^ lo)).symm
  have h2 : v / 2 ^ lo = 2 ^ w * (v / 2 ^ lo / 2 ^ w) + v / 2 ^ lo % 2 ^ w := (Nat.div_add_mod _ _).symm
  unfold nset nfld
  rw [Nat.shiftRight_eq_div_pow]
  generalize v / 2 ^ lo % 2 ^ w = f at h2 ⊢
  generalize v / 2 ^ lo / 2 ^ w = a at h2 ⊢
  rw [h2] at h1
  generalize v % 2 ^ lo = b at h1 ⊢
  subst h1
  have : 2 ^ lo * (2 ^ w * a + f) = 2 ^ lo * (2 ^ w * a) + f * 2 ^ lo := by ring
  have h4 : 2 ^ lo * (2 ^ w * a + x % 2 ^ w) = 2 ^ lo * (2 ^ w * a) + x % 2 ^ w * 2 ^ lo := by ring
  omega

/-- Bit by bit: the field's bits are those of the new value, the others stay. -/
theorem testBit_nset (v lo w x i : Nat) :
    (nset v lo w x).testBit i = if lo ≤ i ∧ i < lo + w then x.testBit (i - lo) else v.testBit i := by
  rw [nset_split, Nat.testBit_two_pow_mul_add _ (Nat.mod_lt _ (by positivity))]
  split
  · next h => rw [if_neg (by omega)]; simp [Nat.testBit_mod_two_pow, h]
  · next h =>
    rw [Nat.testBit_two_pow_mul_add _ (Nat.mod_lt _ (by positivity))]
    split
    · next h' => rw [if_pos (by omega)]; simp [Nat.testBit_mod_two_pow, h']
    · next h' =>
      rw [if_neg (by omega), Nat.testBit_div_two_pow, Nat.testBit_div_two_pow]
      congr 1
      omega

theorem testBit_nfld (v lo w i : Nat) : (nfld v lo w).testBit i = (decide (i < w) && v.testBit (lo + i)) := by
  rw [nfld, Nat.testBit_mod_two_pow, Nat.testBit_shiftRight]

/-- A field reads the low bits of what was written to it. -/
@[simp] theorem nfld_nset_same (v lo w x : Nat) : nfld (nset v lo w x) lo w = x % 2 ^ w := by
  apply Nat.eq_of_testBit_eq
  intro i
  rw [testBit_nfld, testBit_nset, Nat.testBit_mod_two_pow]
  by_cases h : i < w
  · rw [if_pos (by omega)]; simp [h]
  · simp [h]

/-- A field that shares no bit with the one written keeps its value. -/
theorem nfld_nset_disjoint (v x : Nat) {lo w lo' w' : Nat} (h : lo' + w' ≤ lo ∨ lo + w ≤ lo') :
    nfld (nset v lo w x) lo' w' = nfld v lo' w' := by
  apply Nat.eq_of_testBit_eq
  intro i
  rw [testBit_nfld, testBit_nfld, testBit_nset]
  by_cases hi : i < w'
  · rw [if_neg (by omega)]
  · simp [hi]

theorem nset_lt {v lo w : Nat} (x : Nat) (h : lo + w ≤ 64) (hv : v < 2 ^ 64) : nset v lo w x < 2 ^ 64 := by
  apply Nat.lt_pow_two_of_testBit
  intro i hi
  rw [testBit_nset, if_neg (by omega)]
  exact Nat.testBit_lt_two_pow (Nat.lt_of_lt_of_le hv (Nat.pow_le_pow_right (by omega) hi))

theorem wset_toNat (v : W64) {lo w : Nat} (x : Nat) (h : lo + w ≤ 64) : (wset v lo w x).toNat = nset v.toNat lo w x := by
  rw [wset, BitVec.toNat_ofNat, Nat.mod_eq_of_lt (nset_lt x h v.isLt)]

/-- A register field reads the low bits of what was written to it. -/
theorem wfld_wset_same (v : W64) {lo w : Nat} (x : Nat) (h : lo + w ≤ 64) : wfld (wset v lo w x) lo w = x % 2 ^ w := by
  rw [wfld, wset_toNat v x h, nfld_nset_same]

theorem wfld_wset_disjoint (v : W64) {lo w lo' w' : Nat} (x : Nat) (h : lo + w ≤ 64)
    (hd : lo' + w' ≤ lo ∨ lo + w ≤ lo') : wfld (wset v lo w x) lo' w' = wfld v lo' w' := by
  rw [wfld, wset_toNat v x h, nfld_nset_disjoint _ _ hd, wfld]

theorem wfld_lt (v : W64) (lo w : Nat) : wfld v lo w < 2 ^ w := Nat.mod_lt _ (by positivity)

end Sys2Proof.Machine
end

