-- ==== Sys2Proof/Laws/Sparse.lean ====
section
/-! SUPPORT. What sparse tables and byte memories do: a read after a write gives the value written, every other
key keeps its value, and each operation keeps the canonical form. -/

namespace Sys2Proof.Machine

variable {α : Type}

/-! ### Reads after writes -/

theorem sget_serase_same (d : α) (m : List (Nat × α)) (k : Nat) : sget d (serase m k) k = d := by
  induction m with
  | nil => rfl
  | cons e m ih =>
    obtain ⟨k', v⟩ := e
    by_cases h : k = k'
    · simpa [serase, h] using h ▸ ih
    · simpa [serase, sget, h] using ih

theorem sget_serase_ne (d : α) (m : List (Nat × α)) {k j : Nat} (h : j ≠ k) :
    sget d (serase m k) j = sget d m j := by
  induction m with
  | nil => rfl
  | cons e m ih =>
    obtain ⟨k', v⟩ := e
    by_cases hk : k = k'
    · subst hk; simpa [serase, sget, h] using ih
    · by_cases hj : j = k'
      · simp [serase, sget, hk, hj]
      · simpa [serase, sget, hk, hj] using ih

theorem sget_sinsert_ne (d : α) (m : List (Nat × α)) {k j : Nat} (v : α) (h : j ≠ k) :
    sget d (sinsert m k v) j = sget d m j := by
  induction m with
  | nil => simp [sinsert, sget, h]
  | cons e m ih =>
    obtain ⟨k', v'⟩ := e
    by_cases hk : k < k'
    · simp [sinsert, sget, hk, h]
    · simp [sinsert, sget, hk, ih]

/-- The key is not listed. -/
def absent (m : List (Nat × α)) (k : Nat) : Prop := ∀ e ∈ m, e.1 ≠ k

theorem absent_serase (m : List (Nat × α)) (k : Nat) : absent (serase m k) k := by
  induction m with
  | nil => intro e he; cases he
  | cons e m ih =>
    obtain ⟨k', v⟩ := e
    by_cases h : k = k'
    · simpa [serase, h] using h ▸ ih
    · intro x hx
      simp only [serase, h, if_false, List.mem_cons] at hx
      rcases hx with rfl | hx
      · exact fun h' => h h'.symm
      · exact ih x hx

theorem sget_sinsert_same (d : α) {m : List (Nat × α)} {k : Nat} (v : α) (h : absent m k) :
    sget d (sinsert m k v) k = v := by
  induction m with
  | nil => simp [sinsert, sget]
  | cons e m ih =>
    obtain ⟨k', v'⟩ := e
    have hne : k ≠ k' := fun he => h (k', v') (by simp) he.symm
    by_cases hk : k < k'
    · simp [sinsert, sget, hk]
    · simp [sinsert, sget, hk, hne, ih (fun e he => h e (by simp [he]))]

@[simp] theorem sget_sset_same [DecidableEq α] (d : α) (m : List (Nat × α)) (k : Nat) (v : α) :
    sget d (sset d m k v) k = v := by
  unfold sset
  split
  · next h => rw [h]; exact sget_serase_same d m k
  · exact sget_sinsert_same d v (absent_serase m k)

theorem sget_sset_ne [DecidableEq α] (d d' : α) (m : List (Nat × α)) {k j : Nat} (v : α) (h : j ≠ k) :
    sget d' (sset d m k v) j = sget d' m j := by
  unfold sset
  split
  · exact sget_serase_ne d' m h
  · rw [sget_sinsert_ne d' _ v h, sget_serase_ne d' m h]

/-! ### The canonical form -/

theorem swf_iff [DecidableEq α] (d : α) (m : List (Nat × α)) :
    swf d m = true ↔ m.Pairwise (fun a b => a.1 < b.1) ∧ ∀ e ∈ m, e.2 ≠ d := by
  have hk : ∀ l : List (Nat × α), skeys l = true ↔ l.Pairwise (fun a b => a.1 < b.1) := by
    intro l
    induction l with
    | nil => simp [skeys]
    | cons e l ih => simp [skeys, ih]
  simp [swf, hk]

theorem serase_sub {m : List (Nat × α)} {k : Nat} {e : Nat × α} (h : e ∈ serase m k) : e ∈ m := by
  induction m with
  | nil => cases h
  | cons x m ih =>
    obtain ⟨k', v⟩ := x
    by_cases hk : k = k'
    · exact List.mem_cons_of_mem _ (ih (by simpa [serase, hk] using h))
    · simp only [serase, hk, if_false, List.mem_cons] at h ⊢
      exact h.imp id ih

theorem serase_pairwise {m : List (Nat × α)} (k : Nat) (h : m.Pairwise (fun a b => a.1 < b.1)) :
    (serase m k).Pairwise (fun a b => a.1 < b.1) := by
  induction m with
  | nil => exact .nil
  | cons x m ih =>
    obtain ⟨k', v⟩ := x
    have ⟨h1, h2⟩ := List.pairwise_cons.1 h
    by_cases hk : k = k'
    · simpa [serase, hk] using hk ▸ ih h2
    · simp only [serase, hk, if_false]
      exact List.pairwise_cons.2 ⟨fun e he => h1 e (serase_sub he), ih h2⟩

theorem sinsert_mem {m : List (Nat × α)} {k : Nat} {v : α} {e : Nat × α} :
    e ∈ sinsert m k v ↔ e = (k, v) ∨ e ∈ m := by
  induction m with
  | nil => simp [sinsert]
  | cons x m ih =>
    obtain ⟨k', v'⟩ := x
    by_cases hk : k < k'
    · simp [sinsert, hk]
    · simp only [sinsert, hk, if_false, List.mem_cons, ih]
      tauto

theorem sinsert_pairwise {m : List (Nat × α)} {k : Nat} {v : α} (h : m.Pairwise (fun a b => a.1 < b.1))
    (hk : absent m k) : (sinsert m k v).Pairwise (fun a b => a.1 < b.1) := by
  induction m with
  | nil => exact List.pairwise_singleton _ _
  | cons x m ih =>
    obtain ⟨k', v'⟩ := x
    have ⟨h1, h2⟩ := List.pairwise_cons.1 h
    by_cases hlt : k < k'
    · simp only [sinsert, hlt, if_true]
      refine List.pairwise_cons.2 ⟨fun e he => ?_, h⟩
      rcases List.mem_cons.1 he with rfl | he
      · exact hlt
      · exact Nat.lt_trans hlt (h1 e he)
    · simp only [sinsert, hlt, if_false]
      refine List.pairwise_cons.2 ⟨fun e he => ?_, ih h2 (fun e he => hk e (List.mem_cons_of_mem _ he))⟩
      rcases sinsert_mem.1 he with rfl | he
      · have := hk (k', v') (List.mem_cons_self ..)
        simp only at this ⊢
        omega
      · exact h1 e he

/-- Setting one key keeps the canonical form. -/
theorem swf_sset [DecidableEq α] {d : α} {m : List (Nat × α)} (k : Nat) (v : α) (h : swf d m = true) :
    swf d (sset d m k v) = true := by
  rw [swf_iff] at h ⊢
  unfold sset
  split
  · exact ⟨serase_pairwise k h.1, fun e he => h.2 e (serase_sub he)⟩
  · next hv =>
    refine ⟨sinsert_pairwise (serase_pairwise k h.1) (absent_serase m k), fun e he => ?_⟩
    rcases sinsert_mem.1 he with rfl | he
    · exact hv
    · exact h.2 e (serase_sub he)

/-- Dropping entries keeps the canonical form. -/
theorem swf_filter [DecidableEq α] {d : α} {m : List (Nat × α)} (p : Nat × α → Bool) (h : swf d m = true) :
    swf d (m.filter p) = true := by
  rw [swf_iff] at h ⊢
  exact ⟨h.1.filter p, fun e he => h.2 e (List.mem_filter.1 he).1⟩

/-! ### Byte memories -/

@[simp] theorem memByte_memSetByte_same (m : List Host.Cell) (a : Nat) (b : BitVec 8) :
    memByte (memSetByte m a b) a = b := sget_sset_same 0 m a b

theorem memByte_memSetByte_ne (m : List Host.Cell) {a x : Nat} (b : BitVec 8) (h : x ≠ a) :
    memByte (memSetByte m a b) x = memByte m x := sget_sset_ne 0 0 m b h

/-- A write leaves every byte outside it alone. -/
theorem memByte_memWrite_outside (bs : List (BitVec 8)) : ∀ (m : List Host.Cell) {a x : Nat},
    x < a ∨ a + bs.length ≤ x → memByte (memWrite m a bs) x = memByte m x := by
  induction bs with
  | nil => intros; rfl
  | cons b bs ih =>
    intro m a x h
    simp only [List.length_cons] at h
    rw [memWrite, ih _ (by omega), memByte_memSetByte_ne _ _ (by omega)]

/-- A byte inside a write reads as it was written. -/
theorem memByte_memWrite_inside (bs : List (BitVec 8)) : ∀ (m : List Host.Cell) (a i : Nat) (h : i < bs.length),
    memByte (memWrite m a bs) (a + i) = bs[i] := by
  induction bs with
  | nil => intro _ _ i h; cases h
  | cons b bs ih =>
    intro m a i h
    cases i with
    | zero =>
      rw [memWrite, Nat.add_zero, memByte_memWrite_outside _ _ (by omega)]
      simp
    | succ i =>
      rw [memWrite, ← Nat.add_assoc, Nat.add_right_comm, ih]
      rfl

theorem memByte_memWriteEn_outside (bs : List (Option (BitVec 8))) : ∀ (m : List Host.Cell) {a x : Nat},
    x < a ∨ a + bs.length ≤ x → memByte (memWriteEn m a bs) x = memByte m x := by
  induction bs with
  | nil => intros; rfl
  | cons b bs ih =>
    intro m a x h
    simp only [List.length_cons] at h
    cases b with
    | none => rw [memWriteEn, ih _ (by omega)]
    | some b => rw [memWriteEn, ih _ (by omega), memByte_memSetByte_ne _ _ (by omega)]

theorem Memory.wf_setByte {m : List Host.Cell} (a : Nat) (b : BitVec 8) (h : Memory.wf m = true) :
    Memory.wf (memSetByte m a b) = true := swf_sset a b h

theorem Memory.wf_write (bs : List (BitVec 8)) : ∀ {m : List Host.Cell} (a : Nat), Memory.wf m = true →
    Memory.wf (memWrite m a bs) = true := by
  induction bs with
  | nil => intro _ _ h; exact h
  | cons b bs ih => intro m a h; exact ih (a + 1) (Memory.wf_setByte a b h)

theorem Memory.wf_writeEn (bs : List (Option (BitVec 8))) : ∀ {m : List Host.Cell} (a : Nat), Memory.wf m = true →
    Memory.wf (memWriteEn m a bs) = true := by
  induction bs with
  | nil => intro _ _ h; exact h
  | cons b bs ih =>
    intro m a h
    cases b with
    | none => exact ih (a + 1) h
    | some b => exact ih (a + 1) (Memory.wf_setByte a b h)

theorem Memory.wf_filter {m : List Host.Cell} (p : Host.Cell → Bool) (h : Memory.wf m = true) :
    Memory.wf (m.filter p) = true := swf_filter p h

end Sys2Proof.Machine
end

