-- ==== Sys2Proof/Laws/State.lean ====
section
/-! SUPPORT. One lemma per field of State and update of it: the field an update names takes the value given, the
others stay. Then what a read gives after the update that wrote it. -/

namespace Sys2Proof.Machine

variable (s : State)

/-! ### setReg -/

@[simp] theorem State.setReg_pending (func page off : Nat) (v : W64) : (s.setReg func page off v).pending = s.pending := rfl
@[simp] theorem State.setReg_freeCtr (func page off : Nat) (v : W64) : (s.setReg func page off v).freeCtr = s.freeCtr := rfl
@[simp] theorem State.setReg_variant (func page off : Nat) (v : W64) : (s.setReg func page off v).variant = s.variant := rfl
@[simp] theorem State.setReg_compatMax (func page off : Nat) (v : W64) : (s.setReg func page off v).compatMax = s.compatMax := rfl
@[simp] theorem State.setReg_stepping (func page off : Nat) (v : W64) : (s.setReg func page off v).stepping = s.stepping := rfl
@[simp] theorem State.setReg_phase (func page off : Nat) (v : W64) : (s.setReg func page off v).phase = s.phase := rfl
@[simp] theorem State.setReg_straps (func page off : Nat) (v : W64) : (s.setReg func page off v).straps = s.straps := rfl
@[simp] theorem State.setReg_mainUp (func page off : Nat) (v : W64) : (s.setReg func page off v).mainUp = s.mainUp := rfl
@[simp] theorem State.setReg_fc (func page off : Nat) (v : W64) : (s.setReg func page off v).fc = s.fc := rfl
@[simp] theorem State.setReg_tb (func page off : Nat) (v : W64) : (s.setReg func page off v).tb = s.tb := rfl
@[simp] theorem State.setReg_tbFrac (func page off : Nat) (v : W64) : (s.setReg func page off v).tbFrac = s.tbFrac := rfl
@[simp] theorem State.setReg_pend (func page off : Nat) (v : W64) : (s.setReg func page off v).pend = s.pend := rfl
@[simp] theorem State.setReg_held (func page off : Nat) (v : W64) : (s.setReg func page off v).held = s.held := rfl
@[simp] theorem State.setReg_owners (func page off : Nat) (v : W64) : (s.setReg func page off v).owners = s.owners := rfl
@[simp] theorem State.setReg_locks (func page off : Nat) (v : W64) : (s.setReg func page off v).locks = s.locks := rfl
@[simp] theorem State.setReg_behaviour (func page off : Nat) (v : W64) : (s.setReg func page off v).behaviour = s.behaviour := rfl
@[simp] theorem State.setReg_hist (func page off : Nat) (v : W64) : (s.setReg func page off v).hist = s.hist := rfl
@[simp] theorem State.setReg_resp (func page off : Nat) (v : W64) : (s.setReg func page off v).resp = s.resp := rfl
@[simp] theorem State.setReg_mem (func page off : Nat) (v : W64) : (s.setReg func page off v).mem = s.mem := rfl
@[simp] theorem State.setReg_hostMem (func page off : Nat) (v : W64) : (s.setReg func page off v).hostMem = s.hostMem := rfl
@[simp] theorem State.setReg_pad (func page off : Nat) (v : W64) : (s.setReg func page off v).pad = s.pad := rfl
@[simp] theorem State.setReg_padErr (func page off : Nat) (v : W64) : (s.setReg func page off v).padErr = s.padErr := rfl
@[simp] theorem State.setReg_msSeen (func page off : Nat) (v : W64) : (s.setReg func page off v).msSeen = s.msSeen := rfl
@[simp] theorem State.setReg_iram (func page off : Nat) (v : W64) : (s.setReg func page off v).iram = s.iram := rfl
@[simp] theorem State.setReg_windows (func page off : Nat) (v : W64) : (s.setReg func page off v).windows = s.windows := rfl
@[simp] theorem State.setReg_sapRam (func page off : Nat) (v : W64) : (s.setReg func page off v).sapRam = s.sapRam := rfl
@[simp] theorem State.setReg_palette (func page off : Nat) (v : W64) : (s.setReg func page off v).palette = s.palette := rfl
@[simp] theorem State.setReg_flock (func page off : Nat) (v : W64) : (s.setReg func page off v).flock = s.flock := rfl
@[simp] theorem State.setReg_lut (func page off : Nat) (v : W64) : (s.setReg func page off v).lut = s.lut := rfl
@[simp] theorem State.setReg_engines (func page off : Nat) (v : W64) : (s.setReg func page off v).engines = s.engines := rfl
@[simp] theorem State.setReg_caches (func page off : Nat) (v : W64) : (s.setReg func page off v).caches = s.caches := rfl
@[simp] theorem State.setReg_heads (func page off : Nat) (v : W64) : (s.setReg func page off v).heads = s.heads := rfl
@[simp] theorem State.setReg_ports (func page off : Nat) (v : W64) : (s.setReg func page off v).ports = s.ports := rfl
@[simp] theorem State.setReg_relief (func page off : Nat) (v : W64) : (s.setReg func page off v).relief = s.relief := rfl
@[simp] theorem State.setReg_blt (func page off : Nat) (v : W64) : (s.setReg func page off v).blt = s.blt := rfl
@[simp] theorem State.setReg_fps (func page off : Nat) (v : W64) : (s.setReg func page off v).fps = s.fps := rfl
@[simp] theorem State.setReg_relayRx (func page off : Nat) (v : W64) : (s.setReg func page off v).relayRx = s.relayRx := rfl
@[simp] theorem State.setReg_cvs (func page off : Nat) (v : W64) : (s.setReg func page off v).cvs = s.cvs := rfl
@[simp] theorem State.setReg_points (func page off : Nat) (v : W64) : (s.setReg func page off v).points = s.points := rfl
@[simp] theorem State.setReg_txns (func page off : Nat) (v : W64) : (s.setReg func page off v).txns = s.txns := rfl
@[simp] theorem State.setReg_txnCount (func page off : Nat) (v : W64) : (s.setReg func page off v).txnCount = s.txnCount := rfl
@[simp] theorem State.setReg_journal (func page off : Nat) (v : W64) : (s.setReg func page off v).journal = s.journal := rfl
@[simp] theorem State.setReg_mirror (func page off : Nat) (v : W64) : (s.setReg func page off v).mirror = s.mirror := rfl
@[simp] theorem State.setReg_cores (func page off : Nat) (v : W64) : (s.setReg func page off v).cores = s.cores := rfl
@[simp] theorem State.setReg_bankLast (func page off : Nat) (v : W64) : (s.setReg func page off v).bankLast = s.bankLast := rfl
@[simp] theorem State.setReg_audio (func page off : Nat) (v : W64) : (s.setReg func page off v).audio = s.audio := rfl
@[simp] theorem State.setReg_groups (func page off : Nat) (v : W64) : (s.setReg func page off v).groups = s.groups := rfl
@[simp] theorem State.setReg_dv (func page off : Nat) (v : W64) : (s.setReg func page off v).dv = s.dv := rfl
@[simp] theorem State.setReg_dvNext (func page off : Nat) (v : W64) : (s.setReg func page off v).dvNext = s.dvNext := rfl
@[simp] theorem State.setReg_dvLast (func page off : Nat) (v : W64) : (s.setReg func page off v).dvLast = s.dvLast := rfl
@[simp] theorem State.setReg_host (func page off : Nat) (v : W64) : (s.setReg func page off v).host = s.host := rfl
@[simp] theorem State.setReg_pins (func page off : Nat) (v : W64) : (s.setReg func page off v).pins = s.pins := rfl
@[simp] theorem State.setReg_doms (func page off : Nat) (v : W64) : (s.setReg func page off v).doms = s.doms := rfl
@[simp] theorem State.setReg_clocks (func page off : Nat) (v : W64) : (s.setReg func page off v).clocks = s.clocks := rfl
@[simp] theorem State.setReg_wdog (func page off : Nat) (v : W64) : (s.setReg func page off v).wdog = s.wdog := rfl
@[simp] theorem State.setReg_trainFc (func page off : Nat) (v : W64) : (s.setReg func page off v).trainFc = s.trainFc := rfl

/-! ### w -/

@[simp] theorem State.w_pending (page : Nat) (f : Fld) (x : Nat) : (s.w page f x).pending = s.pending := rfl
@[simp] theorem State.w_freeCtr (page : Nat) (f : Fld) (x : Nat) : (s.w page f x).freeCtr = s.freeCtr := rfl
@[simp] theorem State.w_variant (page : Nat) (f : Fld) (x : Nat) : (s.w page f x).variant = s.variant := rfl
@[simp] theorem State.w_compatMax (page : Nat) (f : Fld) (x : Nat) : (s.w page f x).compatMax = s.compatMax := rfl
@[simp] theorem State.w_stepping (page : Nat) (f : Fld) (x : Nat) : (s.w page f x).stepping = s.stepping := rfl
@[simp] theorem State.w_phase (page : Nat) (f : Fld) (x : Nat) : (s.w page f x).phase = s.phase := rfl
@[simp] theorem State.w_straps (page : Nat) (f : Fld) (x : Nat) : (s.w page f x).straps = s.straps := rfl
@[simp] theorem State.w_mainUp (page : Nat) (f : Fld) (x : Nat) : (s.w page f x).mainUp = s.mainUp := rfl
@[simp] theorem State.w_fc (page : Nat) (f : Fld) (x : Nat) : (s.w page f x).fc = s.fc := rfl
@[simp] theorem State.w_tb (page : Nat) (f : Fld) (x : Nat) : (s.w page f x).tb = s.tb := rfl
@[simp] theorem State.w_tbFrac (page : Nat) (f : Fld) (x : Nat) : (s.w page f x).tbFrac = s.tbFrac := rfl
@[simp] theorem State.w_pend (page : Nat) (f : Fld) (x : Nat) : (s.w page f x).pend = s.pend := rfl
@[simp] theorem State.w_held (page : Nat) (f : Fld) (x : Nat) : (s.w page f x).held = s.held := rfl
@[simp] theorem State.w_owners (page : Nat) (f : Fld) (x : Nat) : (s.w page f x).owners = s.owners := rfl
@[simp] theorem State.w_locks (page : Nat) (f : Fld) (x : Nat) : (s.w page f x).locks = s.locks := rfl
@[simp] theorem State.w_behaviour (page : Nat) (f : Fld) (x : Nat) : (s.w page f x).behaviour = s.behaviour := rfl
@[simp] theorem State.w_hist (page : Nat) (f : Fld) (x : Nat) : (s.w page f x).hist = s.hist := rfl
@[simp] theorem State.w_resp (page : Nat) (f : Fld) (x : Nat) : (s.w page f x).resp = s.resp := rfl
@[simp] theorem State.w_mem (page : Nat) (f : Fld) (x : Nat) : (s.w page f x).mem = s.mem := rfl
@[simp] theorem State.w_hostMem (page : Nat) (f : Fld) (x : Nat) : (s.w page f x).hostMem = s.hostMem := rfl
@[simp] theorem State.w_pad (page : Nat) (f : Fld) (x : Nat) : (s.w page f x).pad = s.pad := rfl
@[simp] theorem State.w_padErr (page : Nat) (f : Fld) (x : Nat) : (s.w page f x).padErr = s.padErr := rfl
@[simp] theorem State.w_msSeen (page : Nat) (f : Fld) (x : Nat) : (s.w page f x).msSeen = s.msSeen := rfl
@[simp] theorem State.w_iram (page : Nat) (f : Fld) (x : Nat) : (s.w page f x).iram = s.iram := rfl
@[simp] theorem State.w_windows (page : Nat) (f : Fld) (x : Nat) : (s.w page f x).windows = s.windows := rfl
@[simp] theorem State.w_sapRam (page : Nat) (f : Fld) (x : Nat) : (s.w page f x).sapRam = s.sapRam := rfl
@[simp] theorem State.w_palette (page : Nat) (f : Fld) (x : Nat) : (s.w page f x).palette = s.palette := rfl
@[simp] theorem State.w_flock (page : Nat) (f : Fld) (x : Nat) : (s.w page f x).flock = s.flock := rfl
@[simp] theorem State.w_lut (page : Nat) (f : Fld) (x : Nat) : (s.w page f x).lut = s.lut := rfl
@[simp] theorem State.w_engines (page : Nat) (f : Fld) (x : Nat) : (s.w page f x).engines = s.engines := rfl
@[simp] theorem State.w_caches (page : Nat) (f : Fld) (x : Nat) : (s.w page f x).caches = s.caches := rfl
@[simp] theorem State.w_heads (page : Nat) (f : Fld) (x : Nat) : (s.w page f x).heads = s.heads := rfl
@[simp] theorem State.w_ports (page : Nat) (f : Fld) (x : Nat) : (s.w page f x).ports = s.ports := rfl
@[simp] theorem State.w_relief (page : Nat) (f : Fld) (x : Nat) : (s.w page f x).relief = s.relief := rfl
@[simp] theorem State.w_blt (page : Nat) (f : Fld) (x : Nat) : (s.w page f x).blt = s.blt := rfl
@[simp] theorem State.w_fps (page : Nat) (f : Fld) (x : Nat) : (s.w page f x).fps = s.fps := rfl
@[simp] theorem State.w_relayRx (page : Nat) (f : Fld) (x : Nat) : (s.w page f x).relayRx = s.relayRx := rfl
@[simp] theorem State.w_cvs (page : Nat) (f : Fld) (x : Nat) : (s.w page f x).cvs = s.cvs := rfl
@[simp] theorem State.w_points (page : Nat) (f : Fld) (x : Nat) : (s.w page f x).points = s.points := rfl
@[simp] theorem State.w_txns (page : Nat) (f : Fld) (x : Nat) : (s.w page f x).txns = s.txns := rfl
@[simp] theorem State.w_txnCount (page : Nat) (f : Fld) (x : Nat) : (s.w page f x).txnCount = s.txnCount := rfl
@[simp] theorem State.w_journal (page : Nat) (f : Fld) (x : Nat) : (s.w page f x).journal = s.journal := rfl
@[simp] theorem State.w_mirror (page : Nat) (f : Fld) (x : Nat) : (s.w page f x).mirror = s.mirror := rfl
@[simp] theorem State.w_cores (page : Nat) (f : Fld) (x : Nat) : (s.w page f x).cores = s.cores := rfl
@[simp] theorem State.w_bankLast (page : Nat) (f : Fld) (x : Nat) : (s.w page f x).bankLast = s.bankLast := rfl
@[simp] theorem State.w_audio (page : Nat) (f : Fld) (x : Nat) : (s.w page f x).audio = s.audio := rfl
@[simp] theorem State.w_groups (page : Nat) (f : Fld) (x : Nat) : (s.w page f x).groups = s.groups := rfl
@[simp] theorem State.w_dv (page : Nat) (f : Fld) (x : Nat) : (s.w page f x).dv = s.dv := rfl
@[simp] theorem State.w_dvNext (page : Nat) (f : Fld) (x : Nat) : (s.w page f x).dvNext = s.dvNext := rfl
@[simp] theorem State.w_dvLast (page : Nat) (f : Fld) (x : Nat) : (s.w page f x).dvLast = s.dvLast := rfl
@[simp] theorem State.w_host (page : Nat) (f : Fld) (x : Nat) : (s.w page f x).host = s.host := rfl
@[simp] theorem State.w_pins (page : Nat) (f : Fld) (x : Nat) : (s.w page f x).pins = s.pins := rfl
@[simp] theorem State.w_doms (page : Nat) (f : Fld) (x : Nat) : (s.w page f x).doms = s.doms := rfl
@[simp] theorem State.w_clocks (page : Nat) (f : Fld) (x : Nat) : (s.w page f x).clocks = s.clocks := rfl
@[simp] theorem State.w_wdog (page : Nat) (f : Fld) (x : Nat) : (s.w page f x).wdog = s.wdog := rfl
@[simp] theorem State.w_trainFc (page : Nat) (f : Fld) (x : Nat) : (s.w page f x).trainFc = s.trainFc := rfl

/-! ### w1 -/

@[simp] theorem State.w1_pending (page : Nat) (f : Fld) (x : Nat) : (s.w1 page f x).pending = s.pending := rfl
@[simp] theorem State.w1_freeCtr (page : Nat) (f : Fld) (x : Nat) : (s.w1 page f x).freeCtr = s.freeCtr := rfl
@[simp] theorem State.w1_variant (page : Nat) (f : Fld) (x : Nat) : (s.w1 page f x).variant = s.variant := rfl
@[simp] theorem State.w1_compatMax (page : Nat) (f : Fld) (x : Nat) : (s.w1 page f x).compatMax = s.compatMax := rfl
@[simp] theorem State.w1_stepping (page : Nat) (f : Fld) (x : Nat) : (s.w1 page f x).stepping = s.stepping := rfl
@[simp] theorem State.w1_phase (page : Nat) (f : Fld) (x : Nat) : (s.w1 page f x).phase = s.phase := rfl
@[simp] theorem State.w1_straps (page : Nat) (f : Fld) (x : Nat) : (s.w1 page f x).straps = s.straps := rfl
@[simp] theorem State.w1_mainUp (page : Nat) (f : Fld) (x : Nat) : (s.w1 page f x).mainUp = s.mainUp := rfl
@[simp] theorem State.w1_fc (page : Nat) (f : Fld) (x : Nat) : (s.w1 page f x).fc = s.fc := rfl
@[simp] theorem State.w1_tb (page : Nat) (f : Fld) (x : Nat) : (s.w1 page f x).tb = s.tb := rfl
@[simp] theorem State.w1_tbFrac (page : Nat) (f : Fld) (x : Nat) : (s.w1 page f x).tbFrac = s.tbFrac := rfl
@[simp] theorem State.w1_pend (page : Nat) (f : Fld) (x : Nat) : (s.w1 page f x).pend = s.pend := rfl
@[simp] theorem State.w1_held (page : Nat) (f : Fld) (x : Nat) : (s.w1 page f x).held = s.held := rfl
@[simp] theorem State.w1_owners (page : Nat) (f : Fld) (x : Nat) : (s.w1 page f x).owners = s.owners := rfl
@[simp] theorem State.w1_locks (page : Nat) (f : Fld) (x : Nat) : (s.w1 page f x).locks = s.locks := rfl
@[simp] theorem State.w1_behaviour (page : Nat) (f : Fld) (x : Nat) : (s.w1 page f x).behaviour = s.behaviour := rfl
@[simp] theorem State.w1_hist (page : Nat) (f : Fld) (x : Nat) : (s.w1 page f x).hist = s.hist := rfl
@[simp] theorem State.w1_resp (page : Nat) (f : Fld) (x : Nat) : (s.w1 page f x).resp = s.resp := rfl
@[simp] theorem State.w1_mem (page : Nat) (f : Fld) (x : Nat) : (s.w1 page f x).mem = s.mem := rfl
@[simp] theorem State.w1_hostMem (page : Nat) (f : Fld) (x : Nat) : (s.w1 page f x).hostMem = s.hostMem := rfl
@[simp] theorem State.w1_pad (page : Nat) (f : Fld) (x : Nat) : (s.w1 page f x).pad = s.pad := rfl
@[simp] theorem State.w1_padErr (page : Nat) (f : Fld) (x : Nat) : (s.w1 page f x).padErr = s.padErr := rfl
@[simp] theorem State.w1_msSeen (page : Nat) (f : Fld) (x : Nat) : (s.w1 page f x).msSeen = s.msSeen := rfl
@[simp] theorem State.w1_iram (page : Nat) (f : Fld) (x : Nat) : (s.w1 page f x).iram = s.iram := rfl
@[simp] theorem State.w1_windows (page : Nat) (f : Fld) (x : Nat) : (s.w1 page f x).windows = s.windows := rfl
@[simp] theorem State.w1_sapRam (page : Nat) (f : Fld) (x : Nat) : (s.w1 page f x).sapRam = s.sapRam := rfl
@[simp] theorem State.w1_palette (page : Nat) (f : Fld) (x : Nat) : (s.w1 page f x).palette = s.palette := rfl
@[simp] theorem State.w1_flock (page : Nat) (f : Fld) (x : Nat) : (s.w1 page f x).flock = s.flock := rfl
@[simp] theorem State.w1_lut (page : Nat) (f : Fld) (x : Nat) : (s.w1 page f x).lut = s.lut := rfl
@[simp] theorem State.w1_engines (page : Nat) (f : Fld) (x : Nat) : (s.w1 page f x).engines = s.engines := rfl
@[simp] theorem State.w1_caches (page : Nat) (f : Fld) (x : Nat) : (s.w1 page f x).caches = s.caches := rfl
@[simp] theorem State.w1_heads (page : Nat) (f : Fld) (x : Nat) : (s.w1 page f x).heads = s.heads := rfl
@[simp] theorem State.w1_ports (page : Nat) (f : Fld) (x : Nat) : (s.w1 page f x).ports = s.ports := rfl
@[simp] theorem State.w1_relief (page : Nat) (f : Fld) (x : Nat) : (s.w1 page f x).relief = s.relief := rfl
@[simp] theorem State.w1_blt (page : Nat) (f : Fld) (x : Nat) : (s.w1 page f x).blt = s.blt := rfl
@[simp] theorem State.w1_fps (page : Nat) (f : Fld) (x : Nat) : (s.w1 page f x).fps = s.fps := rfl
@[simp] theorem State.w1_relayRx (page : Nat) (f : Fld) (x : Nat) : (s.w1 page f x).relayRx = s.relayRx := rfl
@[simp] theorem State.w1_cvs (page : Nat) (f : Fld) (x : Nat) : (s.w1 page f x).cvs = s.cvs := rfl
@[simp] theorem State.w1_points (page : Nat) (f : Fld) (x : Nat) : (s.w1 page f x).points = s.points := rfl
@[simp] theorem State.w1_txns (page : Nat) (f : Fld) (x : Nat) : (s.w1 page f x).txns = s.txns := rfl
@[simp] theorem State.w1_txnCount (page : Nat) (f : Fld) (x : Nat) : (s.w1 page f x).txnCount = s.txnCount := rfl
@[simp] theorem State.w1_journal (page : Nat) (f : Fld) (x : Nat) : (s.w1 page f x).journal = s.journal := rfl
@[simp] theorem State.w1_mirror (page : Nat) (f : Fld) (x : Nat) : (s.w1 page f x).mirror = s.mirror := rfl
@[simp] theorem State.w1_cores (page : Nat) (f : Fld) (x : Nat) : (s.w1 page f x).cores = s.cores := rfl
@[simp] theorem State.w1_bankLast (page : Nat) (f : Fld) (x : Nat) : (s.w1 page f x).bankLast = s.bankLast := rfl
@[simp] theorem State.w1_audio (page : Nat) (f : Fld) (x : Nat) : (s.w1 page f x).audio = s.audio := rfl
@[simp] theorem State.w1_groups (page : Nat) (f : Fld) (x : Nat) : (s.w1 page f x).groups = s.groups := rfl
@[simp] theorem State.w1_dv (page : Nat) (f : Fld) (x : Nat) : (s.w1 page f x).dv = s.dv := rfl
@[simp] theorem State.w1_dvNext (page : Nat) (f : Fld) (x : Nat) : (s.w1 page f x).dvNext = s.dvNext := rfl
@[simp] theorem State.w1_dvLast (page : Nat) (f : Fld) (x : Nat) : (s.w1 page f x).dvLast = s.dvLast := rfl
@[simp] theorem State.w1_host (page : Nat) (f : Fld) (x : Nat) : (s.w1 page f x).host = s.host := rfl
@[simp] theorem State.w1_pins (page : Nat) (f : Fld) (x : Nat) : (s.w1 page f x).pins = s.pins := rfl
@[simp] theorem State.w1_doms (page : Nat) (f : Fld) (x : Nat) : (s.w1 page f x).doms = s.doms := rfl
@[simp] theorem State.w1_clocks (page : Nat) (f : Fld) (x : Nat) : (s.w1 page f x).clocks = s.clocks := rfl
@[simp] theorem State.w1_wdog (page : Nat) (f : Fld) (x : Nat) : (s.w1 page f x).wdog = s.wdog := rfl
@[simp] theorem State.w1_trainFc (page : Nat) (f : Fld) (x : Nat) : (s.w1 page f x).trainFc = s.trainFc := rfl

/-! ### fresh -/

@[simp] theorem State.fresh_pending : s.fresh.pending = s.pending := rfl
@[simp] theorem State.fresh_variant : s.fresh.variant = s.variant := rfl
@[simp] theorem State.fresh_compatMax : s.fresh.compatMax = s.compatMax := rfl
@[simp] theorem State.fresh_stepping : s.fresh.stepping = s.stepping := rfl
@[simp] theorem State.fresh_phase : s.fresh.phase = s.phase := rfl
@[simp] theorem State.fresh_straps : s.fresh.straps = s.straps := rfl
@[simp] theorem State.fresh_mainUp : s.fresh.mainUp = s.mainUp := rfl
@[simp] theorem State.fresh_fc : s.fresh.fc = s.fc := rfl
@[simp] theorem State.fresh_tb : s.fresh.tb = s.tb := rfl
@[simp] theorem State.fresh_tbFrac : s.fresh.tbFrac = s.tbFrac := rfl
@[simp] theorem State.fresh_regs : s.fresh.regs = s.regs := rfl
@[simp] theorem State.fresh_pend : s.fresh.pend = s.pend := rfl
@[simp] theorem State.fresh_held : s.fresh.held = s.held := rfl
@[simp] theorem State.fresh_owners : s.fresh.owners = s.owners := rfl
@[simp] theorem State.fresh_locks : s.fresh.locks = s.locks := rfl
@[simp] theorem State.fresh_behaviour : s.fresh.behaviour = s.behaviour := rfl
@[simp] theorem State.fresh_hist : s.fresh.hist = s.hist := rfl
@[simp] theorem State.fresh_resp : s.fresh.resp = s.resp := rfl
@[simp] theorem State.fresh_mem : s.fresh.mem = s.mem := rfl
@[simp] theorem State.fresh_hostMem : s.fresh.hostMem = s.hostMem := rfl
@[simp] theorem State.fresh_pad : s.fresh.pad = s.pad := rfl
@[simp] theorem State.fresh_padErr : s.fresh.padErr = s.padErr := rfl
@[simp] theorem State.fresh_msSeen : s.fresh.msSeen = s.msSeen := rfl
@[simp] theorem State.fresh_iram : s.fresh.iram = s.iram := rfl
@[simp] theorem State.fresh_windows : s.fresh.windows = s.windows := rfl
@[simp] theorem State.fresh_sapRam : s.fresh.sapRam = s.sapRam := rfl
@[simp] theorem State.fresh_palette : s.fresh.palette = s.palette := rfl
@[simp] theorem State.fresh_flock : s.fresh.flock = s.flock := rfl
@[simp] theorem State.fresh_lut : s.fresh.lut = s.lut := rfl
@[simp] theorem State.fresh_engines : s.fresh.engines = s.engines := rfl
@[simp] theorem State.fresh_caches : s.fresh.caches = s.caches := rfl
@[simp] theorem State.fresh_heads : s.fresh.heads = s.heads := rfl
@[simp] theorem State.fresh_ports : s.fresh.ports = s.ports := rfl
@[simp] theorem State.fresh_relief : s.fresh.relief = s.relief := rfl
@[simp] theorem State.fresh_blt : s.fresh.blt = s.blt := rfl
@[simp] theorem State.fresh_fps : s.fresh.fps = s.fps := rfl
@[simp] theorem State.fresh_relayRx : s.fresh.relayRx = s.relayRx := rfl
@[simp] theorem State.fresh_cvs : s.fresh.cvs = s.cvs := rfl
@[simp] theorem State.fresh_points : s.fresh.points = s.points := rfl
@[simp] theorem State.fresh_txns : s.fresh.txns = s.txns := rfl
@[simp] theorem State.fresh_txnCount : s.fresh.txnCount = s.txnCount := rfl
@[simp] theorem State.fresh_journal : s.fresh.journal = s.journal := rfl
@[simp] theorem State.fresh_mirror : s.fresh.mirror = s.mirror := rfl
@[simp] theorem State.fresh_cores : s.fresh.cores = s.cores := rfl
@[simp] theorem State.fresh_bankLast : s.fresh.bankLast = s.bankLast := rfl
@[simp] theorem State.fresh_audio : s.fresh.audio = s.audio := rfl
@[simp] theorem State.fresh_groups : s.fresh.groups = s.groups := rfl
@[simp] theorem State.fresh_dv : s.fresh.dv = s.dv := rfl
@[simp] theorem State.fresh_dvNext : s.fresh.dvNext = s.dvNext := rfl
@[simp] theorem State.fresh_dvLast : s.fresh.dvLast = s.dvLast := rfl
@[simp] theorem State.fresh_host : s.fresh.host = s.host := rfl
@[simp] theorem State.fresh_pins : s.fresh.pins = s.pins := rfl
@[simp] theorem State.fresh_doms : s.fresh.doms = s.doms := rfl
@[simp] theorem State.fresh_clocks : s.fresh.clocks = s.clocks := rfl
@[simp] theorem State.fresh_wdog : s.fresh.wdog = s.wdog := rfl
@[simp] theorem State.fresh_trainFc : s.fresh.trainFc = s.trainFc := rfl

/-! ### setHist -/

@[simp] theorem State.setHist_pending (func page : Nat) (h : PageHist) : (s.setHist func page h).pending = s.pending := rfl
@[simp] theorem State.setHist_freeCtr (func page : Nat) (h : PageHist) : (s.setHist func page h).freeCtr = s.freeCtr := rfl
@[simp] theorem State.setHist_variant (func page : Nat) (h : PageHist) : (s.setHist func page h).variant = s.variant := rfl
@[simp] theorem State.setHist_compatMax (func page : Nat) (h : PageHist) : (s.setHist func page h).compatMax = s.compatMax := rfl
@[simp] theorem State.setHist_stepping (func page : Nat) (h : PageHist) : (s.setHist func page h).stepping = s.stepping := rfl
@[simp] theorem State.setHist_phase (func page : Nat) (h : PageHist) : (s.setHist func page h).phase = s.phase := rfl
@[simp] theorem State.setHist_straps (func page : Nat) (h : PageHist) : (s.setHist func page h).straps = s.straps := rfl
@[simp] theorem State.setHist_mainUp (func page : Nat) (h : PageHist) : (s.setHist func page h).mainUp = s.mainUp := rfl
@[simp] theorem State.setHist_fc (func page : Nat) (h : PageHist) : (s.setHist func page h).fc = s.fc := rfl
@[simp] theorem State.setHist_tb (func page : Nat) (h : PageHist) : (s.setHist func page h).tb = s.tb := rfl
@[simp] theorem State.setHist_tbFrac (func page : Nat) (h : PageHist) : (s.setHist func page h).tbFrac = s.tbFrac := rfl
@[simp] theorem State.setHist_regs (func page : Nat) (h : PageHist) : (s.setHist func page h).regs = s.regs := rfl
@[simp] theorem State.setHist_pend (func page : Nat) (h : PageHist) : (s.setHist func page h).pend = s.pend := rfl
@[simp] theorem State.setHist_held (func page : Nat) (h : PageHist) : (s.setHist func page h).held = s.held := rfl
@[simp] theorem State.setHist_owners (func page : Nat) (h : PageHist) : (s.setHist func page h).owners = s.owners := rfl
@[simp] theorem State.setHist_locks (func page : Nat) (h : PageHist) : (s.setHist func page h).locks = s.locks := rfl
@[simp] theorem State.setHist_behaviour (func page : Nat) (h : PageHist) : (s.setHist func page h).behaviour = s.behaviour := rfl
@[simp] theorem State.setHist_resp (func page : Nat) (h : PageHist) : (s.setHist func page h).resp = s.resp := rfl
@[simp] theorem State.setHist_mem (func page : Nat) (h : PageHist) : (s.setHist func page h).mem = s.mem := rfl
@[simp] theorem State.setHist_hostMem (func page : Nat) (h : PageHist) : (s.setHist func page h).hostMem = s.hostMem := rfl
@[simp] theorem State.setHist_pad (func page : Nat) (h : PageHist) : (s.setHist func page h).pad = s.pad := rfl
@[simp] theorem State.setHist_padErr (func page : Nat) (h : PageHist) : (s.setHist func page h).padErr = s.padErr := rfl
@[simp] theorem State.setHist_msSeen (func page : Nat) (h : PageHist) : (s.setHist func page h).msSeen = s.msSeen := rfl
@[simp] theorem State.setHist_iram (func page : Nat) (h : PageHist) : (s.setHist func page h).iram = s.iram := rfl
@[simp] theorem State.setHist_windows (func page : Nat) (h : PageHist) : (s.setHist func page h).windows = s.windows := rfl
@[simp] theorem State.setHist_sapRam (func page : Nat) (h : PageHist) : (s.setHist func page h).sapRam = s.sapRam := rfl
@[simp] theorem State.setHist_palette (func page : Nat) (h : PageHist) : (s.setHist func page h).palette = s.palette := rfl
@[simp] theorem State.setHist_flock (func page : Nat) (h : PageHist) : (s.setHist func page h).flock = s.flock := rfl
@[simp] theorem State.setHist_lut (func page : Nat) (h : PageHist) : (s.setHist func page h).lut = s.lut := rfl
@[simp] theorem State.setHist_engines (func page : Nat) (h : PageHist) : (s.setHist func page h).engines = s.engines := rfl
@[simp] theorem State.setHist_caches (func page : Nat) (h : PageHist) : (s.setHist func page h).caches = s.caches := rfl
@[simp] theorem State.setHist_heads (func page : Nat) (h : PageHist) : (s.setHist func page h).heads = s.heads := rfl
@[simp] theorem State.setHist_ports (func page : Nat) (h : PageHist) : (s.setHist func page h).ports = s.ports := rfl
@[simp] theorem State.setHist_relief (func page : Nat) (h : PageHist) : (s.setHist func page h).relief = s.relief := rfl
@[simp] theorem State.setHist_blt (func page : Nat) (h : PageHist) : (s.setHist func page h).blt = s.blt := rfl
@[simp] theorem State.setHist_fps (func page : Nat) (h : PageHist) : (s.setHist func page h).fps = s.fps := rfl
@[simp] theorem State.setHist_relayRx (func page : Nat) (h : PageHist) : (s.setHist func page h).relayRx = s.relayRx := rfl
@[simp] theorem State.setHist_cvs (func page : Nat) (h : PageHist) : (s.setHist func page h).cvs = s.cvs := rfl
@[simp] theorem State.setHist_points (func page : Nat) (h : PageHist) : (s.setHist func page h).points = s.points := rfl
@[simp] theorem State.setHist_txns (func page : Nat) (h : PageHist) : (s.setHist func page h).txns = s.txns := rfl
@[simp] theorem State.setHist_txnCount (func page : Nat) (h : PageHist) : (s.setHist func page h).txnCount = s.txnCount := rfl
@[simp] theorem State.setHist_journal (func page : Nat) (h : PageHist) : (s.setHist func page h).journal = s.journal := rfl
@[simp] theorem State.setHist_mirror (func page : Nat) (h : PageHist) : (s.setHist func page h).mirror = s.mirror := rfl
@[simp] theorem State.setHist_cores (func page : Nat) (h : PageHist) : (s.setHist func page h).cores = s.cores := rfl
@[simp] theorem State.setHist_bankLast (func page : Nat) (h : PageHist) : (s.setHist func page h).bankLast = s.bankLast := rfl
@[simp] theorem State.setHist_audio (func page : Nat) (h : PageHist) : (s.setHist func page h).audio = s.audio := rfl
@[simp] theorem State.setHist_groups (func page : Nat) (h : PageHist) : (s.setHist func page h).groups = s.groups := rfl
@[simp] theorem State.setHist_dv (func page : Nat) (h : PageHist) : (s.setHist func page h).dv = s.dv := rfl
@[simp] theorem State.setHist_dvNext (func page : Nat) (h : PageHist) : (s.setHist func page h).dvNext = s.dvNext := rfl
@[simp] theorem State.setHist_dvLast (func page : Nat) (h : PageHist) : (s.setHist func page h).dvLast = s.dvLast := rfl
@[simp] theorem State.setHist_host (func page : Nat) (h : PageHist) : (s.setHist func page h).host = s.host := rfl
@[simp] theorem State.setHist_pins (func page : Nat) (h : PageHist) : (s.setHist func page h).pins = s.pins := rfl
@[simp] theorem State.setHist_doms (func page : Nat) (h : PageHist) : (s.setHist func page h).doms = s.doms := rfl
@[simp] theorem State.setHist_clocks (func page : Nat) (h : PageHist) : (s.setHist func page h).clocks = s.clocks := rfl
@[simp] theorem State.setHist_wdog (func page : Nat) (h : PageHist) : (s.setHist func page h).wdog = s.wdog := rfl
@[simp] theorem State.setHist_trainFc (func page : Nat) (h : PageHist) : (s.setHist func page h).trainFc = s.trainFc := rfl

/-! ### setOwner -/

@[simp] theorem State.setOwner_pending (func page : Nat) (c : Code) : (s.setOwner func page c).pending = s.pending := rfl
@[simp] theorem State.setOwner_freeCtr (func page : Nat) (c : Code) : (s.setOwner func page c).freeCtr = s.freeCtr := rfl
@[simp] theorem State.setOwner_variant (func page : Nat) (c : Code) : (s.setOwner func page c).variant = s.variant := rfl
@[simp] theorem State.setOwner_compatMax (func page : Nat) (c : Code) : (s.setOwner func page c).compatMax = s.compatMax := rfl
@[simp] theorem State.setOwner_stepping (func page : Nat) (c : Code) : (s.setOwner func page c).stepping = s.stepping := rfl
@[simp] theorem State.setOwner_phase (func page : Nat) (c : Code) : (s.setOwner func page c).phase = s.phase := rfl
@[simp] theorem State.setOwner_straps (func page : Nat) (c : Code) : (s.setOwner func page c).straps = s.straps := rfl
@[simp] theorem State.setOwner_mainUp (func page : Nat) (c : Code) : (s.setOwner func page c).mainUp = s.mainUp := rfl
@[simp] theorem State.setOwner_fc (func page : Nat) (c : Code) : (s.setOwner func page c).fc = s.fc := rfl
@[simp] theorem State.setOwner_tb (func page : Nat) (c : Code) : (s.setOwner func page c).tb = s.tb := rfl
@[simp] theorem State.setOwner_tbFrac (func page : Nat) (c : Code) : (s.setOwner func page c).tbFrac = s.tbFrac := rfl
@[simp] theorem State.setOwner_regs (func page : Nat) (c : Code) : (s.setOwner func page c).regs = s.regs := rfl
@[simp] theorem State.setOwner_pend (func page : Nat) (c : Code) : (s.setOwner func page c).pend = s.pend := rfl
@[simp] theorem State.setOwner_held (func page : Nat) (c : Code) : (s.setOwner func page c).held = s.held := rfl
@[simp] theorem State.setOwner_locks (func page : Nat) (c : Code) : (s.setOwner func page c).locks = s.locks := rfl
@[simp] theorem State.setOwner_behaviour (func page : Nat) (c : Code) : (s.setOwner func page c).behaviour = s.behaviour := rfl
@[simp] theorem State.setOwner_hist (func page : Nat) (c : Code) : (s.setOwner func page c).hist = s.hist := rfl
@[simp] theorem State.setOwner_resp (func page : Nat) (c : Code) : (s.setOwner func page c).resp = s.resp := rfl
@[simp] theorem State.setOwner_mem (func page : Nat) (c : Code) : (s.setOwner func page c).mem = s.mem := rfl
@[simp] theorem State.setOwner_hostMem (func page : Nat) (c : Code) : (s.setOwner func page c).hostMem = s.hostMem := rfl
@[simp] theorem State.setOwner_pad (func page : Nat) (c : Code) : (s.setOwner func page c).pad = s.pad := rfl
@[simp] theorem State.setOwner_padErr (func page : Nat) (c : Code) : (s.setOwner func page c).padErr = s.padErr := rfl
@[simp] theorem State.setOwner_msSeen (func page : Nat) (c : Code) : (s.setOwner func page c).msSeen = s.msSeen := rfl
@[simp] theorem State.setOwner_iram (func page : Nat) (c : Code) : (s.setOwner func page c).iram = s.iram := rfl
@[simp] theorem State.setOwner_windows (func page : Nat) (c : Code) : (s.setOwner func page c).windows = s.windows := rfl
@[simp] theorem State.setOwner_sapRam (func page : Nat) (c : Code) : (s.setOwner func page c).sapRam = s.sapRam := rfl
@[simp] theorem State.setOwner_palette (func page : Nat) (c : Code) : (s.setOwner func page c).palette = s.palette := rfl
@[simp] theorem State.setOwner_flock (func page : Nat) (c : Code) : (s.setOwner func page c).flock = s.flock := rfl
@[simp] theorem State.setOwner_lut (func page : Nat) (c : Code) : (s.setOwner func page c).lut = s.lut := rfl
@[simp] theorem State.setOwner_engines (func page : Nat) (c : Code) : (s.setOwner func page c).engines = s.engines := rfl
@[simp] theorem State.setOwner_caches (func page : Nat) (c : Code) : (s.setOwner func page c).caches = s.caches := rfl
@[simp] theorem State.setOwner_heads (func page : Nat) (c : Code) : (s.setOwner func page c).heads = s.heads := rfl
@[simp] theorem State.setOwner_ports (func page : Nat) (c : Code) : (s.setOwner func page c).ports = s.ports := rfl
@[simp] theorem State.setOwner_relief (func page : Nat) (c : Code) : (s.setOwner func page c).relief = s.relief := rfl
@[simp] theorem State.setOwner_blt (func page : Nat) (c : Code) : (s.setOwner func page c).blt = s.blt := rfl
@[simp] theorem State.setOwner_fps (func page : Nat) (c : Code) : (s.setOwner func page c).fps = s.fps := rfl
@[simp] theorem State.setOwner_relayRx (func page : Nat) (c : Code) : (s.setOwner func page c).relayRx = s.relayRx := rfl
@[simp] theorem State.setOwner_cvs (func page : Nat) (c : Code) : (s.setOwner func page c).cvs = s.cvs := rfl
@[simp] theorem State.setOwner_points (func page : Nat) (c : Code) : (s.setOwner func page c).points = s.points := rfl
@[simp] theorem State.setOwner_txns (func page : Nat) (c : Code) : (s.setOwner func page c).txns = s.txns := rfl
@[simp] theorem State.setOwner_txnCount (func page : Nat) (c : Code) : (s.setOwner func page c).txnCount = s.txnCount := rfl
@[simp] theorem State.setOwner_journal (func page : Nat) (c : Code) : (s.setOwner func page c).journal = s.journal := rfl
@[simp] theorem State.setOwner_mirror (func page : Nat) (c : Code) : (s.setOwner func page c).mirror = s.mirror := rfl
@[simp] theorem State.setOwner_cores (func page : Nat) (c : Code) : (s.setOwner func page c).cores = s.cores := rfl
@[simp] theorem State.setOwner_bankLast (func page : Nat) (c : Code) : (s.setOwner func page c).bankLast = s.bankLast := rfl
@[simp] theorem State.setOwner_audio (func page : Nat) (c : Code) : (s.setOwner func page c).audio = s.audio := rfl
@[simp] theorem State.setOwner_groups (func page : Nat) (c : Code) : (s.setOwner func page c).groups = s.groups := rfl
@[simp] theorem State.setOwner_dv (func page : Nat) (c : Code) : (s.setOwner func page c).dv = s.dv := rfl
@[simp] theorem State.setOwner_dvNext (func page : Nat) (c : Code) : (s.setOwner func page c).dvNext = s.dvNext := rfl
@[simp] theorem State.setOwner_dvLast (func page : Nat) (c : Code) : (s.setOwner func page c).dvLast = s.dvLast := rfl
@[simp] theorem State.setOwner_host (func page : Nat) (c : Code) : (s.setOwner func page c).host = s.host := rfl
@[simp] theorem State.setOwner_pins (func page : Nat) (c : Code) : (s.setOwner func page c).pins = s.pins := rfl
@[simp] theorem State.setOwner_doms (func page : Nat) (c : Code) : (s.setOwner func page c).doms = s.doms := rfl
@[simp] theorem State.setOwner_clocks (func page : Nat) (c : Code) : (s.setOwner func page c).clocks = s.clocks := rfl
@[simp] theorem State.setOwner_wdog (func page : Nat) (c : Code) : (s.setOwner func page c).wdog = s.wdog := rfl
@[simp] theorem State.setOwner_trainFc (func page : Nat) (c : Code) : (s.setOwner func page c).trainFc = s.trainFc := rfl

/-! ### setEng -/

@[simp] theorem State.setEng_pending (n : Nat) (x : Engine) : (s.setEng n x).pending = s.pending := rfl
@[simp] theorem State.setEng_freeCtr (n : Nat) (x : Engine) : (s.setEng n x).freeCtr = s.freeCtr := rfl
@[simp] theorem State.setEng_variant (n : Nat) (x : Engine) : (s.setEng n x).variant = s.variant := rfl
@[simp] theorem State.setEng_compatMax (n : Nat) (x : Engine) : (s.setEng n x).compatMax = s.compatMax := rfl
@[simp] theorem State.setEng_stepping (n : Nat) (x : Engine) : (s.setEng n x).stepping = s.stepping := rfl
@[simp] theorem State.setEng_phase (n : Nat) (x : Engine) : (s.setEng n x).phase = s.phase := rfl
@[simp] theorem State.setEng_straps (n : Nat) (x : Engine) : (s.setEng n x).straps = s.straps := rfl
@[simp] theorem State.setEng_mainUp (n : Nat) (x : Engine) : (s.setEng n x).mainUp = s.mainUp := rfl
@[simp] theorem State.setEng_fc (n : Nat) (x : Engine) : (s.setEng n x).fc = s.fc := rfl
@[simp] theorem State.setEng_tb (n : Nat) (x : Engine) : (s.setEng n x).tb = s.tb := rfl
@[simp] theorem State.setEng_tbFrac (n : Nat) (x : Engine) : (s.setEng n x).tbFrac = s.tbFrac := rfl
@[simp] theorem State.setEng_regs (n : Nat) (x : Engine) : (s.setEng n x).regs = s.regs := rfl
@[simp] theorem State.setEng_pend (n : Nat) (x : Engine) : (s.setEng n x).pend = s.pend := rfl
@[simp] theorem State.setEng_held (n : Nat) (x : Engine) : (s.setEng n x).held = s.held := rfl
@[simp] theorem State.setEng_owners (n : Nat) (x : Engine) : (s.setEng n x).owners = s.owners := rfl
@[simp] theorem State.setEng_locks (n : Nat) (x : Engine) : (s.setEng n x).locks = s.locks := rfl
@[simp] theorem State.setEng_behaviour (n : Nat) (x : Engine) : (s.setEng n x).behaviour = s.behaviour := rfl
@[simp] theorem State.setEng_hist (n : Nat) (x : Engine) : (s.setEng n x).hist = s.hist := rfl
@[simp] theorem State.setEng_resp (n : Nat) (x : Engine) : (s.setEng n x).resp = s.resp := rfl
@[simp] theorem State.setEng_mem (n : Nat) (x : Engine) : (s.setEng n x).mem = s.mem := rfl
@[simp] theorem State.setEng_hostMem (n : Nat) (x : Engine) : (s.setEng n x).hostMem = s.hostMem := rfl
@[simp] theorem State.setEng_pad (n : Nat) (x : Engine) : (s.setEng n x).pad = s.pad := rfl
@[simp] theorem State.setEng_padErr (n : Nat) (x : Engine) : (s.setEng n x).padErr = s.padErr := rfl
@[simp] theorem State.setEng_msSeen (n : Nat) (x : Engine) : (s.setEng n x).msSeen = s.msSeen := rfl
@[simp] theorem State.setEng_iram (n : Nat) (x : Engine) : (s.setEng n x).iram = s.iram := rfl
@[simp] theorem State.setEng_windows (n : Nat) (x : Engine) : (s.setEng n x).windows = s.windows := rfl
@[simp] theorem State.setEng_sapRam (n : Nat) (x : Engine) : (s.setEng n x).sapRam = s.sapRam := rfl
@[simp] theorem State.setEng_palette (n : Nat) (x : Engine) : (s.setEng n x).palette = s.palette := rfl
@[simp] theorem State.setEng_flock (n : Nat) (x : Engine) : (s.setEng n x).flock = s.flock := rfl
@[simp] theorem State.setEng_lut (n : Nat) (x : Engine) : (s.setEng n x).lut = s.lut := rfl
@[simp] theorem State.setEng_caches (n : Nat) (x : Engine) : (s.setEng n x).caches = s.caches := rfl
@[simp] theorem State.setEng_heads (n : Nat) (x : Engine) : (s.setEng n x).heads = s.heads := rfl
@[simp] theorem State.setEng_ports (n : Nat) (x : Engine) : (s.setEng n x).ports = s.ports := rfl
@[simp] theorem State.setEng_relief (n : Nat) (x : Engine) : (s.setEng n x).relief = s.relief := rfl
@[simp] theorem State.setEng_blt (n : Nat) (x : Engine) : (s.setEng n x).blt = s.blt := rfl
@[simp] theorem State.setEng_fps (n : Nat) (x : Engine) : (s.setEng n x).fps = s.fps := rfl
@[simp] theorem State.setEng_relayRx (n : Nat) (x : Engine) : (s.setEng n x).relayRx = s.relayRx := rfl
@[simp] theorem State.setEng_cvs (n : Nat) (x : Engine) : (s.setEng n x).cvs = s.cvs := rfl
@[simp] theorem State.setEng_points (n : Nat) (x : Engine) : (s.setEng n x).points = s.points := rfl
@[simp] theorem State.setEng_txns (n : Nat) (x : Engine) : (s.setEng n x).txns = s.txns := rfl
@[simp] theorem State.setEng_txnCount (n : Nat) (x : Engine) : (s.setEng n x).txnCount = s.txnCount := rfl
@[simp] theorem State.setEng_journal (n : Nat) (x : Engine) : (s.setEng n x).journal = s.journal := rfl
@[simp] theorem State.setEng_mirror (n : Nat) (x : Engine) : (s.setEng n x).mirror = s.mirror := rfl
@[simp] theorem State.setEng_cores (n : Nat) (x : Engine) : (s.setEng n x).cores = s.cores := rfl
@[simp] theorem State.setEng_bankLast (n : Nat) (x : Engine) : (s.setEng n x).bankLast = s.bankLast := rfl
@[simp] theorem State.setEng_audio (n : Nat) (x : Engine) : (s.setEng n x).audio = s.audio := rfl
@[simp] theorem State.setEng_groups (n : Nat) (x : Engine) : (s.setEng n x).groups = s.groups := rfl
@[simp] theorem State.setEng_dv (n : Nat) (x : Engine) : (s.setEng n x).dv = s.dv := rfl
@[simp] theorem State.setEng_dvNext (n : Nat) (x : Engine) : (s.setEng n x).dvNext = s.dvNext := rfl
@[simp] theorem State.setEng_dvLast (n : Nat) (x : Engine) : (s.setEng n x).dvLast = s.dvLast := rfl
@[simp] theorem State.setEng_host (n : Nat) (x : Engine) : (s.setEng n x).host = s.host := rfl
@[simp] theorem State.setEng_pins (n : Nat) (x : Engine) : (s.setEng n x).pins = s.pins := rfl
@[simp] theorem State.setEng_doms (n : Nat) (x : Engine) : (s.setEng n x).doms = s.doms := rfl
@[simp] theorem State.setEng_clocks (n : Nat) (x : Engine) : (s.setEng n x).clocks = s.clocks := rfl
@[simp] theorem State.setEng_wdog (n : Nat) (x : Engine) : (s.setEng n x).wdog = s.wdog := rfl
@[simp] theorem State.setEng_trainFc (n : Nat) (x : Engine) : (s.setEng n x).trainFc = s.trainFc := rfl

/-! ### setHd -/

@[simp] theorem State.setHd_pending (n : Nat) (x : HeadSt) : (s.setHd n x).pending = s.pending := rfl
@[simp] theorem State.setHd_freeCtr (n : Nat) (x : HeadSt) : (s.setHd n x).freeCtr = s.freeCtr := rfl
@[simp] theorem State.setHd_variant (n : Nat) (x : HeadSt) : (s.setHd n x).variant = s.variant := rfl
@[simp] theorem State.setHd_compatMax (n : Nat) (x : HeadSt) : (s.setHd n x).compatMax = s.compatMax := rfl
@[simp] theorem State.setHd_stepping (n : Nat) (x : HeadSt) : (s.setHd n x).stepping = s.stepping := rfl
@[simp] theorem State.setHd_phase (n : Nat) (x : HeadSt) : (s.setHd n x).phase = s.phase := rfl
@[simp] theorem State.setHd_straps (n : Nat) (x : HeadSt) : (s.setHd n x).straps = s.straps := rfl
@[simp] theorem State.setHd_mainUp (n : Nat) (x : HeadSt) : (s.setHd n x).mainUp = s.mainUp := rfl
@[simp] theorem State.setHd_fc (n : Nat) (x : HeadSt) : (s.setHd n x).fc = s.fc := rfl
@[simp] theorem State.setHd_tb (n : Nat) (x : HeadSt) : (s.setHd n x).tb = s.tb := rfl
@[simp] theorem State.setHd_tbFrac (n : Nat) (x : HeadSt) : (s.setHd n x).tbFrac = s.tbFrac := rfl
@[simp] theorem State.setHd_regs (n : Nat) (x : HeadSt) : (s.setHd n x).regs = s.regs := rfl
@[simp] theorem State.setHd_pend (n : Nat) (x : HeadSt) : (s.setHd n x).pend = s.pend := rfl
@[simp] theorem State.setHd_held (n : Nat) (x : HeadSt) : (s.setHd n x).held = s.held := rfl
@[simp] theorem State.setHd_owners (n : Nat) (x : HeadSt) : (s.setHd n x).owners = s.owners := rfl
@[simp] theorem State.setHd_locks (n : Nat) (x : HeadSt) : (s.setHd n x).locks = s.locks := rfl
@[simp] theorem State.setHd_behaviour (n : Nat) (x : HeadSt) : (s.setHd n x).behaviour = s.behaviour := rfl
@[simp] theorem State.setHd_hist (n : Nat) (x : HeadSt) : (s.setHd n x).hist = s.hist := rfl
@[simp] theorem State.setHd_resp (n : Nat) (x : HeadSt) : (s.setHd n x).resp = s.resp := rfl
@[simp] theorem State.setHd_mem (n : Nat) (x : HeadSt) : (s.setHd n x).mem = s.mem := rfl
@[simp] theorem State.setHd_hostMem (n : Nat) (x : HeadSt) : (s.setHd n x).hostMem = s.hostMem := rfl
@[simp] theorem State.setHd_pad (n : Nat) (x : HeadSt) : (s.setHd n x).pad = s.pad := rfl
@[simp] theorem State.setHd_padErr (n : Nat) (x : HeadSt) : (s.setHd n x).padErr = s.padErr := rfl
@[simp] theorem State.setHd_msSeen (n : Nat) (x : HeadSt) : (s.setHd n x).msSeen = s.msSeen := rfl
@[simp] theorem State.setHd_iram (n : Nat) (x : HeadSt) : (s.setHd n x).iram = s.iram := rfl
@[simp] theorem State.setHd_windows (n : Nat) (x : HeadSt) : (s.setHd n x).windows = s.windows := rfl
@[simp] theorem State.setHd_sapRam (n : Nat) (x : HeadSt) : (s.setHd n x).sapRam = s.sapRam := rfl
@[simp] theorem State.setHd_palette (n : Nat) (x : HeadSt) : (s.setHd n x).palette = s.palette := rfl
@[simp] theorem State.setHd_flock (n : Nat) (x : HeadSt) : (s.setHd n x).flock = s.flock := rfl
@[simp] theorem State.setHd_lut (n : Nat) (x : HeadSt) : (s.setHd n x).lut = s.lut := rfl
@[simp] theorem State.setHd_engines (n : Nat) (x : HeadSt) : (s.setHd n x).engines = s.engines := rfl
@[simp] theorem State.setHd_caches (n : Nat) (x : HeadSt) : (s.setHd n x).caches = s.caches := rfl
@[simp] theorem State.setHd_ports (n : Nat) (x : HeadSt) : (s.setHd n x).ports = s.ports := rfl
@[simp] theorem State.setHd_relief (n : Nat) (x : HeadSt) : (s.setHd n x).relief = s.relief := rfl
@[simp] theorem State.setHd_blt (n : Nat) (x : HeadSt) : (s.setHd n x).blt = s.blt := rfl
@[simp] theorem State.setHd_fps (n : Nat) (x : HeadSt) : (s.setHd n x).fps = s.fps := rfl
@[simp] theorem State.setHd_relayRx (n : Nat) (x : HeadSt) : (s.setHd n x).relayRx = s.relayRx := rfl
@[simp] theorem State.setHd_cvs (n : Nat) (x : HeadSt) : (s.setHd n x).cvs = s.cvs := rfl
@[simp] theorem State.setHd_points (n : Nat) (x : HeadSt) : (s.setHd n x).points = s.points := rfl
@[simp] theorem State.setHd_txns (n : Nat) (x : HeadSt) : (s.setHd n x).txns = s.txns := rfl
@[simp] theorem State.setHd_txnCount (n : Nat) (x : HeadSt) : (s.setHd n x).txnCount = s.txnCount := rfl
@[simp] theorem State.setHd_journal (n : Nat) (x : HeadSt) : (s.setHd n x).journal = s.journal := rfl
@[simp] theorem State.setHd_mirror (n : Nat) (x : HeadSt) : (s.setHd n x).mirror = s.mirror := rfl
@[simp] theorem State.setHd_cores (n : Nat) (x : HeadSt) : (s.setHd n x).cores = s.cores := rfl
@[simp] theorem State.setHd_bankLast (n : Nat) (x : HeadSt) : (s.setHd n x).bankLast = s.bankLast := rfl
@[simp] theorem State.setHd_audio (n : Nat) (x : HeadSt) : (s.setHd n x).audio = s.audio := rfl
@[simp] theorem State.setHd_groups (n : Nat) (x : HeadSt) : (s.setHd n x).groups = s.groups := rfl
@[simp] theorem State.setHd_dv (n : Nat) (x : HeadSt) : (s.setHd n x).dv = s.dv := rfl
@[simp] theorem State.setHd_dvNext (n : Nat) (x : HeadSt) : (s.setHd n x).dvNext = s.dvNext := rfl
@[simp] theorem State.setHd_dvLast (n : Nat) (x : HeadSt) : (s.setHd n x).dvLast = s.dvLast := rfl
@[simp] theorem State.setHd_host (n : Nat) (x : HeadSt) : (s.setHd n x).host = s.host := rfl
@[simp] theorem State.setHd_pins (n : Nat) (x : HeadSt) : (s.setHd n x).pins = s.pins := rfl
@[simp] theorem State.setHd_doms (n : Nat) (x : HeadSt) : (s.setHd n x).doms = s.doms := rfl
@[simp] theorem State.setHd_clocks (n : Nat) (x : HeadSt) : (s.setHd n x).clocks = s.clocks := rfl
@[simp] theorem State.setHd_wdog (n : Nat) (x : HeadSt) : (s.setHd n x).wdog = s.wdog := rfl
@[simp] theorem State.setHd_trainFc (n : Nat) (x : HeadSt) : (s.setHd n x).trainFc = s.trainFc := rfl

/-! ### setPort -/

@[simp] theorem State.setPort_pending (n : Nat) (x : PortSt) : (s.setPort n x).pending = s.pending := rfl
@[simp] theorem State.setPort_freeCtr (n : Nat) (x : PortSt) : (s.setPort n x).freeCtr = s.freeCtr := rfl
@[simp] theorem State.setPort_variant (n : Nat) (x : PortSt) : (s.setPort n x).variant = s.variant := rfl
@[simp] theorem State.setPort_compatMax (n : Nat) (x : PortSt) : (s.setPort n x).compatMax = s.compatMax := rfl
@[simp] theorem State.setPort_stepping (n : Nat) (x : PortSt) : (s.setPort n x).stepping = s.stepping := rfl
@[simp] theorem State.setPort_phase (n : Nat) (x : PortSt) : (s.setPort n x).phase = s.phase := rfl
@[simp] theorem State.setPort_straps (n : Nat) (x : PortSt) : (s.setPort n x).straps = s.straps := rfl
@[simp] theorem State.setPort_mainUp (n : Nat) (x : PortSt) : (s.setPort n x).mainUp = s.mainUp := rfl
@[simp] theorem State.setPort_fc (n : Nat) (x : PortSt) : (s.setPort n x).fc = s.fc := rfl
@[simp] theorem State.setPort_tb (n : Nat) (x : PortSt) : (s.setPort n x).tb = s.tb := rfl
@[simp] theorem State.setPort_tbFrac (n : Nat) (x : PortSt) : (s.setPort n x).tbFrac = s.tbFrac := rfl
@[simp] theorem State.setPort_regs (n : Nat) (x : PortSt) : (s.setPort n x).regs = s.regs := rfl
@[simp] theorem State.setPort_pend (n : Nat) (x : PortSt) : (s.setPort n x).pend = s.pend := rfl
@[simp] theorem State.setPort_held (n : Nat) (x : PortSt) : (s.setPort n x).held = s.held := rfl
@[simp] theorem State.setPort_owners (n : Nat) (x : PortSt) : (s.setPort n x).owners = s.owners := rfl
@[simp] theorem State.setPort_locks (n : Nat) (x : PortSt) : (s.setPort n x).locks = s.locks := rfl
@[simp] theorem State.setPort_behaviour (n : Nat) (x : PortSt) : (s.setPort n x).behaviour = s.behaviour := rfl
@[simp] theorem State.setPort_hist (n : Nat) (x : PortSt) : (s.setPort n x).hist = s.hist := rfl
@[simp] theorem State.setPort_resp (n : Nat) (x : PortSt) : (s.setPort n x).resp = s.resp := rfl
@[simp] theorem State.setPort_mem (n : Nat) (x : PortSt) : (s.setPort n x).mem = s.mem := rfl
@[simp] theorem State.setPort_hostMem (n : Nat) (x : PortSt) : (s.setPort n x).hostMem = s.hostMem := rfl
@[simp] theorem State.setPort_pad (n : Nat) (x : PortSt) : (s.setPort n x).pad = s.pad := rfl
@[simp] theorem State.setPort_padErr (n : Nat) (x : PortSt) : (s.setPort n x).padErr = s.padErr := rfl
@[simp] theorem State.setPort_msSeen (n : Nat) (x : PortSt) : (s.setPort n x).msSeen = s.msSeen := rfl
@[simp] theorem State.setPort_iram (n : Nat) (x : PortSt) : (s.setPort n x).iram = s.iram := rfl
@[simp] theorem State.setPort_windows (n : Nat) (x : PortSt) : (s.setPort n x).windows = s.windows := rfl
@[simp] theorem State.setPort_sapRam (n : Nat) (x : PortSt) : (s.setPort n x).sapRam = s.sapRam := rfl
@[simp] theorem State.setPort_palette (n : Nat) (x : PortSt) : (s.setPort n x).palette = s.palette := rfl
@[simp] theorem State.setPort_flock (n : Nat) (x : PortSt) : (s.setPort n x).flock = s.flock := rfl
@[simp] theorem State.setPort_lut (n : Nat) (x : PortSt) : (s.setPort n x).lut = s.lut := rfl
@[simp] theorem State.setPort_engines (n : Nat) (x : PortSt) : (s.setPort n x).engines = s.engines := rfl
@[simp] theorem State.setPort_caches (n : Nat) (x : PortSt) : (s.setPort n x).caches = s.caches := rfl
@[simp] theorem State.setPort_heads (n : Nat) (x : PortSt) : (s.setPort n x).heads = s.heads := rfl
@[simp] theorem State.setPort_relief (n : Nat) (x : PortSt) : (s.setPort n x).relief = s.relief := rfl
@[simp] theorem State.setPort_blt (n : Nat) (x : PortSt) : (s.setPort n x).blt = s.blt := rfl
@[simp] theorem State.setPort_fps (n : Nat) (x : PortSt) : (s.setPort n x).fps = s.fps := rfl
@[simp] theorem State.setPort_relayRx (n : Nat) (x : PortSt) : (s.setPort n x).relayRx = s.relayRx := rfl
@[simp] theorem State.setPort_cvs (n : Nat) (x : PortSt) : (s.setPort n x).cvs = s.cvs := rfl
@[simp] theorem State.setPort_points (n : Nat) (x : PortSt) : (s.setPort n x).points = s.points := rfl
@[simp] theorem State.setPort_txns (n : Nat) (x : PortSt) : (s.setPort n x).txns = s.txns := rfl
@[simp] theorem State.setPort_txnCount (n : Nat) (x : PortSt) : (s.setPort n x).txnCount = s.txnCount := rfl
@[simp] theorem State.setPort_journal (n : Nat) (x : PortSt) : (s.setPort n x).journal = s.journal := rfl
@[simp] theorem State.setPort_mirror (n : Nat) (x : PortSt) : (s.setPort n x).mirror = s.mirror := rfl
@[simp] theorem State.setPort_cores (n : Nat) (x : PortSt) : (s.setPort n x).cores = s.cores := rfl
@[simp] theorem State.setPort_bankLast (n : Nat) (x : PortSt) : (s.setPort n x).bankLast = s.bankLast := rfl
@[simp] theorem State.setPort_audio (n : Nat) (x : PortSt) : (s.setPort n x).audio = s.audio := rfl
@[simp] theorem State.setPort_groups (n : Nat) (x : PortSt) : (s.setPort n x).groups = s.groups := rfl
@[simp] theorem State.setPort_dv (n : Nat) (x : PortSt) : (s.setPort n x).dv = s.dv := rfl
@[simp] theorem State.setPort_dvNext (n : Nat) (x : PortSt) : (s.setPort n x).dvNext = s.dvNext := rfl
@[simp] theorem State.setPort_dvLast (n : Nat) (x : PortSt) : (s.setPort n x).dvLast = s.dvLast := rfl
@[simp] theorem State.setPort_host (n : Nat) (x : PortSt) : (s.setPort n x).host = s.host := rfl
@[simp] theorem State.setPort_pins (n : Nat) (x : PortSt) : (s.setPort n x).pins = s.pins := rfl
@[simp] theorem State.setPort_doms (n : Nat) (x : PortSt) : (s.setPort n x).doms = s.doms := rfl
@[simp] theorem State.setPort_clocks (n : Nat) (x : PortSt) : (s.setPort n x).clocks = s.clocks := rfl
@[simp] theorem State.setPort_wdog (n : Nat) (x : PortSt) : (s.setPort n x).wdog = s.wdog := rfl
@[simp] theorem State.setPort_trainFc (n : Nat) (x : PortSt) : (s.setPort n x).trainFc = s.trainFc := rfl

/-! ### setFp -/

@[simp] theorem State.setFp_pending (n : Nat) (x : FieldPort) : (s.setFp n x).pending = s.pending := rfl
@[simp] theorem State.setFp_freeCtr (n : Nat) (x : FieldPort) : (s.setFp n x).freeCtr = s.freeCtr := rfl
@[simp] theorem State.setFp_variant (n : Nat) (x : FieldPort) : (s.setFp n x).variant = s.variant := rfl
@[simp] theorem State.setFp_compatMax (n : Nat) (x : FieldPort) : (s.setFp n x).compatMax = s.compatMax := rfl
@[simp] theorem State.setFp_stepping (n : Nat) (x : FieldPort) : (s.setFp n x).stepping = s.stepping := rfl
@[simp] theorem State.setFp_phase (n : Nat) (x : FieldPort) : (s.setFp n x).phase = s.phase := rfl
@[simp] theorem State.setFp_straps (n : Nat) (x : FieldPort) : (s.setFp n x).straps = s.straps := rfl
@[simp] theorem State.setFp_mainUp (n : Nat) (x : FieldPort) : (s.setFp n x).mainUp = s.mainUp := rfl
@[simp] theorem State.setFp_fc (n : Nat) (x : FieldPort) : (s.setFp n x).fc = s.fc := rfl
@[simp] theorem State.setFp_tb (n : Nat) (x : FieldPort) : (s.setFp n x).tb = s.tb := rfl
@[simp] theorem State.setFp_tbFrac (n : Nat) (x : FieldPort) : (s.setFp n x).tbFrac = s.tbFrac := rfl
@[simp] theorem State.setFp_regs (n : Nat) (x : FieldPort) : (s.setFp n x).regs = s.regs := rfl
@[simp] theorem State.setFp_pend (n : Nat) (x : FieldPort) : (s.setFp n x).pend = s.pend := rfl
@[simp] theorem State.setFp_held (n : Nat) (x : FieldPort) : (s.setFp n x).held = s.held := rfl
@[simp] theorem State.setFp_owners (n : Nat) (x : FieldPort) : (s.setFp n x).owners = s.owners := rfl
@[simp] theorem State.setFp_locks (n : Nat) (x : FieldPort) : (s.setFp n x).locks = s.locks := rfl
@[simp] theorem State.setFp_behaviour (n : Nat) (x : FieldPort) : (s.setFp n x).behaviour = s.behaviour := rfl
@[simp] theorem State.setFp_hist (n : Nat) (x : FieldPort) : (s.setFp n x).hist = s.hist := rfl
@[simp] theorem State.setFp_resp (n : Nat) (x : FieldPort) : (s.setFp n x).resp = s.resp := rfl
@[simp] theorem State.setFp_mem (n : Nat) (x : FieldPort) : (s.setFp n x).mem = s.mem := rfl
@[simp] theorem State.setFp_hostMem (n : Nat) (x : FieldPort) : (s.setFp n x).hostMem = s.hostMem := rfl
@[simp] theorem State.setFp_pad (n : Nat) (x : FieldPort) : (s.setFp n x).pad = s.pad := rfl
@[simp] theorem State.setFp_padErr (n : Nat) (x : FieldPort) : (s.setFp n x).padErr = s.padErr := rfl
@[simp] theorem State.setFp_msSeen (n : Nat) (x : FieldPort) : (s.setFp n x).msSeen = s.msSeen := rfl
@[simp] theorem State.setFp_iram (n : Nat) (x : FieldPort) : (s.setFp n x).iram = s.iram := rfl
@[simp] theorem State.setFp_windows (n : Nat) (x : FieldPort) : (s.setFp n x).windows = s.windows := rfl
@[simp] theorem State.setFp_sapRam (n : Nat) (x : FieldPort) : (s.setFp n x).sapRam = s.sapRam := rfl
@[simp] theorem State.setFp_palette (n : Nat) (x : FieldPort) : (s.setFp n x).palette = s.palette := rfl
@[simp] theorem State.setFp_flock (n : Nat) (x : FieldPort) : (s.setFp n x).flock = s.flock := rfl
@[simp] theorem State.setFp_lut (n : Nat) (x : FieldPort) : (s.setFp n x).lut = s.lut := rfl
@[simp] theorem State.setFp_engines (n : Nat) (x : FieldPort) : (s.setFp n x).engines = s.engines := rfl
@[simp] theorem State.setFp_caches (n : Nat) (x : FieldPort) : (s.setFp n x).caches = s.caches := rfl
@[simp] theorem State.setFp_heads (n : Nat) (x : FieldPort) : (s.setFp n x).heads = s.heads := rfl
@[simp] theorem State.setFp_ports (n : Nat) (x : FieldPort) : (s.setFp n x).ports = s.ports := rfl
@[simp] theorem State.setFp_relief (n : Nat) (x : FieldPort) : (s.setFp n x).relief = s.relief := rfl
@[simp] theorem State.setFp_blt (n : Nat) (x : FieldPort) : (s.setFp n x).blt = s.blt := rfl
@[simp] theorem State.setFp_relayRx (n : Nat) (x : FieldPort) : (s.setFp n x).relayRx = s.relayRx := rfl
@[simp] theorem State.setFp_cvs (n : Nat) (x : FieldPort) : (s.setFp n x).cvs = s.cvs := rfl
@[simp] theorem State.setFp_points (n : Nat) (x : FieldPort) : (s.setFp n x).points = s.points := rfl
@[simp] theorem State.setFp_txns (n : Nat) (x : FieldPort) : (s.setFp n x).txns = s.txns := rfl
@[simp] theorem State.setFp_txnCount (n : Nat) (x : FieldPort) : (s.setFp n x).txnCount = s.txnCount := rfl
@[simp] theorem State.setFp_journal (n : Nat) (x : FieldPort) : (s.setFp n x).journal = s.journal := rfl
@[simp] theorem State.setFp_mirror (n : Nat) (x : FieldPort) : (s.setFp n x).mirror = s.mirror := rfl
@[simp] theorem State.setFp_cores (n : Nat) (x : FieldPort) : (s.setFp n x).cores = s.cores := rfl
@[simp] theorem State.setFp_bankLast (n : Nat) (x : FieldPort) : (s.setFp n x).bankLast = s.bankLast := rfl
@[simp] theorem State.setFp_audio (n : Nat) (x : FieldPort) : (s.setFp n x).audio = s.audio := rfl
@[simp] theorem State.setFp_groups (n : Nat) (x : FieldPort) : (s.setFp n x).groups = s.groups := rfl
@[simp] theorem State.setFp_dv (n : Nat) (x : FieldPort) : (s.setFp n x).dv = s.dv := rfl
@[simp] theorem State.setFp_dvNext (n : Nat) (x : FieldPort) : (s.setFp n x).dvNext = s.dvNext := rfl
@[simp] theorem State.setFp_dvLast (n : Nat) (x : FieldPort) : (s.setFp n x).dvLast = s.dvLast := rfl
@[simp] theorem State.setFp_host (n : Nat) (x : FieldPort) : (s.setFp n x).host = s.host := rfl
@[simp] theorem State.setFp_pins (n : Nat) (x : FieldPort) : (s.setFp n x).pins = s.pins := rfl
@[simp] theorem State.setFp_doms (n : Nat) (x : FieldPort) : (s.setFp n x).doms = s.doms := rfl
@[simp] theorem State.setFp_clocks (n : Nat) (x : FieldPort) : (s.setFp n x).clocks = s.clocks := rfl
@[simp] theorem State.setFp_wdog (n : Nat) (x : FieldPort) : (s.setFp n x).wdog = s.wdog := rfl
@[simp] theorem State.setFp_trainFc (n : Nat) (x : FieldPort) : (s.setFp n x).trainFc = s.trainFc := rfl

/-! ### setCv -/

@[simp] theorem State.setCv_pending (n : Nat) (x : CvSt) : (s.setCv n x).pending = s.pending := rfl
@[simp] theorem State.setCv_freeCtr (n : Nat) (x : CvSt) : (s.setCv n x).freeCtr = s.freeCtr := rfl
@[simp] theorem State.setCv_variant (n : Nat) (x : CvSt) : (s.setCv n x).variant = s.variant := rfl
@[simp] theorem State.setCv_compatMax (n : Nat) (x : CvSt) : (s.setCv n x).compatMax = s.compatMax := rfl
@[simp] theorem State.setCv_stepping (n : Nat) (x : CvSt) : (s.setCv n x).stepping = s.stepping := rfl
@[simp] theorem State.setCv_phase (n : Nat) (x : CvSt) : (s.setCv n x).phase = s.phase := rfl
@[simp] theorem State.setCv_straps (n : Nat) (x : CvSt) : (s.setCv n x).straps = s.straps := rfl
@[simp] theorem State.setCv_mainUp (n : Nat) (x : CvSt) : (s.setCv n x).mainUp = s.mainUp := rfl
@[simp] theorem State.setCv_fc (n : Nat) (x : CvSt) : (s.setCv n x).fc = s.fc := rfl
@[simp] theorem State.setCv_tb (n : Nat) (x : CvSt) : (s.setCv n x).tb = s.tb := rfl
@[simp] theorem State.setCv_tbFrac (n : Nat) (x : CvSt) : (s.setCv n x).tbFrac = s.tbFrac := rfl
@[simp] theorem State.setCv_regs (n : Nat) (x : CvSt) : (s.setCv n x).regs = s.regs := rfl
@[simp] theorem State.setCv_pend (n : Nat) (x : CvSt) : (s.setCv n x).pend = s.pend := rfl
@[simp] theorem State.setCv_held (n : Nat) (x : CvSt) : (s.setCv n x).held = s.held := rfl
@[simp] theorem State.setCv_owners (n : Nat) (x : CvSt) : (s.setCv n x).owners = s.owners := rfl
@[simp] theorem State.setCv_locks (n : Nat) (x : CvSt) : (s.setCv n x).locks = s.locks := rfl
@[simp] theorem State.setCv_behaviour (n : Nat) (x : CvSt) : (s.setCv n x).behaviour = s.behaviour := rfl
@[simp] theorem State.setCv_hist (n : Nat) (x : CvSt) : (s.setCv n x).hist = s.hist := rfl
@[simp] theorem State.setCv_resp (n : Nat) (x : CvSt) : (s.setCv n x).resp = s.resp := rfl
@[simp] theorem State.setCv_mem (n : Nat) (x : CvSt) : (s.setCv n x).mem = s.mem := rfl
@[simp] theorem State.setCv_hostMem (n : Nat) (x : CvSt) : (s.setCv n x).hostMem = s.hostMem := rfl
@[simp] theorem State.setCv_pad (n : Nat) (x : CvSt) : (s.setCv n x).pad = s.pad := rfl
@[simp] theorem State.setCv_padErr (n : Nat) (x : CvSt) : (s.setCv n x).padErr = s.padErr := rfl
@[simp] theorem State.setCv_msSeen (n : Nat) (x : CvSt) : (s.setCv n x).msSeen = s.msSeen := rfl
@[simp] theorem State.setCv_iram (n : Nat) (x : CvSt) : (s.setCv n x).iram = s.iram := rfl
@[simp] theorem State.setCv_windows (n : Nat) (x : CvSt) : (s.setCv n x).windows = s.windows := rfl
@[simp] theorem State.setCv_sapRam (n : Nat) (x : CvSt) : (s.setCv n x).sapRam = s.sapRam := rfl
@[simp] theorem State.setCv_palette (n : Nat) (x : CvSt) : (s.setCv n x).palette = s.palette := rfl
@[simp] theorem State.setCv_flock (n : Nat) (x : CvSt) : (s.setCv n x).flock = s.flock := rfl
@[simp] theorem State.setCv_lut (n : Nat) (x : CvSt) : (s.setCv n x).lut = s.lut := rfl
@[simp] theorem State.setCv_engines (n : Nat) (x : CvSt) : (s.setCv n x).engines = s.engines := rfl
@[simp] theorem State.setCv_caches (n : Nat) (x : CvSt) : (s.setCv n x).caches = s.caches := rfl
@[simp] theorem State.setCv_heads (n : Nat) (x : CvSt) : (s.setCv n x).heads = s.heads := rfl
@[simp] theorem State.setCv_ports (n : Nat) (x : CvSt) : (s.setCv n x).ports = s.ports := rfl
@[simp] theorem State.setCv_relief (n : Nat) (x : CvSt) : (s.setCv n x).relief = s.relief := rfl
@[simp] theorem State.setCv_blt (n : Nat) (x : CvSt) : (s.setCv n x).blt = s.blt := rfl
@[simp] theorem State.setCv_fps (n : Nat) (x : CvSt) : (s.setCv n x).fps = s.fps := rfl
@[simp] theorem State.setCv_relayRx (n : Nat) (x : CvSt) : (s.setCv n x).relayRx = s.relayRx := rfl
@[simp] theorem State.setCv_points (n : Nat) (x : CvSt) : (s.setCv n x).points = s.points := rfl
@[simp] theorem State.setCv_txns (n : Nat) (x : CvSt) : (s.setCv n x).txns = s.txns := rfl
@[simp] theorem State.setCv_txnCount (n : Nat) (x : CvSt) : (s.setCv n x).txnCount = s.txnCount := rfl
@[simp] theorem State.setCv_journal (n : Nat) (x : CvSt) : (s.setCv n x).journal = s.journal := rfl
@[simp] theorem State.setCv_mirror (n : Nat) (x : CvSt) : (s.setCv n x).mirror = s.mirror := rfl
@[simp] theorem State.setCv_cores (n : Nat) (x : CvSt) : (s.setCv n x).cores = s.cores := rfl
@[simp] theorem State.setCv_bankLast (n : Nat) (x : CvSt) : (s.setCv n x).bankLast = s.bankLast := rfl
@[simp] theorem State.setCv_audio (n : Nat) (x : CvSt) : (s.setCv n x).audio = s.audio := rfl
@[simp] theorem State.setCv_groups (n : Nat) (x : CvSt) : (s.setCv n x).groups = s.groups := rfl
@[simp] theorem State.setCv_dv (n : Nat) (x : CvSt) : (s.setCv n x).dv = s.dv := rfl
@[simp] theorem State.setCv_dvNext (n : Nat) (x : CvSt) : (s.setCv n x).dvNext = s.dvNext := rfl
@[simp] theorem State.setCv_dvLast (n : Nat) (x : CvSt) : (s.setCv n x).dvLast = s.dvLast := rfl
@[simp] theorem State.setCv_host (n : Nat) (x : CvSt) : (s.setCv n x).host = s.host := rfl
@[simp] theorem State.setCv_pins (n : Nat) (x : CvSt) : (s.setCv n x).pins = s.pins := rfl
@[simp] theorem State.setCv_doms (n : Nat) (x : CvSt) : (s.setCv n x).doms = s.doms := rfl
@[simp] theorem State.setCv_clocks (n : Nat) (x : CvSt) : (s.setCv n x).clocks = s.clocks := rfl
@[simp] theorem State.setCv_wdog (n : Nat) (x : CvSt) : (s.setCv n x).wdog = s.wdog := rfl
@[simp] theorem State.setCv_trainFc (n : Nat) (x : CvSt) : (s.setCv n x).trainFc = s.trainFc := rfl

/-! ### setTxn -/

@[simp] theorem State.setTxn_pending (n : Nat) (x : Txn) : (s.setTxn n x).pending = s.pending := rfl
@[simp] theorem State.setTxn_freeCtr (n : Nat) (x : Txn) : (s.setTxn n x).freeCtr = s.freeCtr := rfl
@[simp] theorem State.setTxn_variant (n : Nat) (x : Txn) : (s.setTxn n x).variant = s.variant := rfl
@[simp] theorem State.setTxn_compatMax (n : Nat) (x : Txn) : (s.setTxn n x).compatMax = s.compatMax := rfl
@[simp] theorem State.setTxn_stepping (n : Nat) (x : Txn) : (s.setTxn n x).stepping = s.stepping := rfl
@[simp] theorem State.setTxn_phase (n : Nat) (x : Txn) : (s.setTxn n x).phase = s.phase := rfl
@[simp] theorem State.setTxn_straps (n : Nat) (x : Txn) : (s.setTxn n x).straps = s.straps := rfl
@[simp] theorem State.setTxn_mainUp (n : Nat) (x : Txn) : (s.setTxn n x).mainUp = s.mainUp := rfl
@[simp] theorem State.setTxn_fc (n : Nat) (x : Txn) : (s.setTxn n x).fc = s.fc := rfl
@[simp] theorem State.setTxn_tb (n : Nat) (x : Txn) : (s.setTxn n x).tb = s.tb := rfl
@[simp] theorem State.setTxn_tbFrac (n : Nat) (x : Txn) : (s.setTxn n x).tbFrac = s.tbFrac := rfl
@[simp] theorem State.setTxn_regs (n : Nat) (x : Txn) : (s.setTxn n x).regs = s.regs := rfl
@[simp] theorem State.setTxn_pend (n : Nat) (x : Txn) : (s.setTxn n x).pend = s.pend := rfl
@[simp] theorem State.setTxn_held (n : Nat) (x : Txn) : (s.setTxn n x).held = s.held := rfl
@[simp] theorem State.setTxn_owners (n : Nat) (x : Txn) : (s.setTxn n x).owners = s.owners := rfl
@[simp] theorem State.setTxn_locks (n : Nat) (x : Txn) : (s.setTxn n x).locks = s.locks := rfl
@[simp] theorem State.setTxn_behaviour (n : Nat) (x : Txn) : (s.setTxn n x).behaviour = s.behaviour := rfl
@[simp] theorem State.setTxn_hist (n : Nat) (x : Txn) : (s.setTxn n x).hist = s.hist := rfl
@[simp] theorem State.setTxn_resp (n : Nat) (x : Txn) : (s.setTxn n x).resp = s.resp := rfl
@[simp] theorem State.setTxn_mem (n : Nat) (x : Txn) : (s.setTxn n x).mem = s.mem := rfl
@[simp] theorem State.setTxn_hostMem (n : Nat) (x : Txn) : (s.setTxn n x).hostMem = s.hostMem := rfl
@[simp] theorem State.setTxn_pad (n : Nat) (x : Txn) : (s.setTxn n x).pad = s.pad := rfl
@[simp] theorem State.setTxn_padErr (n : Nat) (x : Txn) : (s.setTxn n x).padErr = s.padErr := rfl
@[simp] theorem State.setTxn_msSeen (n : Nat) (x : Txn) : (s.setTxn n x).msSeen = s.msSeen := rfl
@[simp] theorem State.setTxn_iram (n : Nat) (x : Txn) : (s.setTxn n x).iram = s.iram := rfl
@[simp] theorem State.setTxn_windows (n : Nat) (x : Txn) : (s.setTxn n x).windows = s.windows := rfl
@[simp] theorem State.setTxn_sapRam (n : Nat) (x : Txn) : (s.setTxn n x).sapRam = s.sapRam := rfl
@[simp] theorem State.setTxn_palette (n : Nat) (x : Txn) : (s.setTxn n x).palette = s.palette := rfl
@[simp] theorem State.setTxn_flock (n : Nat) (x : Txn) : (s.setTxn n x).flock = s.flock := rfl
@[simp] theorem State.setTxn_lut (n : Nat) (x : Txn) : (s.setTxn n x).lut = s.lut := rfl
@[simp] theorem State.setTxn_engines (n : Nat) (x : Txn) : (s.setTxn n x).engines = s.engines := rfl
@[simp] theorem State.setTxn_caches (n : Nat) (x : Txn) : (s.setTxn n x).caches = s.caches := rfl
@[simp] theorem State.setTxn_heads (n : Nat) (x : Txn) : (s.setTxn n x).heads = s.heads := rfl
@[simp] theorem State.setTxn_ports (n : Nat) (x : Txn) : (s.setTxn n x).ports = s.ports := rfl
@[simp] theorem State.setTxn_relief (n : Nat) (x : Txn) : (s.setTxn n x).relief = s.relief := rfl
@[simp] theorem State.setTxn_blt (n : Nat) (x : Txn) : (s.setTxn n x).blt = s.blt := rfl
@[simp] theorem State.setTxn_fps (n : Nat) (x : Txn) : (s.setTxn n x).fps = s.fps := rfl
@[simp] theorem State.setTxn_relayRx (n : Nat) (x : Txn) : (s.setTxn n x).relayRx = s.relayRx := rfl
@[simp] theorem State.setTxn_cvs (n : Nat) (x : Txn) : (s.setTxn n x).cvs = s.cvs := rfl
@[simp] theorem State.setTxn_points (n : Nat) (x : Txn) : (s.setTxn n x).points = s.points := rfl
@[simp] theorem State.setTxn_txnCount (n : Nat) (x : Txn) : (s.setTxn n x).txnCount = s.txnCount := rfl
@[simp] theorem State.setTxn_journal (n : Nat) (x : Txn) : (s.setTxn n x).journal = s.journal := rfl
@[simp] theorem State.setTxn_mirror (n : Nat) (x : Txn) : (s.setTxn n x).mirror = s.mirror := rfl
@[simp] theorem State.setTxn_cores (n : Nat) (x : Txn) : (s.setTxn n x).cores = s.cores := rfl
@[simp] theorem State.setTxn_bankLast (n : Nat) (x : Txn) : (s.setTxn n x).bankLast = s.bankLast := rfl
@[simp] theorem State.setTxn_audio (n : Nat) (x : Txn) : (s.setTxn n x).audio = s.audio := rfl
@[simp] theorem State.setTxn_groups (n : Nat) (x : Txn) : (s.setTxn n x).groups = s.groups := rfl
@[simp] theorem State.setTxn_dv (n : Nat) (x : Txn) : (s.setTxn n x).dv = s.dv := rfl
@[simp] theorem State.setTxn_dvNext (n : Nat) (x : Txn) : (s.setTxn n x).dvNext = s.dvNext := rfl
@[simp] theorem State.setTxn_dvLast (n : Nat) (x : Txn) : (s.setTxn n x).dvLast = s.dvLast := rfl
@[simp] theorem State.setTxn_host (n : Nat) (x : Txn) : (s.setTxn n x).host = s.host := rfl
@[simp] theorem State.setTxn_pins (n : Nat) (x : Txn) : (s.setTxn n x).pins = s.pins := rfl
@[simp] theorem State.setTxn_doms (n : Nat) (x : Txn) : (s.setTxn n x).doms = s.doms := rfl
@[simp] theorem State.setTxn_clocks (n : Nat) (x : Txn) : (s.setTxn n x).clocks = s.clocks := rfl
@[simp] theorem State.setTxn_wdog (n : Nat) (x : Txn) : (s.setTxn n x).wdog = s.wdog := rfl
@[simp] theorem State.setTxn_trainFc (n : Nat) (x : Txn) : (s.setTxn n x).trainFc = s.trainFc := rfl

/-! ### setCore -/

@[simp] theorem State.setCore_pending (n : Nat) (x : Core) : (s.setCore n x).pending = s.pending := rfl
@[simp] theorem State.setCore_freeCtr (n : Nat) (x : Core) : (s.setCore n x).freeCtr = s.freeCtr := rfl
@[simp] theorem State.setCore_variant (n : Nat) (x : Core) : (s.setCore n x).variant = s.variant := rfl
@[simp] theorem State.setCore_compatMax (n : Nat) (x : Core) : (s.setCore n x).compatMax = s.compatMax := rfl
@[simp] theorem State.setCore_stepping (n : Nat) (x : Core) : (s.setCore n x).stepping = s.stepping := rfl
@[simp] theorem State.setCore_phase (n : Nat) (x : Core) : (s.setCore n x).phase = s.phase := rfl
@[simp] theorem State.setCore_straps (n : Nat) (x : Core) : (s.setCore n x).straps = s.straps := rfl
@[simp] theorem State.setCore_mainUp (n : Nat) (x : Core) : (s.setCore n x).mainUp = s.mainUp := rfl
@[simp] theorem State.setCore_fc (n : Nat) (x : Core) : (s.setCore n x).fc = s.fc := rfl
@[simp] theorem State.setCore_tb (n : Nat) (x : Core) : (s.setCore n x).tb = s.tb := rfl
@[simp] theorem State.setCore_tbFrac (n : Nat) (x : Core) : (s.setCore n x).tbFrac = s.tbFrac := rfl
@[simp] theorem State.setCore_regs (n : Nat) (x : Core) : (s.setCore n x).regs = s.regs := rfl
@[simp] theorem State.setCore_pend (n : Nat) (x : Core) : (s.setCore n x).pend = s.pend := rfl
@[simp] theorem State.setCore_held (n : Nat) (x : Core) : (s.setCore n x).held = s.held := rfl
@[simp] theorem State.setCore_owners (n : Nat) (x : Core) : (s.setCore n x).owners = s.owners := rfl
@[simp] theorem State.setCore_locks (n : Nat) (x : Core) : (s.setCore n x).locks = s.locks := rfl
@[simp] theorem State.setCore_behaviour (n : Nat) (x : Core) : (s.setCore n x).behaviour = s.behaviour := rfl
@[simp] theorem State.setCore_hist (n : Nat) (x : Core) : (s.setCore n x).hist = s.hist := rfl
@[simp] theorem State.setCore_resp (n : Nat) (x : Core) : (s.setCore n x).resp = s.resp := rfl
@[simp] theorem State.setCore_mem (n : Nat) (x : Core) : (s.setCore n x).mem = s.mem := rfl
@[simp] theorem State.setCore_hostMem (n : Nat) (x : Core) : (s.setCore n x).hostMem = s.hostMem := rfl
@[simp] theorem State.setCore_pad (n : Nat) (x : Core) : (s.setCore n x).pad = s.pad := rfl
@[simp] theorem State.setCore_padErr (n : Nat) (x : Core) : (s.setCore n x).padErr = s.padErr := rfl
@[simp] theorem State.setCore_msSeen (n : Nat) (x : Core) : (s.setCore n x).msSeen = s.msSeen := rfl
@[simp] theorem State.setCore_iram (n : Nat) (x : Core) : (s.setCore n x).iram = s.iram := rfl
@[simp] theorem State.setCore_windows (n : Nat) (x : Core) : (s.setCore n x).windows = s.windows := rfl
@[simp] theorem State.setCore_sapRam (n : Nat) (x : Core) : (s.setCore n x).sapRam = s.sapRam := rfl
@[simp] theorem State.setCore_palette (n : Nat) (x : Core) : (s.setCore n x).palette = s.palette := rfl
@[simp] theorem State.setCore_flock (n : Nat) (x : Core) : (s.setCore n x).flock = s.flock := rfl
@[simp] theorem State.setCore_lut (n : Nat) (x : Core) : (s.setCore n x).lut = s.lut := rfl
@[simp] theorem State.setCore_engines (n : Nat) (x : Core) : (s.setCore n x).engines = s.engines := rfl
@[simp] theorem State.setCore_caches (n : Nat) (x : Core) : (s.setCore n x).caches = s.caches := rfl
@[simp] theorem State.setCore_heads (n : Nat) (x : Core) : (s.setCore n x).heads = s.heads := rfl
@[simp] theorem State.setCore_ports (n : Nat) (x : Core) : (s.setCore n x).ports = s.ports := rfl
@[simp] theorem State.setCore_relief (n : Nat) (x : Core) : (s.setCore n x).relief = s.relief := rfl
@[simp] theorem State.setCore_blt (n : Nat) (x : Core) : (s.setCore n x).blt = s.blt := rfl
@[simp] theorem State.setCore_fps (n : Nat) (x : Core) : (s.setCore n x).fps = s.fps := rfl
@[simp] theorem State.setCore_relayRx (n : Nat) (x : Core) : (s.setCore n x).relayRx = s.relayRx := rfl
@[simp] theorem State.setCore_cvs (n : Nat) (x : Core) : (s.setCore n x).cvs = s.cvs := rfl
@[simp] theorem State.setCore_points (n : Nat) (x : Core) : (s.setCore n x).points = s.points := rfl
@[simp] theorem State.setCore_txns (n : Nat) (x : Core) : (s.setCore n x).txns = s.txns := rfl
@[simp] theorem State.setCore_txnCount (n : Nat) (x : Core) : (s.setCore n x).txnCount = s.txnCount := rfl
@[simp] theorem State.setCore_journal (n : Nat) (x : Core) : (s.setCore n x).journal = s.journal := rfl
@[simp] theorem State.setCore_mirror (n : Nat) (x : Core) : (s.setCore n x).mirror = s.mirror := rfl
@[simp] theorem State.setCore_bankLast (n : Nat) (x : Core) : (s.setCore n x).bankLast = s.bankLast := rfl
@[simp] theorem State.setCore_audio (n : Nat) (x : Core) : (s.setCore n x).audio = s.audio := rfl
@[simp] theorem State.setCore_groups (n : Nat) (x : Core) : (s.setCore n x).groups = s.groups := rfl
@[simp] theorem State.setCore_dv (n : Nat) (x : Core) : (s.setCore n x).dv = s.dv := rfl
@[simp] theorem State.setCore_dvNext (n : Nat) (x : Core) : (s.setCore n x).dvNext = s.dvNext := rfl
@[simp] theorem State.setCore_dvLast (n : Nat) (x : Core) : (s.setCore n x).dvLast = s.dvLast := rfl
@[simp] theorem State.setCore_host (n : Nat) (x : Core) : (s.setCore n x).host = s.host := rfl
@[simp] theorem State.setCore_pins (n : Nat) (x : Core) : (s.setCore n x).pins = s.pins := rfl
@[simp] theorem State.setCore_doms (n : Nat) (x : Core) : (s.setCore n x).doms = s.doms := rfl
@[simp] theorem State.setCore_clocks (n : Nat) (x : Core) : (s.setCore n x).clocks = s.clocks := rfl
@[simp] theorem State.setCore_wdog (n : Nat) (x : Core) : (s.setCore n x).wdog = s.wdog := rfl
@[simp] theorem State.setCore_trainFc (n : Nat) (x : Core) : (s.setCore n x).trainFc = s.trainFc := rfl

/-! ### setGroup -/

@[simp] theorem State.setGroup_pending (n : Nat) (x : Group) : (s.setGroup n x).pending = s.pending := rfl
@[simp] theorem State.setGroup_freeCtr (n : Nat) (x : Group) : (s.setGroup n x).freeCtr = s.freeCtr := rfl
@[simp] theorem State.setGroup_variant (n : Nat) (x : Group) : (s.setGroup n x).variant = s.variant := rfl
@[simp] theorem State.setGroup_compatMax (n : Nat) (x : Group) : (s.setGroup n x).compatMax = s.compatMax := rfl
@[simp] theorem State.setGroup_stepping (n : Nat) (x : Group) : (s.setGroup n x).stepping = s.stepping := rfl
@[simp] theorem State.setGroup_phase (n : Nat) (x : Group) : (s.setGroup n x).phase = s.phase := rfl
@[simp] theorem State.setGroup_straps (n : Nat) (x : Group) : (s.setGroup n x).straps = s.straps := rfl
@[simp] theorem State.setGroup_mainUp (n : Nat) (x : Group) : (s.setGroup n x).mainUp = s.mainUp := rfl
@[simp] theorem State.setGroup_fc (n : Nat) (x : Group) : (s.setGroup n x).fc = s.fc := rfl
@[simp] theorem State.setGroup_tb (n : Nat) (x : Group) : (s.setGroup n x).tb = s.tb := rfl
@[simp] theorem State.setGroup_tbFrac (n : Nat) (x : Group) : (s.setGroup n x).tbFrac = s.tbFrac := rfl
@[simp] theorem State.setGroup_regs (n : Nat) (x : Group) : (s.setGroup n x).regs = s.regs := rfl
@[simp] theorem State.setGroup_pend (n : Nat) (x : Group) : (s.setGroup n x).pend = s.pend := rfl
@[simp] theorem State.setGroup_held (n : Nat) (x : Group) : (s.setGroup n x).held = s.held := rfl
@[simp] theorem State.setGroup_owners (n : Nat) (x : Group) : (s.setGroup n x).owners = s.owners := rfl
@[simp] theorem State.setGroup_locks (n : Nat) (x : Group) : (s.setGroup n x).locks = s.locks := rfl
@[simp] theorem State.setGroup_behaviour (n : Nat) (x : Group) : (s.setGroup n x).behaviour = s.behaviour := rfl
@[simp] theorem State.setGroup_hist (n : Nat) (x : Group) : (s.setGroup n x).hist = s.hist := rfl
@[simp] theorem State.setGroup_resp (n : Nat) (x : Group) : (s.setGroup n x).resp = s.resp := rfl
@[simp] theorem State.setGroup_mem (n : Nat) (x : Group) : (s.setGroup n x).mem = s.mem := rfl
@[simp] theorem State.setGroup_hostMem (n : Nat) (x : Group) : (s.setGroup n x).hostMem = s.hostMem := rfl
@[simp] theorem State.setGroup_pad (n : Nat) (x : Group) : (s.setGroup n x).pad = s.pad := rfl
@[simp] theorem State.setGroup_padErr (n : Nat) (x : Group) : (s.setGroup n x).padErr = s.padErr := rfl
@[simp] theorem State.setGroup_msSeen (n : Nat) (x : Group) : (s.setGroup n x).msSeen = s.msSeen := rfl
@[simp] theorem State.setGroup_iram (n : Nat) (x : Group) : (s.setGroup n x).iram = s.iram := rfl
@[simp] theorem State.setGroup_windows (n : Nat) (x : Group) : (s.setGroup n x).windows = s.windows := rfl
@[simp] theorem State.setGroup_sapRam (n : Nat) (x : Group) : (s.setGroup n x).sapRam = s.sapRam := rfl
@[simp] theorem State.setGroup_palette (n : Nat) (x : Group) : (s.setGroup n x).palette = s.palette := rfl
@[simp] theorem State.setGroup_flock (n : Nat) (x : Group) : (s.setGroup n x).flock = s.flock := rfl
@[simp] theorem State.setGroup_lut (n : Nat) (x : Group) : (s.setGroup n x).lut = s.lut := rfl
@[simp] theorem State.setGroup_engines (n : Nat) (x : Group) : (s.setGroup n x).engines = s.engines := rfl
@[simp] theorem State.setGroup_caches (n : Nat) (x : Group) : (s.setGroup n x).caches = s.caches := rfl
@[simp] theorem State.setGroup_heads (n : Nat) (x : Group) : (s.setGroup n x).heads = s.heads := rfl
@[simp] theorem State.setGroup_ports (n : Nat) (x : Group) : (s.setGroup n x).ports = s.ports := rfl
@[simp] theorem State.setGroup_relief (n : Nat) (x : Group) : (s.setGroup n x).relief = s.relief := rfl
@[simp] theorem State.setGroup_blt (n : Nat) (x : Group) : (s.setGroup n x).blt = s.blt := rfl
@[simp] theorem State.setGroup_fps (n : Nat) (x : Group) : (s.setGroup n x).fps = s.fps := rfl
@[simp] theorem State.setGroup_relayRx (n : Nat) (x : Group) : (s.setGroup n x).relayRx = s.relayRx := rfl
@[simp] theorem State.setGroup_cvs (n : Nat) (x : Group) : (s.setGroup n x).cvs = s.cvs := rfl
@[simp] theorem State.setGroup_points (n : Nat) (x : Group) : (s.setGroup n x).points = s.points := rfl
@[simp] theorem State.setGroup_txns (n : Nat) (x : Group) : (s.setGroup n x).txns = s.txns := rfl
@[simp] theorem State.setGroup_txnCount (n : Nat) (x : Group) : (s.setGroup n x).txnCount = s.txnCount := rfl
@[simp] theorem State.setGroup_journal (n : Nat) (x : Group) : (s.setGroup n x).journal = s.journal := rfl
@[simp] theorem State.setGroup_mirror (n : Nat) (x : Group) : (s.setGroup n x).mirror = s.mirror := rfl
@[simp] theorem State.setGroup_cores (n : Nat) (x : Group) : (s.setGroup n x).cores = s.cores := rfl
@[simp] theorem State.setGroup_bankLast (n : Nat) (x : Group) : (s.setGroup n x).bankLast = s.bankLast := rfl
@[simp] theorem State.setGroup_audio (n : Nat) (x : Group) : (s.setGroup n x).audio = s.audio := rfl
@[simp] theorem State.setGroup_dv (n : Nat) (x : Group) : (s.setGroup n x).dv = s.dv := rfl
@[simp] theorem State.setGroup_dvNext (n : Nat) (x : Group) : (s.setGroup n x).dvNext = s.dvNext := rfl
@[simp] theorem State.setGroup_dvLast (n : Nat) (x : Group) : (s.setGroup n x).dvLast = s.dvLast := rfl
@[simp] theorem State.setGroup_host (n : Nat) (x : Group) : (s.setGroup n x).host = s.host := rfl
@[simp] theorem State.setGroup_pins (n : Nat) (x : Group) : (s.setGroup n x).pins = s.pins := rfl
@[simp] theorem State.setGroup_doms (n : Nat) (x : Group) : (s.setGroup n x).doms = s.doms := rfl
@[simp] theorem State.setGroup_clocks (n : Nat) (x : Group) : (s.setGroup n x).clocks = s.clocks := rfl
@[simp] theorem State.setGroup_wdog (n : Nat) (x : Group) : (s.setGroup n x).wdog = s.wdog := rfl
@[simp] theorem State.setGroup_trainFc (n : Nat) (x : Group) : (s.setGroup n x).trainFc = s.trainFc := rfl

/-! ### setDv -/

@[simp] theorem State.setDv_pending (n : Nat) (x : DvSt) : (s.setDv n x).pending = s.pending := rfl
@[simp] theorem State.setDv_freeCtr (n : Nat) (x : DvSt) : (s.setDv n x).freeCtr = s.freeCtr := rfl
@[simp] theorem State.setDv_variant (n : Nat) (x : DvSt) : (s.setDv n x).variant = s.variant := rfl
@[simp] theorem State.setDv_compatMax (n : Nat) (x : DvSt) : (s.setDv n x).compatMax = s.compatMax := rfl
@[simp] theorem State.setDv_stepping (n : Nat) (x : DvSt) : (s.setDv n x).stepping = s.stepping := rfl
@[simp] theorem State.setDv_phase (n : Nat) (x : DvSt) : (s.setDv n x).phase = s.phase := rfl
@[simp] theorem State.setDv_straps (n : Nat) (x : DvSt) : (s.setDv n x).straps = s.straps := rfl
@[simp] theorem State.setDv_mainUp (n : Nat) (x : DvSt) : (s.setDv n x).mainUp = s.mainUp := rfl
@[simp] theorem State.setDv_fc (n : Nat) (x : DvSt) : (s.setDv n x).fc = s.fc := rfl
@[simp] theorem State.setDv_tb (n : Nat) (x : DvSt) : (s.setDv n x).tb = s.tb := rfl
@[simp] theorem State.setDv_tbFrac (n : Nat) (x : DvSt) : (s.setDv n x).tbFrac = s.tbFrac := rfl
@[simp] theorem State.setDv_regs (n : Nat) (x : DvSt) : (s.setDv n x).regs = s.regs := rfl
@[simp] theorem State.setDv_pend (n : Nat) (x : DvSt) : (s.setDv n x).pend = s.pend := rfl
@[simp] theorem State.setDv_held (n : Nat) (x : DvSt) : (s.setDv n x).held = s.held := rfl
@[simp] theorem State.setDv_owners (n : Nat) (x : DvSt) : (s.setDv n x).owners = s.owners := rfl
@[simp] theorem State.setDv_locks (n : Nat) (x : DvSt) : (s.setDv n x).locks = s.locks := rfl
@[simp] theorem State.setDv_behaviour (n : Nat) (x : DvSt) : (s.setDv n x).behaviour = s.behaviour := rfl
@[simp] theorem State.setDv_hist (n : Nat) (x : DvSt) : (s.setDv n x).hist = s.hist := rfl
@[simp] theorem State.setDv_resp (n : Nat) (x : DvSt) : (s.setDv n x).resp = s.resp := rfl
@[simp] theorem State.setDv_mem (n : Nat) (x : DvSt) : (s.setDv n x).mem = s.mem := rfl
@[simp] theorem State.setDv_hostMem (n : Nat) (x : DvSt) : (s.setDv n x).hostMem = s.hostMem := rfl
@[simp] theorem State.setDv_pad (n : Nat) (x : DvSt) : (s.setDv n x).pad = s.pad := rfl
@[simp] theorem State.setDv_padErr (n : Nat) (x : DvSt) : (s.setDv n x).padErr = s.padErr := rfl
@[simp] theorem State.setDv_msSeen (n : Nat) (x : DvSt) : (s.setDv n x).msSeen = s.msSeen := rfl
@[simp] theorem State.setDv_iram (n : Nat) (x : DvSt) : (s.setDv n x).iram = s.iram := rfl
@[simp] theorem State.setDv_windows (n : Nat) (x : DvSt) : (s.setDv n x).windows = s.windows := rfl
@[simp] theorem State.setDv_sapRam (n : Nat) (x : DvSt) : (s.setDv n x).sapRam = s.sapRam := rfl
@[simp] theorem State.setDv_palette (n : Nat) (x : DvSt) : (s.setDv n x).palette = s.palette := rfl
@[simp] theorem State.setDv_flock (n : Nat) (x : DvSt) : (s.setDv n x).flock = s.flock := rfl
@[simp] theorem State.setDv_lut (n : Nat) (x : DvSt) : (s.setDv n x).lut = s.lut := rfl
@[simp] theorem State.setDv_engines (n : Nat) (x : DvSt) : (s.setDv n x).engines = s.engines := rfl
@[simp] theorem State.setDv_caches (n : Nat) (x : DvSt) : (s.setDv n x).caches = s.caches := rfl
@[simp] theorem State.setDv_heads (n : Nat) (x : DvSt) : (s.setDv n x).heads = s.heads := rfl
@[simp] theorem State.setDv_ports (n : Nat) (x : DvSt) : (s.setDv n x).ports = s.ports := rfl
@[simp] theorem State.setDv_relief (n : Nat) (x : DvSt) : (s.setDv n x).relief = s.relief := rfl
@[simp] theorem State.setDv_blt (n : Nat) (x : DvSt) : (s.setDv n x).blt = s.blt := rfl
@[simp] theorem State.setDv_fps (n : Nat) (x : DvSt) : (s.setDv n x).fps = s.fps := rfl
@[simp] theorem State.setDv_relayRx (n : Nat) (x : DvSt) : (s.setDv n x).relayRx = s.relayRx := rfl
@[simp] theorem State.setDv_cvs (n : Nat) (x : DvSt) : (s.setDv n x).cvs = s.cvs := rfl
@[simp] theorem State.setDv_points (n : Nat) (x : DvSt) : (s.setDv n x).points = s.points := rfl
@[simp] theorem State.setDv_txns (n : Nat) (x : DvSt) : (s.setDv n x).txns = s.txns := rfl
@[simp] theorem State.setDv_txnCount (n : Nat) (x : DvSt) : (s.setDv n x).txnCount = s.txnCount := rfl
@[simp] theorem State.setDv_journal (n : Nat) (x : DvSt) : (s.setDv n x).journal = s.journal := rfl
@[simp] theorem State.setDv_mirror (n : Nat) (x : DvSt) : (s.setDv n x).mirror = s.mirror := rfl
@[simp] theorem State.setDv_cores (n : Nat) (x : DvSt) : (s.setDv n x).cores = s.cores := rfl
@[simp] theorem State.setDv_bankLast (n : Nat) (x : DvSt) : (s.setDv n x).bankLast = s.bankLast := rfl
@[simp] theorem State.setDv_audio (n : Nat) (x : DvSt) : (s.setDv n x).audio = s.audio := rfl
@[simp] theorem State.setDv_groups (n : Nat) (x : DvSt) : (s.setDv n x).groups = s.groups := rfl
@[simp] theorem State.setDv_dvNext (n : Nat) (x : DvSt) : (s.setDv n x).dvNext = s.dvNext := rfl
@[simp] theorem State.setDv_dvLast (n : Nat) (x : DvSt) : (s.setDv n x).dvLast = s.dvLast := rfl
@[simp] theorem State.setDv_host (n : Nat) (x : DvSt) : (s.setDv n x).host = s.host := rfl
@[simp] theorem State.setDv_pins (n : Nat) (x : DvSt) : (s.setDv n x).pins = s.pins := rfl
@[simp] theorem State.setDv_doms (n : Nat) (x : DvSt) : (s.setDv n x).doms = s.doms := rfl
@[simp] theorem State.setDv_clocks (n : Nat) (x : DvSt) : (s.setDv n x).clocks = s.clocks := rfl
@[simp] theorem State.setDv_wdog (n : Nat) (x : DvSt) : (s.setDv n x).wdog = s.wdog := rfl
@[simp] theorem State.setDv_trainFc (n : Nat) (x : DvSt) : (s.setDv n x).trainFc = s.trainFc := rfl

/-! ### setDom -/

@[simp] theorem State.setDom_pending (n : Nat) (x : Dom) : (s.setDom n x).pending = s.pending := rfl
@[simp] theorem State.setDom_freeCtr (n : Nat) (x : Dom) : (s.setDom n x).freeCtr = s.freeCtr := rfl
@[simp] theorem State.setDom_variant (n : Nat) (x : Dom) : (s.setDom n x).variant = s.variant := rfl
@[simp] theorem State.setDom_compatMax (n : Nat) (x : Dom) : (s.setDom n x).compatMax = s.compatMax := rfl
@[simp] theorem State.setDom_stepping (n : Nat) (x : Dom) : (s.setDom n x).stepping = s.stepping := rfl
@[simp] theorem State.setDom_phase (n : Nat) (x : Dom) : (s.setDom n x).phase = s.phase := rfl
@[simp] theorem State.setDom_straps (n : Nat) (x : Dom) : (s.setDom n x).straps = s.straps := rfl
@[simp] theorem State.setDom_mainUp (n : Nat) (x : Dom) : (s.setDom n x).mainUp = s.mainUp := rfl
@[simp] theorem State.setDom_fc (n : Nat) (x : Dom) : (s.setDom n x).fc = s.fc := rfl
@[simp] theorem State.setDom_tb (n : Nat) (x : Dom) : (s.setDom n x).tb = s.tb := rfl
@[simp] theorem State.setDom_tbFrac (n : Nat) (x : Dom) : (s.setDom n x).tbFrac = s.tbFrac := rfl
@[simp] theorem State.setDom_regs (n : Nat) (x : Dom) : (s.setDom n x).regs = s.regs := rfl
@[simp] theorem State.setDom_pend (n : Nat) (x : Dom) : (s.setDom n x).pend = s.pend := rfl
@[simp] theorem State.setDom_held (n : Nat) (x : Dom) : (s.setDom n x).held = s.held := rfl
@[simp] theorem State.setDom_owners (n : Nat) (x : Dom) : (s.setDom n x).owners = s.owners := rfl
@[simp] theorem State.setDom_locks (n : Nat) (x : Dom) : (s.setDom n x).locks = s.locks := rfl
@[simp] theorem State.setDom_behaviour (n : Nat) (x : Dom) : (s.setDom n x).behaviour = s.behaviour := rfl
@[simp] theorem State.setDom_hist (n : Nat) (x : Dom) : (s.setDom n x).hist = s.hist := rfl
@[simp] theorem State.setDom_resp (n : Nat) (x : Dom) : (s.setDom n x).resp = s.resp := rfl
@[simp] theorem State.setDom_mem (n : Nat) (x : Dom) : (s.setDom n x).mem = s.mem := rfl
@[simp] theorem State.setDom_hostMem (n : Nat) (x : Dom) : (s.setDom n x).hostMem = s.hostMem := rfl
@[simp] theorem State.setDom_pad (n : Nat) (x : Dom) : (s.setDom n x).pad = s.pad := rfl
@[simp] theorem State.setDom_padErr (n : Nat) (x : Dom) : (s.setDom n x).padErr = s.padErr := rfl
@[simp] theorem State.setDom_msSeen (n : Nat) (x : Dom) : (s.setDom n x).msSeen = s.msSeen := rfl
@[simp] theorem State.setDom_iram (n : Nat) (x : Dom) : (s.setDom n x).iram = s.iram := rfl
@[simp] theorem State.setDom_windows (n : Nat) (x : Dom) : (s.setDom n x).windows = s.windows := rfl
@[simp] theorem State.setDom_sapRam (n : Nat) (x : Dom) : (s.setDom n x).sapRam = s.sapRam := rfl
@[simp] theorem State.setDom_palette (n : Nat) (x : Dom) : (s.setDom n x).palette = s.palette := rfl
@[simp] theorem State.setDom_flock (n : Nat) (x : Dom) : (s.setDom n x).flock = s.flock := rfl
@[simp] theorem State.setDom_lut (n : Nat) (x : Dom) : (s.setDom n x).lut = s.lut := rfl
@[simp] theorem State.setDom_engines (n : Nat) (x : Dom) : (s.setDom n x).engines = s.engines := rfl
@[simp] theorem State.setDom_caches (n : Nat) (x : Dom) : (s.setDom n x).caches = s.caches := rfl
@[simp] theorem State.setDom_heads (n : Nat) (x : Dom) : (s.setDom n x).heads = s.heads := rfl
@[simp] theorem State.setDom_ports (n : Nat) (x : Dom) : (s.setDom n x).ports = s.ports := rfl
@[simp] theorem State.setDom_relief (n : Nat) (x : Dom) : (s.setDom n x).relief = s.relief := rfl
@[simp] theorem State.setDom_blt (n : Nat) (x : Dom) : (s.setDom n x).blt = s.blt := rfl
@[simp] theorem State.setDom_fps (n : Nat) (x : Dom) : (s.setDom n x).fps = s.fps := rfl
@[simp] theorem State.setDom_relayRx (n : Nat) (x : Dom) : (s.setDom n x).relayRx = s.relayRx := rfl
@[simp] theorem State.setDom_cvs (n : Nat) (x : Dom) : (s.setDom n x).cvs = s.cvs := rfl
@[simp] theorem State.setDom_points (n : Nat) (x : Dom) : (s.setDom n x).points = s.points := rfl
@[simp] theorem State.setDom_txns (n : Nat) (x : Dom) : (s.setDom n x).txns = s.txns := rfl
@[simp] theorem State.setDom_txnCount (n : Nat) (x : Dom) : (s.setDom n x).txnCount = s.txnCount := rfl
@[simp] theorem State.setDom_journal (n : Nat) (x : Dom) : (s.setDom n x).journal = s.journal := rfl
@[simp] theorem State.setDom_mirror (n : Nat) (x : Dom) : (s.setDom n x).mirror = s.mirror := rfl
@[simp] theorem State.setDom_cores (n : Nat) (x : Dom) : (s.setDom n x).cores = s.cores := rfl
@[simp] theorem State.setDom_bankLast (n : Nat) (x : Dom) : (s.setDom n x).bankLast = s.bankLast := rfl
@[simp] theorem State.setDom_audio (n : Nat) (x : Dom) : (s.setDom n x).audio = s.audio := rfl
@[simp] theorem State.setDom_groups (n : Nat) (x : Dom) : (s.setDom n x).groups = s.groups := rfl
@[simp] theorem State.setDom_dv (n : Nat) (x : Dom) : (s.setDom n x).dv = s.dv := rfl
@[simp] theorem State.setDom_dvNext (n : Nat) (x : Dom) : (s.setDom n x).dvNext = s.dvNext := rfl
@[simp] theorem State.setDom_dvLast (n : Nat) (x : Dom) : (s.setDom n x).dvLast = s.dvLast := rfl
@[simp] theorem State.setDom_host (n : Nat) (x : Dom) : (s.setDom n x).host = s.host := rfl
@[simp] theorem State.setDom_pins (n : Nat) (x : Dom) : (s.setDom n x).pins = s.pins := rfl
@[simp] theorem State.setDom_clocks (n : Nat) (x : Dom) : (s.setDom n x).clocks = s.clocks := rfl
@[simp] theorem State.setDom_wdog (n : Nat) (x : Dom) : (s.setDom n x).wdog = s.wdog := rfl
@[simp] theorem State.setDom_trainFc (n : Nat) (x : Dom) : (s.setDom n x).trainFc = s.trainFc := rfl

/-! ### hostWrite -/

@[simp] theorem State.hostWrite_pending (a : Nat) (bs : List Byte) : (s.hostWrite a bs).pending = s.pending := rfl
@[simp] theorem State.hostWrite_freeCtr (a : Nat) (bs : List Byte) : (s.hostWrite a bs).freeCtr = s.freeCtr := rfl
@[simp] theorem State.hostWrite_variant (a : Nat) (bs : List Byte) : (s.hostWrite a bs).variant = s.variant := rfl
@[simp] theorem State.hostWrite_compatMax (a : Nat) (bs : List Byte) : (s.hostWrite a bs).compatMax = s.compatMax := rfl
@[simp] theorem State.hostWrite_stepping (a : Nat) (bs : List Byte) : (s.hostWrite a bs).stepping = s.stepping := rfl
@[simp] theorem State.hostWrite_phase (a : Nat) (bs : List Byte) : (s.hostWrite a bs).phase = s.phase := rfl
@[simp] theorem State.hostWrite_straps (a : Nat) (bs : List Byte) : (s.hostWrite a bs).straps = s.straps := rfl
@[simp] theorem State.hostWrite_mainUp (a : Nat) (bs : List Byte) : (s.hostWrite a bs).mainUp = s.mainUp := rfl
@[simp] theorem State.hostWrite_fc (a : Nat) (bs : List Byte) : (s.hostWrite a bs).fc = s.fc := rfl
@[simp] theorem State.hostWrite_tb (a : Nat) (bs : List Byte) : (s.hostWrite a bs).tb = s.tb := rfl
@[simp] theorem State.hostWrite_tbFrac (a : Nat) (bs : List Byte) : (s.hostWrite a bs).tbFrac = s.tbFrac := rfl
@[simp] theorem State.hostWrite_regs (a : Nat) (bs : List Byte) : (s.hostWrite a bs).regs = s.regs := rfl
@[simp] theorem State.hostWrite_pend (a : Nat) (bs : List Byte) : (s.hostWrite a bs).pend = s.pend := rfl
@[simp] theorem State.hostWrite_held (a : Nat) (bs : List Byte) : (s.hostWrite a bs).held = s.held := rfl
@[simp] theorem State.hostWrite_owners (a : Nat) (bs : List Byte) : (s.hostWrite a bs).owners = s.owners := rfl
@[simp] theorem State.hostWrite_locks (a : Nat) (bs : List Byte) : (s.hostWrite a bs).locks = s.locks := rfl
@[simp] theorem State.hostWrite_behaviour (a : Nat) (bs : List Byte) : (s.hostWrite a bs).behaviour = s.behaviour := rfl
@[simp] theorem State.hostWrite_hist (a : Nat) (bs : List Byte) : (s.hostWrite a bs).hist = s.hist := rfl
@[simp] theorem State.hostWrite_resp (a : Nat) (bs : List Byte) : (s.hostWrite a bs).resp = s.resp := rfl
@[simp] theorem State.hostWrite_mem (a : Nat) (bs : List Byte) : (s.hostWrite a bs).mem = s.mem := rfl
@[simp] theorem State.hostWrite_pad (a : Nat) (bs : List Byte) : (s.hostWrite a bs).pad = s.pad := rfl
@[simp] theorem State.hostWrite_padErr (a : Nat) (bs : List Byte) : (s.hostWrite a bs).padErr = s.padErr := rfl
@[simp] theorem State.hostWrite_msSeen (a : Nat) (bs : List Byte) : (s.hostWrite a bs).msSeen = s.msSeen := rfl
@[simp] theorem State.hostWrite_iram (a : Nat) (bs : List Byte) : (s.hostWrite a bs).iram = s.iram := rfl
@[simp] theorem State.hostWrite_windows (a : Nat) (bs : List Byte) : (s.hostWrite a bs).windows = s.windows := rfl
@[simp] theorem State.hostWrite_sapRam (a : Nat) (bs : List Byte) : (s.hostWrite a bs).sapRam = s.sapRam := rfl
@[simp] theorem State.hostWrite_palette (a : Nat) (bs : List Byte) : (s.hostWrite a bs).palette = s.palette := rfl
@[simp] theorem State.hostWrite_flock (a : Nat) (bs : List Byte) : (s.hostWrite a bs).flock = s.flock := rfl
@[simp] theorem State.hostWrite_lut (a : Nat) (bs : List Byte) : (s.hostWrite a bs).lut = s.lut := rfl
@[simp] theorem State.hostWrite_engines (a : Nat) (bs : List Byte) : (s.hostWrite a bs).engines = s.engines := rfl
@[simp] theorem State.hostWrite_caches (a : Nat) (bs : List Byte) : (s.hostWrite a bs).caches = s.caches := rfl
@[simp] theorem State.hostWrite_heads (a : Nat) (bs : List Byte) : (s.hostWrite a bs).heads = s.heads := rfl
@[simp] theorem State.hostWrite_ports (a : Nat) (bs : List Byte) : (s.hostWrite a bs).ports = s.ports := rfl
@[simp] theorem State.hostWrite_relief (a : Nat) (bs : List Byte) : (s.hostWrite a bs).relief = s.relief := rfl
@[simp] theorem State.hostWrite_blt (a : Nat) (bs : List Byte) : (s.hostWrite a bs).blt = s.blt := rfl
@[simp] theorem State.hostWrite_fps (a : Nat) (bs : List Byte) : (s.hostWrite a bs).fps = s.fps := rfl
@[simp] theorem State.hostWrite_relayRx (a : Nat) (bs : List Byte) : (s.hostWrite a bs).relayRx = s.relayRx := rfl
@[simp] theorem State.hostWrite_cvs (a : Nat) (bs : List Byte) : (s.hostWrite a bs).cvs = s.cvs := rfl
@[simp] theorem State.hostWrite_points (a : Nat) (bs : List Byte) : (s.hostWrite a bs).points = s.points := rfl
@[simp] theorem State.hostWrite_txns (a : Nat) (bs : List Byte) : (s.hostWrite a bs).txns = s.txns := rfl
@[simp] theorem State.hostWrite_txnCount (a : Nat) (bs : List Byte) : (s.hostWrite a bs).txnCount = s.txnCount := rfl
@[simp] theorem State.hostWrite_journal (a : Nat) (bs : List Byte) : (s.hostWrite a bs).journal = s.journal := rfl
@[simp] theorem State.hostWrite_mirror (a : Nat) (bs : List Byte) : (s.hostWrite a bs).mirror = s.mirror := rfl
@[simp] theorem State.hostWrite_cores (a : Nat) (bs : List Byte) : (s.hostWrite a bs).cores = s.cores := rfl
@[simp] theorem State.hostWrite_bankLast (a : Nat) (bs : List Byte) : (s.hostWrite a bs).bankLast = s.bankLast := rfl
@[simp] theorem State.hostWrite_audio (a : Nat) (bs : List Byte) : (s.hostWrite a bs).audio = s.audio := rfl
@[simp] theorem State.hostWrite_groups (a : Nat) (bs : List Byte) : (s.hostWrite a bs).groups = s.groups := rfl
@[simp] theorem State.hostWrite_dv (a : Nat) (bs : List Byte) : (s.hostWrite a bs).dv = s.dv := rfl
@[simp] theorem State.hostWrite_dvNext (a : Nat) (bs : List Byte) : (s.hostWrite a bs).dvNext = s.dvNext := rfl
@[simp] theorem State.hostWrite_dvLast (a : Nat) (bs : List Byte) : (s.hostWrite a bs).dvLast = s.dvLast := rfl
@[simp] theorem State.hostWrite_host (a : Nat) (bs : List Byte) : (s.hostWrite a bs).host = s.host := rfl
@[simp] theorem State.hostWrite_pins (a : Nat) (bs : List Byte) : (s.hostWrite a bs).pins = s.pins := rfl
@[simp] theorem State.hostWrite_doms (a : Nat) (bs : List Byte) : (s.hostWrite a bs).doms = s.doms := rfl
@[simp] theorem State.hostWrite_clocks (a : Nat) (bs : List Byte) : (s.hostWrite a bs).clocks = s.clocks := rfl
@[simp] theorem State.hostWrite_wdog (a : Nat) (bs : List Byte) : (s.hostWrite a bs).wdog = s.wdog := rfl
@[simp] theorem State.hostWrite_trainFc (a : Nat) (bs : List Byte) : (s.hostWrite a bs).trainFc = s.trainFc := rfl

/-! ### fillWindow -/

@[simp] theorem State.fillWindow_pending (c pc : Nat) (kept : List Byte) : (s.fillWindow c pc kept).pending = s.pending := rfl
@[simp] theorem State.fillWindow_freeCtr (c pc : Nat) (kept : List Byte) : (s.fillWindow c pc kept).freeCtr = s.freeCtr := rfl
@[simp] theorem State.fillWindow_variant (c pc : Nat) (kept : List Byte) : (s.fillWindow c pc kept).variant = s.variant := rfl
@[simp] theorem State.fillWindow_compatMax (c pc : Nat) (kept : List Byte) : (s.fillWindow c pc kept).compatMax = s.compatMax := rfl
@[simp] theorem State.fillWindow_stepping (c pc : Nat) (kept : List Byte) : (s.fillWindow c pc kept).stepping = s.stepping := rfl
@[simp] theorem State.fillWindow_phase (c pc : Nat) (kept : List Byte) : (s.fillWindow c pc kept).phase = s.phase := rfl
@[simp] theorem State.fillWindow_straps (c pc : Nat) (kept : List Byte) : (s.fillWindow c pc kept).straps = s.straps := rfl
@[simp] theorem State.fillWindow_mainUp (c pc : Nat) (kept : List Byte) : (s.fillWindow c pc kept).mainUp = s.mainUp := rfl
@[simp] theorem State.fillWindow_fc (c pc : Nat) (kept : List Byte) : (s.fillWindow c pc kept).fc = s.fc := rfl
@[simp] theorem State.fillWindow_tb (c pc : Nat) (kept : List Byte) : (s.fillWindow c pc kept).tb = s.tb := rfl
@[simp] theorem State.fillWindow_tbFrac (c pc : Nat) (kept : List Byte) : (s.fillWindow c pc kept).tbFrac = s.tbFrac := rfl
@[simp] theorem State.fillWindow_regs (c pc : Nat) (kept : List Byte) : (s.fillWindow c pc kept).regs = s.regs := rfl
@[simp] theorem State.fillWindow_pend (c pc : Nat) (kept : List Byte) : (s.fillWindow c pc kept).pend = s.pend := rfl
@[simp] theorem State.fillWindow_held (c pc : Nat) (kept : List Byte) : (s.fillWindow c pc kept).held = s.held := rfl
@[simp] theorem State.fillWindow_owners (c pc : Nat) (kept : List Byte) : (s.fillWindow c pc kept).owners = s.owners := rfl
@[simp] theorem State.fillWindow_locks (c pc : Nat) (kept : List Byte) : (s.fillWindow c pc kept).locks = s.locks := rfl
@[simp] theorem State.fillWindow_behaviour (c pc : Nat) (kept : List Byte) : (s.fillWindow c pc kept).behaviour = s.behaviour := rfl
@[simp] theorem State.fillWindow_hist (c pc : Nat) (kept : List Byte) : (s.fillWindow c pc kept).hist = s.hist := rfl
@[simp] theorem State.fillWindow_resp (c pc : Nat) (kept : List Byte) : (s.fillWindow c pc kept).resp = s.resp := rfl
@[simp] theorem State.fillWindow_mem (c pc : Nat) (kept : List Byte) : (s.fillWindow c pc kept).mem = s.mem := rfl
@[simp] theorem State.fillWindow_hostMem (c pc : Nat) (kept : List Byte) : (s.fillWindow c pc kept).hostMem = s.hostMem := rfl
@[simp] theorem State.fillWindow_pad (c pc : Nat) (kept : List Byte) : (s.fillWindow c pc kept).pad = s.pad := rfl
@[simp] theorem State.fillWindow_padErr (c pc : Nat) (kept : List Byte) : (s.fillWindow c pc kept).padErr = s.padErr := rfl
@[simp] theorem State.fillWindow_msSeen (c pc : Nat) (kept : List Byte) : (s.fillWindow c pc kept).msSeen = s.msSeen := rfl
@[simp] theorem State.fillWindow_iram (c pc : Nat) (kept : List Byte) : (s.fillWindow c pc kept).iram = s.iram := rfl
@[simp] theorem State.fillWindow_sapRam (c pc : Nat) (kept : List Byte) : (s.fillWindow c pc kept).sapRam = s.sapRam := rfl
@[simp] theorem State.fillWindow_palette (c pc : Nat) (kept : List Byte) : (s.fillWindow c pc kept).palette = s.palette := rfl
@[simp] theorem State.fillWindow_flock (c pc : Nat) (kept : List Byte) : (s.fillWindow c pc kept).flock = s.flock := rfl
@[simp] theorem State.fillWindow_lut (c pc : Nat) (kept : List Byte) : (s.fillWindow c pc kept).lut = s.lut := rfl
@[simp] theorem State.fillWindow_engines (c pc : Nat) (kept : List Byte) : (s.fillWindow c pc kept).engines = s.engines := rfl
@[simp] theorem State.fillWindow_caches (c pc : Nat) (kept : List Byte) : (s.fillWindow c pc kept).caches = s.caches := rfl
@[simp] theorem State.fillWindow_heads (c pc : Nat) (kept : List Byte) : (s.fillWindow c pc kept).heads = s.heads := rfl
@[simp] theorem State.fillWindow_ports (c pc : Nat) (kept : List Byte) : (s.fillWindow c pc kept).ports = s.ports := rfl
@[simp] theorem State.fillWindow_relief (c pc : Nat) (kept : List Byte) : (s.fillWindow c pc kept).relief = s.relief := rfl
@[simp] theorem State.fillWindow_blt (c pc : Nat) (kept : List Byte) : (s.fillWindow c pc kept).blt = s.blt := rfl
@[simp] theorem State.fillWindow_fps (c pc : Nat) (kept : List Byte) : (s.fillWindow c pc kept).fps = s.fps := rfl
@[simp] theorem State.fillWindow_relayRx (c pc : Nat) (kept : List Byte) : (s.fillWindow c pc kept).relayRx = s.relayRx := rfl
@[simp] theorem State.fillWindow_cvs (c pc : Nat) (kept : List Byte) : (s.fillWindow c pc kept).cvs = s.cvs := rfl
@[simp] theorem State.fillWindow_points (c pc : Nat) (kept : List Byte) : (s.fillWindow c pc kept).points = s.points := rfl
@[simp] theorem State.fillWindow_txns (c pc : Nat) (kept : List Byte) : (s.fillWindow c pc kept).txns = s.txns := rfl
@[simp] theorem State.fillWindow_txnCount (c pc : Nat) (kept : List Byte) : (s.fillWindow c pc kept).txnCount = s.txnCount := rfl
@[simp] theorem State.fillWindow_journal (c pc : Nat) (kept : List Byte) : (s.fillWindow c pc kept).journal = s.journal := rfl
@[simp] theorem State.fillWindow_mirror (c pc : Nat) (kept : List Byte) : (s.fillWindow c pc kept).mirror = s.mirror := rfl
@[simp] theorem State.fillWindow_cores (c pc : Nat) (kept : List Byte) : (s.fillWindow c pc kept).cores = s.cores := rfl
@[simp] theorem State.fillWindow_bankLast (c pc : Nat) (kept : List Byte) : (s.fillWindow c pc kept).bankLast = s.bankLast := rfl
@[simp] theorem State.fillWindow_audio (c pc : Nat) (kept : List Byte) : (s.fillWindow c pc kept).audio = s.audio := rfl
@[simp] theorem State.fillWindow_groups (c pc : Nat) (kept : List Byte) : (s.fillWindow c pc kept).groups = s.groups := rfl
@[simp] theorem State.fillWindow_dv (c pc : Nat) (kept : List Byte) : (s.fillWindow c pc kept).dv = s.dv := rfl
@[simp] theorem State.fillWindow_dvNext (c pc : Nat) (kept : List Byte) : (s.fillWindow c pc kept).dvNext = s.dvNext := rfl
@[simp] theorem State.fillWindow_dvLast (c pc : Nat) (kept : List Byte) : (s.fillWindow c pc kept).dvLast = s.dvLast := rfl
@[simp] theorem State.fillWindow_host (c pc : Nat) (kept : List Byte) : (s.fillWindow c pc kept).host = s.host := rfl
@[simp] theorem State.fillWindow_pins (c pc : Nat) (kept : List Byte) : (s.fillWindow c pc kept).pins = s.pins := rfl
@[simp] theorem State.fillWindow_doms (c pc : Nat) (kept : List Byte) : (s.fillWindow c pc kept).doms = s.doms := rfl
@[simp] theorem State.fillWindow_clocks (c pc : Nat) (kept : List Byte) : (s.fillWindow c pc kept).clocks = s.clocks := rfl
@[simp] theorem State.fillWindow_wdog (c pc : Nat) (kept : List Byte) : (s.fillWindow c pc kept).wdog = s.wdog := rfl
@[simp] theorem State.fillWindow_trainFc (c pc : Nat) (kept : List Byte) : (s.fillWindow c pc kept).trainFc = s.trainFc := rfl

/-! ### refetch -/

@[simp] theorem State.refetch_pending (c : Nat) : (s.refetch c).pending = s.pending := rfl
@[simp] theorem State.refetch_freeCtr (c : Nat) : (s.refetch c).freeCtr = s.freeCtr := rfl
@[simp] theorem State.refetch_variant (c : Nat) : (s.refetch c).variant = s.variant := rfl
@[simp] theorem State.refetch_compatMax (c : Nat) : (s.refetch c).compatMax = s.compatMax := rfl
@[simp] theorem State.refetch_stepping (c : Nat) : (s.refetch c).stepping = s.stepping := rfl
@[simp] theorem State.refetch_phase (c : Nat) : (s.refetch c).phase = s.phase := rfl
@[simp] theorem State.refetch_straps (c : Nat) : (s.refetch c).straps = s.straps := rfl
@[simp] theorem State.refetch_mainUp (c : Nat) : (s.refetch c).mainUp = s.mainUp := rfl
@[simp] theorem State.refetch_fc (c : Nat) : (s.refetch c).fc = s.fc := rfl
@[simp] theorem State.refetch_tb (c : Nat) : (s.refetch c).tb = s.tb := rfl
@[simp] theorem State.refetch_tbFrac (c : Nat) : (s.refetch c).tbFrac = s.tbFrac := rfl
@[simp] theorem State.refetch_regs (c : Nat) : (s.refetch c).regs = s.regs := rfl
@[simp] theorem State.refetch_pend (c : Nat) : (s.refetch c).pend = s.pend := rfl
@[simp] theorem State.refetch_held (c : Nat) : (s.refetch c).held = s.held := rfl
@[simp] theorem State.refetch_owners (c : Nat) : (s.refetch c).owners = s.owners := rfl
@[simp] theorem State.refetch_locks (c : Nat) : (s.refetch c).locks = s.locks := rfl
@[simp] theorem State.refetch_behaviour (c : Nat) : (s.refetch c).behaviour = s.behaviour := rfl
@[simp] theorem State.refetch_hist (c : Nat) : (s.refetch c).hist = s.hist := rfl
@[simp] theorem State.refetch_resp (c : Nat) : (s.refetch c).resp = s.resp := rfl
@[simp] theorem State.refetch_mem (c : Nat) : (s.refetch c).mem = s.mem := rfl
@[simp] theorem State.refetch_hostMem (c : Nat) : (s.refetch c).hostMem = s.hostMem := rfl
@[simp] theorem State.refetch_pad (c : Nat) : (s.refetch c).pad = s.pad := rfl
@[simp] theorem State.refetch_padErr (c : Nat) : (s.refetch c).padErr = s.padErr := rfl
@[simp] theorem State.refetch_msSeen (c : Nat) : (s.refetch c).msSeen = s.msSeen := rfl
@[simp] theorem State.refetch_iram (c : Nat) : (s.refetch c).iram = s.iram := rfl
@[simp] theorem State.refetch_sapRam (c : Nat) : (s.refetch c).sapRam = s.sapRam := rfl
@[simp] theorem State.refetch_palette (c : Nat) : (s.refetch c).palette = s.palette := rfl
@[simp] theorem State.refetch_flock (c : Nat) : (s.refetch c).flock = s.flock := rfl
@[simp] theorem State.refetch_lut (c : Nat) : (s.refetch c).lut = s.lut := rfl
@[simp] theorem State.refetch_engines (c : Nat) : (s.refetch c).engines = s.engines := rfl
@[simp] theorem State.refetch_caches (c : Nat) : (s.refetch c).caches = s.caches := rfl
@[simp] theorem State.refetch_heads (c : Nat) : (s.refetch c).heads = s.heads := rfl
@[simp] theorem State.refetch_ports (c : Nat) : (s.refetch c).ports = s.ports := rfl
@[simp] theorem State.refetch_relief (c : Nat) : (s.refetch c).relief = s.relief := rfl
@[simp] theorem State.refetch_blt (c : Nat) : (s.refetch c).blt = s.blt := rfl
@[simp] theorem State.refetch_fps (c : Nat) : (s.refetch c).fps = s.fps := rfl
@[simp] theorem State.refetch_relayRx (c : Nat) : (s.refetch c).relayRx = s.relayRx := rfl
@[simp] theorem State.refetch_cvs (c : Nat) : (s.refetch c).cvs = s.cvs := rfl
@[simp] theorem State.refetch_points (c : Nat) : (s.refetch c).points = s.points := rfl
@[simp] theorem State.refetch_txns (c : Nat) : (s.refetch c).txns = s.txns := rfl
@[simp] theorem State.refetch_txnCount (c : Nat) : (s.refetch c).txnCount = s.txnCount := rfl
@[simp] theorem State.refetch_journal (c : Nat) : (s.refetch c).journal = s.journal := rfl
@[simp] theorem State.refetch_mirror (c : Nat) : (s.refetch c).mirror = s.mirror := rfl
@[simp] theorem State.refetch_cores (c : Nat) : (s.refetch c).cores = s.cores := rfl
@[simp] theorem State.refetch_bankLast (c : Nat) : (s.refetch c).bankLast = s.bankLast := rfl
@[simp] theorem State.refetch_audio (c : Nat) : (s.refetch c).audio = s.audio := rfl
@[simp] theorem State.refetch_groups (c : Nat) : (s.refetch c).groups = s.groups := rfl
@[simp] theorem State.refetch_dv (c : Nat) : (s.refetch c).dv = s.dv := rfl
@[simp] theorem State.refetch_dvNext (c : Nat) : (s.refetch c).dvNext = s.dvNext := rfl
@[simp] theorem State.refetch_dvLast (c : Nat) : (s.refetch c).dvLast = s.dvLast := rfl
@[simp] theorem State.refetch_host (c : Nat) : (s.refetch c).host = s.host := rfl
@[simp] theorem State.refetch_pins (c : Nat) : (s.refetch c).pins = s.pins := rfl
@[simp] theorem State.refetch_doms (c : Nat) : (s.refetch c).doms = s.doms := rfl
@[simp] theorem State.refetch_clocks (c : Nat) : (s.refetch c).clocks = s.clocks := rfl
@[simp] theorem State.refetch_wdog (c : Nat) : (s.refetch c).wdog = s.wdog := rfl
@[simp] theorem State.refetch_trainFc (c : Nat) : (s.refetch c).trainFc = s.trainFc := rfl

/-! ### Units: a read after a write -/

@[simp] theorem State.eng_setEng_same (n : Nat) (x : Engine) : (s.setEng n x).eng n = x := sget_sset_same ..

theorem State.eng_setEng_ne {n m : Nat} (x : Engine) (h : m ≠ n) : (s.setEng n x).eng m = s.eng m := sget_sset_ne _ _ _ _ h

@[simp] theorem State.hd_setHd_same (n : Nat) (x : HeadSt) : (s.setHd n x).hd n = x := sget_sset_same ..

theorem State.hd_setHd_ne {n m : Nat} (x : HeadSt) (h : m ≠ n) : (s.setHd n x).hd m = s.hd m := sget_sset_ne _ _ _ _ h

@[simp] theorem State.port_setPort_same (n : Nat) (x : PortSt) : (s.setPort n x).port n = x := sget_sset_same ..

theorem State.port_setPort_ne {n m : Nat} (x : PortSt) (h : m ≠ n) : (s.setPort n x).port m = s.port m := sget_sset_ne _ _ _ _ h

@[simp] theorem State.fp_setFp_same (n : Nat) (x : FieldPort) : (s.setFp n x).fp n = x := sget_sset_same ..

theorem State.fp_setFp_ne {n m : Nat} (x : FieldPort) (h : m ≠ n) : (s.setFp n x).fp m = s.fp m := sget_sset_ne _ _ _ _ h

@[simp] theorem State.cv_setCv_same (n : Nat) (x : CvSt) : (s.setCv n x).cv n = x := sget_sset_same ..

theorem State.cv_setCv_ne {n m : Nat} (x : CvSt) (h : m ≠ n) : (s.setCv n x).cv m = s.cv m := sget_sset_ne _ _ _ _ h

@[simp] theorem State.txn_setTxn_same (n : Nat) (x : Txn) : (s.setTxn n x).txn n = x := sget_sset_same ..

theorem State.txn_setTxn_ne {n m : Nat} (x : Txn) (h : m ≠ n) : (s.setTxn n x).txn m = s.txn m := sget_sset_ne _ _ _ _ h

@[simp] theorem State.core_setCore_same (n : Nat) (x : Core) : (s.setCore n x).core n = x := sget_sset_same ..

theorem State.core_setCore_ne {n m : Nat} (x : Core) (h : m ≠ n) : (s.setCore n x).core m = s.core m := sget_sset_ne _ _ _ _ h

@[simp] theorem State.group_setGroup_same (n : Nat) (x : Group) : (s.setGroup n x).group n = x := sget_sset_same ..

theorem State.group_setGroup_ne {n m : Nat} (x : Group) (h : m ≠ n) : (s.setGroup n x).group m = s.group m := sget_sset_ne _ _ _ _ h

@[simp] theorem State.dvst_setDv_same (n : Nat) (x : DvSt) : (s.setDv n x).dvst n = x := sget_sset_same ..

theorem State.dvst_setDv_ne {n m : Nat} (x : DvSt) (h : m ≠ n) : (s.setDv n x).dvst m = s.dvst m := sget_sset_ne _ _ _ _ h

@[simp] theorem State.dom_setDom_same (n : Nat) (x : Dom) : (s.setDom n x).dom n = x := sget_sset_same ..

theorem State.dom_setDom_ne {n m : Nat} (x : Dom) (h : m ≠ n) : (s.setDom n x).dom m = s.dom m := sget_sset_ne _ _ _ _ h

/-! ### Units under other updates -/

@[simp] theorem State.eng_setReg (func page off : Nat) (v : W64) (m : Nat) : (s.setReg func page off v).eng m = s.eng m := rfl
@[simp] theorem State.eng_w (page : Nat) (f : Fld) (x : Nat) (m : Nat) : (s.w page f x).eng m = s.eng m := rfl
@[simp] theorem State.eng_w1 (page : Nat) (f : Fld) (x : Nat) (m : Nat) : (s.w1 page f x).eng m = s.eng m := rfl
@[simp] theorem State.eng_fresh (m : Nat) : (s.fresh).eng m = s.eng m := rfl
@[simp] theorem State.eng_setHist (func page : Nat) (h : PageHist) (m : Nat) : (s.setHist func page h).eng m = s.eng m := rfl
@[simp] theorem State.eng_setOwner (func page : Nat) (c : Code) (m : Nat) : (s.setOwner func page c).eng m = s.eng m := rfl
@[simp] theorem State.eng_setHd (n : Nat) (x : HeadSt) (m : Nat) : (s.setHd n x).eng m = s.eng m := rfl
@[simp] theorem State.eng_setPort (n : Nat) (x : PortSt) (m : Nat) : (s.setPort n x).eng m = s.eng m := rfl
@[simp] theorem State.eng_setFp (n : Nat) (x : FieldPort) (m : Nat) : (s.setFp n x).eng m = s.eng m := rfl
@[simp] theorem State.eng_setCv (n : Nat) (x : CvSt) (m : Nat) : (s.setCv n x).eng m = s.eng m := rfl
@[simp] theorem State.eng_setTxn (n : Nat) (x : Txn) (m : Nat) : (s.setTxn n x).eng m = s.eng m := rfl
@[simp] theorem State.eng_setCore (n : Nat) (x : Core) (m : Nat) : (s.setCore n x).eng m = s.eng m := rfl
@[simp] theorem State.eng_setGroup (n : Nat) (x : Group) (m : Nat) : (s.setGroup n x).eng m = s.eng m := rfl
@[simp] theorem State.eng_setDv (n : Nat) (x : DvSt) (m : Nat) : (s.setDv n x).eng m = s.eng m := rfl
@[simp] theorem State.eng_setDom (n : Nat) (x : Dom) (m : Nat) : (s.setDom n x).eng m = s.eng m := rfl
@[simp] theorem State.eng_fillWindow (c pc : Nat) (kept : List Byte) (m : Nat) : (s.fillWindow c pc kept).eng m = s.eng m := rfl
@[simp] theorem State.eng_refetch (c : Nat) (m : Nat) : (s.refetch c).eng m = s.eng m := rfl
@[simp] theorem State.hd_setReg (func page off : Nat) (v : W64) (m : Nat) : (s.setReg func page off v).hd m = s.hd m := rfl
@[simp] theorem State.hd_w (page : Nat) (f : Fld) (x : Nat) (m : Nat) : (s.w page f x).hd m = s.hd m := rfl
@[simp] theorem State.hd_w1 (page : Nat) (f : Fld) (x : Nat) (m : Nat) : (s.w1 page f x).hd m = s.hd m := rfl
@[simp] theorem State.hd_fresh (m : Nat) : (s.fresh).hd m = s.hd m := rfl
@[simp] theorem State.hd_setHist (func page : Nat) (h : PageHist) (m : Nat) : (s.setHist func page h).hd m = s.hd m := rfl
@[simp] theorem State.hd_setOwner (func page : Nat) (c : Code) (m : Nat) : (s.setOwner func page c).hd m = s.hd m := rfl
@[simp] theorem State.hd_setEng (n : Nat) (x : Engine) (m : Nat) : (s.setEng n x).hd m = s.hd m := rfl
@[simp] theorem State.hd_setPort (n : Nat) (x : PortSt) (m : Nat) : (s.setPort n x).hd m = s.hd m := rfl
@[simp] theorem State.hd_setFp (n : Nat) (x : FieldPort) (m : Nat) : (s.setFp n x).hd m = s.hd m := rfl
@[simp] theorem State.hd_setCv (n : Nat) (x : CvSt) (m : Nat) : (s.setCv n x).hd m = s.hd m := rfl
@[simp] theorem State.hd_setTxn (n : Nat) (x : Txn) (m : Nat) : (s.setTxn n x).hd m = s.hd m := rfl
@[simp] theorem State.hd_setCore (n : Nat) (x : Core) (m : Nat) : (s.setCore n x).hd m = s.hd m := rfl
@[simp] theorem State.hd_setGroup (n : Nat) (x : Group) (m : Nat) : (s.setGroup n x).hd m = s.hd m := rfl
@[simp] theorem State.hd_setDv (n : Nat) (x : DvSt) (m : Nat) : (s.setDv n x).hd m = s.hd m := rfl
@[simp] theorem State.hd_setDom (n : Nat) (x : Dom) (m : Nat) : (s.setDom n x).hd m = s.hd m := rfl
@[simp] theorem State.hd_fillWindow (c pc : Nat) (kept : List Byte) (m : Nat) : (s.fillWindow c pc kept).hd m = s.hd m := rfl
@[simp] theorem State.hd_refetch (c : Nat) (m : Nat) : (s.refetch c).hd m = s.hd m := rfl
@[simp] theorem State.port_setReg (func page off : Nat) (v : W64) (m : Nat) : (s.setReg func page off v).port m = s.port m := rfl
@[simp] theorem State.port_w (page : Nat) (f : Fld) (x : Nat) (m : Nat) : (s.w page f x).port m = s.port m := rfl
@[simp] theorem State.port_w1 (page : Nat) (f : Fld) (x : Nat) (m : Nat) : (s.w1 page f x).port m = s.port m := rfl
@[simp] theorem State.port_fresh (m : Nat) : (s.fresh).port m = s.port m := rfl
@[simp] theorem State.port_setHist (func page : Nat) (h : PageHist) (m : Nat) : (s.setHist func page h).port m = s.port m := rfl
@[simp] theorem State.port_setOwner (func page : Nat) (c : Code) (m : Nat) : (s.setOwner func page c).port m = s.port m := rfl
@[simp] theorem State.port_setEng (n : Nat) (x : Engine) (m : Nat) : (s.setEng n x).port m = s.port m := rfl
@[simp] theorem State.port_setHd (n : Nat) (x : HeadSt) (m : Nat) : (s.setHd n x).port m = s.port m := rfl
@[simp] theorem State.port_setFp (n : Nat) (x : FieldPort) (m : Nat) : (s.setFp n x).port m = s.port m := rfl
@[simp] theorem State.port_setCv (n : Nat) (x : CvSt) (m : Nat) : (s.setCv n x).port m = s.port m := rfl
@[simp] theorem State.port_setTxn (n : Nat) (x : Txn) (m : Nat) : (s.setTxn n x).port m = s.port m := rfl
@[simp] theorem State.port_setCore (n : Nat) (x : Core) (m : Nat) : (s.setCore n x).port m = s.port m := rfl
@[simp] theorem State.port_setGroup (n : Nat) (x : Group) (m : Nat) : (s.setGroup n x).port m = s.port m := rfl
@[simp] theorem State.port_setDv (n : Nat) (x : DvSt) (m : Nat) : (s.setDv n x).port m = s.port m := rfl
@[simp] theorem State.port_setDom (n : Nat) (x : Dom) (m : Nat) : (s.setDom n x).port m = s.port m := rfl
@[simp] theorem State.port_fillWindow (c pc : Nat) (kept : List Byte) (m : Nat) : (s.fillWindow c pc kept).port m = s.port m := rfl
@[simp] theorem State.port_refetch (c : Nat) (m : Nat) : (s.refetch c).port m = s.port m := rfl
@[simp] theorem State.fp_setReg (func page off : Nat) (v : W64) (m : Nat) : (s.setReg func page off v).fp m = s.fp m := rfl
@[simp] theorem State.fp_w (page : Nat) (f : Fld) (x : Nat) (m : Nat) : (s.w page f x).fp m = s.fp m := rfl
@[simp] theorem State.fp_w1 (page : Nat) (f : Fld) (x : Nat) (m : Nat) : (s.w1 page f x).fp m = s.fp m := rfl
@[simp] theorem State.fp_fresh (m : Nat) : (s.fresh).fp m = s.fp m := rfl
@[simp] theorem State.fp_setHist (func page : Nat) (h : PageHist) (m : Nat) : (s.setHist func page h).fp m = s.fp m := rfl
@[simp] theorem State.fp_setOwner (func page : Nat) (c : Code) (m : Nat) : (s.setOwner func page c).fp m = s.fp m := rfl
@[simp] theorem State.fp_setEng (n : Nat) (x : Engine) (m : Nat) : (s.setEng n x).fp m = s.fp m := rfl
@[simp] theorem State.fp_setHd (n : Nat) (x : HeadSt) (m : Nat) : (s.setHd n x).fp m = s.fp m := rfl
@[simp] theorem State.fp_setPort (n : Nat) (x : PortSt) (m : Nat) : (s.setPort n x).fp m = s.fp m := rfl
@[simp] theorem State.fp_setCv (n : Nat) (x : CvSt) (m : Nat) : (s.setCv n x).fp m = s.fp m := rfl
@[simp] theorem State.fp_setTxn (n : Nat) (x : Txn) (m : Nat) : (s.setTxn n x).fp m = s.fp m := rfl
@[simp] theorem State.fp_setCore (n : Nat) (x : Core) (m : Nat) : (s.setCore n x).fp m = s.fp m := rfl
@[simp] theorem State.fp_setGroup (n : Nat) (x : Group) (m : Nat) : (s.setGroup n x).fp m = s.fp m := rfl
@[simp] theorem State.fp_setDv (n : Nat) (x : DvSt) (m : Nat) : (s.setDv n x).fp m = s.fp m := rfl
@[simp] theorem State.fp_setDom (n : Nat) (x : Dom) (m : Nat) : (s.setDom n x).fp m = s.fp m := rfl
@[simp] theorem State.fp_fillWindow (c pc : Nat) (kept : List Byte) (m : Nat) : (s.fillWindow c pc kept).fp m = s.fp m := rfl
@[simp] theorem State.fp_refetch (c : Nat) (m : Nat) : (s.refetch c).fp m = s.fp m := rfl
@[simp] theorem State.cv_setReg (func page off : Nat) (v : W64) (m : Nat) : (s.setReg func page off v).cv m = s.cv m := rfl
@[simp] theorem State.cv_w (page : Nat) (f : Fld) (x : Nat) (m : Nat) : (s.w page f x).cv m = s.cv m := rfl
@[simp] theorem State.cv_w1 (page : Nat) (f : Fld) (x : Nat) (m : Nat) : (s.w1 page f x).cv m = s.cv m := rfl
@[simp] theorem State.cv_fresh (m : Nat) : (s.fresh).cv m = s.cv m := rfl
@[simp] theorem State.cv_setHist (func page : Nat) (h : PageHist) (m : Nat) : (s.setHist func page h).cv m = s.cv m := rfl
@[simp] theorem State.cv_setOwner (func page : Nat) (c : Code) (m : Nat) : (s.setOwner func page c).cv m = s.cv m := rfl
@[simp] theorem State.cv_setEng (n : Nat) (x : Engine) (m : Nat) : (s.setEng n x).cv m = s.cv m := rfl
@[simp] theorem State.cv_setHd (n : Nat) (x : HeadSt) (m : Nat) : (s.setHd n x).cv m = s.cv m := rfl
@[simp] theorem State.cv_setPort (n : Nat) (x : PortSt) (m : Nat) : (s.setPort n x).cv m = s.cv m := rfl
@[simp] theorem State.cv_setFp (n : Nat) (x : FieldPort) (m : Nat) : (s.setFp n x).cv m = s.cv m := rfl
@[simp] theorem State.cv_setTxn (n : Nat) (x : Txn) (m : Nat) : (s.setTxn n x).cv m = s.cv m := rfl
@[simp] theorem State.cv_setCore (n : Nat) (x : Core) (m : Nat) : (s.setCore n x).cv m = s.cv m := rfl
@[simp] theorem State.cv_setGroup (n : Nat) (x : Group) (m : Nat) : (s.setGroup n x).cv m = s.cv m := rfl
@[simp] theorem State.cv_setDv (n : Nat) (x : DvSt) (m : Nat) : (s.setDv n x).cv m = s.cv m := rfl
@[simp] theorem State.cv_setDom (n : Nat) (x : Dom) (m : Nat) : (s.setDom n x).cv m = s.cv m := rfl
@[simp] theorem State.cv_fillWindow (c pc : Nat) (kept : List Byte) (m : Nat) : (s.fillWindow c pc kept).cv m = s.cv m := rfl
@[simp] theorem State.cv_refetch (c : Nat) (m : Nat) : (s.refetch c).cv m = s.cv m := rfl
@[simp] theorem State.txn_setReg (func page off : Nat) (v : W64) (m : Nat) : (s.setReg func page off v).txn m = s.txn m := rfl
@[simp] theorem State.txn_w (page : Nat) (f : Fld) (x : Nat) (m : Nat) : (s.w page f x).txn m = s.txn m := rfl
@[simp] theorem State.txn_w1 (page : Nat) (f : Fld) (x : Nat) (m : Nat) : (s.w1 page f x).txn m = s.txn m := rfl
@[simp] theorem State.txn_fresh (m : Nat) : (s.fresh).txn m = s.txn m := rfl
@[simp] theorem State.txn_setHist (func page : Nat) (h : PageHist) (m : Nat) : (s.setHist func page h).txn m = s.txn m := rfl
@[simp] theorem State.txn_setOwner (func page : Nat) (c : Code) (m : Nat) : (s.setOwner func page c).txn m = s.txn m := rfl
@[simp] theorem State.txn_setEng (n : Nat) (x : Engine) (m : Nat) : (s.setEng n x).txn m = s.txn m := rfl
@[simp] theorem State.txn_setHd (n : Nat) (x : HeadSt) (m : Nat) : (s.setHd n x).txn m = s.txn m := rfl
@[simp] theorem State.txn_setPort (n : Nat) (x : PortSt) (m : Nat) : (s.setPort n x).txn m = s.txn m := rfl
@[simp] theorem State.txn_setFp (n : Nat) (x : FieldPort) (m : Nat) : (s.setFp n x).txn m = s.txn m := rfl
@[simp] theorem State.txn_setCv (n : Nat) (x : CvSt) (m : Nat) : (s.setCv n x).txn m = s.txn m := rfl
@[simp] theorem State.txn_setCore (n : Nat) (x : Core) (m : Nat) : (s.setCore n x).txn m = s.txn m := rfl
@[simp] theorem State.txn_setGroup (n : Nat) (x : Group) (m : Nat) : (s.setGroup n x).txn m = s.txn m := rfl
@[simp] theorem State.txn_setDv (n : Nat) (x : DvSt) (m : Nat) : (s.setDv n x).txn m = s.txn m := rfl
@[simp] theorem State.txn_setDom (n : Nat) (x : Dom) (m : Nat) : (s.setDom n x).txn m = s.txn m := rfl
@[simp] theorem State.txn_fillWindow (c pc : Nat) (kept : List Byte) (m : Nat) : (s.fillWindow c pc kept).txn m = s.txn m := rfl
@[simp] theorem State.txn_refetch (c : Nat) (m : Nat) : (s.refetch c).txn m = s.txn m := rfl
@[simp] theorem State.core_setReg (func page off : Nat) (v : W64) (m : Nat) : (s.setReg func page off v).core m = s.core m := rfl
@[simp] theorem State.core_w (page : Nat) (f : Fld) (x : Nat) (m : Nat) : (s.w page f x).core m = s.core m := rfl
@[simp] theorem State.core_w1 (page : Nat) (f : Fld) (x : Nat) (m : Nat) : (s.w1 page f x).core m = s.core m := rfl
@[simp] theorem State.core_fresh (m : Nat) : (s.fresh).core m = s.core m := rfl
@[simp] theorem State.core_setHist (func page : Nat) (h : PageHist) (m : Nat) : (s.setHist func page h).core m = s.core m := rfl
@[simp] theorem State.core_setOwner (func page : Nat) (c : Code) (m : Nat) : (s.setOwner func page c).core m = s.core m := rfl
@[simp] theorem State.core_setEng (n : Nat) (x : Engine) (m : Nat) : (s.setEng n x).core m = s.core m := rfl
@[simp] theorem State.core_setHd (n : Nat) (x : HeadSt) (m : Nat) : (s.setHd n x).core m = s.core m := rfl
@[simp] theorem State.core_setPort (n : Nat) (x : PortSt) (m : Nat) : (s.setPort n x).core m = s.core m := rfl
@[simp] theorem State.core_setFp (n : Nat) (x : FieldPort) (m : Nat) : (s.setFp n x).core m = s.core m := rfl
@[simp] theorem State.core_setCv (n : Nat) (x : CvSt) (m : Nat) : (s.setCv n x).core m = s.core m := rfl
@[simp] theorem State.core_setTxn (n : Nat) (x : Txn) (m : Nat) : (s.setTxn n x).core m = s.core m := rfl
@[simp] theorem State.core_setGroup (n : Nat) (x : Group) (m : Nat) : (s.setGroup n x).core m = s.core m := rfl
@[simp] theorem State.core_setDv (n : Nat) (x : DvSt) (m : Nat) : (s.setDv n x).core m = s.core m := rfl
@[simp] theorem State.core_setDom (n : Nat) (x : Dom) (m : Nat) : (s.setDom n x).core m = s.core m := rfl
@[simp] theorem State.core_fillWindow (c pc : Nat) (kept : List Byte) (m : Nat) : (s.fillWindow c pc kept).core m = s.core m := rfl
@[simp] theorem State.core_refetch (c : Nat) (m : Nat) : (s.refetch c).core m = s.core m := rfl
@[simp] theorem State.group_setReg (func page off : Nat) (v : W64) (m : Nat) : (s.setReg func page off v).group m = s.group m := rfl
@[simp] theorem State.group_w (page : Nat) (f : Fld) (x : Nat) (m : Nat) : (s.w page f x).group m = s.group m := rfl
@[simp] theorem State.group_w1 (page : Nat) (f : Fld) (x : Nat) (m : Nat) : (s.w1 page f x).group m = s.group m := rfl
@[simp] theorem State.group_fresh (m : Nat) : (s.fresh).group m = s.group m := rfl
@[simp] theorem State.group_setHist (func page : Nat) (h : PageHist) (m : Nat) : (s.setHist func page h).group m = s.group m := rfl
@[simp] theorem State.group_setOwner (func page : Nat) (c : Code) (m : Nat) : (s.setOwner func page c).group m = s.group m := rfl
@[simp] theorem State.group_setEng (n : Nat) (x : Engine) (m : Nat) : (s.setEng n x).group m = s.group m := rfl
@[simp] theorem State.group_setHd (n : Nat) (x : HeadSt) (m : Nat) : (s.setHd n x).group m = s.group m := rfl
@[simp] theorem State.group_setPort (n : Nat) (x : PortSt) (m : Nat) : (s.setPort n x).group m = s.group m := rfl
@[simp] theorem State.group_setFp (n : Nat) (x : FieldPort) (m : Nat) : (s.setFp n x).group m = s.group m := rfl
@[simp] theorem State.group_setCv (n : Nat) (x : CvSt) (m : Nat) : (s.setCv n x).group m = s.group m := rfl
@[simp] theorem State.group_setTxn (n : Nat) (x : Txn) (m : Nat) : (s.setTxn n x).group m = s.group m := rfl
@[simp] theorem State.group_setCore (n : Nat) (x : Core) (m : Nat) : (s.setCore n x).group m = s.group m := rfl
@[simp] theorem State.group_setDv (n : Nat) (x : DvSt) (m : Nat) : (s.setDv n x).group m = s.group m := rfl
@[simp] theorem State.group_setDom (n : Nat) (x : Dom) (m : Nat) : (s.setDom n x).group m = s.group m := rfl
@[simp] theorem State.group_fillWindow (c pc : Nat) (kept : List Byte) (m : Nat) : (s.fillWindow c pc kept).group m = s.group m := rfl
@[simp] theorem State.group_refetch (c : Nat) (m : Nat) : (s.refetch c).group m = s.group m := rfl
@[simp] theorem State.dvst_setReg (func page off : Nat) (v : W64) (m : Nat) : (s.setReg func page off v).dvst m = s.dvst m := rfl
@[simp] theorem State.dvst_w (page : Nat) (f : Fld) (x : Nat) (m : Nat) : (s.w page f x).dvst m = s.dvst m := rfl
@[simp] theorem State.dvst_w1 (page : Nat) (f : Fld) (x : Nat) (m : Nat) : (s.w1 page f x).dvst m = s.dvst m := rfl
@[simp] theorem State.dvst_fresh (m : Nat) : (s.fresh).dvst m = s.dvst m := rfl
@[simp] theorem State.dvst_setHist (func page : Nat) (h : PageHist) (m : Nat) : (s.setHist func page h).dvst m = s.dvst m := rfl
@[simp] theorem State.dvst_setOwner (func page : Nat) (c : Code) (m : Nat) : (s.setOwner func page c).dvst m = s.dvst m := rfl
@[simp] theorem State.dvst_setEng (n : Nat) (x : Engine) (m : Nat) : (s.setEng n x).dvst m = s.dvst m := rfl
@[simp] theorem State.dvst_setHd (n : Nat) (x : HeadSt) (m : Nat) : (s.setHd n x).dvst m = s.dvst m := rfl
@[simp] theorem State.dvst_setPort (n : Nat) (x : PortSt) (m : Nat) : (s.setPort n x).dvst m = s.dvst m := rfl
@[simp] theorem State.dvst_setFp (n : Nat) (x : FieldPort) (m : Nat) : (s.setFp n x).dvst m = s.dvst m := rfl
@[simp] theorem State.dvst_setCv (n : Nat) (x : CvSt) (m : Nat) : (s.setCv n x).dvst m = s.dvst m := rfl
@[simp] theorem State.dvst_setTxn (n : Nat) (x : Txn) (m : Nat) : (s.setTxn n x).dvst m = s.dvst m := rfl
@[simp] theorem State.dvst_setCore (n : Nat) (x : Core) (m : Nat) : (s.setCore n x).dvst m = s.dvst m := rfl
@[simp] theorem State.dvst_setGroup (n : Nat) (x : Group) (m : Nat) : (s.setGroup n x).dvst m = s.dvst m := rfl
@[simp] theorem State.dvst_setDom (n : Nat) (x : Dom) (m : Nat) : (s.setDom n x).dvst m = s.dvst m := rfl
@[simp] theorem State.dvst_fillWindow (c pc : Nat) (kept : List Byte) (m : Nat) : (s.fillWindow c pc kept).dvst m = s.dvst m := rfl
@[simp] theorem State.dvst_refetch (c : Nat) (m : Nat) : (s.refetch c).dvst m = s.dvst m := rfl
@[simp] theorem State.dom_setReg (func page off : Nat) (v : W64) (m : Nat) : (s.setReg func page off v).dom m = s.dom m := rfl
@[simp] theorem State.dom_w (page : Nat) (f : Fld) (x : Nat) (m : Nat) : (s.w page f x).dom m = s.dom m := rfl
@[simp] theorem State.dom_w1 (page : Nat) (f : Fld) (x : Nat) (m : Nat) : (s.w1 page f x).dom m = s.dom m := rfl
@[simp] theorem State.dom_fresh (m : Nat) : (s.fresh).dom m = s.dom m := rfl
@[simp] theorem State.dom_setHist (func page : Nat) (h : PageHist) (m : Nat) : (s.setHist func page h).dom m = s.dom m := rfl
@[simp] theorem State.dom_setOwner (func page : Nat) (c : Code) (m : Nat) : (s.setOwner func page c).dom m = s.dom m := rfl
@[simp] theorem State.dom_setEng (n : Nat) (x : Engine) (m : Nat) : (s.setEng n x).dom m = s.dom m := rfl
@[simp] theorem State.dom_setHd (n : Nat) (x : HeadSt) (m : Nat) : (s.setHd n x).dom m = s.dom m := rfl
@[simp] theorem State.dom_setPort (n : Nat) (x : PortSt) (m : Nat) : (s.setPort n x).dom m = s.dom m := rfl
@[simp] theorem State.dom_setFp (n : Nat) (x : FieldPort) (m : Nat) : (s.setFp n x).dom m = s.dom m := rfl
@[simp] theorem State.dom_setCv (n : Nat) (x : CvSt) (m : Nat) : (s.setCv n x).dom m = s.dom m := rfl
@[simp] theorem State.dom_setTxn (n : Nat) (x : Txn) (m : Nat) : (s.setTxn n x).dom m = s.dom m := rfl
@[simp] theorem State.dom_setCore (n : Nat) (x : Core) (m : Nat) : (s.setCore n x).dom m = s.dom m := rfl
@[simp] theorem State.dom_setGroup (n : Nat) (x : Group) (m : Nat) : (s.setGroup n x).dom m = s.dom m := rfl
@[simp] theorem State.dom_setDv (n : Nat) (x : DvSt) (m : Nat) : (s.setDv n x).dom m = s.dom m := rfl
@[simp] theorem State.dom_fillWindow (c pc : Nat) (kept : List Byte) (m : Nat) : (s.fillWindow c pc kept).dom m = s.dom m := rfl
@[simp] theorem State.dom_refetch (c : Nat) (m : Nat) : (s.refetch c).dom m = s.dom m := rfl

/-! ### Registers: a read after a write -/

/-- Two registers with pages and offsets inside their bounds have different keys (R22). -/
theorem regKey_inj {f p o f' p' o' : Nat} (hp : p < 4096) (ho : o < 4096) (hp' : p' < 4096) (ho' : o' < 4096)
    (h : regKey f p o = regKey f' p' o') : f = f' ∧ p = p' ∧ o = o' := by
  unfold regKey at h
  omega

@[simp] theorem State.reg_setReg_same (func page off : Nat) (v : W64) :
    (s.setReg func page off v).reg func page off = v := sget_sset_same ..

theorem State.reg_setReg_ne {f p o f' p' o' : Nat} (v : W64) (h : regKey f' p' o' ≠ regKey f p o) :
    (s.setReg f p o v).reg f' p' o' = s.reg f' p' o' := sget_sset_ne _ _ _ _ h

/-- A field reads what was written to it. -/
theorem State.r_w_same (page : Nat) (f : Fld) (x : Nat) (h : f.lo + f.w ≤ 64) : (s.w page f x).r page f = x % 2 ^ f.w := by
  unfold State.r State.w
  rw [State.reg_setReg_same, wfld_wset_same _ _ h]

/-- A field of the same register that shares no bit keeps its value. -/
theorem State.r_w_disjoint (page : Nat) {f g : Fld} (x : Nat) (h : f.lo + f.w ≤ 64) (ho : g.off = f.off)
    (hd : g.lo + g.w ≤ f.lo ∨ f.lo + f.w ≤ g.lo) : (s.w page f x).r page g = s.r page g := by
  unfold State.r State.w
  rw [ho, State.reg_setReg_same, wfld_wset_disjoint _ _ h hd]

/-- A field of another register keeps its value. -/
theorem State.r_w_ne {page p : Nat} {f g : Fld} (x : Nat) (h : regKey 0 p g.off ≠ regKey 0 page f.off) :
    (s.w page f x).r p g = s.r p g := by
  unfold State.r State.w
  rw [State.reg_setReg_ne _ _ h]

theorem State.reg_w_ne {page p func off : Nat} {f : Fld} (x : Nat) (h : regKey func p off ≠ regKey 0 page f.off) :
    (s.w page f x).reg func p off = s.reg func p off := State.reg_setReg_ne s _ h

theorem State.r1_w1_same (page : Nat) (f : Fld) (x : Nat) (h : f.lo + f.w ≤ 64) : (s.w1 page f x).r1 page f = x % 2 ^ f.w := by
  unfold State.r1 State.w1
  rw [State.reg_setReg_same, wfld_wset_same _ _ h]

@[simp] theorem State.owner_setOwner_same0 {page : Nat} (h : page < 0x5A0) (c : Code) : (s.setOwner 0 page c).owner 0 page = c := by
  unfold State.owner State.setOwner
  rw [if_neg (by omega)]
  exact sget_sset_same ..

end Sys2Proof.Machine
end

