-- ==== Sys2Proof/Laws/Bus.lean ====
section
/-! SUPPORT. What a register write does once its page and register are known: past the halves and the checks, the
effect of its block, and the entry of a mirrored page. -/

namespace Sys2Proof.Machine

/-! ### The unit pages -/

theorem pageKind_pgINTCG {n : Nat} (h : n < 64) : pageKind 0 (pgINTCG n) = some (.kINTCG, n) := by
  simp [pageKind, pageKind0, pgINTCG]; omega
theorem pageKind_pgDV {n : Nat} (h : n < 32) : pageKind 0 (pgDV n) = some (.kDV, n) := by
  revert n; decide
theorem pageKind_pgFP {n : Nat} (h : n < 16) : pageKind 0 (pgFP n) = some (.kFP, n) := by
  revert n; decide
theorem pageKind_pgCV {n : Nat} (h : n < 16) : pageKind 0 (pgCV n) = some (.kCV, n) := by
  revert n; decide
theorem pageKind_pgSC {n : Nat} (h : n < 64) : pageKind 0 (pgSC n) = some (.kSC, n) := by
  revert n; decide
theorem pageKind_pgPK {n : Nat} (h : n < 8) : pageKind 0 (pgPK n) = some (.kPK, n) := by
  revert n; decide
theorem pageKind_pgHEAD {n : Nat} (h : n < 32) : pageKind 0 (pgHEAD n) = some (.kHEAD, n) := by
  revert n; decide
theorem pageKind_pgPE {n : Nat} (h : n < 33) : pageKind 0 (pgPE n) = some (.kPE, n) := by
  revert n; decide
theorem pageKind_pgVP {n : Nat} (h : n < 8) : pageKind 0 (pgVP n) = some (.kVP, n) := by
  revert n; decide
theorem pageKind_pgSAP {n : Nat} (h : n < 32) : pageKind 1 (pgSAP n) = some (.kSAPPHIRE, n) := by
  revert n; decide

/-! ### The checks -/

/-- The checks of a write, spelt out (R2, R23, R29, R33, R67, R472). -/
theorem State.bar_eq_none {s : State} {w : Wr} {k : Kind} {n : Nat} (hk : pageKind w.func w.page = some (k, n)) :
    s.bar w = none ↔ s.mainUp = true ∧ reaches w.func w.page w.code = true ∧ unitPresent s.variant k n = true ∧ k.isBlock = true
      ∧ sizeOk k w.off w.size = true ∧ s.ownerAllows w.func w.page w.off w.code = true
      ∧ (s.locked w.func w.page && lockFreezes k w.off) = false
      ∧ (w.off < 0x100 ∨ s.domainOn w.func w.page = true)
      ∧ (isDataPath k w.off && s.fenced w.func w.page) = false := by
  unfold State.bar
  rw [hk]
  simp only
  have hoff : (w.off < 0x100) ↔ decide (0x100 ≤ w.off) = false := by simp
  rw [hoff]
  cases s.mainUp <;> cases reaches w.func w.page w.code <;> cases unitPresent s.variant k n <;> cases k.isBlock <;> cases sizeOk k w.off w.size <;>
    cases s.ownerAllows w.func w.page w.off w.code <;>
    cases s.locked w.func w.page && lockFreezes k w.off <;> cases decide (0x100 ≤ w.off) <;>
    cases s.domainOn w.func w.page <;> cases isDataPath k w.off && s.fenced w.func w.page <;> simp

/-- The checks do not look at the value written. -/
theorem State.bar_of_admits {s : State} {func page off size : Nat} {wr : Code} (h : Admits s func page off size wr)
    (v : W64) : s.bar { func := func, page := page, off := off, size := size, value := v, code := wr } = none := h

/-! ### Whole writes -/

theorem State.guarded_of_admitted {s : State} {w : Wr} (h : s.bar w = none) (eff : State → Eff) :
    s.guarded w eff = eff s := by
  unfold State.guarded; rw [h]

theorem State.guarded_of_barred {s : State} {w : Wr} {b : Bar} (h : s.bar w = some b) (eff : State → Eff) :
    s.guarded w eff = (s.barred w b, false) := by
  unfold State.guarded; rw [h]

theorem nfld_w32 (v : BitVec 32) : nfld (BitVec.ofNat 64 v.toNat).toNat 0 32 = v.toNat := by
  simpa [nfld] using v.isLt

@[simp] theorem wr32_v (func page off : Nat) (v : BitVec 32) (wr : Code) : (wr32 func page off v wr).v = v.toNat := by
  simp only [Wr.v, wr32, BitVec.toNat_ofNat]
  exact Nat.mod_eq_of_lt (Nat.lt_trans v.isLt (by decide))

@[simp] theorem wr64_v (func page off : Nat) (v : BitVec 64) (wr : Code) : (wr64 func page off v wr).v = v.toNat := by
  simp [Wr.v, wr64]

/-- A 4-byte write to a register that is no half of a wider one. -/
theorem State.writeAt32 {s : State} {func page off : Nat} {k : Kind} {n : Nat} (v : BitVec 32) (wr : Code)
    (hk : pageKind func page = some (k, n)) (hb : k.isBlock = true) (hw : wideBase k off = none) :
    s.writeAt func page off 4 v.toNat wr = (s.wholeWrite (wr32 func page off v wr) k n).1 := by
  have hn := nfld_w32 v
  simp only [State.writeAt, State.busWrite, State.busWriteEff, hk, hb, State.halves, Wr.v, hn]
  simp [hw, wr32]

/-- An 8-byte write to a 64-bit register: a half its writer held is gone (R505). -/
theorem State.writeAt64 {s : State} {func page off : Nat} {k : Kind} {n : Nat} (v : BitVec 64) (wr : Code)
    (hk : pageKind func page = some (k, n)) (hb : k.isBlock = true) (hw : wideBase k off = some off) :
    s.writeAt func page off 8 v.toNat wr = ((Released s func page off wr).wholeWrite (wr64 func page off v wr) k n).1 := by
  simp [State.writeAt, State.busWrite, State.busWriteEff, hk, hb, State.halves, hw, wr64, State.release, Released]

/-- What no check bars and what clears no source: the block's effect, then a mirrored page's entry (R333). -/
theorem State.wholeWrite_block {s : State} {w : Wr} {k : Kind} {n : Nat} (h : s.bar w = none)
    (hd : deasserts w k = false) (ho : 0x100 ≤ w.off) (hk : k ≠ .kPROTR) :
    (s.wholeWrite w k n).1 =
      if (s.blockWrite w k n).2 then (s.blockWrite w k n).1.journalWrite w s else (s.blockWrite w k n).1 := by
  have h' : ¬ w.off < 256 := by omega
  simp only [State.wholeWrite, State.guarded_of_admitted h, State.take, hd, h', Bool.false_eq_true, beq_iff_eq,
    hk, if_false]

/-- The same on the common part of a page (R26). -/
theorem State.wholeWrite_common {s : State} {w : Wr} {k : Kind} {n : Nat} (h : s.bar w = none)
    (hd : deasserts w k = false) (ho : w.off < 0x100) :
    (s.wholeWrite w k n).1 =
      if (s.commonWrite w k n).2 then (s.commonWrite w k n).1.journalWrite w s else (s.commonWrite w k n).1 := by
  simp only [State.wholeWrite, State.guarded_of_admitted h, State.take, hd, ho, Bool.false_eq_true, if_true, if_false]

/-- The common part of a page is journalled by no mirrored page (R333). -/
theorem State.journalWrite_common (s t : State) {w : Wr} (h : w.off < 0x100) : s.journalWrite w t = s := by
  have : mirrorsReg w.func w.page w.off = false := by simp [mirrorsReg]; omega
  simp [State.journalWrite, this]

/-- A page that no MIR register can name is not mirrored (R333). -/
theorem State.journalWrite_other (s t : State) {w : Wr} (h : w.func ≠ 0 ∨ (w.page < 0x500 ∨ 0x540 ≤ w.page) ∧ w.page ≠ pAUDIO) :
    s.journalWrite w t = s := by
  have : t.mirrored w.func w.page = false := by
    unfold State.mirrored
    rcases h with h | ⟨h, ha⟩
    · simp [h]
    · have h1 : ¬ (0x500 ≤ w.page ∧ w.page < 0x520) := by omega
      have h2 : ¬ (0x520 ≤ w.page ∧ w.page < 0x540) := by omega
      simp [h1, h2, ha]
  simp [State.journalWrite, this]

/-- The pages of heads, of engines and of AUDIO are the ones a MIR register can name (R333). -/
theorem State.journalWrite_kind (s t : State) {w : Wr} {k : Kind} {n : Nat} (hk : pageKind w.func w.page = some (k, n))
    (h1 : k ≠ .kHEAD) (h2 : k ≠ .kPE) (h3 : k ≠ .kAUDIO) : s.journalWrite w t = s := by
  apply State.journalWrite_other
  by_cases hf : w.func = 0
  · right
    rw [hf] at hk
    constructor
    · by_contra hc
      by_cases hp : w.page < 0x520
      · obtain ⟨m, hm⟩ : ∃ m, w.page = pgHEAD m := ⟨w.page - 0x500, by unfold pgHEAD; omega⟩
        rw [hm, pageKind_pgHEAD (by unfold pgHEAD at hm; omega)] at hk
        exact h1 (by simpa using (congrArg (Option.map Prod.fst) hk).symm)
      · obtain ⟨m, hm⟩ : ∃ m, w.page = pgPE m := ⟨w.page - 0x520, by unfold pgPE; omega⟩
        rw [hm, pageKind_pgPE (by unfold pgPE at hm; omega)] at hk
        exact h2 (by simpa using (congrArg (Option.map Prod.fst) hk).symm)
    · intro hp
      rw [hp] at hk
      exact h3 (by simpa using (congrArg (Option.map Prod.fst) (hk.symm.trans (by decide : pageKind 0 pAUDIO = some (.kAUDIO, 0)))))
  · exact .inl hf

/-! ### An accepted write, from the bus to its block -/

section
variable {s : State} {func page off : Nat} {k : Kind} {n : Nat} {wr : Code}

/-- An accepted 4-byte write to a block register. -/
theorem State.writeAt32_block {v : BitVec 32} (hk : pageKind func page = some (k, n)) (ha : Admits s func page off 4 wr)
    (hb : k.isBlock = true) (hw : wideBase k off = none) (hd : deasserts (wr32 func page off v wr) k = false)
    (ho : 0x100 ≤ off) (hp : k ≠ .kPROTR) :
    s.writeAt func page off 4 v.toNat wr =
      if (s.blockWrite (wr32 func page off v wr) k n).2
      then (s.blockWrite (wr32 func page off v wr) k n).1.journalWrite (wr32 func page off v wr) s
      else (s.blockWrite (wr32 func page off v wr) k n).1 := by
  rw [State.writeAt32 v wr hk hb hw, State.wholeWrite_block (w := wr32 func page off v wr) (State.bar_of_admits ha _) hd ho hp]

/-- The same on a page that no MIR register names. -/
theorem State.writeAt32_kind {v : BitVec 32} (hk : pageKind func page = some (k, n)) (ha : Admits s func page off 4 wr)
    (hb : k.isBlock = true) (hw : wideBase k off = none) (hd : deasserts (wr32 func page off v wr) k = false)
    (ho : 0x100 ≤ off) (hp : k ≠ .kPROTR) (h1 : k ≠ .kHEAD) (h2 : k ≠ .kPE) (h3 : k ≠ .kAUDIO) :
    s.writeAt func page off 4 v.toNat wr = (s.blockWrite (wr32 func page off v wr) k n).1 := by
  rw [State.writeAt32_block hk ha hb hw hd ho hp, State.journalWrite_kind _ _ (k := k) (n := n) hk h1 h2 h3, ite_self]

/-- An accepted 4-byte write to the common part of a page. -/
theorem State.writeAt32_common {v : BitVec 32} (hk : pageKind func page = some (k, n)) (ha : Admits s func page off 4 wr)
    (hb : k.isBlock = true) (hw : wideBase k off = none) (hd : deasserts (wr32 func page off v wr) k = false)
    (ho : off < 0x100) :
    s.writeAt func page off 4 v.toNat wr = (s.commonWrite (wr32 func page off v wr) k n).1 := by
  rw [State.writeAt32 v wr hk hb hw, State.wholeWrite_common (w := wr32 func page off v wr) (State.bar_of_admits ha _) hd ho,
    State.journalWrite_common _ _ ho, ite_self]

/-- An accepted 8-byte write to a 64-bit block register. -/
theorem State.writeAt64_block {v : BitVec 64} (hk : pageKind func page = some (k, n)) (ha : Admits s func page off 8 wr)
    (hb : k.isBlock = true) (hw : wideBase k off = some off) (hd : deasserts (wr64 func page off v wr) k = false)
    (ho : 0x100 ≤ off) (hp : k ≠ .kPROTR) :
    s.writeAt func page off 8 v.toNat wr =
      let r := (Released s func page off wr).blockWrite (wr64 func page off v wr) k n
      if r.2 then r.1.journalWrite (wr64 func page off v wr) (Released s func page off wr) else r.1 := by
  rw [State.writeAt64 v wr hk hb hw, State.wholeWrite_block (s := Released s func page off wr) (w := wr64 func page off v wr) ha hd ho hp]

/-- The same on a page that no MIR register names. -/
theorem State.writeAt64_kind {v : BitVec 64} (hk : pageKind func page = some (k, n)) (ha : Admits s func page off 8 wr)
    (hb : k.isBlock = true) (hw : wideBase k off = some off) (hd : deasserts (wr64 func page off v wr) k = false)
    (ho : 0x100 ≤ off) (hp : k ≠ .kPROTR) (h1 : k ≠ .kHEAD) (h2 : k ≠ .kPE) (h3 : k ≠ .kAUDIO) :
    s.writeAt func page off 8 v.toNat wr = ((Released s func page off wr).blockWrite (wr64 func page off v wr) k n).1 := by
  rw [State.writeAt64_block hk ha hb hw hd ho hp]
  simp only [State.journalWrite_kind _ _ (w := wr64 func page off v wr) (k := k) (n := n) hk h1 h2 h3, ite_self]

end

/-- A plain write of a register with a row of its own (R10, R26). -/
theorem State.plain_of_spec {s : State} {w : Wr} {k : Kind} {n : Nat} {sp : RegSpec} (hk : pageKind w.func w.page = some (k, n))
    (hs : specAt k w.off = some (sp, w.off)) : s.plain w = (s.plainWrite w sp, true) := by
  simp [State.plain, hk, hs]

end Sys2Proof.Machine
end

