-- ==== Sys2Proof/Laws/Crook.lean ====
section
/-! SUPPORT. What an instruction of a core comes to once it issues, and the fetch window after each move of it. -/

namespace Sys2Proof.Machine

variable {s : State} {c : Nat}

/-- The window after a fill: what was kept, then the code behind it (R384, R385). -/
@[simp] theorem State.window_fillWindow (pc : Nat) (kept : List Byte) :
    (s.fillWindow c pc kept).window c = kept ++ s.codeAt c (pc + kept.length) (windowBytes - kept.length) :=
  sget_sset_same ..

/-- The window after a redirect is the code at the core's PC (R374). -/
@[simp] theorem State.window_refetch : (s.refetch c).window c = s.codeAt c (s.core c).pc windowBytes := by
  simp [State.refetch]

/-- Without a pending register among `regs` an instruction waits for none (R375). -/
theorem State.awaitRegs_of_free {regs : List Nat} (h : ∀ l ∈ (s.core c).loads, ∀ r ∈ regs, r % 16 ≠ l.d % 16) :
    ∀ n : Nat, s.awaitRegs c regs n = s
  | 0 => rfl
  | n + 1 => by
    have hn : ((s.core c).loads.any fun l => regs.any fun r => r % 16 == l.d % 16) = false := by
      simpa using h
    simp [State.awaitRegs, hn]

/-- All an instruction that issues does: its effect, then the next instruction, a redirect or an exception (R364, R374). -/
theorem State.instr_of_issues {len cc : Nat} {regs : List Nat} (h : Issues s c len regs) (f : State → Res) :
    s.instr c len cc regs f = match f s with
      | .next t => t.complete c len cc
      | .jump t pc => t.redirect c pc cc
      | .exc t k d a =>
        if k = cause.TRAP
        then (t.setCore c { t.core c with cycles := (t.core c).cycles + BitVec.ofNat 32 cc }).exception c k d a ((s.core c).pc + len)
        else t.exception c k d a (s.core c).pc := by
  obtain ⟨hi, hp, hl⟩ := h
  have hp : ¬ 0x20000 < (s.core c).pc + len := by omega
  simp only [State.instr, hi, hp, State.awaitRegs_of_free hl]
  rfl

end Sys2Proof.Machine
end

