-- ==== Sys2Proof/Tests/Slice0.lean ====
section
/-! SUPPORT. Tests: the ill-formed terms that `Instr.wf` refuses, examples of the spec, and for every statement
with hypotheses states and operands that meet them, one witness for each of its clauses. -/

namespace Sys2Proof.Tests

open Sys2Proof Sys2Proof.Machine

set_option Elab.async false

/-! ### Well-formedness -/

theorem test_wf_refuses_1 : ([.registerWrite ⟨0, 4096, 0⟩ 4 0 1, .registerWrite ⟨0, 0, 4096⟩ 4 0 1, .registerWrite ⟨0, 0x50, 0x110⟩ 3 0 1, .halfWrite ⟨0, 4096, 0⟩ false 0 1,
    .halfWrite ⟨0, 0, 4096⟩ false 0 1, .halfWrite ⟨0, 0x50, 4⟩ false 0 1, .lock 0 4096 0 1, .lock 1 64 0 1,
    .lock 2 0 0 1, .ownerWrite 0 4096 0 1, .ownerWrite 1 64 0 1, .ownerWrite 2 0 0 1,
    .histClear 0 4096 1, .histClear 1 64 1, .histClear 2 0 1, .repeatWindowEnd 0 4096 0,
    .repeatWindowEnd 1 64 0, .repeatWindowEnd 2 0 0, .fenceReq 0 4096 0 1, .fenceReq 1 64 0 1,
    .fenceReq 2 0 0 1, .unfence 0 4096 0 1, .unfence 1 64 0 1, .unfence 2 0 0 1] : List Instr).any Instr.wf = false := by
  decide

theorem test_wf_refuses_2 : ([.fenceComplete 0 4096, .fenceComplete 1 64, .fenceComplete 2 0, .dataPortWrite 16 0 [some 1] 1,
    .dataPortWrite 0 65536 [some 1] 1, .dataPortWrite 0 0 [] 1, .dataPortRead 16 0 4 1, .dataPortRead 0 65536 4 1,
    .dataPortRead 0 0 0 1, .datAddrWrite 16 false 0 1, .datEnClear 16 0 1, .datOwnerWrite 16 0 1,
    .patiencePromotion 7 0 none, .patiencePromotion 0 0 (some 32), .targetWrite 50 0 1, .entryCommit 50,
    .entryComplete 50, .wakePin 16 false, .wakeComplete 50, .plevelWrite 50 0 1,
    .plevelDone 50, .lineStart 33, .lineComplete 33, .pastureFetchDone 33 .tile 0 false] : List Instr).any Instr.wf = false := by
  decide

theorem test_wf_refuses_3 : ([.palDataWrite 33 0 1, .layerHoldWrite 33 0 1, .flkDataWrite 33 0 1, .flkHoldWrite 33 0 1,
    .beamLine 32, .scanDeadline 32, .lookaheadWrite 32 0 1, .llFetchDone 32 false,
    .lutDataWrite 33 0 1, .sapDataWrite 32 0 1, .sapPaletteWrite 32 0 0 0 1, .sapPaletteWrite 0 2 0 0 1,
    .sapPaletteWrite 0 0 64 0 1, .sapFlip 32 0 1, .sapCopy 32 0 1, .sapCopyDone 32,
    .sapLearn 32 0 1, .signatureCheck 32, .wbDone 32, .headEnable 32 0 1,
    .headDisable 32 0 1, .linkTrain 8 1, .linkDrop 8 1, .linkTrainingDone 8 none] : List Instr).any Instr.wf = false := by
  decide

theorem test_wf_refuses_4 : ([.linkTrainingDone 0 (some 4), .hpdChange 8 false, .hpdIrq 8 false, .auxGo 8 0 1,
    .auxDone 8 0 [], .syncEvent 32, .syncLost 32, .bistReq 33 1,
    .bistForce 33 1, .bistDone 33 0, .bltCopy .race .none (some 0), .bltFill .race .none (some 0),
    .bltExpand .race .none (some 0), .bltBlend .race .none (some 0), .bltConvert .race .none (some 0), .fpEnable 16 0 1,
    .fpDisable 16 0 1, .rxCharacter 16 (.byte 0) 0, .rxCharacter 0 (.flag 8) 0, .rxBreak 16,
    .rxGapTimeout 16, .t35Silence 16, .cdChange 16 false, .txHeadWrite 16 0 1] : List Instr).any Instr.wf = false := by
  decide

theorem test_wf_refuses_5 : ([.rxTailWrite 16 0 1, .txDescriptorTake 16, .txNotBefore 16, .lbtQuiet 16,
    .keyupEnd 16, .txLastBit 16, .tailEnd 16, .txTimeout 16,
    .cvSrcWrite 16 0 1, .feed8 16 0 1, .feed32 16 0 1, .feed64 16 0 1,
    .finish 16 0 1, .ctxSave 16 0 1, .ctxLoad 16 0 1, .ctxDone 16,
    .selfcheck 16 0 1, .selfcheckDone 16 0, .crEnWrite 16 0 1, .crHeadWrite 16 0 1,
    .crResTailWrite 16 0 1, .crOwnerWrite 16 0 1, .channelGrant 4096, .selectToExpiry 4096] : List Instr).any Instr.wf = false := by
  decide

theorem test_wf_refuses_6 : ([.windowExpiry 4096, .operateToExpiry 4096, .feedbackToExpiry 4096, .nop 64,
    .halt 64, .iflush 64, .fence 64, .ret 64,
    .reti 64, .dup 64, .drop 64, .swap 64,
    .over 64, .ei 64, .di 64, .trap 64 0,
    .mov 64 0 (.reg 0), .mov 0 16 (.reg 0), .mov 0 0 (.reg 16), .add 64 0 (.reg 0),
    .add 0 16 (.reg 0), .add 0 0 (.reg 16), .sub 64 0 (.reg 0), .sub 0 16 (.reg 0)] : List Instr).any Instr.wf = false := by
  decide

theorem test_wf_refuses_7 : ([.sub 0 0 (.reg 16), .adc 64 0 (.reg 0), .adc 0 16 (.reg 0), .adc 0 0 (.reg 16),
    .sbc 64 0 (.reg 0), .sbc 0 16 (.reg 0), .sbc 0 0 (.reg 16), .and 64 0 (.reg 0),
    .and 0 16 (.reg 0), .and 0 0 (.reg 16), .or 64 0 (.reg 0), .or 0 16 (.reg 0),
    .or 0 0 (.reg 16), .xor 64 0 (.reg 0), .xor 0 16 (.reg 0), .xor 0 0 (.reg 16),
    .shl 64 0 (.reg 0), .shl 0 16 (.reg 0), .shl 0 0 (.reg 16), .shr 64 0 (.reg 0),
    .shr 0 16 (.reg 0), .shr 0 0 (.reg 16), .sar 64 0 (.reg 0), .sar 0 16 (.reg 0)] : List Instr).any Instr.wf = false := by
  decide

theorem test_wf_refuses_8 : ([.sar 0 0 (.reg 16), .rol 64 0 (.reg 0), .rol 0 16 (.reg 0), .rol 0 0 (.reg 16),
    .cmp 64 0 (.reg 0), .cmp 0 16 (.reg 0), .cmp 0 0 (.reg 16), .tst 64 0 (.reg 0),
    .tst 0 16 (.reg 0), .tst 0 0 (.reg 16), .not 64 0 0, .not 0 16 0,
    .not 0 0 16, .neg 64 0 0, .neg 0 16 0, .neg 0 0 16,
    .mul 64 0 0, .mul 0 16 0, .mul 0 0 16, .mulhu 64 0 0,
    .mulhu 0 16 0, .mulhu 0 0 16, .mulhs 64 0 0, .mulhs 0 16 0] : List Instr).any Instr.wf = false := by
  decide

theorem test_wf_refuses_9 : ([.mulhs 0 0 16, .divu 64 0 0, .divu 0 16 0, .divu 0 0 16,
    .divs 64 0 0, .divs 0 16 0, .divs 0 0 16, .remu 64 0 0,
    .remu 0 16 0, .remu 0 0 16, .rems 64 0 0, .rems 0 16 0,
    .rems 0 0 16, .par 64 0 0, .par 0 16 0, .par 0 0 16,
    .brev 64 0 0, .brev 0 16 0, .brev 0 0 16, .brevb 64 0 0,
    .brevb 0 16 0, .brevb 0 0 16, .clz 64 0 0, .clz 0 16 0] : List Instr).any Instr.wf = false := by
  decide

theorem test_wf_refuses_10 : ([.clz 0 0 16, .popc 64 0 0, .popc 0 16 0, .popc 0 0 16,
    .bswap 64 0 0, .bswap 0 16 0, .bswap 0 0 16, .crcb 64 0 0,
    .crcb 0 4 0, .crcb 0 0 16, .crcw 64 0 0, .crcw 0 4 0,
    .crcw 0 0 16, .crcf 64 0 0, .crcf 0 16 0, .crcf 0 0 4,
    .crci 64 0, .crci 0 4, .mfs 64 0 0, .mfs 0 16 0,
    .mts 64 0 0, .mts 0 0 16, .waitl 64 0 0, .waitl 0 16 0] : List Instr).any Instr.wf = false := by
  decide

theorem test_wf_refuses_11 : ([.waitl 0 0 16, .waitlWake 64, .ld 64 0 0 (.d16 0) .w false false, .ld 0 16 0 (.d16 0) .w false false,
    .ld 0 0 16 (.d16 0) .w false false, .st 64 0 (.d16 0) 0 .w false, .st 0 16 (.d16 0) 0 .w false, .st 0 0 (.d16 0) 16 .w false,
    .sti 64 0 0 0 .w false, .sti 0 16 0 0 .w false, .bcc 64 0 (.r8 0), .call 64 0,
    .callr 64 0, .callr 0 16, .jmpr 64 0, .jmpr 0 16,
    .push 64 0, .push 0 16, .pop 64 0, .pop 0 16,
    .pushi 64 0, .pushm 64 0, .popm 64 0, .interruptEntry 64] : List Instr).any Instr.wf = false := by
  decide

theorem test_wf_refuses_12 : ([.nudge 64 0 1, .coreEnable 64 0 1, .loadReturn 64 0, .storeDrain 64 0,
    .paddockCycle 8 [] [], .paddockCycle 0 [⟨9, .read, 0, 4, [], none⟩] [], .paddockCycle 0 [⟨0, .read, 0x100000, 4, [], none⟩] [], .paddockCycle 0 [⟨0, .read, 0, 65, [], none⟩] [],
    .paddockCycle 0 [⟨0, .read, 0, 4, List.replicate 65 none, none⟩] [], .paddockCycle 0 [⟨8, .write, 0, 0, [], some 64⟩] [], .sampleBoundary [], .voiceStart 64 0 1, .voiceRelease 64 0 1,
    .voiceStop 64 0 1, .voicePreload 64 0 1, .pcmFetchDone 64 false, .durationEnd 64,
    .cadenceToggle 64, .interruptDelivery 64, .holdoffEnd 64, .coalWindowEnd 64,
    .dvGo 32 1, .dvStop 32 1, .dvDone 32, .compareMatch 64] : List Instr).any Instr.wf = false := by
  decide

theorem test_wf_refuses_13 : ([.catchUp 64, .configRequest 2 .command none, .configRequest 0 (.bar 6) none, .hdmCommit 0 1,
    .vectorUnmask 2048, .irHeadWrite 8 0 1, .relayInboundFrame 8 [] false, .relayInboundFrame 0 [[]] false,
    .relayOutboundFrame 8 false, .orTailWrite 8 0 1, .pinCfgWrite 128 0 1, .gpioOutWrite 4 false 0 1,
    .gpioSet 4 0 1, .gpioClr 4 0 1, .gpioTog 4 0 1, .bankChange 4 0,
    .i2cGo 4 0 1, .i2cDone 4 false 0, .i2cTimeout 4, .spiGo 2 0 1,
    .spiDone 2 0, .illegal 64, .fetchFault 64, .hdlcAbort 16] : List Instr).any Instr.wf = false := by
  decide

theorem test_wf_accepts : ([.registerWrite ⟨0, 0x50, 0x110⟩ 4 0 1, .halfWrite ⟨0, 0x50, 0x110⟩ false 0 1, .lock 0 0 0 1, .ownValueWrite 0,
    .dataPortWrite 0 0 [some 1] 1, .dataPortRead 0 0 4 1, .datAddrWrite 0 false 0 1, .patiencePromotion 0 0 none,
    .targetWrite 0 0 1, .wakePin 0 false, .lineStart 0, .beamLine 0,
    .sapPaletteWrite 0 0 0 0 1, .linkTrain 0 1, .linkTrainingDone 0 none, .bltCopy .race .none none,
    .fpEnable 0 0 1, .rxCharacter 0 (.byte 0) 0, .cvSrcWrite 0 0 1, .crEnWrite 0 0 1,
    .channelGrant 0, .nop 0, .mov 0 0 (.reg 0), .not 0 0 0,
    .crcb 0 0 0, .crcf 0 0 0, .crci 0 0, .mfs 0 0 0,
    .mts 0 0 0, .ld 0 0 0 (.d16 0) .w false false, .st 0 0 (.d16 0) 0 .w false, .sti 0 0 0 0 .w false,
    .paddockCycle 0 [] [], .sampleBoundary (List.replicate 32 0), .voiceStart 0 0 1, .interruptDelivery 0,
    .dvGo 0 1, .compareMatch 0, .configRequest 0 .command none, .hdmCommit 0 0,
    .vectorUnmask 0, .irHeadWrite 0 0 1, .relayInboundFrame 0 [] false, .pinCfgWrite 0 0 1,
    .gpioOutWrite 0 false 0 1, .i2cGo 0 0 1, .spiGo 0 0 1] : List Instr).all Instr.wf = true := by
  decide

/-! ### Small states -/

def z0 : State := { State.reset with mainUp := true }

/-- RUNNING, with the blocks enabled. -/
def z : State :=
  [pBLITTER, pDROVER, pINTC, pAUDIO, pFIELD, pPOINTS, pBRANDS, pCOMMANDS, pHISTORY, pJOURNAL, pMIRROR, pHOST].foldl
    (fun s p => s.w p CTRL_ENABLE 1)
    ({ ((z0.w pDEVICE DEVICE.STATE stRUNNING).w pHOST HOST.LINK_STAT_CACHE 1) with pins := { bankV := [(0, 2), (1, 2), (2, 2), (3, 2)] }, host := { z0.host with cacheEn := true } })

def wr (p off v : Nat) (s : State) : State :=
  match exec (.registerWrite ⟨0, p, off⟩ 4 (BitVec.ofNat 64 v) 1) s with
  | .next t => t
  | _ => s

/-- Engine 0 and head 0 enabled. -/
def zh : State := wr (pgHEAD 0) 8 1 (wr (pgPE 0) 8 1 z)
def bell : State := z.w (pgHEAD 0) CTRL_ENABLE 1
def pb (k : Nat) : Nat := z.partBase k
def mput (a : Nat) (b : List (BitVec 8)) (s : State) : State := { s with mem := memWrite s.mem a b }
def upto (n : Nat) : List (BitVec 8) := (List.range n).map fun i => BitVec.ofNat 8 (i * 7 + 3)
def w32s (l : List Nat) : List (BitVec 8) := l.flatMap (leBytes 4)

-- OWNERSHIP, fences, watchdog, data ports, host memory
def sel (v : Nat) (s : State) : State := s.w1 pOWNERSHIP ⟨0x100, 0, 32⟩ v
def pf (p : Nat) (s : State) : State := s.w p CTRL_FENCE_REQ 1
def dp : State :=
  ((((z.w pDATAPORTS DATAPORTS.DAT_CTRL_PART 4).w pDATAPORTS DATAPORTS.DAT_ADDR (pb 4)).w pDATAPORTS DATAPORTS.DAT_BURST 8).w
    pDATAPORTS DATAPORTS.DAT_CTRL_EN 1).w pDATAPORTS DATAPORTS.DAT_STEP 0xFFFFFFF8
def hd : State :=
  { (z.w pHOST HOST.STATUS_HDM_ON 1).w pHOST HOST.LINK_STAT_MEM 1 with host := { z.host with committed := true, decSize := 2 ^ 40, memActive := true } }

-- domains, training, start-up
def pd (d k : Nat) (s : State) : State := s.w pPOWER (pdFld POWER.PD_STATUS_STATE d) k
def al (s : State) : State := (s.w pPOWER POWER.ALARM_CTRL_EN 1).w pCLOCKS CLOCKS.STATUS_SLOW_OK 1
def pend (d : Nat) (s : State) : State := s.w pPOWER (pdFld POWER.PD_STATUS_ENTRY_PENDING d) 1
def dst (k : Nat) : State := z.w pDEVICE DEVICE.STATE k

/-- An image with the sections PARTITIONS, OWNERS and CODE, the last two empty (R86 to R89). -/
def image : List (BitVec 8) :=
  let p : List (BitVec 8) := [24, 16, 4, 20, 2, 0, 0, 0] ++ leBytes 8 0
  let e := fun (t o l : Nat) (b : List (BitVec 8)) => leBytes 4 t ++ leBytes 4 o ++ leBytes 4 l ++ leBytes 4 (crc32c b).toNat
  let body := e 2 112 16 p ++ e 4 128 0 [] ++ e 13 128 0 [] ++ p
  let h := leBytes 4 0x53554E47 ++ leBytes 2 1 ++ leBytes 2 64 ++ leBytes 4 64 ++ leBytes 4 (crc32c body).toNat ++ leBytes 2 3 ++ leBytes 1 1 ++ leBytes 41 0
  h ++ leBytes 4 (crc32c h).toNat ++ body

-- heads, ports, relief
def bg (s : State) : State := s.setHd 0 { s.hd 0 with begun := true, startNext := 9 }
def due (n : Nat) : State := (zh.w (pgHEAD 0) HEAD.BEAM_LINE ((n + 2247) % 2250)).setHd 0 { zh.hd 0 with startNext := n, begun := true }
def sa : State := z.w1 (pgSAP 0) CTRL_ENABLE 1
def sg (c : Nat) : State :=
  ((z.w1 (pgSAP 0) SAPPHIRE.SAP_CTRL_CHECK c).w1 (pgSAP 0) CTRL_ENABLE 1).setHd 0 { z.hd 0 with sigOpen := true, sigCrc := 5, refOn := 7 }
def snc : State := (zh.setHd 0 { zh.hd 0 with begun := true, syncCfg := 0x422 }).w (pgHEAD 0) HEAD.SYNC_CFG 0x422
def vp : State := z.w (pgVP 0) CTRL_ENABLE 1
def pe : State := zh.w (pgPE 32) CTRL_ENABLE 1
def lay (k a : Nat) (s : State) : State :=
  let s := [(PE.LCTRL_EN, 1), (PE.LCTRL_KIND, k), (PE.BASE0, a), (PE.BASE1, a + 4096), (PE.PITCH, 64), (PE.SIZE_W, 8), (PE.SIZE_H, 8),
    (PE.WIN_X_X0, 0), (PE.WIN_X_X1, 3), (PE.WIN_Y_Y0, 0), (PE.WIN_Y_Y1, 7), (PE.ZOOM_X, 1), (PE.ZOOM_Y, 1)].foldl (fun s f => s.w (pgPE 0) f.1 f.2) s
  s.setEng 0 { s.eng 0 with composing := some 0 }

-- Crook cores
def c0 : Core :=
  { ({ running := true, pc := 0x100, dsLo := 0x1000, dsp := 0x1000, dsHi := 0x2000, rsLo := 0x3000, rsp := 0x3000, rsHi := 0x4000, evec := 0x200, ivec := 0x300 } : Core) with
    g := (List.range 15).map fun i => (i, BitVec.ofNat 32 (0x80000001 + 77 * i * i * i)) }
def cz (f : Core → Core) (s : State) : State := (s.w (pgSC 1) CTRL_ENABLE 1).setCore 1 (f c0)
def l16 : List (BitVec 32) := (List.range 16).map fun i => BitVec.ofNat 32 (0x100 + i)
def ad (a : Nat) : State := cz (fun x => { x with g := [(1, BitVec.ofNat 32 a), (2, 0x11223384)] }) z
def se (t : Target) : StoreEnt := { target := t, size := 4, data := 0xFFEEDDCC }
def le (t : Target) (d : Option (BitVec 32)) : LoadEnt := { d := 3, target := t, size := 2, sx := true, data := d }

-- blitter
def cP : Nat := pb 1 + 0x1000
def cL : BltList := { addr := cP, pc := cP }
def put (ws : List Nat) (s : State) : State := mput cP (w32s (ws ++ List.replicate (16 - ws.length) 0)) s
def run1 (c : BltClass) (l : BltList) (q : List BltList) (s : State) : State := s.setBltCls c { s.bltCls c with cur := some l, queue := q }
def half (x : Nat) : List Nat := [x % 2 ^ 32, x / 2 ^ 32]
def rect (op w1 d : Nat) : List Nat :=
  [op, w1] ++ half (pb 1 + 0x2000 + d) ++ half (pb 1 + 0x3000) ++ [64, 64, 0x00010002, 0x00010001, 0x00020003]
def rectWH (op w1 d : Nat) : List Nat := (rect op w1 d).set 10 (if op % 2 = 0 then 3 else 0x20000)
def rectAt (op a : Nat) : List Nat := [op, 0x55] ++ half a ++ half (pb 1 + 0x3000) ++ [64, 64, 0, 0, 0x00020003]

-- field ports and check-value units
def fpc : State :=
  ((((((((((z.w (pgFP 1) FP.RING 1).w (pgFP 1) FP.RX_DATA_BASE 0).w (pgFP 1) FP.RX_DATA_SIZE 8).w (pgFP 1) FP.RX_DESC_BASE 0x1000).w
    (pgFP 1) FP.RX_DESC_COUNT 3).w (pgFP 1) FP.TX_DATA_BASE 0x2000).w (pgFP 1) FP.TX_DATA_SIZE 8).w (pgFP 1) FP.TX_DESC_BASE 0x3000).w
    (pgFP 1) FP.TX_DESC_COUNT 2).w (pgFP 1) FP.BAUD_INC 0x1000).w (pgFP 1) FP.RX_MAX 10
def fpe : State := fpc.w (pgFP 1) CTRL_ENABLE 1
def fpx (x : FieldPort) (s : State) : State := s.setFp 1 x
def fpw (f : Fld) (v : Nat) (s : State) : State := s.w (pgFP 1) f v
def cvw (f : Fld) (v : Nat) (s : State) : State := s.w (pgCV 1) (ctxFld f 2) v
def cv0 : State :=
  cvw CV.INIT 0xFFFF (cvw CV.STATE 0xFFFF (cvw CV.POLY 0x1021 (cvw CV.CFG 0x1C10 ((z.w (pgCV 1) CV.CTX_SEL 2).w (pgCV 1) CV.SRC_KIND 3))))

-- request rings, points, commands
def crw (f : Fld) (n v : Nat) (s : State) : State := s.w pPOINTS (crFld f n) v
def ring (n kind size own : Nat) (s : State) : State :=
  crw POINTS.CR_OWNER n own (crw POINTS.CR_REQ_BASE n 0x1000 (crw POINTS.CR_RES_BASE n 0x2000 (crw POINTS.CR_CFG_EN n 1
    (crw POINTS.CR_CFG_KIND n kind (crw POINTS.CR_CFG_LOC n 1 (crw POINTS.CR_CFG_SIZE n size s))))))
def ent (n : Nat) (b : List (BitVec 8)) (s : State) : State := (crw POINTS.CR_HEAD n 1 s).padWrite 1 0x1000 b
def cme (p op extra : Nat) : List (BitVec 8) := leBytes 4 (p + op * 2 ^ 20 + extra) ++ leBytes 4 9 ++ leBytes 2 1 ++ leBytes 22 0
def rcb : Nat := pb 2 + 0x40000
def pts : State :=
  mput rcb (leBytes 4 5 ++ leBytes 2 1 ++ leBytes 2 0 ++ leBytes 8 77 ++ leBytes 4 0xFFFFFFFF ++ leBytes 44 0)
    (((z.w pMIRROR MIRROR.ROLE 0).w pPOINTS POINTS.REC_BASE rcb).w pPOINTS POINTS.REC_COUNT 8)
def tkn : Commit := { point := 0, op := 0, refresh := false, value := 60, quality := 1, time := 9, ring := 3 }
def obb : Nat := pb 2 + 0x60000
def obj (mode fb fbv fbTo : Nat) : List (BitVec 8) :=
  leBytes 2 0x8001 ++ leBytes 1 mode ++ leBytes 1 0 ++ leBytes 2 0xFFFF ++ leBytes 2 0 ++ leBytes 2 10 ++ leBytes 2 20 ++ leBytes 2 5 ++ leBytes 2 30
    ++ leBytes 4 fb ++ leBytes 4 fbv ++ leBytes 2 fbTo ++ leBytes 38 0
def zc : State :=
  mput obb (obj 0 0 0 0 ++ obj 1 0x80000000 9 7)
    (((((z.w pMIRROR MIRROR.ROLE 0).w pCOMMANDS COMMANDS.OBJ_BASE obb).w pCOMMANDS COMMANDS.OBJ_COUNT 8).w pMIRROR MIRROR.STATUS_AUTHORITY 1).w
      (pgFP 1) CTRL_ENABLE 1)
def cre (o : Nat) : List (BitVec 8) :=
  leBytes 4 o ++ leBytes 4 5 ++ leBytes 8 (pb 2 + 0x100) ++ leBytes 8 (pb 2 + 0x200) ++ leBytes 2 4 ++ leBytes 2 4 ++ leBytes 4 0
def tx (st : Nat) (hold : Bool) (s : State) : State :=
  s.setTxn 3 { state := st, channel := 1, object := 1, ring := 2, hold := hold, opener := 5, start := 0x100, window := 0x1000, selAddr := pb 2 + 0x100, selLen := 4, opAddr := pb 2 + 0x200, opLen := 4 }
def txh (s : State) : State := (tx 4 false s).setTxn 3 { (tx 4 false s).txn 3 with holds := true }
def txw (s : State) : State := (tx 1 false s).setTxn 3 { (tx 1 false s).txn 3 with opened := 0 }

-- audio, interrupts, time base, drover
def vw (f : Fld) (n : Nat) (s : State) : State := s.w pAUDIO (voiceFld f 1) n
def za : State := { z with audio := { z.audio with waitAlign := false } }
def tz (s : State) : State := (List.range 4).foldl (fun s p => s.w pAUDIO (AUDIO.TCTRL_EN.at (0x10 * p)) 0) s
def act (fc : Nat) (p : BitVec 32) : VAction := { voice := 1, act := 0, param := p, wr := 1, rank := 43, fc := fc }
def vdur (d c : Nat) : State := vw AUDIO.CADENCE_OFF c (za.setVoice 1 { state := .attack, dur := d, cadLeft := 1 })
def gw (f : Fld) (v : Nat) (s : State) : State := s.w (pgINTCG 41) (f.at 0x20) v
def gi (host vec pat tgt : Nat) (x : Group) (s : State) : State :=
  ((gw INTCG.SCFG_PRIO 3 (gw INTCG.SCFG_HOST host (gw INTCG.SCFG_VECTOR vec (gw INTCG.SCFG_PATIENCE pat (gw INTCG.TARGET tgt s))))).setGroup 41 x).w
    (pgINTCG 41) INTCG.DB_PEND 4
def nsv (s : State) : State := s.w pINTC INTC.SERVICE 0
def cr1 (s : State) : State := (s.w (pgSC 1) CTRL_ENABLE 1).setCore 1 { running := true, ie := true }
def tbw (f : Fld) (v : Nat) (s : State) : State := s.w pTIMEBASE (f.at 0x20) v
def cmp (c i : Nat) (s : State) : State := tbw TIMEBASE.CMP_CTRL_EN 1 (tbw TIMEBASE.CMP_COMPARE c (tbw TIMEBASE.CMP_INTERVAL i s))
def dvw (f : Fld) (v : Nat) (s : State) : State := s.w (pgDV 1) f v
def dch (e a b ds st : Nat) (x : DvSt) : State :=
  (dvw DV.STATE st (dvw DV.REMAIN e (dvw DV.ELEM e (dvw (DV.C.at 0) 1 (dvw (DV.C.at 4) 1 (dvw (DV.C.at 8) 1 (dvw DV.SRC a (dvw DV.DST b
    (dvw DV.CFG_DSPACE ds z))))))))).setDv 1 x

-- host attachment, pins
def up : State := ({ z with phase := .up } : State).cxlLinkUp 3 3 true true true true
def hw (f : Fld) (v : Nat) (s : State) : State := s.w pHOST f v
def hi (f : Fld) (v : Nat) (s : State) : State := s.w pHOST (f.at 0x20) v
def obq (len size : Nat) : State :=
  let b := pb 2
  let s := mput (b + 16 * 499) (leBytes 2 1 ++ leBytes 14 0) ((up.w pFIELD FIELD.CHAN_BASE b).w pFIELD FIELD.CHAN_COUNT 600)
  let s := hi HOST.OR_CFG_SIZE size (hi HOST.OR_CFG_EN 1 (hi HOST.OR_BASE 0x1000 s))
  let s := hw HOST.RTX_CFG_CLUSTER 2 (hw HOST.RTX_DATA_BASE 0x100 (hw HOST.RTX_DATA_SIZE 8 (hw HOST.RTX_DESC_BASE 0x1000 (hw HOST.RTX_DESC_COUNT 3
    (hw HOST.RTX_CFG_EN 1 (hw HOST.RTX_HEAD 1 s))))))
  (s.padWrite 2 0x1000 (leBytes 4 3 ++ leBytes 2 len ++ leBytes 2 (515 * 16) ++ leBytes 8 0)).padWrite 2 0x100 (upto 200)
def pw (f : Fld) (k v : Nat) (s : State) : State := s.w pPINS (f.at k) v
def pown (b own : Nat) : State := (List.range 32).foldl (fun s j => pw PINS.MP_CFG_OWNER (4 * (32 * b + j)) own s) z
def ser (en busy : Nat) : State :=
  pw PINS.I2C_CFG_EN 0x20 en (pw PINS.I2C_STAT 0x20 busy (pw PINS.SPI_CFG_EN 0x20 en (pw PINS.SPI_STAT 0x20 busy z)))

-- journal and mirror
def crcd (l : List (BitVec 8)) : List (BitVec 8) :=
  let b := (l ++ List.replicate 60 0).take 60
  b ++ leBytes 4 (crc32c b).toNat
def eU (q : Nat) : List (BitVec 8) := crcd (leBytes 8 q ++ leBytes 8 0 ++ leBytes 4 9 ++ leBytes 2 0x0F01)
def zj : State :=
  ((((((z.w pMIRROR MIRROR.ROLE 0).w pJOURNAL JOURNAL.CFG_PW_EN 0).w pJOURNAL JOURNAL.STAGE_BASE (pb 4)).w pJOURNAL JOURNAL.STAGE_SIZE 10).w
    pJOURNAL JOURNAL.PW_SIZE 12).w pJOURNAL JOURNAL.PW_BASE 0x4000).w pJOURNAL JOURNAL.NEXT_SEQ 5
def jb (e : JEntry) (s : State) : State := { s with journal := { s.journal with buf := [e] } }
def je : JEntry := { seq := 4, bytes := upto 64 }
def rp (e : List (BitVec 8)) : State :=
  let s := (zj.w pMIRROR MIRROR.ROLE 3).w pJOURNAL JOURNAL.REPLAY_COUNT 1
  mput (pb 4) e { s.w pJOURNAL JOURNAL.REPLAY_SRC (pb 4) with journal := { s.journal with replay := true } }
def mr (f : Mirror → Mirror) (s : State) : State := { s with mirror := f s.mirror }
def role (k : Nat) (s : State) : State := s.w pMIRROR MIRROR.ROLE k
def mw (f : Fld) (v : Nat) (s : State) : State := s.w pMIRROR f v
def zm : State := mw MIRROR.HB_PERIOD 10 (mw MIRROR.HB_MISS 3 (mw MIRROR.CFG_PAIRED 1 (bell.w pJOURNAL JOURNAL.NEXT_SEQ 5)))
def zl : State := mr (fun x => { x with trained := true, helloIn := true }) (mw MIRROR.STATUS_LINK_UP 1 zm)
def auth (s : State) : State := mw MIRROR.STATUS_AUTHORITY 1 s
def ln0 (s : State) : State := s.w (pgHEAD 0) HEAD.BEAM_LINE 0
def cpS : State :=
  let s := (auth (role 0 zl)).w pJOURNAL JOURNAL.CP_HOST0 0x10000 |>.w pJOURNAL JOURNAL.CP_HOST1 0x20000
  (s.hostWrite 0x10040 (upto 100)).hostWrite 0x10000 (s.cpDescriptor 0 3 100 (upto 100))

/-! ### The spec's worked examples and tables -/

/-- The nine bytes "123456789". -/
def digits : List (BitVec 8) := (List.range 9).map fun i => BitVec.ofNat 8 (0x31 + i)

def check (cfg poly init : Nat) : Nat :=
  let p := CvSet.of cfg poly init
  p.final (digits.foldl p.byte p.init)

/-- Chapter 10, table "Parameter sets for the named standards" (R269). -/
theorem test_check_values :
    [check 0x1C10 0x3D65 0, check 0x0C10 0x8005 0xFFFF, check 0x0108 0 0, check 0x1C10 0x1021 0xFFFF, check 0x1C20 0x04C11DB7 0xFFFFFFFF,
      check 0x1C20 0x1EDC6F41 0xFFFFFFFF] = [0xEA82, 0x4B37, 0xDD, 0x906E, 0xCBF43926, 0xE3069283] := by decide +kernel

/-- The check value of the image and of the journal is CRC-32C (R86, R269). -/
theorem test_crc32c : crc32c digits = 0xE3069283 := by decide +kernel

/-- Chapter 7, worked example "a translucent label over a lamp" (R98, R99, R166, R169). -/
theorem test_label_over_lamp :
    [widen 10 800, widen 10 200, widen 10 100, widen 10 1023, mulAlpha 255 128] = [3203, 800, 400, 4095, 128] ∧
    [blend 0 4095 128 3203, blend 0 4095 128 800, blend 0 4095 128 400] = [3651, 2454, 2255] ∧
    [q10 3651, q10 2454, q10 2255] = [912, 613, 563] := by decide +kernel

/-- Chapter 16: INT_PEND.SEV bit 8 of H21 is source 680 and BLITTER's RACE_DONE is source 2,240 (R419). -/
theorem test_source_numbers :
    ((z.w (pgHEAD 21) ⟨0x010, 8, 1⟩ 1).w (pgHEAD 21) (INT_PEND_BIT 8) 1).asserted = [680] ∧
    ((z.w pBLITTER ⟨0x010, 0, 1⟩ 1).w pBLITTER (INT_PEND_BIT 0) 1).asserted = [2240] := by decide +kernel

/-- Chapter 2, worked example "an inset into a Cotterbrook bitmap": the last bytes of a row of 1,920 advance DAT03
by the pitch of 15,360. -/
def inset : State :=
  let f := fun (f : Fld) (v : Nat) (s : State) => s.w pDATAPORTS (f.at (0x40 * 3)) v
  f DATAPORTS.DAT_CTRL_PART 1 (f DATAPORTS.DAT_CTRL_EN 1 (f DATAPORTS.DAT_BURST 1920 (f DATAPORTS.DAT_STEP 15360
    (f DATAPORTS.DAT_STATUS_COUNT 1916 (f DATAPORTS.DAT_ADDR 0x6405DCF00 z)))))

theorem test_inset_row : ∃ t : State, exec (.dataPortWrite 3 0x77C [some 1, some 2, some 3, some 4] 1) inset = .next t ∧
    t.r pDATAPORTS (DATAPORTS.DAT_ADDR.at 0xC0) = 0x6405DCF00 + 15360 ∧ t.r pDATAPORTS (DATAPORTS.DAT_ADVANCES.at 0xC0) = 1 ∧
    memRead t.mem (0x6405DCF00 + 0x77C) 4 = [1, 2, 3, 4] := ⟨_, rfl, by decide +kernel⟩

/-- Chapter 13, worked example "posting a commit": SUB, AND and SHL of the slot's address. -/
theorem test_post_sub : ∃ t : State, exec (.sub 1 5 (.reg 4)) (cz (fun x => { x with g := [(4, 3), (5, 0x10001)] }) z) = .next t ∧
    (t.core 1).get 5 = 0xFFFE ∧ (t.core 1).n = false ∧ (t.core 1).z = false ∧ (t.core 1).pc = 0x102 := ⟨_, rfl, by decide +kernel⟩

theorem test_post_slot : ∃ t : State, exec (.shl 1 6 (.imm8 5)) (cz (fun x => { x with g := [(6, 63)] }) z) = .next t ∧
    (t.core 1).get 6 = 2016 ∧ (t.core 1).pc = 0x103 := ⟨_, rfl, by decide +kernel⟩

/-- `BEQ post` (71 ED) goes back to `post` when the ring is full. -/
theorem test_post_beq : ∃ t : State, exec (.bcc 1 1 (.r8 0xED)) (cz (fun x => { x with z := true, pc := 0x111 }) z) = .next t ∧
    (t.core 1).pc = 0x100 := ⟨_, rfl, by decide +kernel⟩

/-- Chapter 15, worked example "the Fenwold wet-well tone": the first sample, at LEVEL 0x6000 and ATTACK 48, is 65,536. -/
theorem test_tone_first_sample :
    ∃ t : State, exec (.sampleBoundary []) (tz (vw AUDIO.VCTRL_DUTY 0x80 (vw AUDIO.LEVEL 0x6000 (vw AUDIO.ENV_ATTACK 48
      { za with fc := 100, audio := { za.audio with queue := [act 0 0x0BB80000] } })))) = .next t ∧
    (t.voice 1).sample = 65536 ∧ (t.voice 1).dur = 1440000 := ⟨_, rfl, by decide +kernel⟩

/-- The code of the worked example of chapter 13: its bytes are the instructions of its text (R354, R355, R357). -/
theorem test_code_of_the_posting_routine :
    crookDecode 0 [0x60, 0x4C, 0x1C, 0x00] = .op (.ld 0 4 12 (.d16 0x1C) .w false false) 4 ∧
    crookDecode 0 [0x10, 0x5B] = .op (.mov 0 5 (.reg 11)) 2 ∧
    crookDecode 0 [0x35, 0x50, 0xFF, 0xFF, 0x00, 0x00] = .op (.and 0 5 (.imm32 0xFFFF)) 6 ∧
    crookDecode 0 [0x2C, 0x50, 0x40] = .op (.cmp 0 5 (.imm8 64)) 3 ∧
    crookDecode 0 [0x71, 0xED] = .op (.bcc 0 1 (.r8 0xED)) 2 ∧
    crookDecode 0 [0x28, 0x60, 0x05] = .op (.shl 0 6 (.imm8 5)) 3 ∧
    crookDecode 0 [0x61, 0x67, 0x0C, 0x00] = .op (.st 0 6 (.d16 0xC) 7 .w false) 4 ∧
    crookDecode 0 [0xF3, 0x61, 0xCB, 0x18, 0x00] = .op (.st 0 12 (.d16 0x18) 11 .w true) 5 ∧
    crookDecode 0 [0x04] = .op (.ret 0) 1 := by decide +kernel

/-- The CRC instructions of the worked example of the journal's compaction (R357). -/
theorem test_code_of_crc_instructions :
    crookDecode 0 [0x53, 0x20] = .op (.crci 0 2) 2 ∧ crookDecode 0 [0x51, 0x23] = .op (.crcw 0 2 3) 2 ∧
    crookDecode 0 [0x50, 0x26] = .op (.crcb 0 2 6) 2 ∧ crookDecode 0 [0x52, 0x52] = .op (.crcf 0 5 2) 2 := by decide +kernel

/-- Prefixes that are repeated or not accepted, a field that must be 0, an undefined opcode, a prefix byte that is none
(R354 to R356); code that ends with the instruction RAM (R348). -/
theorem test_code_that_is_illegal :
    crookDecode 0 [0xF2, 0x60, 0x12, 0, 0] = .illegal 5 ∧ crookDecode 0 [0xF0, 0xF1, 0x60, 0x12, 0, 0] = .illegal 2 ∧
    crookDecode 0 [0xF3, 0x11, 0x12] = .illegal 3 ∧ crookDecode 0 [0x58, 0x11, 0x00] = .illegal 3 ∧
    crookDecode 0 [0x0D] = .illegal 1 ∧ crookDecode 0 [0xF4, 0x60] = .illegal 1 ∧
    crookDecode 0 [0xF1, 0xF2, 0x60, 0x12, 4, 0] = .op (.ld 0 1 2 (.d16 4) .h true false) 6 ∧
    crookDecode 0 [0x90, 0, 0] = .outside := by decide +kernel

/-! ### Witnesses: the hypotheses of each statement's clauses can be met -/

theorem wit_EveryStepKeepsMemoriesCanonical :
    MemoriesCanonical State.reset ∧ step State.reset = .next State.reset :=
  ⟨by unfold MemoriesCanonical; decide, rfl⟩

theorem wit_NoCommandTouchesTheQueue : ∃ t : State, exec .gpfPhase2 z = .next t := ⟨_, rfl⟩

theorem wit_ALockedPageStaysLockedUntilReset :
    ∃ s t : State, exec (.lock 0 0x50 0x4C4B 1) s = .next t ∧ s.locked 1 0x20 = true :=
  ⟨{ z with locks := sset false z.locks (regKey 1 0x20 0) true }, _, rfl, by decide +kernel⟩

theorem wit_BranchConditionsHoldAsTheTableSays :
    Issues (cz id z) 1 2 [] ∧ ((cz id z).core 1).z = false := by
  unfold Issues
  decide +kernel

/-- Special register 0x2F holds STATE of context 3 (the last row of the statement's list). -/
theorem wit_SpecialRegistersAndCrcContextsServe_mfs :
    Issues (cz id z) 1 3 [1] ∧ (47, ((cz id z).core 1).crc3.state) ∈ [(46, ((cz id z).core 1).crc2.state), (47, ((cz id z).core 1).crc3.state)] := by
  refine ⟨?_, by simp⟩
  unfold Issues
  decide +kernel

theorem wit_TheMirrorPairClaimsHandsOverAndResyncs_later :
    let s := role 0 (mr (fun x => { x with helloIn := false }) zl)
    s.domainOn 0 pMIRROR = true ∧ s.mirror.trained = true ∧ s.active pMIRROR = true ∧ s.mirror.helloIn = false
      ∧ Instr.ack true 0 ∈ [Instr.heartbeat true 0 false 0 0 0, Instr.journalFrame true [], Instr.ack true 0, Instr.relinquish true 0 0,
        Instr.take true 0, Instr.resyncReq true 0 0, Instr.cpData true 0 [], Instr.cpEnd true 0 0 0] := by
  refine ⟨by decide +kernel, by decide +kernel, by decide +kernel, by decide +kernel, by simp⟩

theorem wit_EmptyQueueLetsOneFabricCyclePass :
    (∃ (s : State), s.pending = [] ∧ s.mainUp = false) ∧
    (∃ (s : State), s.pending = [] ∧ s.mainUp = true) :=
  ⟨⟨State.reset, by decide +kernel⟩,
   ⟨z0, by decide +kernel⟩⟩

theorem wit_ResetLeavesTheTablesValues :
    (∃ (page : Nat), page < 1440) :=
  ⟨0, by decide +kernel⟩

theorem wit_AFieldTakesWhatIsWrittenToIt :
    (∃ (page : Nat) (f : Fld) (g : Fld), page < 4096 ∧ f.off < 4096 ∧ f.lo + f.w ≤ 64 ∧ g.off = f.off ∧ (g.lo + g.w ≤ f.lo ∨ f.lo + f.w ≤ g.lo)) ∧
    (∃ (page : Nat) (f : Fld) (func : Nat) (p : Nat) (o : Nat), page < 4096 ∧ f.off < 4096 ∧ f.lo + f.w ≤ 64 ∧ p < 4096 ∧ o < 4096 ∧ (func ≠ 0 ∨ p ≠ page ∨ o ≠ f.off)) :=
  ⟨⟨0x50, ⟨0x148, 8, 1⟩, ⟨0x148, 0, 7⟩, by decide +kernel⟩,
   ⟨0x50, ⟨0x148, 8, 1⟩, 0x50, 0x50, 0x50, by decide +kernel⟩⟩

theorem wit_AnEventShiftsIntoThePageHistory :
    (∃ (s : State) (func : Nat) (page : Nat) (f : Nat) (p : Nat), func < 2 ∧ page < 4096 ∧ s.mainUp = true ∧ s.present func page = true ∧ (s.histOf func page).slots = [] ∧ (s.histOf func page).lastFc ≠ s.fc ∧ f < 2 ∧ p < 4096 ∧ (f ≠ func ∨ p ≠ page)) :=
  ⟨{ z with fc := 7 }, 0, 0, 0, 0x50, by decide +kernel⟩

theorem wit_AWriteIsTakenExactlyWhenNoCheckBarsIt :
    (∃ (s : State) (a : RegAddr) (size : Nat) (wr : Code) (k : Kind) (n : Nat), pageKind a.func a.page = some (k, n) ∧ wideBase k a.off = none ∧ Admits s a.func a.page a.off size wr) ∧
    (∃ (s : State) (a : RegAddr) (wr : Code) (k : Kind) (n : Nat), pageKind a.func a.page = some (k, n) ∧ wideBase k a.off = some a.off ∧ Admits s a.func a.page a.off 8 wr) ∧
    (∃ (func : Nat) (page : Nat) (k : Kind) (n : Nat), pageKind func page = some (k, n)) :=
  ⟨⟨z, ⟨0, 0x050, 0x148⟩, 4, 1, .kJOURNAL, 0, by unfold Admits; decide +kernel⟩,
   ⟨z, ⟨0, 0x050, 0x110⟩, 1, .kJOURNAL, 0, by unfold Admits; decide +kernel⟩,
   ⟨0, 0, .kDEVICE, 0, by decide +kernel⟩⟩

theorem wit_ADroppedWriteChangesNoRegister :
    (∃ (s : State) (a : RegAddr) (size : Nat) (wr : Code) (k : Kind) (n : Nat), pageKind a.func a.page = some (k, n) ∧ k.isBlock = true ∧ (size = 8 ∨ wideBase k a.off = none) ∧ (¬Admits s a.func a.page a.off size wr)) :=
  ⟨z, ⟨0, 0x050, 0x148⟩, 0, 1, .kJOURNAL, 0, by unfold Admits; decide +kernel⟩

theorem wit_OwnerDenyRecordsTheWriterAndTheRegister :
    (∃ (s : State) (a : RegAddr) (wr : Code) (k : Kind) (n : Nat), pageKind a.func a.page = some (k, n) ∧ k.isBlock = true ∧ wideBase k a.off = none ∧ s.mainUp = true ∧ reaches a.func a.page wr = true ∧ unitPresent s.variant k n = true ∧ sizeOk k a.off 4 = true ∧ s.ownerAllows a.func a.page a.off wr = false) :=
  ⟨z, ⟨0, 0x050, 0x148⟩, 2, .kJOURNAL, 0, by decide +kernel⟩

theorem wit_APlainRegisterTakesItsWritableBits :
    (∃ (s : State) (page : Nat) (off : Nat) (wr : Code) (k : Kind) (n : Nat) (sp : RegSpec), pageKind 0 page = some (k, n) ∧ (k = Kind.kCLOCKS ∨ k = Kind.kDROVER ∨ k = Kind.kPK) ∧ 256 ≤ off ∧ specAt k off = some (sp, off) ∧ sp.wide = false ∧ Admits s 0 page off 4 wr) :=
  ⟨z, pDROVER, 0x100, 1, .kDROVER, 0, ((specAt .kDROVER 0x100).get (by decide)).1, by unfold Admits; decide +kernel⟩

theorem wit_HalvesOfA64BitRegisterCommitWithTheHighOne :
    (∃ (s : State) (func : Nat) (page : Nat) (b : Nat) (wr : Code) (k : Kind) (n : Nat), pageKind func page = some (k, n) ∧ k.isBlock = true ∧ k ≠ Kind.kSAPV ∧ wideBase k b = some b ∧ s.mainUp = true ∧ reaches func page wr = true ∧ unitPresent s.variant k n = true ∧ s.domainOn func page = true ∧ (isDataPath k b = true → s.fenced func page = false)) ∧
    (∃ (s : State) (func : Nat) (page : Nat) (b : Nat) (wr : Code) (k : Kind) (n : Nat) (low : BitVec 32), pageKind func page = some (k, n) ∧ k.isBlock = true ∧ wideBase k b = some b ∧ wideBase k (b + 4) = some b ∧ (List.find? (fun e => e.fst == heldKey func page b wr) s.held = some (heldKey func page b wr, low) ∨ List.find? (fun e => e.fst == heldKey func page b wr) s.held = none ∧ low = if loneHighZero k b = true then 0 else BitVec.ofNat 32 (BitVec.toNat (if func = 0 then s.pendReg page b else s.reg func page b)))) :=
  ⟨⟨z, 0, 0x50, 0x100, 1, .kJOURNAL, 0, by decide +kernel⟩,
   ⟨z, 0, 0x50, 0x110, 1, .kJOURNAL, 0, 0, by decide +kernel⟩⟩

theorem wit_LockTakesItsKeyAndOwnersChangeUnderTheirRules :
    (∃ (s : State) (func : Nat) (page : Nat) (wr : Code) (k : Kind) (n : Nat) (v : BitVec 32), pageKind func page = some (k, n) ∧ Admits s func page 28 4 wr ∧ v ≠ 19531) ∧
    (∃ (s : State) (func : Nat) (page : Nat) (v : BitVec 32) (wr : Code) (k : Kind) (n : Nat), pageKind func page = some (k, n) ∧ Admits s func page 24 4 wr ∧ s.owner func page ≠ 255 ∧ ((if func = 1 ∧ 32 ≤ page then s.validSapOwner (BitVec.setWidth 8 v) else s.validOwner (BitVec.setWidth 8 v)) = true)) ∧
    (∃ (s : State) (func : Nat) (page : Nat) (v : BitVec 32) (wr : Code) (k : Kind) (n : Nat), pageKind func page = some (k, n) ∧ Admits s func page 24 4 wr ∧ (s.owner func page = 255 ∨ (if func = 1 ∧ 32 ≤ page then s.validSapOwner (BitVec.setWidth 8 v) else s.validOwner (BitVec.setWidth 8 v)) = false)) ∧
    (∃ (s : State) (func : Nat) (page : Nat) (wr : Code) (k : Kind) (n : Nat), pageKind func page = some (k, n) ∧ Admits s func page 32 4 wr) :=
  ⟨⟨z, 0, 0, 1, .kDEVICE, 0, 0, by unfold Admits; decide +kernel⟩,
   ⟨z, 0, 0, 0x4C4B, 1, .kDEVICE, 0, by unfold Admits; decide +kernel⟩,
   ⟨z, 0, 0, 0x7E, 1, .kDEVICE, 0, by unfold Admits; decide +kernel⟩,
   ⟨z, 0, 0, 1, .kDEVICE, 0, by unfold Admits; decide +kernel⟩⟩

theorem wit_ARepeatWindowEndsWithACountOrAFreeSlot :
    (∃ (s : State) (func : Nat) (page : Nat) (x : RepeatSlot), func < 2 ∧ page < 4096 ∧ s.mainUp = true ∧ (s.histOf func page).slots = [x] ∧ s.fc ≤ x.since + repeatFc ∧ (s.histOf func page).lastFc < x.since + repeatFc) :=
  ⟨z.accEvent 0 0x50 5 7, 0, 0x50, { code := 5, since := 0, count := 0 }, by decide +kernel⟩

theorem wit_OwnershipSetsTheOwnerOfTheSelectedItem :
    (∃ (s : State) (v : BitVec 32) (p : Nat) (k : Kind) (n : Nat), Admits s 1 pOWNERSHIP 260 4 2 ∧ s.ownItem = some (OwnItem.page p) ∧ pageKind 0 p = some (k, n) ∧ k ≠ Kind.kSAPV ∧ s.owner 0 p ≠ 255 ∧ s.validOwner (BitVec.setWidth 8 v) = true) ∧
    (∃ (s : State) (v : BitVec 32) (p : Nat), Admits s 1 pOWNERSHIP 260 4 2 ∧ s.ownItem = some (OwnItem.port p) ∧ s.itemOwner pDATAPORTS (DATAPORTS.DAT_OWNER.at (64 * p)) ≠ 255 ∧ s.validOwner (BitVec.setWidth 8 v) = true) ∧
    (∃ (s : State) (v : BitVec 32) (p : Nat), Admits s 1 pOWNERSHIP 260 4 2 ∧ s.ownItem = some (OwnItem.pin p) ∧ s.itemOwner pPINS (PINS.MP_CFG_OWNER.at (4 * p)) ≠ 255 ∧ s.validOwner (BitVec.setWidth 8 v) = true) ∧
    (∃ (s : State) (v : BitVec 32) (p : Nat), Admits s 1 pOWNERSHIP 260 4 2 ∧ s.ownItem = some (OwnItem.domain p) ∧ s.itemOwner pPOWER (pdFld POWER.PD_OWNER p) ≠ 255 ∧ s.validOwner (BitVec.setWidth 8 v) = true) ∧
    (∃ (s : State) (v : BitVec 32) (p : Nat), Admits s 1 pOWNERSHIP 260 4 2 ∧ s.ownItem = some (OwnItem.sapphire p) ∧ s.owner 1 (pgSAP p) ≠ 255 ∧ s.validSapOwner (BitVec.setWidth 8 v) = true) ∧
    (∃ (s : State) (v : BitVec 32) (p : Nat) (k : Kind) (n : Nat), Admits s 1 pOWNERSHIP 260 4 2 ∧ s.ownItem = some (OwnItem.page p) ∧ pageKind 0 p = some (k, n) ∧ (k = Kind.kSAPV ∨ s.owner 0 p = 255 ∨ s.validOwner (BitVec.setWidth 8 v) = false)) ∧
    (∃ (s : State) (v : BitVec 32) (p : Nat), Admits s 1 pOWNERSHIP 260 4 2 ∧ s.ownItem = some (OwnItem.port p) ∧ (s.itemOwner pDATAPORTS (DATAPORTS.DAT_OWNER.at (64 * p)) = 255 ∨ s.validOwner (BitVec.setWidth 8 v) = false)) ∧
    (∃ (s : State) (v : BitVec 32) (p : Nat), Admits s 1 pOWNERSHIP 260 4 2 ∧ s.ownItem = some (OwnItem.pin p) ∧ (s.itemOwner pPINS (PINS.MP_CFG_OWNER.at (4 * p)) = 255 ∨ s.validOwner (BitVec.setWidth 8 v) = false)) ∧
    (∃ (s : State) (v : BitVec 32) (p : Nat), Admits s 1 pOWNERSHIP 260 4 2 ∧ s.ownItem = some (OwnItem.domain p) ∧ (s.itemOwner pPOWER (pdFld POWER.PD_OWNER p) = 255 ∨ s.validOwner (BitVec.setWidth 8 v) = false)) ∧
    (∃ (s : State) (v : BitVec 32) (p : Nat), Admits s 1 pOWNERSHIP 260 4 2 ∧ s.ownItem = some (OwnItem.sapphire p) ∧ (s.owner 1 (pgSAP p) = 255 ∨ s.validSapOwner (BitVec.setWidth 8 v) = false)) ∧
    (∃ (s : State), Admits s 1 pOWNERSHIP 260 4 2 ∧ s.ownItem = none) :=
  ⟨⟨sel 0 z, 0x10, 0, .kDEVICE, 0, by unfold Admits; decide +kernel⟩,
   ⟨sel 0x10000 z, 0x10, 0, by unfold Admits; decide +kernel⟩,
   ⟨sel 0x20001 z, 0x10, 1, by unfold Admits; decide +kernel⟩,
   ⟨sel 0x30001 z, 0x10, 1, by unfold Admits; decide +kernel⟩,
   ⟨sel 0x40001 z, 0x10, 1, by unfold Admits; decide +kernel⟩,
   ⟨sel 0 z, 0x7E, 0, .kDEVICE, 0, by unfold Admits; decide +kernel⟩,
   ⟨sel 0x10000 z, 0x7E, 0, by unfold Admits; decide +kernel⟩,
   ⟨sel 0x20001 z, 0x7E, 1, by unfold Admits; decide +kernel⟩,
   ⟨sel 0x30001 z, 0x7E, 1, by unfold Admits; decide +kernel⟩,
   ⟨sel 0x40001 z, 0x7E, 1, by unfold Admits; decide +kernel⟩,
   ⟨sel 0x60 z, by unfold Admits; decide +kernel⟩⟩

theorem wit_AFenceIsMarkedAndRecordedAndAnUnfenceUndoesIt :
    (∃ (s : State) (p : Nat) (k : Kind) (n : Nat), (k = Kind.kDATAPORTS ∨ k = Kind.kPOINTS ∨ k = Kind.kBRANDS ∨ k = Kind.kHISTORY ∨ k = Kind.kPK ∨ k = Kind.kHOST) ∧ pageKind 0 p = some (k, n) ∧ s.domainOn 0 p = true ∧ Admits s 1 pOWNERSHIP 264 4 2 ∧ s.ownItem = some (OwnItem.page p) ∧ s.fenced 0 p = false) ∧
    (∃ (s : State) (p : Nat) (k : Kind) (n : Nat), (k = Kind.kDATAPORTS ∨ k = Kind.kPOINTS ∨ k = Kind.kBRANDS ∨ k = Kind.kHISTORY ∨ k = Kind.kPK ∨ k = Kind.kHOST) ∧ pageKind 0 p = some (k, n) ∧ s.domainOn 0 p = true ∧ Admits s 1 pOWNERSHIP 264 4 2 ∧ s.ownItem = some (OwnItem.page p) ∧ s.fenced 0 p = true ∧ s.unfenceOk 0 p k n = true) ∧
    (∃ (s : State) (p : Nat) (k : Kind) (n : Nat) (v : BitVec 32) (wr : Code), (k = Kind.kDATAPORTS ∨ k = Kind.kPOINTS ∨ k = Kind.kBRANDS ∨ k = Kind.kHISTORY ∨ k = Kind.kPK ∨ k = Kind.kHOST) ∧ pageKind 0 p = some (k, n) ∧ s.domainOn 0 p = true ∧ Admits s 0 p 8 4 wr ∧ s.fenced 0 p = false ∧ v.getLsbD 1 = true) ∧
    (∃ (s : State) (p : Nat) (k : Kind) (n : Nat) (v : BitVec 32) (wr : Code), (k = Kind.kDATAPORTS ∨ k = Kind.kPOINTS ∨ k = Kind.kBRANDS ∨ k = Kind.kHISTORY ∨ k = Kind.kPK ∨ k = Kind.kHOST) ∧ pageKind 0 p = some (k, n) ∧ s.domainOn 0 p = true ∧ Admits s 0 p 8 4 wr ∧ s.fenced 0 p = true ∧ v.getLsbD 1 = true) ∧
    (∃ (s : State) (p : Nat) (k : Kind) (n : Nat) (v : BitVec 32) (wr : Code), (k = Kind.kDATAPORTS ∨ k = Kind.kPOINTS ∨ k = Kind.kBRANDS ∨ k = Kind.kHISTORY ∨ k = Kind.kPK ∨ k = Kind.kHOST) ∧ pageKind 0 p = some (k, n) ∧ s.domainOn 0 p = true ∧ Admits s 0 p 8 4 wr ∧ s.fenced 0 p = true ∧ v.getLsbD 1 = false ∧ v.getLsbD 2 = true ∧ s.unfenceOk 0 p k n = true) ∧
    (∃ (s : State) (func : Nat) (page : Nat) (k : Kind) (n : Nat), s.mainUp = true ∧ pageKind func page = some (k, n) ∧ s.present func page = true ∧ s.fenced func page = true ∧ (k = Kind.kSC → (s.core n).busy = false)) ∧
    (∃ (s : State) (p : Nat) (k : Kind) (n : Nat), Admits s 1 pOWNERSHIP 264 4 2 ∧ s.ownItem = some (OwnItem.page p) ∧ pageKind 0 p = some (k, n) ∧ fenceable k = false) :=
  ⟨⟨sel 0xC z, 0xC, .kDATAPORTS, 0, by unfold Admits; decide +kernel⟩,
   ⟨sel 0xC (pf 0xC z), 0xC, .kDATAPORTS, 0, by unfold Admits; decide +kernel⟩,
   ⟨z, 0x48, .kPOINTS, 0, 2, 1, by unfold Admits; decide +kernel⟩,
   ⟨sel 0xC (pf 0xC z), 0xC, .kDATAPORTS, 0, 2, 1, by unfold Admits; decide +kernel⟩,
   ⟨sel 0xC (pf 0xC z), 0xC, .kDATAPORTS, 0, 4, 1, by unfold Admits; decide +kernel⟩,
   ⟨sel 0xC (pf 0xC z), 0, 0xC, .kDATAPORTS, 0, by decide +kernel⟩,
   ⟨z, 0, .kDEVICE, 0, by unfold Admits; decide +kernel⟩⟩

theorem wit_TheWatchdogRestartsExpiresAndSpeaks :
    (∃ (s : State) (v : BitVec 32), Admits s 1 pSAFETY 264 4 2 ∧ v ≠ 1262700875) ∧
    (∃ (s : State), Admits s 1 pSAFETY 256 4 2) ∧
    (∃ (s : State), s.mainUp = true ∧ s.r1 pSAFETY SAFETY.WDOG_CFG_PERIOD ≠ 0) :=
  ⟨⟨z, 0, by unfold Admits; decide +kernel⟩,
   ⟨z, by unfold Admits; decide +kernel⟩,
   ⟨z.w1 pSAFETY SAFETY.WDOG_CFG_PERIOD 5, by decide +kernel⟩⟩

theorem wit_ADataPortWriteReachesMemoryAndCounts :
    (∃ (s : State) (p : Nat) (off : Nat) (bytes : List (Option (BitVec 8))) (wr : Code), s.mainUp = true ∧ p < 16 ∧ s.fenced 0 pDATAPORTS = false ∧ (s.itemOwner pDATAPORTS (DATAPORTS.DAT_OWNER.at (64 * p)) = 0 ∨ wr = s.itemOwner pDATAPORTS (DATAPORTS.DAT_OWNER.at (64 * p))) ∧ s.portOpen p = true ∧ s.r pDATAPORTS (DATAPORTS.DAT_ADDR.at (64 * p)) + off + bytes.length ≤ 2 ^ 64 ∧ s.inPart (s.r pDATAPORTS (DATAPORTS.DAT_CTRL_PART.at (64 * p))) (s.r pDATAPORTS (DATAPORTS.DAT_ADDR.at (64 * p)) + off) bytes.length = true ∧ off + bytes.length ≤ s.r pDATAPORTS (DATAPORTS.DAT_BURST.at (64 * p)) ∧ (∃ b, b ∈ bytes ∧ b.isSome = true)) ∧
    (∃ (s : State) (p : Nat) (off : Nat) (bytes : List (BitVec 8)) (wr : Code), s.mainUp = true ∧ p < 16 ∧ (s.portCheck p off bytes.length wr).snd = false) :=
  ⟨⟨z, 0, 0, [some 1, none, some 3, some 255], 1, by decide +kernel⟩,
   ⟨z, 0, 0, upto 4, 2, by decide +kernel⟩⟩

theorem wit_ADataPortReadReturnsMemoryAndCounts :
    (∃ (s : State) (p : Nat) (off : Nat) (len : Nat) (wr : Code), s.mainUp = true ∧ p < 16 ∧ 0 < len ∧ s.fenced 0 pDATAPORTS = false ∧ (s.portCheck p off len wr).snd = true) ∧
    (∃ (s : State) (p : Nat) (off : Nat) (len : Nat) (wr : Code), s.mainUp = true ∧ p < 16 ∧ 0 < len ∧ (s.portCheck p off len wr).snd = false) :=
  ⟨⟨z, 0, 0, 4, 1, by decide +kernel⟩,
   ⟨z, 0, 0, 4, 2, by decide +kernel⟩⟩

theorem wit_DataPortAndWindowRegistersTakeTheirWrites :
    (∃ (s : State) (p : Nat) (v : BitVec 64) (wr : Code), p < 16 ∧ Admits s 0 pDATAPORTS (256 + 64 * p) 8 wr ∧ v.toNat % 4 = 0) ∧
    (∃ (s : State) (p : Nat) (v : BitVec 32) (wr : Code), p < 16 ∧ Admits s 0 pDATAPORTS (268 + 64 * p) 4 wr ∧ v.toNat % 2 ^ 17 % 4 = 0 ∧ 4 ≤ v.toNat % 2 ^ 17 ∧ v.toNat % 2 ^ 17 ≤ 65536) ∧
    (∃ (s : State) (p : Nat) (v : BitVec 64) (wr : Code), p < 16 ∧ Admits s 0 pDATAPORTS (256 + 64 * p) 8 wr ∧ v.toNat % 4 ≠ 0) ∧
    (∃ (s : State) (p : Nat) (v : BitVec 32) (wr : Code), p < 16 ∧ Admits s 0 pDATAPORTS (268 + 64 * p) 4 wr ∧ (v.toNat % 2 ^ 17 % 4 ≠ 0 ∨ v.toNat % 2 ^ 17 < 4 ∨ 65536 < v.toNat % 2 ^ 17)) ∧
    (∃ (s : State) (p : Nat) (wr : Code), p < 16 ∧ Admits s 0 pDATAPORTS (272 + 64 * p) 4 wr) ∧
    (∃ (s : State) (p : Nat) (v : BitVec 32) (wr : Code), p < 16 ∧ Admits s 0 pDATAPORTS (280 + 64 * p) 4 wr ∧ s.itemOwner pDATAPORTS (DATAPORTS.DAT_OWNER.at (64 * p)) ≠ 255 ∧ s.validOwner (BitVec.setWidth 8 v) = true) ∧
    (∃ (s : State) (p : Nat) (v : BitVec 32) (wr : Code), p < 16 ∧ Admits s 0 pDATAPORTS (280 + 64 * p) 4 wr ∧ (s.itemOwner pDATAPORTS (DATAPORTS.DAT_OWNER.at (64 * p)) = 255 ∨ s.validOwner (BitVec.setWidth 8 v) = false)) ∧
    (∃ (s : State) (v : BitVec 64) (wr : Code), Admits s 0 pPARTITIONS 392 8 wr ∧ v.toNat % 2 ^ 30 = 0 ∧ v.toNat + s.winGiB * GiB ≤ s.partBytes 3) ∧
    (∃ (s : State) (v : BitVec 64) (wr : Code), Admits s 0 pPARTITIONS 392 8 wr ∧ (v.toNat % 2 ^ 30 ≠ 0 ∨ s.partBytes 3 < v.toNat + s.winGiB * GiB)) ∧
    (∃ (s : State), s.mainUp = true ∧ s.r pPARTITIONS PARTITIONS.HIST_WIN_STATUS = 1) :=
  ⟨⟨z, 0, 0, 1, by unfold Admits; decide +kernel⟩,
   ⟨z, 0, 4, 1, by unfold Admits; decide +kernel⟩,
   ⟨z, 0, 0xFF, 1, by unfold Admits; decide +kernel⟩,
   ⟨z, 0, 0, 1, by unfold Admits; decide +kernel⟩,
   ⟨z, 0, 1, by unfold Admits; decide +kernel⟩,
   ⟨z, 0, 0, 1, by unfold Admits; decide +kernel⟩,
   ⟨z, 0, 4, 1, by unfold Admits; decide +kernel⟩,
   ⟨z, 0, 1, by unfold Admits; decide +kernel⟩,
   ⟨z, 4, 1, by unfold Admits; decide +kernel⟩,
   ⟨z.w pPARTITIONS PARTITIONS.HIST_WIN_STATUS 1, by decide +kernel⟩⟩

theorem wit_HostReadsAndWritesOpenAndOnlyReadsTheWindow :
    (∃ (s : State) (a : Nat) (n : Nat), s.mainUp = true ∧ s.fenced 0 pHOST = false ∧ s.hdmDenied a n = false) ∧
    (∃ (s : State) (a : Nat) (bs : List (BitVec 8)), s.mainUp = true ∧ s.fenced 0 pHOST = false ∧ s.hdmDenied a bs.length = false ∧ (s.hdmAddr (a - s.r pHOST HOST.HDM_BASE)).snd = false) ∧
    (∃ (s : State) (a : Nat) (bs : List (BitVec 8)), s.mainUp = true ∧ s.fenced 0 pHOST = false ∧ s.hdmDenied a bs.length = false ∧ (s.hdmAddr (a - s.r pHOST HOST.HDM_BASE)).snd = true) ∧
    (∃ (s : State) (a : Nat) (n : Nat), s.mainUp = true ∧ s.fenced 0 pHOST = false ∧ s.hdmDenied a n = true) ∧
    (∃ (s : State) (a : Nat) (bs : List (BitVec 8)), s.mainUp = true ∧ s.fenced 0 pHOST = false ∧ s.hdmDenied a bs.length = true) ∧
    (∃ (s : State) (cls : Nat) (waited : Nat), s.mainUp = true ∧ cls < 7 ∧ s.r pMEMCTL (MEMCTL.CLASS_CTRL_PATIENCE.at (4 * cls)) ≠ 0 ∧ s.r pMEMCTL (MEMCTL.CLASS_CTRL_PATIENCE.at (4 * cls)) < waited) ∧
    (∃ (s : State) (waited : Nat) (n : Nat), s.mainUp = true ∧ (let p : Nat := s.r pMEMCTL (MEMCTL.CLASS_CTRL_PATIENCE.at 8); let q : Nat := s.r (pgDV n) DV.PATIENCE; p ≠ 0 ∧ q ≠ 0 ∧ min p q < waited)) :=
  ⟨⟨hd, 0, 0, by decide +kernel⟩,
   ⟨hd, 0, upto 4, by decide +kernel⟩,
   ⟨hd.w pPARTITIONS PARTITIONS.PART_SIZE 0, 0, upto 4, by decide +kernel⟩,
   ⟨z, 0, 0, by decide +kernel⟩,
   ⟨z, 0, upto 4, by decide +kernel⟩,
   ⟨(z.w pMEMCTL (MEMCTL.CLASS_CTRL_PATIENCE.at 8) 3).w (pgDV 1) DV.PATIENCE 2, 2, 4, by decide +kernel⟩,
   ⟨(z.w pMEMCTL (MEMCTL.CLASS_CTRL_PATIENCE.at 8) 3).w (pgDV 1) DV.PATIENCE 2, 3, 1, by decide +kernel⟩⟩

theorem wit_ClockSourcesComeUpHoldOverAndReturn :
    (∃ (s : State), s.phase = BootPhase.held) ∧
    (∃ (s : State), s.phase = BootPhase.aon) ∧
    (∃ (s : State), s.phase = BootPhase.locking) ∧
    (∃ (s : State), s.r pCLOCKS CLOCKS.STATUS_REF_OK = 1 ∧ s.r pCLOCKS CLOCKS.STATUS_PLL_LOCK = 1 ∧ s.fenced 0 pCLOCKS = false) ∧
    (∃ (s : State), s.r pCLOCKS CLOCKS.STATUS_HOLDOVER = 1) :=
  ⟨⟨z, by decide +kernel⟩,
   ⟨{ State.reset with phase := .aon }, by decide +kernel⟩,
   ⟨{ State.reset with phase := .locking }, by decide +kernel⟩,
   ⟨(z.w pCLOCKS CLOCKS.STATUS_REF_OK 1).w pCLOCKS CLOCKS.STATUS_PLL_LOCK 1, by decide +kernel⟩,
   ⟨z.w pCLOCKS CLOCKS.STATUS_HOLDOVER 1, by decide +kernel⟩⟩

theorem wit_ADomainEntersRestsAndWakes :
    (∃ (s : State) (d : Nat) (v : BitVec 32) (wr : Code), d < 50 ∧ pdPresent s.variant d = true ∧ Admits s 0 pPOWER (256 + 16 * d) 4 wr ∧ v.toNat % 4 ≠ 0 ∧ v.toNat % 4 ≠ 3 ∧ v.toNat / 16 % 4 = 0 ∧ s.targetRefused (wr32 0 pPOWER (256 + 16 * d) v wr) d (v.toNat % 4) = false ∧ s.pdState d = 0 ∧ s.r pPOWER (pdFld POWER.PD_STATUS_PLEVEL_NOW d) = 0 ∧ s.r pPOWER POWER.THERM_CRIT = 0) ∧
    (∃ (s : State) (d : Nat) (v : BitVec 32) (wr : Code), d < 50 ∧ pdPresent s.variant d = true ∧ Admits s 0 pPOWER (256 + 16 * d) 4 wr ∧ v.toNat % 4 = 0 ∧ v.toNat / 16 % 4 = 0 ∧ s.pdState d = 0 ∧ s.r pPOWER (pdFld POWER.PD_STATUS_PLEVEL_NOW d) = 0 ∧ s.r pPOWER POWER.THERM_CRIT = 0) ∧
    (∃ (s : State) (d : Nat), d < 46 ∧ s.mainUp = true ∧ s.r pPOWER (pdFld POWER.PD_STATUS_ENTRY_PENDING d) = 1 ∧ s.domainQuiet d = true) ∧
    (∃ (s : State), s.mainUp = true ∧ s.r pPOWER (pdFld POWER.PD_STATUS_ENTRY_PENDING 48) = 1 ∧ s.domainQuiet 48 = true) ∧
    (∃ (s : State) (d : Nat), d < 50 ∧ s.mainUp = true ∧ s.pdState d = 1 ∧ (s.dom d).toOff = false ∧ (s.dom d).onReq = false ∧ (s.dom d).latched = false ∧ (let u : State := (s.advanceFc ((s.dom d).commitFc + 1782)).w pPOWER (pdFld POWER.PD_STATUS_STATE d) 2; u.levelWake d = none)) ∧
    (∃ (s : State) (d : Nat), d < 50 ∧ s.mainUp = true ∧ s.pdState d = 1 ∧ (s.dom d).toOff = true ∧ (s.dom d).onReq = false ∧ (s.dom d).latched = false ∧ (let u : State := ((s.advanceFc ((s.dom d).commitFc + 3564)).w pPOWER (pdFld POWER.PD_STATUS_STATE d) 3).loseDomain d; u.levelWake d = none)) ∧
    (∃ (s : State) (d : Nat), (d < 33 ∨ 42 ≤ d ∧ d < 46 ∨ d = 49) ∧ s.mainUp = true ∧ s.pdState d = 4 ∧ (s.dom d).fromOff = false) ∧
    (∃ (s : State) (d : Nat), 33 ≤ d ∧ d < 42 ∧ s.mainUp = true ∧ s.pdState d = 4 ∧ (s.dom d).fromOff = false) :=
  ⟨⟨z, 0, 1, 1, by unfold Admits; decide +kernel⟩,
   ⟨z, 0, 0, 1, by unfold Admits; decide +kernel⟩,
   ⟨pend 0 z, 0, by decide +kernel⟩,
   ⟨pend 48 z, by decide +kernel⟩,
   ⟨pd 0 1 z, 0, by decide +kernel⟩,
   ⟨(pd 0 1 z).setDom 0 { toOff := true }, 0, by decide +kernel⟩,
   ⟨pd 0 4 z, 0, by decide +kernel⟩,
   ⟨pd 33 4 z, 33, by decide +kernel⟩⟩

theorem wit_WakePinsAlarmsAndPerformanceLevelsAct :
    (∃ (s : State) (k : Nat) (d : Nat), k < 16 ∧ d < 50 ∧ pdPresent s.variant d = true ∧ nfld (s.r pPOWER POWER.WAKE_PIN_CFG) (2 * k) 2 = 0 ∧ nbit (s.r pPOWER POWER.WAKE_PIN_STATE) k = false ∧ nbit (s.r pPOWER (pdFld POWER.PD_WAKE_PINS d)) k = true ∧ s.pdState d = 2 ∧ (∀ (e : Nat), e < 50 → e ≠ d → s.pdState e = 0) ∧ s.r pPOWER (pdFld POWER.PD_WAKE_ALARM d) = 0 ∧ s.r pPOWER (pdFld POWER.PD_WAKE_INTC d) = 0) ∧
    (∃ (s : State), s.r pPOWER POWER.ALARM_CTRL_EN = 1 ∧ s.r pCLOCKS CLOCKS.STATUS_SLOW_OK = 1 ∧ (∀ (e : Nat), e < 50 → s.pdState e = 0)) ∧
    (∃ (s : State) (d : Nat) (v : BitVec 32) (wr : Code), 33 ≤ d ∧ d < 42 ∧ pdPresent s.variant d = true ∧ Admits s 0 pPOWER (256 + 16 * d) 4 wr ∧ v.toNat % 4 = 0 ∧ s.pdState d = 0 ∧ s.r pPOWER POWER.THERM_CRIT = 0 ∧ v.toNat / 16 % 4 ≠ s.r pPOWER (pdFld POWER.PD_STATUS_PLEVEL_NOW d)) ∧
    (∃ (s : State) (d : Nat), d < 50 ∧ s.pdOn d = true ∧ s.r pPOWER (pdFld POWER.PD_STATUS_PLEVEL_BUSY d) = 1) ∧
    (∃ (s : State) (t : BitVec 12), s.mainUp = true ∧ s.r pPOWER POWER.THERM_HOT = 0 ∧ 420 ≤ signed 12 t.toNat) ∧
    (∃ (s : State) (t : BitVec 12), s.mainUp = true ∧ signed 12 t.toNat < 400) ∧
    (∃ (s : State) (t : BitVec 12), s.mainUp = true ∧ s.r pPOWER POWER.THERM_CRIT = 0 ∧ 480 ≤ signed 12 t.toNat) ∧
    (∃ (s : State) (t : BitVec 12), s.mainUp = true ∧ s.r pPOWER POWER.THERM_CRIT = 1 ∧ signed 12 t.toNat < 440) :=
  ⟨⟨(pd 33 2 ((al z).w pPOWER (pdFld POWER.PD_WAKE_PINS 33) 0xFF)).w pPOWER POWER.WAKE_PIN_CFG 0, 0, 33, by decide +kernel⟩,
   ⟨al z, by decide +kernel⟩,
   ⟨z, 33, 0x10, 1, by unfold Admits; decide +kernel⟩,
   ⟨z.w pPOWER (pdFld POWER.PD_STATUS_PLEVEL_BUSY 33) 1, 33, by decide +kernel⟩,
   ⟨z, 420, by decide +kernel⟩,
   ⟨z, 0, by decide +kernel⟩,
   ⟨z, 480, by decide +kernel⟩,
   ⟨z.w pPOWER POWER.THERM_CRIT 1, 0, by decide +kernel⟩⟩

theorem wit_MemoryTrainingRunsAsRequested :
    (∃ (s : State) (v : BitVec 32) (wr : Code), Admits s 0 pMEMCTL 512 4 wr ∧ v.getLsbD 0 = true ∧ v.getLsbD 1 = false ∧ s.r pMEMCTL MEMCTL.TRAIN_STAT_RUNNING = 0 ∧ s.enabledHeads ≠ []) ∧
    (∃ (s : State) (v : BitVec 32) (wr : Code), Admits s 0 pMEMCTL 512 4 wr ∧ v.getLsbD 0 = true ∧ v.getLsbD 1 = false ∧ s.r pMEMCTL MEMCTL.TRAIN_STAT_RUNNING = 0 ∧ s.enabledHeads = []) ∧
    (∃ (s : State) (v : BitVec 32) (wr : Code), Admits s 0 pMEMCTL 512 4 wr ∧ v.getLsbD 0 = false ∧ v.getLsbD 1 = true ∧ s.r pMEMCTL MEMCTL.TRAIN_STAT_RUNNING = 0) ∧
    (∃ (s : State) (wr : Code), Admits s 0 pMEMCTL 512 4 wr ∧ s.r pMEMCTL MEMCTL.TRAIN_STAT_RUNNING = 1) ∧
    (∃ (s : State) (drift : Nat), s.mainUp = true ∧ s.r pMEMCTL MEMCTL.TRAIN_CTRL_DRIFT_LIMIT ≠ 0 ∧ s.r pMEMCTL MEMCTL.TRAIN_CTRL_DRIFT_LIMIT < drift ∧ s.r pMEMCTL MEMCTL.TRAIN_STAT_RUNNING = 0) ∧
    (∃ (s : State), s.mainUp = true ∧ s.r pMEMCTL MEMCTL.TRAIN_STAT_PENDING = 1 ∧ s.r pMEMCTL MEMCTL.TRAIN_STAT_RUNNING = 0 ∧ s.bellwether = none) ∧
    (∃ (s : State) (b : Nat), s.mainUp = true ∧ s.r pMEMCTL MEMCTL.TRAIN_STAT_PENDING = 1 ∧ s.r pMEMCTL MEMCTL.TRAIN_STAT_RUNNING = 0 ∧ s.bellwether = some b ∧ s.r (pgHEAD b) HEAD.BEAM_LINE = (s.mode b).vAct ∧ (∀ (h : Nat), h ∈ s.enabledHeads → min 3 (s.r (pgHEAD h) HEAD.LOOKAHEAD) ≤ s.lookahead h)) ∧
    (∃ (s : State), s.mainUp = true ∧ s.r pMEMCTL MEMCTL.TRAIN_STAT_RUNNING = 1) :=
  ⟨⟨bell, 1, 1, by unfold Admits; decide +kernel⟩,
   ⟨z, 1, 1, by unfold Admits; decide +kernel⟩,
   ⟨z, 2, 1, by unfold Admits; decide +kernel⟩,
   ⟨z.w pMEMCTL MEMCTL.TRAIN_STAT_RUNNING 1, 1, by unfold Admits; decide +kernel⟩,
   ⟨z.w pMEMCTL MEMCTL.TRAIN_CTRL_DRIFT_LIMIT 5, 6, by decide +kernel⟩,
   ⟨z.w pMEMCTL MEMCTL.TRAIN_STAT_PENDING 1, by decide +kernel⟩,
   ⟨((bell.w pMEMCTL MEMCTL.TRAIN_STAT_PENDING 1).w (pgHEAD 0) HEAD.LOOKAHEAD 3).setHd 0 { bell.hd 0 with begun := true, startNext := 2164 } |>.w (pgHEAD 0) HEAD.BEAM_LINE 2160, 0, by decide +kernel⟩,
   ⟨z.w pMEMCTL MEMCTL.TRAIN_STAT_RUNNING 1, by decide +kernel⟩⟩

theorem wit_StartUpValidatesAnImageAndResetsForget :
    (∃ (s : State), s.phase = BootPhase.training) ∧
    (∃ (s : State) (wr : Code), Admits s 0 pDEVICE 280 4 wr ∧ (s.devState = stWAIT_IMAGE ∨ s.devState = stIMAGE_REJECTED)) ∧
    (∃ (s : State) (v : BitVec 32) (wr : Code), Admits s 0 pDEVICE 280 4 wr ∧ v ≠ 1398035028) ∧
    (∃ (s : State) (wr : Code), Admits s 0 pDEVICE 280 4 wr ∧ s.devState ≠ stWAIT_IMAGE ∧ s.devState ≠ stIMAGE_REJECTED) ∧
    (∃ (s : State), s.mainUp = true ∧ s.devState = stVALIDATING ∧ s.verdict = none) ∧
    (∃ (s : State) (code : Nat) (sec : Nat) (detail : Nat), s.mainUp = true ∧ s.devState = stVALIDATING ∧ s.verdict = some (code, sec, detail)) ∧
    (∃ (s : State), s.mainUp = true ∧ s.devState = stSTARTING) ∧
    (∃ (s : State), s.mainUp = true) :=
  ⟨⟨{ z with phase := .training }, by decide +kernel⟩,
   ⟨dst stWAIT_IMAGE, 1, by unfold Admits; decide +kernel⟩,
   ⟨z, 0, 1, by unfold Admits; decide +kernel⟩,
   ⟨z, 1, by unfold Admits; decide +kernel⟩,
   ⟨mput imgBase image (dst stVALIDATING), by decide +kernel⟩,
   ⟨dst stVALIDATING, 1, 255, 0, by decide +kernel⟩,
   ⟨dst stSTARTING, by decide +kernel⟩,
   ⟨z, by decide +kernel⟩⟩

theorem wit_PaletteFlockAndTableWritesQueue :
    (∃ (s : State) (e : Nat) (wr : Code), e < 32 ∧ Admits s 0 (pgPE e) 272 8 wr ∧ (s.eng e).palQ.length < 64 ∧ (s.eng e).palWait = []) ∧
    (∃ (s : State) (e : Nat) (wr : Code), e < 32 ∧ Admits s 0 (pgPE e) 272 8 wr ∧ 64 ≤ (s.eng e).palQ.length) ∧
    (∃ (s : State) (e : Nat) (wr : Code), e < 32 ∧ Admits s 0 (pgPE e) 1552 4 wr ∧ ((s.eng e).flkQ.length < 256 ∨ s.r (pgPE e) PE.FLK_HOLD = 0 ∧ s.r (pgPE e) PE.FLK_CFG_FRAME_SYNC = 0)) ∧
    (∃ (s : State) (e : Nat) (wr : Code), e < 32 ∧ Admits s 0 (pgPE e) 1552 4 wr ∧ 256 ≤ (s.eng e).flkQ.length ∧ (s.r (pgPE e) PE.FLK_HOLD = 1 ∨ s.r (pgPE e) PE.FLK_CFG_FRAME_SYNC = 1)) ∧
    (∃ (s : State) (e : Nat) (wr : Code), e < 32 ∧ Admits s 0 (pgPE e) 2052 4 wr ∧ (let bank : Nat := s.r (pgPE e) PE.LUT_ADDR_BANK; bank ≠ s.r (pgPE e) PE.COMP_STAT)) ∧
    (∃ (s : State) (e : Nat) (wr : Code), e < 32 ∧ Admits s 0 (pgPE e) 2052 4 wr ∧ (let bank : Nat := s.r (pgPE e) PE.LUT_ADDR_BANK; bank = s.r (pgPE e) PE.COMP_STAT)) ∧
    (∃ (s : State) (e : Nat) (wr : Code), e < 32 ∧ Admits s 0 (pgPE e) 260 4 wr) ∧
    (∃ (s : State) (e : Nat) (wr : Code), e < 32 ∧ Admits s 0 (pgPE e) 1540 4 wr) ∧
    (∃ (s : State) (wr : Code), Admits s 0 (pgPE 32) 272 8 wr) ∧
    (∃ (s : State) (wr : Code), Admits s 0 (pgPE 32) 1552 4 wr) ∧
    (∃ (s : State) (wr : Code), Admits s 0 (pgPE 32) 2052 4 wr) ∧
    (∃ (s : State) (wr : Code), Admits s 0 (pgPE 32) 260 4 wr) ∧
    (∃ (s : State) (wr : Code), Admits s 0 (pgPE 32) 1540 4 wr) :=
  ⟨⟨z, 0, 1, by unfold Admits; decide +kernel⟩,
   ⟨z.setEng 0 { z.eng 0 with palQ := List.replicate 64 (3, 5) }, 0, 1, by unfold Admits; decide +kernel⟩,
   ⟨z, 0, 1, by unfold Admits; decide +kernel⟩,
   ⟨(z.setEng 0 { z.eng 0 with flkQ := List.replicate 256 { word := 1, data := 2, mask := 3, soft := true } }).w (pgPE 0) PE.FLK_HOLD 1, 0, 1, by unfold Admits; decide +kernel⟩,
   ⟨(z.w (pgPE 0) PE.LUT_ADDR_BANK 1).w (pgPE 0) PE.LUT_ADDR_AUTOINC 1, 0, 1, by unfold Admits; decide +kernel⟩,
   ⟨z, 0, 1, by unfold Admits; decide +kernel⟩,
   ⟨z, 0, 1, by unfold Admits; decide +kernel⟩,
   ⟨z, 0, 1, by unfold Admits; decide +kernel⟩,
   ⟨z, 1, by unfold Admits; decide +kernel⟩,
   ⟨z, 1, by unfold Admits; decide +kernel⟩,
   ⟨z, 1, by unfold Admits; decide +kernel⟩,
   ⟨z, 1, by unfold Admits; decide +kernel⟩,
   ⟨z, 1, by unfold Admits; decide +kernel⟩⟩

theorem wit_AnEngineStartsFetchesAndCompletesALine :
    (∃ (s : State) (e : Nat) (h : Nat), UnitUp s 0 (pgPE e) Kind.kPE e ∧ s.headOf e = some h ∧ s.startDue h = true ∧ s.llReady h (s.hd h).startNext = true ∧ (s.hd h).startNext < (s.mode h).vTot) ∧
    (∃ (s : State) (e : Nat) (h : Nat), UnitUp s 0 (pgPE e) Kind.kPE e ∧ s.headOf e = some h ∧ s.startDue h = true ∧ s.llReady h (s.hd h).startNext = false ∧ (s.hd h).llWaiting = false) ∧
    (∃ (s : State) (e : Nat) (c : Nat), UnitUp s 0 (pgPE e) Kind.kPE e ∧ (s.eng e).composing = some c ∧ (let h : Nat := s.stateOf e; s.missing e c = [] ∧ (s.eng e).cost ≤ 4 * (s.mode h).lineCc)) ∧
    (∃ (s : State) (e : Nat) (c : Nat), UnitUp s 0 (pgPE e) Kind.kPE e ∧ (s.eng e).composing = some c ∧ (let h : Nat := s.stateOf e; s.missing e c = [] ∧ 4 * (s.mode h).lineCc < (s.eng e).cost)) ∧
    (∃ (s : State) (e : Nat) (a : Nat) (c : Nat) (k : FetchKind), UnitUp s 0 (pgPE e) Kind.kPE e ∧ s.fenced 0 (pgPE e) = false ∧ (s.eng e).composing = some c ∧ s.r pMEMCTL MEMCTL.TRAIN_STAT_RUNNING = 0 ∧ List.find? (fun x => x.kind == k && x.line == a / 64) (s.missing e c) = none) ∧
    (∃ (s : State) (e : Nat) (a : Nat) (c : Nat) (k : FetchKind) (d : Need), UnitUp s 0 (pgPE e) Kind.kPE e ∧ s.fenced 0 (pgPE e) = false ∧ (s.eng e).composing = some c ∧ s.r pMEMCTL MEMCTL.TRAIN_STAT_RUNNING = 0 ∧ List.find? (fun x => x.kind == k && x.line == a / 64) (s.missing e c) = some d ∧ s.inPart 1 (d.line * 64) 64 = true) ∧
    (∃ (s : State) (e : Nat) (a : Nat) (c : Nat) (k : FetchKind) (d : Need), UnitUp s 0 (pgPE e) Kind.kPE e ∧ s.fenced 0 (pgPE e) = false ∧ (s.eng e).composing = some c ∧ s.r pMEMCTL MEMCTL.TRAIN_STAT_RUNNING = 0 ∧ List.find? (fun x => x.kind == k && x.line == a / 64) (s.missing e c) = some d ∧ s.inPart 1 (d.line * 64) 64 = false) ∧
    (∃ (d : Need), d.kind = FetchKind.map) ∧
    (∃ (d : Need), d.kind = FetchKind.bitmap) ∧
    (∃ (s : State) (e : Nat) (d : Need), d.kind = FetchKind.tile ∧ (∀ (l : Nat), l ∈ (s.cache e).tiles → l < d.lo ∨ d.hi < l)) ∧
    (∃ (s : State) (e : Nat) (d : Need), d.kind = FetchKind.tile ∧ d.lo ≤ d.hi ∧ d.lo ∈ (s.cache e).tiles) ∧
    (∃ (s : State) (h : Nat), UnitUp s 0 (pgHEAD h) Kind.kHEAD h ∧ s.serves (s.servedBy h) = true ∧ s.enabled (pgHEAD h) = true ∧ s.r pMEMCTL MEMCTL.TRAIN_STAT_RUNNING = 0 ∧ (s.hd h).llActive = true ∧ (s.hd h).llEnded = false ∧ s.r (pgHEAD h) HEAD.LL_STAT_STOPPED = 0 ∧ (s.hd h).dark = false ∧ (s.hd h).llWaiting = false ∧ (s.hd h).llBuf.length < 64 ∧ s.hungry h = false ∧ s.inPart 1 (s.hd h).llAddr 16 = true ∧ (s.hd h).llAddr % 64 = 48 ∧ (llEntryOf (memRead s.mem (s.hd h).llAddr 16) (s.hd h).llRead).op = 0 ∧ (llEntryOf (memRead s.mem (s.hd h).llAddr 16) (s.hd h).llRead).line < (s.mode h).vTot ∧ (s.hd h).llRead < 65536) :=
  ⟨⟨due 0, 0, 0, by unfold UnitUp; decide +kernel⟩,
   ⟨((due 6).setHd 0 { (due 6).hd 0 with llActive := true, llEnded := false }).w (pgHEAD 0) HEAD.LOOKAHEAD 4, 0, 0, by unfold UnitUp; decide +kernel⟩,
   ⟨zh.setEng 0 { zh.eng 0 with composing := some 7 }, 0, 7, by unfold UnitUp; decide +kernel⟩,
   ⟨zh.setEng 0 { zh.eng 0 with composing := some 7, cost := 1000000 }, 0, 7, by unfold UnitUp; decide +kernel⟩,
   ⟨zh.setEng 0 { zh.eng 0 with composing := some 7 }, 0, 0, 7, .tile, by unfold UnitUp; decide +kernel⟩,
   ⟨lay 1 (pb 1) zh, 0, pb 1, 0, .bitmap, ⟨.bitmap, 402653184, 402653184, 402653184⟩, by unfold UnitUp; decide +kernel⟩,
   ⟨lay 1 0 zh, 0, 0, 0, .bitmap, ⟨.bitmap, 0, 0, 0⟩, by unfold UnitUp; decide +kernel⟩,
   ⟨⟨.map, 5, 5, 5⟩, by decide +kernel⟩,
   ⟨⟨.bitmap, 5, 5, 5⟩, by decide +kernel⟩,
   ⟨zh, 0, ⟨.tile, 5, 5, 6⟩, by decide +kernel⟩,
   ⟨zh.setCache 0 { tiles := [5] }, 0, ⟨.tile, 5, 5, 6⟩, by decide +kernel⟩,
   ⟨mput (pb 1 + 48) (leBytes 4 5) (zh.setHd 0 { zh.hd 0 with llActive := true, llEnded := false, llAddr := pb 1 + 48 }), 0, by unfold UnitUp; decide +kernel⟩⟩

theorem wit_TheBeamMovesLineByLine :
    (∃ (s : State) (h : Nat) (v : BitVec 32) (wr : Code), h < 32 ∧ Admits s 0 (pgHEAD h) 536 4 wr ∧ 2 ≤ v.toNat % 8 ∧ v.toNat % 8 ≤ 4) ∧
    (∃ (s : State) (h : Nat) (v : BitVec 32) (wr : Code), h < 32 ∧ Admits s 0 (pgHEAD h) 536 4 wr ∧ (v.toNat % 8 < 2 ∨ 4 < v.toNat % 8)) ∧
    (∃ (s : State) (h : Nat) (pix : List W32), UnitUp s 0 (pgHEAD h) Kind.kHEAD h ∧ s.enabled (pgHEAD h) = true ∧ (s.hd h).begun = true ∧ (s.hd h).deadline = false ∧ (s.hd h).dark = false ∧ s.darkCause h = false ∧ s.beam h + 1 < (s.mode h).vAct ∧ 0 ≤ (s.hd h).corr ∧ (s.hd h).startNext ≠ s.beam h + 1 ∧ s.storedLine h (s.beam h + 1) = some pix) ∧
    (∃ (s : State) (h : Nat), UnitUp s 0 (pgHEAD h) Kind.kHEAD h ∧ s.enabled (pgHEAD h) = true ∧ (s.hd h).begun = true ∧ (s.hd h).deadline = false ∧ (s.hd h).dark = false ∧ s.darkCause h = false ∧ s.beam h + 1 < (s.mode h).vAct ∧ 0 ≤ (s.hd h).corr ∧ (s.hd h).startNext ≠ s.beam h + 1 ∧ s.storedLine h (s.beam h + 1) = none) ∧
    (∃ (s : State) (h : Nat), UnitUp s 0 (pgHEAD h) Kind.kHEAD h ∧ s.enabled (pgHEAD h) = true ∧ (s.hd h).begun = true ∧ (s.hd h).deadline = true ∧ s.beam h + 1 < (s.mode h).vTot ∧ 0 ≤ (s.hd h).corr) ∧
    (∃ (s : State) (h : Nat), UnitUp s 0 (pgHEAD h) Kind.kHEAD h ∧ s.enabled (pgHEAD h) = true ∧ (s.hd h).begun = false) ∧
    (∃ (s : State) (h : Nat), UnitUp s 0 (pgHEAD h) Kind.kHEAD h ∧ s.enabled (pgHEAD h) = false ∧ (s.hd h).stopping = true) :=
  ⟨⟨z, 0, 2, 1, by unfold Admits; decide +kernel⟩,
   ⟨z, 0, 0, 1, by unfold Admits; decide +kernel⟩,
   ⟨((bg zh).w (pgHEAD 0) HEAD.BEAM_LINE 3).setEng 0 { zh.eng 0 with lines := [{ line := 4, frame := (zh.hd 0).frame, pix := [1, 2] }] }, 0, [1, 2], by unfold UnitUp; decide +kernel⟩,
   ⟨bg zh, 0, by unfold UnitUp; decide +kernel⟩,
   ⟨(zh.setHd 0 { zh.hd 0 with begun := true, deadline := true }).w (pgHEAD 0) HEAD.BEAM_LINE 3, 0, by unfold UnitUp; decide +kernel⟩,
   ⟨zh, 0, by unfold UnitUp; decide +kernel⟩,
   ⟨(zh.w (pgHEAD 0) CTRL_ENABLE 0).setHd 0 { zh.hd 0 with stopping := true }, 0, by unfold UnitUp; decide +kernel⟩⟩

theorem wit_SapphireWritesFlipsCopiesAndLearns :
    (∃ (s : State) (h : Nat) (wr : Code), h < 32 ∧ Admits s 1 (pgSAP h) 272 4 wr ∧ (let o : Nat := s.r1 (pgSAP h) SAPPHIRE.SAP_ADDR_OFFSET / 4 * 4; (131072 ≤ o ∨ s.sapBarred (pgSAP h) (o / 65536) = false))) ∧
    (∃ (s : State) (h : Nat) (wr : Code), h < 32 ∧ Admits s 1 (pgSAP h) 272 4 wr ∧ (let o : Nat := s.r1 (pgSAP h) SAPPHIRE.SAP_ADDR_OFFSET / 4 * 4; o < 131072 ∧ s.sapBarred (pgSAP h) (o / 65536) = true)) ∧
    (∃ (s : State) (h : Nat) (bank : Nat) (entry : Nat) (wr : Code), h < 32 ∧ bank < 2 ∧ entry < 64 ∧ Admits s 1 (pgSAP h) (1024 + 512 * bank + 8 * entry) 8 wr ∧ s.sapBarred (pgSAP h) bank = false) ∧
    (∃ (s : State) (h : Nat) (bank : Nat) (entry : Nat) (wr : Code), h < 32 ∧ bank < 2 ∧ entry < 64 ∧ Admits s 1 (pgSAP h) (1024 + 512 * bank + 8 * entry) 8 wr ∧ s.sapBarred (pgSAP h) bank = true) ∧
    (∃ (s : State) (h : Nat) (v : BitVec 32) (wr : Code), h < 32 ∧ Admits s 1 (pgSAP h) 256 4 wr ∧ v.toNat / 256 % 16 ≠ 0 ∧ v.getLsbD 1 = true ∧ v.getLsbD 2 = false ∧ v.getLsbD 3 = false ∧ (s.r1 (pgSAP h) SAPPHIRE.SAP_BANK_FLIP_PENDING = 0 ∧ s.r1 (pgSAP h) SAPPHIRE.SAP_BANK_COPYING = 0)) ∧
    (∃ (s : State) (h : Nat) (v : BitVec 32) (wr : Code), h < 32 ∧ Admits s 1 (pgSAP h) 256 4 wr ∧ v.toNat / 256 % 16 ≠ 0 ∧ v.getLsbD 1 = false ∧ v.getLsbD 2 = true ∧ v.getLsbD 3 = false ∧ (s.r1 (pgSAP h) SAPPHIRE.SAP_BANK_FLIP_PENDING = 0 ∧ s.r1 (pgSAP h) SAPPHIRE.SAP_BANK_COPYING = 0)) ∧
    (∃ (s : State) (h : Nat) (v : BitVec 32) (wr : Code), h < 32 ∧ Admits s 1 (pgSAP h) 256 4 wr ∧ v.toNat / 256 % 16 ≠ 0 ∧ v.getLsbD 1 = false ∧ v.getLsbD 2 = false ∧ v.getLsbD 3 = true) ∧
    (∃ (s : State) (h : Nat) (v : BitVec 32) (wr : Code), h < 32 ∧ Admits s 1 (pgSAP h) 256 4 wr ∧ v.toNat / 256 % 16 ≠ 0 ∧ v.getLsbD 1 = true ∧ (v.getLsbD 2 = true ∨ ¬(s.r1 (pgSAP h) SAPPHIRE.SAP_BANK_FLIP_PENDING = 0 ∧ s.r1 (pgSAP h) SAPPHIRE.SAP_BANK_COPYING = 0))) ∧
    (∃ (s : State) (h : Nat) (v : BitVec 32) (wr : Code), h < 32 ∧ Admits s 1 (pgSAP h) 256 4 wr ∧ v.toNat / 256 % 16 ≠ 0 ∧ v.getLsbD 2 = true ∧ (v.getLsbD 1 = true ∨ ¬(s.r1 (pgSAP h) SAPPHIRE.SAP_BANK_FLIP_PENDING = 0 ∧ s.r1 (pgSAP h) SAPPHIRE.SAP_BANK_COPYING = 0))) ∧
    (∃ (s : State) (h : Nat) (v : BitVec 32) (wr : Code), h < 32 ∧ Admits s 1 (pgSAP h) 256 4 wr ∧ v.toNat / 256 % 16 = 0) ∧
    (∃ (s : State) (h : Nat), UnitUp s 1 (pgSAP h) Kind.kSAPPHIRE h ∧ s.r1 (pgSAP h) SAPPHIRE.SAP_BANK_COPYING = 1 ∧ Memory.wf s.sapRam = true) :=
  ⟨⟨sa.w1 (pgSAP 0) SAPPHIRE.SAP_ADDR 0x10004, 0, 2, by unfold Admits; decide +kernel⟩,
   ⟨z, 0, 2, by unfold Admits; decide +kernel⟩,
   ⟨z, 0, 1, 0, 2, by unfold Admits; decide +kernel⟩,
   ⟨z, 0, 0, 0, 2, by unfold Admits; decide +kernel⟩,
   ⟨z, 0, 0x102, 2, by unfold Admits; decide +kernel⟩,
   ⟨z, 0, 0x104, 2, by unfold Admits; decide +kernel⟩,
   ⟨z, 0, 0x108, 2, by unfold Admits; decide +kernel⟩,
   ⟨z, 0, 0x106, 2, by unfold Admits; decide +kernel⟩,
   ⟨z, 0, 0x106, 2, by unfold Admits; decide +kernel⟩,
   ⟨z, 0, 0, 2, by unfold Admits; decide +kernel⟩,
   ⟨sa.w1 (pgSAP 0) SAPPHIRE.SAP_BANK_COPYING 1, 0, by unfold UnitUp; decide +kernel⟩⟩

theorem wit_SignaturesAndCapturesAreReported :
    (∃ (s : State) (h : Nat), UnitUp s 1 (pgSAP h) Kind.kSAPPHIRE h ∧ (s.hd h).sigOpen = true ∧ (s.hd h).learning = false) ∧
    (∃ (s : State) (h : Nat) (c : Capture) (l : List Capture), UnitUp s 0 (pgHEAD h) Kind.kHEAD h ∧ (s.hd h).capWait = c :: l) :=
  ⟨⟨sg 0, 0, by unfold UnitUp; decide +kernel⟩,
   ⟨zh.setHd 0 { zh.hd 0 with capWait := [{ buf := true, frame := 9 }] }, 0, { buf := true, frame := 9 }, [], by unfold UnitUp; decide +kernel⟩⟩

theorem wit_HeadsSwitchOnAndOffAndFollowSync :
    (∃ (s : State) (h : Nat) (v : BitVec 32) (wr : Code), h < 32 ∧ Admits s 0 (pgHEAD h) 8 4 wr ∧ v.toNat % 8 = 1 ∧ s.r (pgHEAD h) CTRL_ENABLE = 0) ∧
    (∃ (s : State) (h : Nat) (v : BitVec 32) (wr : Code), h < 32 ∧ Admits s 0 (pgHEAD h) 8 4 wr ∧ v.toNat % 8 = 0 ∧ s.r (pgHEAD h) CTRL_ENABLE = 1) ∧
    (∃ (s : State) (h : Nat), h < 32 ∧ s.bellwether ≠ none ∧ s.enabled (pgHEAD h) = false) ∧
    (∃ (s : State) (h : Nat) (reason : Nat), h < 32 ∧ s.bellwether = none ∧ s.enabled (pgHEAD h) = false ∧ s.authority = false ∧ s.role ≠ 3 ∧ s.mirror.scheduled = some (1, reason)) ∧
    (∃ (s : State) (h : Nat), UnitUp s 0 (pgHEAD h) Kind.kHEAD h ∧ s.enabled (pgHEAD h) = true ∧ (s.hd h).begun = true ∧ s.runsFree h = false ∧ s.r (pgHEAD h) HEAD.SYNC_STAT_STATE ≠ 3 ∧ (s.hd h).jumpHeld = false ∧ (s.hd h).evtUsed = true) ∧
    (∃ (s : State) (h : Nat), UnitUp s 0 (pgHEAD h) Kind.kHEAD h ∧ s.enabled (pgHEAD h) = true ∧ (s.hd h).begun = true ∧ s.runsFree h = false ∧ s.r (pgHEAD h) HEAD.SYNC_STAT_STATE ≠ 3 ∧ (s.hd h).jumpHeld = false ∧ (s.hd h).evtUsed = false) ∧
    (∃ (s : State) (h : Nat), UnitUp s 0 (pgHEAD h) Kind.kHEAD h ∧ s.enabled (pgHEAD h) = true ∧ s.runsFree h = false ∧ (s.r (pgHEAD h) HEAD.SYNC_STAT_STATE = 1 ∨ s.r (pgHEAD h) HEAD.SYNC_STAT_STATE = 2)) :=
  ⟨⟨z, 0, 1, 1, by unfold Admits; decide +kernel⟩,
   ⟨zh, 0, 0, 1, by unfold Admits; decide +kernel⟩,
   ⟨zh, 1, by decide +kernel⟩,
   ⟨{ z.w pMIRROR MIRROR.ROLE 0 with mirror := { z.mirror with scheduled := some (1, 0) } }, 0, 0, by decide +kernel⟩,
   ⟨snc.setHd 0 { snc.hd 0 with evtUsed := true }, 0, by unfold UnitUp; decide +kernel⟩,
   ⟨snc, 0, by unfold UnitUp; decide +kernel⟩,
   ⟨snc.w (pgHEAD 0) HEAD.SYNC_STAT_STATE 1, 0, by unfold UnitUp; decide +kernel⟩⟩

theorem wit_VideoPortsTrainDropAndTalk :
    (∃ (s : State) (p : Nat) (wr : Code), p < 8 ∧ Admits s 0 (pgVP p) 260 4 wr ∧ s.portActs p = true) ∧
    (∃ (s : State) (p : Nat) (wr : Code), p < 8 ∧ Admits s 0 (pgVP p) 260 4 wr ∧ s.linkState p ≠ 0) ∧
    (∃ (s : State) (p : Nat) (wr : Code), p < 8 ∧ Admits s 0 (pgVP p) 260 4 wr ∧ s.linkState p = 0) ∧
    (∃ (s : State) (p : Nat) (r : Nat), UnitUp s 0 (pgVP p) Kind.kVP p ∧ s.fenced 0 (pgVP p) = false ∧ s.linkState p = 1 ∧ s.fc ≤ (s.port p).trainFc + 500 * msFc ∧ r ≤ nfld (BitVec.toNat (s.port p).cfg) 0 3 ∧ r < 4 ∧ nfld (BitVec.toNat (s.port p).cfg) 4 2 < 3) ∧
    (∃ (s : State) (p : Nat) (rate : Option Nat), UnitUp s 0 (pgVP p) Kind.kVP p ∧ s.fenced 0 (pgVP p) = false ∧ s.linkState p = 1 ∧ (∀ (r : Nat), rate = some r → (s.port p).trainFc + 500 * msFc < s.fc ∨ nfld (BitVec.toNat (s.port p).cfg) 0 3 < r)) ∧
    (∃ (s : State) (p : Nat), UnitUp s 0 (pgVP p) Kind.kVP p ∧ s.r (pgVP p) VP.LINK_STAT_HPD = 0 ∧ s.r (pgVP p) VP.LINK_CFG_AUTO = 1 ∧ s.fenced 0 (pgVP p) = false) ∧
    (∃ (s : State) (p : Nat), UnitUp s 0 (pgVP p) Kind.kVP p ∧ s.r (pgVP p) VP.LINK_STAT_HPD = 1 ∧ s.linkState p = 2) ∧
    (∃ (s : State) (p : Nat), UnitUp s 0 (pgVP p) Kind.kVP p ∧ s.linkState p = 2 ∧ s.r (pgVP p) VP.LINK_CFG_AUTO = 1 ∧ s.fenced 0 (pgVP p) = false) ∧
    (∃ (s : State) (p : Nat) (v : BitVec 32) (wr : Code), p < 8 ∧ Admits s 0 (pgVP p) 288 4 wr ∧ s.r (pgVP p) VP.AUX_STAT_BUSY = 0 ∧ s.portActs p = true ∧ v.getLsbD 31 = true) ∧
    (∃ (s : State) (p : Nat) (wr : Code), p < 8 ∧ Admits s 0 (pgVP p) 288 4 wr ∧ s.r (pgVP p) VP.AUX_STAT_BUSY = 1) ∧
    (∃ (s : State) (p : Nat) (result : Nat), UnitUp s 0 (pgVP p) Kind.kVP p ∧ s.r (pgVP p) VP.AUX_STAT_BUSY = 1 ∧ result < 4) :=
  ⟨⟨z, 0, 1, by unfold Admits; decide +kernel⟩,
   ⟨vp.w (pgVP 0) VP.LINK_STAT_STATE 1, 0, 1, by unfold Admits; decide +kernel⟩,
   ⟨z, 0, 1, by unfold Admits; decide +kernel⟩,
   ⟨vp.w (pgVP 0) VP.LINK_STAT_STATE 1, 0, 0, by unfold UnitUp; decide +kernel⟩,
   ⟨vp.w (pgVP 0) VP.LINK_STAT_STATE 1, 0, none, by unfold UnitUp; decide +kernel⟩,
   ⟨z, 0, by unfold UnitUp; decide +kernel⟩,
   ⟨(vp.w (pgVP 0) VP.LINK_STAT_STATE 2).w (pgVP 0) VP.LINK_STAT_HPD 1, 0, by unfold UnitUp; decide +kernel⟩,
   ⟨vp.w (pgVP 0) VP.LINK_STAT_STATE 2, 0, by unfold UnitUp; decide +kernel⟩,
   ⟨z, 0, 0x80000000, 1, by unfold Admits; decide +kernel⟩,
   ⟨vp.w (pgVP 0) VP.AUX_STAT_BUSY 1, 0, 1, by unfold Admits; decide +kernel⟩,
   ⟨vp.w (pgVP 0) VP.AUX_STAT_BUSY 1, 0, 0, by unfold UnitUp; decide +kernel⟩⟩

theorem wit_SelfTestsAreQueuedForcedAndEnd :
    (∃ (s : State) (e : Nat) (wr : Code), e < 32 ∧ Admits s 0 (pgPE e) 2304 4 wr ∧ s.r (pgPE e) PE.BIST_STAT_QUEUED = 0 ∧ s.r (pgPE e) PE.BIST_STAT_RUNNING = 0 ∧ s.fenced 0 (pgPE e) = false) ∧
    (∃ (s : State) (e : Nat) (wr : Code), e < 32 ∧ Admits s 0 (pgPE e) 2304 4 wr ∧ (s.r (pgPE e) PE.BIST_STAT_QUEUED = 1 ∨ s.r (pgPE e) PE.BIST_STAT_RUNNING = 1)) ∧
    (∃ (s : State) (e : Nat) (wr : Code), e < 32 ∧ Admits s 0 (pgPE e) 2304 4 wr ∧ s.servedBy e = e ∧ s.r (pgPE e) PE.BIST_STAT_RUNNING = 0 ∧ s.fenced 0 (pgPE e) = false) ∧
    (∃ (s : State) (e : Nat) (code : Nat), UnitUp s 0 (pgPE e) Kind.kPE e ∧ s.r (pgPE e) PE.BIST_STAT_RUNNING = 1 ∧ code < 256) ∧
    (∃ (s : State) (v : BitVec 32) (wr : Code), Admits s 0 (pgPE 32) 2432 4 wr ∧ v.getLsbD 1 = true ∧ s.resumeOk = true) ∧
    (∃ (s : State) (v : BitVec 32) (wr : Code), Admits s 0 (pgPE 32) 2432 4 wr ∧ v.getLsbD 1 = true ∧ s.resumeOk = false) ∧
    (∃ (s : State), s.relHead < 32) :=
  ⟨⟨z, 0, 1, by unfold Admits; decide +kernel⟩,
   ⟨pe.w (pgPE 0) PE.BIST_STAT_QUEUED 1, 0, 1, by unfold Admits; decide +kernel⟩,
   ⟨z, 0, 1, by unfold Admits; decide +kernel⟩,
   ⟨pe.w (pgPE 0) PE.BIST_STAT_RUNNING 1, 0, 0, by unfold UnitUp; decide +kernel⟩,
   ⟨pe.w (pgPE 32) PE.REL_STAT_PHASE 5, 2, 1, by unfold Admits; decide +kernel⟩,
   ⟨z, 2, 1, by unfold Admits; decide +kernel⟩,
   ⟨z, by decide +kernel⟩⟩

theorem wit_AluInstructionsGiveTheirResultsAndFlags :
    (∃ (s : State) (c : Nat) (d : Nat) (b : Opnd), Issues s c (opndLen b) (d :: opndRegs b)) ∧
    (∃ (d : Nat) (r : Nat), r % 16 ≠ d % 16) ∧
    (∃ (d : Nat) (r : Nat), d < 16 ∧ r < 16 ∧ 0 < r) ∧
    (∃ (d : Nat) (r : Nat) (q : BitVec 8), d < 16 ∧ r < 16 ∧ (q = 240 ∨ q = 241 ∨ q = 242 ∨ q = 243)) ∧
    (∃ (op : Nat), (13 ≤ op ∧ op ≤ 15 ∨ op = 46 ∨ op = 47 ∨ op = 62 ∨ op = 63 ∨ op = 71 ∨ op = 78 ∨ op = 79 ∨ 84 ≤ op ∧ op ≤ 87 ∨ 91 ≤ op ∧ op ≤ 95 ∨ 101 ≤ op ∧ op ≤ 111 ∨ 152 ≤ op ∧ op ≤ 239 ∨ 244 ≤ op ∧ op ≤ 255)) :=
  ⟨⟨cz id z, 1, 1, .reg 1, by unfold Issues; decide +kernel⟩,
   ⟨1, 0, by decide +kernel⟩,
   ⟨1, 1, by decide +kernel⟩,
   ⟨1, 1, 240, by decide +kernel⟩,
   ⟨15, by decide +kernel⟩⟩

theorem wit_RegisterInstructionsGiveTheirResultsAndFlags :
    (∃ (s : State) (c : Nat) (d : Nat) (r : Nat), Issues s c 2 [d, r]) ∧
    (∃ (s : State) (c : Nat) (d : Nat) (r : Nat), Issues s c 2 [d, r] ∧ (let x : Core := s.core c; let v : W32 := x.get r; v ≠ 0)) ∧
    (∃ (s : State) (c : Nat) (d : Nat) (r : Nat), Issues s c 2 [d, r] ∧ (let x : Core := s.core c; let v : W32 := x.get r; v = 0 ∧ x.rs.length < 16)) :=
  ⟨⟨cz id z, 1, 1, 1, by unfold Issues; decide +kernel⟩,
   ⟨cz id z, 1, 1, 1, by unfold Issues; decide +kernel⟩,
   ⟨cz id z, 1, 1, 15, by unfold Issues; decide +kernel⟩⟩

theorem wit_CallsReturnsAndEntriesKeepTheReturnStack :
    (∃ (s : State) (c : Nat), let x : Core := s.core c; let free : Nat := 16 - x.rs.length + (BitVec.toNat x.rsHi - BitVec.toNat x.rsp) / 4; Issues s c 5 [] ∧ 3 ≤ free ∧ x.rs.length < 16) ∧
    (∃ (s : State) (c : Nat), let x : Core := s.core c; let free : Nat := 16 - x.rs.length + (BitVec.toNat x.rsHi - BitVec.toNat x.rsp) / 4; Issues s c 5 [] ∧ 3 ≤ free ∧ x.rs.length = 16 ∧ x.stores.length < 8) ∧
    (∃ (s : State) (c : Nat), let x : Core := s.core c; let free : Nat := 16 - x.rs.length + (BitVec.toNat x.rsHi - BitVec.toNat x.rsp) / 4; Issues s c 5 [] ∧ free < 3 ∧ x.rs.length < 16) ∧
    (∃ (s : State) (c : Nat) (r : Nat), let x : Core := s.core c; let free : Nat := 16 - x.rs.length + (BitVec.toNat x.rsHi - BitVec.toNat x.rsp) / 4; Issues s c 2 [r] ∧ 3 ≤ free ∧ x.rs.length < 16) ∧
    (∃ (s : State) (c : Nat) (r : Nat), let x : Core := s.core c; let free : Nat := 16 - x.rs.length + (BitVec.toNat x.rsHi - BitVec.toNat x.rsp) / 4; Issues s c 2 [r] ∧ free < 3 ∧ x.rs.length < 16) ∧
    (∃ (s : State) (c : Nat) (e : BitVec 32) (l : List (BitVec 32)), Issues s c 1 [] ∧ (let x : Core := s.core c; x.rs = e :: l ∧ x.rs.length < 16 ∧ e.getLsbD 31 = true)) ∧
    (∃ (s : State) (c : Nat) (e : BitVec 32) (l : List (BitVec 32)), Issues s c 1 [] ∧ (let x : Core := s.core c; x.rs = e :: l ∧ x.rs.length < 16 ∧ e.getLsbD 31 = false)) ∧
    (∃ (s : State) (c : Nat), Issues s c 1 [] ∧ (let x : Core := s.core c; x.rs = [] ∧ x.rsp = x.rsLo)) ∧
    (∃ (s : State) (c : Nat), (s.core c).rs.length < 16 ∧ Issues s c 2 []) ∧
    (∃ (s : State) (c : Nat), (s.core c).rs.length < 16 ∧ Issues s c 0 []) ∧
    (∃ (s : State) (c : Nat) (src : Nat) (p : Nat), s.coreUp c = true ∧ s.fenced 0 (pgSC c) = false ∧ (s.core c).running = true ∧ (s.core c).lockup = false ∧ (s.core c).irq = some (src, p) ∧ (let x : Core := s.core c; x.rs.length < 16)) ∧
    (∃ (s : State) (c : Nat) (src : Nat) (p : Nat), s.coreUp c = true ∧ s.fenced 0 (pgSC c) = false ∧ (s.core c).running = true ∧ (s.core c).lockup = false ∧ (s.core c).irq = some (src, p) ∧ (let x : Core := s.core c; x.rs.length = 16 ∧ BitVec.toNat x.rsHi < BitVec.toNat x.rsp + 4)) ∧
    (∃ (x : Core), x.rprio < 8) :=
  ⟨⟨cz id z, 1, by unfold Issues; decide +kernel⟩,
   ⟨cz (fun x => { x with rs := l16 }) z, 1, by unfold Issues; decide +kernel⟩,
   ⟨cz (fun x => { x with rs := l16.drop 1, rsHi := 0x3004 }) z, 1, by unfold Issues; decide +kernel⟩,
   ⟨cz id z, 1, 1, by unfold Issues; decide +kernel⟩,
   ⟨cz (fun x => { x with rs := l16.drop 1, rsHi := 0x3004 }) z, 1, 1, by unfold Issues; decide +kernel⟩,
   ⟨cz (fun x => { x with rs := [0x83C20123, 5] }) z, 1, 0x83C20123, [5], by unfold Issues; decide +kernel⟩,
   ⟨cz (fun x => { x with rs := [0x123] }) z, 1, 0x123, [], by unfold Issues; decide +kernel⟩,
   ⟨cz id z, 1, by unfold Issues; decide +kernel⟩,
   ⟨cz id z, 1, by unfold Issues; decide +kernel⟩,
   ⟨cz id z, 1, by unfold Issues; decide +kernel⟩,
   ⟨cz (fun x => { x with irq := some (70, 3) }) z, 1, 70, 3, by decide +kernel⟩,
   ⟨cz (fun x => { x with irq := some (70, 3), rs := l16, rsHi := 0x3000 }) z, 1, 70, 3, by decide +kernel⟩,
   ⟨c0, by decide +kernel⟩⟩

theorem wit_TheDataStackPushesPopsSpillsAndRefills :
    (∃ (s : State) (c : Nat) (a : BitVec 32) (l : List (BitVec 32)), Issues s c 1 [] ∧ (let x : Core := s.core c; x.ds = a :: l ∧ x.ds.length < 8)) ∧
    (∃ (s : State) (c : Nat) (a : BitVec 32) (b : BitVec 32) (l : List (BitVec 32)), Issues s c 1 [] ∧ (let x : Core := s.core c; x.ds = a :: b :: l ∧ x.ds.length < 8)) ∧
    (∃ (s : State) (c : Nat), Issues s c 1 [] ∧ (let x : Core := s.core c; x.ds = [] ∧ x.dsp = x.dsLo ∧ x.rs.length < 16)) ∧
    (∃ (s : State) (c : Nat) (r : Nat), Issues s c 2 [r] ∧ (let x : Core := s.core c; x.ds.length < 8)) ∧
    (∃ (s : State) (c : Nat) (r : Nat), Issues s c 2 [r] ∧ (let x : Core := s.core c; x.ds.length = 8 ∧ BitVec.toNat x.dsp + 4 ≤ BitVec.toNat x.dsHi ∧ x.stores.length < 8)) ∧
    (∃ (s : State) (c : Nat) (r : Nat), Issues s c 2 [r] ∧ (let x : Core := s.core c; x.ds.length = 8 ∧ BitVec.toNat x.dsHi < BitVec.toNat x.dsp + 4 ∧ x.rs.length < 16)) ∧
    (∃ (s : State) (c : Nat) (r : Nat) (a : BitVec 32) (l : List (BitVec 32)), Issues s c 2 [r] ∧ (let x : Core := s.core c; x.ds = a :: l)) ∧
    (∃ (s : State) (c : Nat) (r : Nat), Issues s c 2 [r] ∧ (let x : Core := s.core c; x.ds = [] ∧ x.dsp ≠ x.dsLo ∧ x.stores = [] ∧ x.loads = [] ∧ s.padUp (c / 8) = true ∧ (let o : Nat := BitVec.toNat (x.dsp - 4) % 2 ^ 20; o % 4 = 0 ∧ s.padErrAt (c / 8) o = 0))) ∧
    (∃ (s : State) (c : Nat) (r : Nat), Issues s c 2 [r] ∧ (let x : Core := s.core c; x.ds = [] ∧ x.dsp = x.dsLo ∧ x.rs.length < 16)) ∧
    (∃ (s : State) (c : Nat), Issues s c 5 [] ∧ (s.core c).ds.length < 8) ∧
    (∃ (s : State) (c : Nat) (mask : BitVec 16), let x : Core := s.core c; let regs : List Nat := List.filter (fun i => mask.getLsbD i) (List.range 16); mask ≠ 0 ∧ Issues s c 3 regs ∧ x.ds.length + regs.length ≤ 8) ∧
    (∃ (s : State) (c : Nat) (mask : BitVec 16), let x : Core := s.core c; let regs : List Nat := List.filter (fun i => mask.getLsbD i) (List.range 16); mask ≠ 0 ∧ Issues s c 3 regs ∧ regs.length ≤ x.ds.length) ∧
    (∃ (s : State) (c : Nat) (mask : BitVec 16), let x : Core := s.core c; mask = 0 ∧ Issues s c 3 [] ∧ x.rs.length < 16) :=
  ⟨⟨cz (fun x => { x with ds := [7] }) z, 1, 7, [], by unfold Issues; decide +kernel⟩,
   ⟨cz (fun x => { x with ds := [7, 8] }) z, 1, 7, 8, [], by unfold Issues; decide +kernel⟩,
   ⟨cz id z, 1, by unfold Issues; decide +kernel⟩,
   ⟨cz id z, 1, 1, by unfold Issues; decide +kernel⟩,
   ⟨cz (fun x => { x with ds := l16.take 8 }) z, 1, 1, by unfold Issues; decide +kernel⟩,
   ⟨cz (fun x => { x with ds := l16.take 8, dsp := 0x2000 }) z, 1, 1, by unfold Issues; decide +kernel⟩,
   ⟨cz (fun x => { x with ds := [7] }) z, 1, 1, 7, [], by unfold Issues; decide +kernel⟩,
   ⟨cz (fun x => { x with dsp := 0x1008 }) z, 1, 1, by unfold Issues; decide +kernel⟩,
   ⟨cz id z, 1, 1, by unfold Issues; decide +kernel⟩,
   ⟨cz id z, 1, by unfold Issues; decide +kernel⟩,
   ⟨cz id z, 1, 1, by unfold Issues; decide +kernel⟩,
   ⟨cz (fun x => { x with ds := [7] }) z, 1, 1, by unfold Issues; decide +kernel⟩,
   ⟨cz id z, 1, 0, by unfold Issues; decide +kernel⟩⟩

theorem wit_SpecialRegistersAndCrcContextsServe :
    (∃ (s : State) (c : Nat) (d : Nat) (i : BitVec 8), Issues s c 3 [d] ∧ (let x : Core := s.core c; (21 ≤ i.toNat ∧ i.toNat < 32 ∨ 48 ≤ i.toNat) ∧ x.rs.length < 16)) ∧
    (∃ (s : State) (c : Nat) (k : Nat) (r : Nat), Issues s c 2 [r] ∧ k < 4) ∧
    (∃ (s : State) (c : Nat) (k : Nat) (r : Nat), Issues s c 2 [r] ∧ 3 < k ∧ (s.core c).rs.length < 16) ∧
    (∃ (s : State) (c : Nat) (r : Nat) (i : BitVec 8), Issues s c 3 [r] ∧ (s.core c).rs.length < 16 ∧ (i.toNat ∈ [2, 3, 7, 13, 14, 15, 16, 17, 18] ∨ 21 ≤ i.toNat ∧ i.toNat < 32 ∨ 48 ≤ i.toNat ∨ i = 0 ∧ 32 ≤ BitVec.toNat ((s.core c).get r) ∨ i = 1 ∧ 16 ≤ BitVec.toNat ((s.core c).get r))) ∧
    (∃ (k : Nat) (j : Nat), k < 4 ∧ j < 4) :=
  ⟨⟨cz id z, 1, 1, 24, by unfold Issues; decide +kernel⟩,
   ⟨cz id z, 1, 1, 1, by unfold Issues; decide +kernel⟩,
   ⟨cz id z, 1, 4, 1, by unfold Issues; decide +kernel⟩,
   ⟨cz id z, 1, 1, 0, by unfold Issues; decide +kernel⟩,
   ⟨1, 1, by decide +kernel⟩⟩

theorem wit_AnMtsTakesEffectForTheNextInstruction :
    (∃ (s : State) (c : Nat) (r : Nat) (i : BitVec 8), Issues s c 3 [r] ∧ (let x : Core := s.core c; let v : W32 := x.get r; i = 0 ∧ BitVec.toNat v < 32)) ∧
    (∃ (s : State) (c : Nat) (r : Nat) (i : BitVec 8), Issues s c 3 [r] ∧ (let x : Core := s.core c; let v : W32 := x.get r; i = 1 ∧ BitVec.toNat v < 16)) ∧
    (∃ (s : State) (c : Nat) (r : Nat) (i : BitVec 8), Issues s c 3 [r] ∧ (let x : Core := s.core c; let v : W32 := x.get r; let p : Nat × Core := (4, { x with dsp := v, running := x.running }); i.toNat = p.fst ∧ BitVec.toNat v % 4 = 0)) ∧
    (∃ (s : State) (c : Nat) (r : Nat) (i : BitVec 8), Issues s c 3 [r] ∧ (let x : Core := s.core c; let v : W32 := x.get r; let p : Nat × Core × Nat := (11, { x with evec := v, running := x.running }, 131072); i.toNat = p.fst ∧ BitVec.toNat v < p.snd.snd)) ∧
    (∃ (s : State) (c : Nat) (r : Nat) (i : BitVec 8) (k : Nat), Issues s c 3 [r] ∧ (let x : Core := s.core c; let v : W32 := x.get r; k < 4 ∧ (let e : CrcCtx := x.crc k; let w : Nat := BitVec.toNat e.cfg % 128; i.toNat = 36 + k ∧ BitVec.toNat v < 2 ^ w))) ∧
    (∃ (s : State) (c : Nat) (r : Nat) (i : BitVec 8) (k : Nat), Issues s c 3 [r] ∧ (let x : Core := s.core c; let v : W32 := x.get r; k < 4 ∧ (let e : CrcCtx := x.crc k; let w : Nat := BitVec.toNat e.cfg % 128; i.toNat = 40 + k ∧ BitVec.toNat v < 2 ^ w))) ∧
    (∃ (s : State) (c : Nat) (r : Nat) (i : BitVec 8) (k : Nat), Issues s c 3 [r] ∧ k < 4 ∧ i.toNat = 44 + k) ∧
    (∃ (s : State) (c : Nat) (r : Nat) (i : BitVec 8) (k : Nat), Issues s c 3 [r] ∧ (let x : Core := s.core c; let v : W32 := x.get r; k < 4 ∧ (let e : CrcCtx := x.crc k; let w : Nat := BitVec.toNat e.cfg % 128; i.toNat = 32 + k ∧ BitVec.toNat v < 8192 ∧ BitVec.getLsbD v 7 = false ∧ 1 ≤ BitVec.toNat v % 128 ∧ BitVec.toNat v % 128 ≤ 32 ∧ (let m : Nat := BitVec.toNat v % 128; w ≤ m)))) ∧
    (∃ (s : State) (c : Nat) (r : Nat) (i : BitVec 8) (k : Nat), Issues s c 3 [r] ∧ (let x : Core := s.core c; let v : W32 := x.get r; k < 4 ∧ (let e : CrcCtx := x.crc k; let w : Nat := BitVec.toNat e.cfg % 128; i.toNat = 32 + k ∧ BitVec.toNat v < 8192 ∧ BitVec.getLsbD v 7 = false ∧ 1 ≤ BitVec.toNat v % 128 ∧ BitVec.toNat v % 128 ≤ 32 ∧ (let m : Nat := BitVec.toNat v % 128; m < w)))) :=
  ⟨⟨cz (fun x => { x with g := [(0, 8), (1, 5), (2, 0x20), (15, 15), (3, 0x1000)] }) z, 1, 1, 0, by unfold Issues; decide +kernel⟩,
   ⟨cz (fun x => { x with g := [(0, 8), (1, 5), (2, 0x20), (15, 15), (3, 0x1000)] }) z, 1, 1, 1, by unfold Issues; decide +kernel⟩,
   ⟨cz id z, 1, 3, 4, by unfold Issues; decide +kernel⟩,
   ⟨cz (fun x => { x with g := [(0, 8), (1, 5), (2, 0x20), (15, 15), (3, 0x1000)] }) z, 1, 1, 11, by unfold Issues; decide +kernel⟩,
   ⟨cz id z, 1, 1, 36, 0, by unfold Issues; decide +kernel⟩,
   ⟨cz id z, 1, 1, 40, 0, by unfold Issues; decide +kernel⟩,
   ⟨cz id z, 1, 1, 44, 0, by unfold Issues; decide +kernel⟩,
   ⟨cz (fun x => { x with g := [(0, 8), (1, 5), (2, 0x20), (15, 15), (3, 0x1000)] }) z, 1, 2, 32, 0, by unfold Issues; decide +kernel⟩,
   ⟨cz (fun x => { x with g := [(0, 8), (1, 5), (2, 0x20), (15, 15), (3, 0x1000)] }) z, 1, 1, 32, 0, by unfold Issues; decide +kernel⟩⟩

theorem wit_LoadsAndStoresReachTheirTargets :
    (∃ (s : State) (c : Nat) (d : Nat) (base : Nat) (disp : Disp) (size : AccSize) (sx : Bool) (ord : Bool), Issues s c (2 + dispLen disp + prefixLen size sx ord) [d, base] ∧ (sx = false ∨ size ≠ AccSize.w) ∧ (let x : Core := s.core c; let addr : W32 := x.get base +
  match disp with
  | Disp.d16 v => BitVec.signExtend 32 v
  | Disp.d32 v => v; let tg : Target := s.coreTarget c addr; let n : Nat := accBytes size; BitVec.toNat addr % n = 0 ∧ tg ≠ Target.bad ∧ x.loads.length < 4 ∧ x.stores = [] ∧ (ord = false ∨ x.loads = []))) ∧
    (∃ (s : State) (c : Nat) (d : Nat) (base : Nat) (disp : Disp) (size : AccSize) (sx : Bool) (ord : Bool) (l : List StoreEnt) (o : Nat) (v : Nat), Issues s c (2 + dispLen disp + prefixLen size sx ord) [d, base] ∧ (sx = false ∨ size ≠ AccSize.w) ∧ (let x : Core := s.core c; let addr : W32 := x.get base +
  match disp with
  | Disp.d16 v => BitVec.signExtend 32 v
  | Disp.d32 v => v; let n : Nat := accBytes size; ord = false ∧ BitVec.toNat addr % n = 0 ∧ 1048576 ≤ BitVec.toNat addr ∧ BitVec.toNat addr < 2097152 ∧ x.loads.length < 4 ∧ x.stores = l ++ [{ target := Target.pad (c / 8) o, size := 4, data := BitVec.ofNat 32 v : StoreEnt }] ∧ o % 4 = 0 ∧ o / 4 = (BitVec.toNat addr - 1048576) / 4)) ∧
    (∃ (s : State) (c : Nat) (d : Nat) (base : Nat) (disp : Disp) (size : AccSize) (sx : Bool) (ord : Bool), Issues s c (2 + dispLen disp + prefixLen size sx ord) [d, base] ∧ (sx = false ∨ size ≠ AccSize.w) ∧ (let x : Core := s.core c; let addr : W32 := x.get base +
  match disp with
  | Disp.d16 v => BitVec.signExtend 32 v
  | Disp.d32 v => v; let tg : Target := s.coreTarget c addr; let n : Nat := accBytes size; x.rs.length < 16 ∧ BitVec.toNat addr % n = 0 ∧ tg = Target.bad)) ∧
    (∃ (s : State) (c : Nat) (d : Nat) (base : Nat) (disp : Disp) (size : AccSize) (sx : Bool) (ord : Bool), Issues s c (2 + dispLen disp + prefixLen size sx ord) [d, base] ∧ (sx = false ∨ size ≠ AccSize.w) ∧ (let x : Core := s.core c; let addr : W32 := x.get base +
  match disp with
  | Disp.d16 v => BitVec.signExtend 32 v
  | Disp.d32 v => v; let tg : Target := s.coreTarget c addr; let n : Nat := accBytes size; x.rs.length < 16 ∧ BitVec.toNat addr % n ≠ 0 ∧ tg ≠ Target.bad)) ∧
    (∃ (s : State) (c : Nat) (d : Nat) (base : Nat) (disp : Disp) (ord : Bool), Issues s c (2 + dispLen disp + prefixLen AccSize.w true ord) [d, base] ∧ (s.core c).rs.length < 16) ∧
    (∃ (s : State) (c : Nat) (base : Nat) (r : Nat) (disp : Disp) (size : AccSize) (ord : Bool), let x : Core := s.core c; let n : Nat := accBytes size; (ord = false ∨ x.stores = [] ∧ x.loads = []) ∧ x.stores.length < 8 ∧ (let len : Nat := 2 + dispLen disp + prefixLen size false ord; let addr : W32 := x.get base +
  match disp with
  | Disp.d16 v => BitVec.signExtend 32 v
  | Disp.d32 v => v; Issues s c len [base, r] ∧ BitVec.toNat addr % n = 0 ∧ s.coreTarget c addr ≠ Target.bad)) ∧
    (∃ (s : State) (c : Nat) (base : Nat) (size : AccSize) (ord : Bool) (dw : BitVec 32), let x : Core := s.core c; let n : Nat := accBytes size; (ord = false ∨ x.stores = [] ∧ x.loads = []) ∧ x.stores.length < 8 ∧ (let len : Nat := 10 + prefixLen size false ord; Issues s c len [base] ∧ BitVec.toNat (x.get base + dw) % n = 0 ∧ s.coreTarget c (x.get base + dw) ≠ Target.bad)) ∧
    (∃ (s : State) (c : Nat) (base : Nat) (r : Nat) (disp : Disp) (size : AccSize) (ord : Bool), (s.core c).rs.length < 16 ∧ (let x : Core := s.core c; let n : Nat := accBytes size; Issues s c (2 + dispLen disp + prefixLen size false ord) [base, r] ∧ (let addr : W32 := x.get base +
  match disp with
  | Disp.d16 v => BitVec.signExtend 32 v
  | Disp.d32 v => v; BitVec.toNat addr % n = 0 ∧ s.coreTarget c addr = Target.bad))) ∧
    (∃ (s : State) (c : Nat) (base : Nat) (r : Nat) (disp : Disp) (size : AccSize) (ord : Bool), (s.core c).rs.length < 16 ∧ (let x : Core := s.core c; let n : Nat := accBytes size; Issues s c (2 + dispLen disp + prefixLen size false ord) [base, r] ∧ (let addr : W32 := x.get base +
  match disp with
  | Disp.d16 v => BitVec.signExtend 32 v
  | Disp.d32 v => v; BitVec.toNat addr % n ≠ 0 ∧ s.coreTarget c addr ≠ Target.bad))) ∧
    (∃ (s : State) (c : Nat) (base : Nat) (dw : BitVec 32) (size : AccSize) (ord : Bool), (s.core c).rs.length < 16 ∧ (let x : Core := s.core c; let n : Nat := accBytes size; Issues s c (10 + prefixLen size false ord) [base] ∧ (let addr : W32 := x.get base + dw; BitVec.toNat addr % n = 0 ∧ s.coreTarget c addr = Target.bad))) ∧
    (∃ (s : State) (c : Nat) (base : Nat) (dw : BitVec 32) (size : AccSize) (ord : Bool), (s.core c).rs.length < 16 ∧ (let x : Core := s.core c; let n : Nat := accBytes size; Issues s c (10 + prefixLen size false ord) [base] ∧ (let addr : W32 := x.get base + dw; BitVec.toNat addr % n ≠ 0 ∧ s.coreTarget c addr ≠ Target.bad))) ∧
    (∃ (a : BitVec 32), a.toNat < 131072) ∧
    (∃ (a : BitVec 32), 1048576 ≤ a.toNat ∧ a.toNat < 2097152) ∧
    (∃ (a : BitVec 32), 2097152 ≤ a.toNat ∧ a.toNat < 3145728) ∧
    (∃ (a : BitVec 32), 3145728 ≤ a.toNat ∧ a.toNat < 4194304) ∧
    (∃ (s : State) (a : BitVec 32) (p : Nat), p < 8 ∧ p < s.variant.clusters ∧ 16777216 + p * 1048576 ≤ a.toNat ∧ a.toNat < 17825792 + p * 1048576) ∧
    (∃ (a : BitVec 32), 268435456 ≤ a.toNat ∧ a.toNat < 285212672) ∧
    (∃ (a : BitVec 32), 301989888 ≤ a.toNat ∧ a.toNat < 303038464) ∧
    (∃ (a : BitVec 32), 1073741824 ≤ a.toNat ∧ a.toNat < 2147483648) ∧
    (∃ (a : BitVec 32), 2147483648 ≤ a.toNat ∧ a.toNat < 3221225472) ∧
    (∃ (a : BitVec 32), (131072 ≤ a.toNat ∧ a.toNat < 1048576 ∨ 4194304 ≤ a.toNat ∧ a.toNat < 16777216 ∨ 25165824 ≤ a.toNat ∧ a.toNat < 268435456 ∨ 285474816 ≤ a.toNat ∧ a.toNat < 301989888 ∨ 303038464 ≤ a.toNat ∧ a.toNat < 1073741824 ∨ 3221225472 ≤ a.toNat)) ∧
    (∃ (s : State) (c : Nat) (i : Nat) (l : LoadEnt) (v : BitVec 32), (s.core c).loads[i]? = some l ∧ (∀ (e : LoadEnt), e ∈ List.take i (s.core c).loads → e.target.key ≠ l.target.key) ∧ l.data = some v) ∧
    (∃ (s : State) (c : Nat) (i : Nat) (l : LoadEnt) (p : Nat) (o : Nat), (s.core c).loads[i]? = some l ∧ (∀ (e : LoadEnt), e ∈ List.take i (s.core c).loads → e.target.key ≠ l.target.key) ∧ l.data = none ∧ l.target = Target.pad p o ∧ s.padUp p = true ∧ s.padErrAt p o = 0 ∧ o % 4 + l.size ≤ 4) ∧
    (∃ (s : State) (c : Nat) (i : Nat) (l : LoadEnt) (o : Nat), (s.core c).loads[i]? = some l ∧ (∀ (e : LoadEnt), e ∈ List.take i (s.core c).loads → e.target.key ≠ l.target.key) ∧ l.data = none ∧ l.target = Target.iram o) ∧
    (∃ (s : State) (c : Nat) (i : Nat) (e : StoreEnt) (p : Nat) (o : Nat), (s.core c).stores[i]? = some e ∧ (∀ (f : StoreEnt), f ∈ List.take i (s.core c).stores → f.target.key ≠ e.target.key) ∧ (s.core c).loads = [] ∧ e.target = Target.pad p o ∧ s.padUp p = true) ∧
    (∃ (s : State) (c : Nat) (i : Nat) (e : StoreEnt) (p : Nat) (o : Nat), (s.core c).stores[i]? = some e ∧ (∀ (f : StoreEnt), f ∈ List.take i (s.core c).stores → f.target.key ≠ e.target.key) ∧ (s.core c).loads = [] ∧ e.target = Target.padSet p o ∧ s.padUp p = true) ∧
    (∃ (s : State) (c : Nat) (i : Nat) (e : StoreEnt) (p : Nat) (o : Nat), (s.core c).stores[i]? = some e ∧ (∀ (f : StoreEnt), f ∈ List.take i (s.core c).stores → f.target.key ≠ e.target.key) ∧ (s.core c).loads = [] ∧ e.target = Target.padClr p o ∧ s.padUp p = true) ∧
    (∃ (s : State) (c : Nat) (i : Nat) (e : StoreEnt) (o : Nat), (s.core c).stores[i]? = some e ∧ (∀ (f : StoreEnt), f ∈ List.take i (s.core c).stores → f.target.key ≠ e.target.key) ∧ (s.core c).loads = [] ∧ e.target = Target.iram o ∧ s.domainOn 0 (pgSC c) = true) ∧
    (∃ (s : State) (c : Nat) (i : Nat) (e : StoreEnt) (a : Nat), (s.core c).stores[i]? = some e ∧ (∀ (f : StoreEnt), f ∈ List.take i (s.core c).stores → f.target.key ≠ e.target.key) ∧ (s.core c).loads = [] ∧ e.target = Target.mem a ∧ s.canWrite Master.core a e.size = true ∧ s.host.tracked = []) ∧
    (∃ (s : State) (p : Nat) (o : Nat) (a : Nat) (b : Nat) (d : Nat), s.has 0 (pgPK p) Kind.kPK p = true ∧ s.padUp p = true ∧ o % 4 = 0 ∧ o + 4 ≤ 2 ^ 20 ∧ s.padErrAt p o = 0 ∧ a < b ∧ b < d ∧ d < 8) :=
  ⟨⟨ad 0x100008, 1, 1, 1, .d16 0, .b, false, false, by unfold Issues; decide +kernel⟩,
   ⟨(ad 0x100008).setCore 1 { (ad 0x100008).core 1 with stores := [se (.pad 0 8)] }, 1, 1, 1, .d16 0, .b, false, false, [], 8, 0xFFEEDDCC, by unfold Issues; decide +kernel⟩,
   ⟨ad 0x100008, 1, 1, 2, .d16 0, .b, false, false, by unfold Issues; decide +kernel⟩,
   ⟨ad 0x10000A, 1, 1, 1, .d16 0, .w, false, false, by unfold Issues; decide +kernel⟩,
   ⟨ad 0x100008, 1, 1, 1, .d16 0, false, by unfold Issues; decide +kernel⟩,
   ⟨ad 0x100008, 1, 1, 1, .d16 0, .b, false, by unfold Issues; decide +kernel⟩,
   ⟨ad 0x100008, 1, 1, .b, false, 0, by unfold Issues; decide +kernel⟩,
   ⟨ad 0x100008, 1, 2, 1, .d16 0, .b, false, by unfold Issues; decide +kernel⟩,
   ⟨ad 0x10000A, 1, 1, 1, .d16 0, .w, false, by unfold Issues; decide +kernel⟩,
   ⟨ad 0x100008, 1, 1, 0x300008, .b, false, by unfold Issues; decide +kernel⟩,
   ⟨ad 0x100008, 1, 1, 0x1234FE, .w, false, by unfold Issues; decide +kernel⟩,
   ⟨0, by decide +kernel⟩,
   ⟨0x100008, by decide +kernel⟩,
   ⟨0x200008, by decide +kernel⟩,
   ⟨0x300008, by decide +kernel⟩,
   ⟨ad 0x100008, 0x1000010, 0, by decide +kernel⟩,
   ⟨0x10050110, by decide +kernel⟩,
   ⟨0x12010004, by decide +kernel⟩,
   ⟨0x40000000, by decide +kernel⟩,
   ⟨0x80000000, by decide +kernel⟩,
   ⟨0x20000, by decide +kernel⟩,
   ⟨cz (fun x => { x with loads := [le (.pad 0 8) (some 0x1234FE)] }) z, 1, 0, le (.pad 0 8) (some 0x1234FE), 0x1234FE, by decide +kernel⟩,
   ⟨cz (fun x => { x with loads := [le (.pad 0 8) none] }) z, 1, 0, le (.pad 0 8) none, 0, 8, by decide +kernel⟩,
   ⟨cz (fun x => { x with loads := [le (.iram 16) none] }) z, 1, 0, le (.iram 16) none, 16, by decide +kernel⟩,
   ⟨(ad 0x100008).setCore 1 { (ad 0x100008).core 1 with stores := [se (.pad 0 8)] }, 1, 0, se (.pad 0 8), 0, 8, by decide +kernel⟩,
   ⟨cz (fun x => { x with stores := [se (.padSet 0 8)] }) z, 1, 0, se (.padSet 0 8), 0, 8, by decide +kernel⟩,
   ⟨cz (fun x => { x with stores := [se (.padClr 0 8)] }) z, 1, 0, se (.padClr 0 8), 0, 8, by decide +kernel⟩,
   ⟨cz (fun x => { x with stores := [se (.iram 16)] }) z, 1, 0, se (.iram 16), 16, by decide +kernel⟩,
   ⟨cz (fun x => { x with stores := [se (.mem (pb 1 + 8))] }) z, 1, 0, se (.mem (pb 1 + 8)), pb 1 + 8, by decide +kernel⟩,
   ⟨ad 0x100008, 1, 8, 0, 1, 2, by decide +kernel⟩⟩

theorem wit_CoresWaitResumeAndStop :
    (∃ (s : State) (c : Nat), Issues s c 1 [] ∧ (let x : Core := s.core c; x.stores = [] ∧ x.loads = [])) ∧
    (∃ (s : State) (c : Nat) (d : Nat) (r : Nat), Issues s c 2 [d, r] ∧ (let x : Core := s.core c; let h : Nat := BitVec.toNat (x.get d) % 32; let l0 : Nat := BitVec.toNat (x.get r) % 4096; let l1 : Nat := BitVec.toNat (x.get r) / 65536 % 4096; let beam : Nat := s.r (pgHEAD h) HEAD.BEAM_LINE; (s.present 0 (pgHEAD h) = true ∧ s.enabled (pgHEAD h) = true ∧ l0 < (s.mode h).vTot ∧ l1 < (s.mode h).vTot) ∧ (if l0 ≤ l1 then l0 ≤ beam ∧ beam ≤ l1 else l0 ≤ beam ∨ beam ≤ l1))) ∧
    (∃ (s : State) (c : Nat) (d : Nat) (r : Nat), Issues s c 2 [d, r] ∧ (let x : Core := s.core c; let h : Nat := BitVec.toNat (x.get d) % 32; let l0 : Nat := BitVec.toNat (x.get r) % 4096; let l1 : Nat := BitVec.toNat (x.get r) / 65536 % 4096; let beam : Nat := s.r (pgHEAD h) HEAD.BEAM_LINE; (s.present 0 (pgHEAD h) = true ∧ s.enabled (pgHEAD h) = true ∧ l0 < (s.mode h).vTot ∧ l1 < (s.mode h).vTot) ∧ (¬if l0 ≤ l1 then l0 ≤ beam ∧ beam ≤ l1 else l0 ≤ beam ∨ beam ≤ l1))) ∧
    (∃ (s : State) (c : Nat) (d : Nat) (r : Nat), Issues s c 2 [d, r] ∧ (let x : Core := s.core c; let h : Nat := BitVec.toNat (x.get d) % 32; let l0 : Nat := BitVec.toNat (x.get r) % 4096; let l1 : Nat := BitVec.toNat (x.get r) / 65536 % 4096; (¬(s.present 0 (pgHEAD h) = true ∧ s.enabled (pgHEAD h) = true ∧ l0 < (s.mode h).vTot ∧ l1 < (s.mode h).vTot)))) ∧
    (∃ (s : State) (c : Nat) (h : Nat) (l0 : Nat) (l1 : Nat), c < 64 ∧ (s.core c).waiting = some (h, l0, l1) ∧ (s.core c).irq = none ∧ (let beam : Nat := s.r (pgHEAD h) HEAD.BEAM_LINE; l0 ≤ beam ∧ beam ≤ l1)) ∧
    (∃ (s : State) (c : Nat) (h : Nat) (l0 : Nat) (l1 : Nat), c < 64 ∧ (s.core c).waiting = some (h, l0, l1) ∧ (s.core c).irq = none ∧ (let beam : Nat := s.r (pgHEAD h) HEAD.BEAM_LINE; beam < l0 ∧ l0 ≤ l1)) ∧
    (∃ (s : State) (c : Nat) (v : BitVec 32) (wr : Code), c < 64 ∧ Admits s 0 (pgSC c) 280 4 wr ∧ v.getLsbD 0 = true ∧ (s.core c).halted = true) ∧
    (∃ (s : State) (c : Nat) (wr : Code), c < 64 ∧ Admits s 0 (pgSC c) 280 4 wr ∧ (s.core c).halted = false) ∧
    (∃ (s : State) (c : Nat) (v : BitVec 32) (wr : Code), c < 64 ∧ Admits s 0 (pgSC c) 8 4 wr ∧ v.toNat % 8 = 0) ∧
    (∃ (s : State) (c : Nat) (v : BitVec 32) (wr : Code), c < 64 ∧ Admits s 0 (pgSC c) 8 4 wr ∧ v.toNat % 8 = 1 ∧ s.fenced 0 (pgSC c) = false ∧ (s.core c).running = false ∧ (s.core c).lockup = false) :=
  ⟨⟨cz id z, 1, by unfold Issues; decide +kernel⟩,
   ⟨cz (fun x => { x with g := [(1, 0), (2, 0x00050002)] }) zh, 1, 1, 1, by unfold Issues; decide +kernel⟩,
   ⟨cz (fun x => { x with g := [(1, 0), (2, 0x00050002)] }) zh, 1, 1, 2, by unfold Issues; decide +kernel⟩,
   ⟨cz id z, 1, 1, 1, by unfold Issues; decide +kernel⟩,
   ⟨cz (fun x => { x with waiting := some (0, 2, 5) }) (zh.w (pgHEAD 0) HEAD.BEAM_LINE 3), 1, 0, 2, 5, by decide +kernel⟩,
   ⟨cz (fun x => { x with waiting := some (0, 4, 5) }) (zh.w (pgHEAD 0) HEAD.BEAM_LINE 3), 1, 0, 4, 5, by decide +kernel⟩,
   ⟨cz (fun x => { x with halted := true }) z, 1, 1, 1, by unfold Admits; decide +kernel⟩,
   ⟨cz id z, 1, 1, by unfold Admits; decide +kernel⟩,
   ⟨cz id z, 1, 0, 1, by unfold Admits; decide +kernel⟩,
   ⟨cz id z, 0, 1, 1, by unfold Admits; decide +kernel⟩⟩

theorem wit_BlitterListsAreSubmittedResumedAndFlushed :
    (∃ (s : State) (v : BitVec 64) (wr : Code), Admits s 0 pBLITTER 264 8 wr ∧ v.toNat % 64 = 0 ∧ s.inPart 1 v.toNat 64 = true ∧ s.active pBLITTER = true ∧ s.r pBLITTER BLITTER.STATUS_RACE_HALT = 0 ∧ s.blt.race.cur = none ∧ s.blt.race.queue = []) ∧
    (∃ (s : State) (v : BitVec 64) (wr : Code), Admits s 0 pBLITTER 264 8 wr ∧ v.toNat % 64 = 0 ∧ s.inPart 1 v.toNat 64 = true ∧ s.blt.race.queue.length < 16 ∧ (s.blt.race.cur ≠ none ∨ s.r pBLITTER BLITTER.STATUS_RACE_HALT = 1)) ∧
    (∃ (s : State) (v : BitVec 64) (wr : Code), Admits s 0 pBLITTER 264 8 wr ∧ v.toNat % 64 = 0 ∧ s.inPart 1 v.toNat 64 = true ∧ 16 ≤ s.blt.race.queue.length) ∧
    (∃ (s : State) (v : BitVec 64) (wr : Code), Admits s 0 pBLITTER 264 8 wr ∧ (v.toNat % 64 ≠ 0 ∨ s.inPart 1 v.toNat 64 = false)) ∧
    (∃ (s : State) (v : BitVec 64) (wr : Code), Admits s 0 pBLITTER 272 8 wr ∧ v.toNat % 64 = 0 ∧ s.inPart 1 v.toNat 64 = true ∧ s.active pBLITTER = true ∧ s.r pBLITTER BLITTER.STATUS_BATCH_HALT = 0 ∧ s.blt.batch.cur = none ∧ s.blt.batch.queue = []) ∧
    (∃ (s : State) (v : BitVec 64) (wr : Code), Admits s 0 pBLITTER 272 8 wr ∧ v.toNat % 64 = 0 ∧ s.inPart 1 v.toNat 64 = true ∧ s.blt.batch.queue.length < 16 ∧ (s.blt.batch.cur ≠ none ∨ s.r pBLITTER BLITTER.STATUS_BATCH_HALT = 1)) ∧
    (∃ (s : State) (v : BitVec 64) (wr : Code), Admits s 0 pBLITTER 272 8 wr ∧ v.toNat % 64 = 0 ∧ s.inPart 1 v.toNat 64 = true ∧ 16 ≤ s.blt.batch.queue.length) ∧
    (∃ (s : State) (v : BitVec 64) (wr : Code), Admits s 0 pBLITTER 272 8 wr ∧ (v.toNat % 64 ≠ 0 ∨ s.inPart 1 v.toNat 64 = false)) ∧
    (∃ (s : State) (wr : Code), Admits s 0 pBLITTER 284 4 wr ∧ (s.blt.race.cur = none ∨ ∃ l, s.blt.race.cur = some l ∧ l.rowAt = 0)) ∧
    (∃ (s : State) (wr : Code), Admits s 0 pBLITTER 284 4 wr ∧ (s.blt.batch.cur = none ∨ ∃ l, s.blt.batch.cur = some l ∧ l.rowAt = 0)) ∧
    (∃ (s : State) (wr : Code) (l : BltList), Admits s 0 pBLITTER 284 4 wr ∧ s.blt.batch.cur = some l ∧ l.rowAt ≠ 0) ∧
    (∃ (s : State) (c : BltClass) (l : BltList) (q : List BltList), s.active pBLITTER = true ∧ s.r pBLITTER (clsHalt c) = 0 ∧ (s.bltCls c).cur = none ∧ (s.bltCls c).queue = l :: q) ∧
    (∃ (s : State) (l : BltList), s.domainOn 0 pBLITTER = true ∧ s.blt.race.cur = some l ∧ l.begun = true ∧ l.wmEn = true ∧ l.late = false ∧ s.present 0 (pgHEAD l.wmHead) = true ∧ s.enabled (pgHEAD l.wmHead) = true ∧ s.beam l.wmHead = l.wmLine ∧ l.onLine ≠ some (s.hd l.wmHead).frame) ∧
    (∃ (s : State) (l : BltList), s.domainOn 0 pBLITTER = true ∧ s.blt.race.cur = some l ∧ (l.late = true ∨ l.onLine = some (s.hd l.wmHead).frame)) ∧
    (∃ (s : State) (c : BltClass) (f : Nat), s.domainOn 0 pBLITTER = true ∧ (s.bltCls c).pause = some f) :=
  ⟨⟨z, BitVec.ofNat _ (cP), 1, by unfold Admits; decide +kernel⟩,
   ⟨run1 .race cL [] z, BitVec.ofNat _ (cP), 1, by unfold Admits; decide +kernel⟩,
   ⟨run1 .race cL (List.replicate 16 cL) z, BitVec.ofNat _ (cP), 1, by unfold Admits; decide +kernel⟩,
   ⟨z, BitVec.ofNat _ (cP + 1), 1, by unfold Admits; decide +kernel⟩,
   ⟨z, BitVec.ofNat _ (cP), 1, by unfold Admits; decide +kernel⟩,
   ⟨run1 .batch cL [] z, BitVec.ofNat _ (cP), 1, by unfold Admits; decide +kernel⟩,
   ⟨run1 .batch cL (List.replicate 16 cL) z, BitVec.ofNat _ (cP), 1, by unfold Admits; decide +kernel⟩,
   ⟨z, BitVec.ofNat _ (cP + 1), 1, by unfold Admits; decide +kernel⟩,
   ⟨z, 1, by unfold Admits; decide +kernel⟩,
   ⟨z, 1, by unfold Admits; decide +kernel⟩,
   ⟨run1 .batch { cL with rowAt := 1 } [] z, 1, { cL with rowAt := 1 }, by unfold Admits; decide +kernel⟩,
   ⟨z.setBltCls .race { queue := [cL] }, .race, cL, [], by decide +kernel⟩,
   ⟨run1 .race { cL with begun := true, wmEn := true, wmLine := bell.beam 0 } [] bell, { cL with begun := true, wmEn := true, wmLine := bell.beam 0 }, by decide +kernel⟩,
   ⟨run1 .race { cL with begun := true, wmEn := true, wmLine := bell.beam 0, onLine := some 0 } [] bell, { cL with begun := true, wmEn := true, wmLine := bell.beam 0, onLine := some 0 }, by decide +kernel⟩,
   ⟨z.setBltCls .batch { pause := some 77 }, .batch, 77, by decide +kernel⟩⟩

theorem wit_BlitterCommandsDoWhatTheirWordsSay :
    (∃ (s : State) (c : BltClass) (l : BltList), NextCommand s c l 0) ∧
    (∃ (s : State) (c : BltClass) (l : BltList) (op : Nat), NextCommand s c l op ∧ (bltKnown (op % 256) = false ∨ op % 256 = 0 ∧ op ≠ 0)) ∧
    (∃ (s : State) (c : BltClass) (l : BltList) (rows : Option Nat), NextCommand s c l 1 ∧ (let ws : List Nat := s.bltWords l.pc; rectFault ws = none ∧ (rectOf ws).w ≠ 0 ∧ (rectOf ws).h ≠ 0 ∧ (∀ (j : Nat), j ∈ RowsNow c rows ws 0 → s.bltRowDenied (rectOf ws) j = none))) ∧
    (∃ (s : State) (c : BltClass) (l : BltList) (rows : Option Nat), NextCommand s c l 2 ∧ (let ws : List Nat := s.bltWords l.pc; rectFault ws = none ∧ (rectOf ws).w ≠ 0 ∧ (rectOf ws).h ≠ 0 ∧ (∀ (j : Nat), j ∈ RowsNow c rows ws 0 → s.bltRowDenied (rectOf ws) j = none))) ∧
    (∃ (s : State) (c : BltClass) (l : BltList) (rows : Option Nat), NextCommand s c l 3 ∧ (let ws : List Nat := s.bltWords l.pc; rectFault ws = none ∧ (rectOf ws).w ≠ 0 ∧ (rectOf ws).h ≠ 0 ∧ (∀ (j : Nat), j ∈ RowsNow c rows ws 0 → s.bltRowDenied (rectOf ws) j = none))) ∧
    (∃ (s : State) (c : BltClass) (l : BltList) (rows : Option Nat), NextCommand s c l 4 ∧ (let ws : List Nat := s.bltWords l.pc; rectFault ws = none ∧ (rectOf ws).w ≠ 0 ∧ (rectOf ws).h ≠ 0 ∧ (∀ (j : Nat), j ∈ RowsNow c rows ws 0 → s.bltRowDenied (rectOf ws) j = none))) ∧
    (∃ (s : State) (c : BltClass) (l : BltList) (rows : Option Nat), NextCommand s c l 5 ∧ (let ws : List Nat := s.bltWords l.pc; rectFault ws = none ∧ (rectOf ws).w ≠ 0 ∧ (rectOf ws).h ≠ 0 ∧ (∀ (j : Nat), j ∈ RowsNow c rows ws 0 → s.bltRowDenied (rectOf ws) j = none))) ∧
    (∃ (s : State) (c : BltClass) (l : BltList) (err : BltErr), NextCommand s c l 1 ∧ err = BltErr.list) ∧
    (∃ (s : State) (c : BltClass) (l : BltList) (err : BltErr), NextCommand s c l 1 ∧ (let ws : List Nat := s.bltWords l.pc; err ≠ BltErr.list ∧ ((rectOf ws).w = 0 ∨ (rectOf ws).h = 0) ∧ rectFault ws = none)) ∧
    (∃ (s : State) (c : BltClass) (l : BltList) (err : BltErr) (code : Nat), NextCommand s c l 1 ∧ (let ws : List Nat := s.bltWords l.pc; err ≠ BltErr.list ∧ rectFault ws = some code)) ∧
    (∃ (s : State) (c : BltClass) (l : BltList) (err : BltErr), NextCommand s c l 2 ∧ err = BltErr.list) ∧
    (∃ (s : State) (c : BltClass) (l : BltList) (err : BltErr), NextCommand s c l 2 ∧ (let ws : List Nat := s.bltWords l.pc; err ≠ BltErr.list ∧ ((rectOf ws).w = 0 ∨ (rectOf ws).h = 0) ∧ rectFault ws = none)) ∧
    (∃ (s : State) (c : BltClass) (l : BltList) (err : BltErr) (code : Nat), NextCommand s c l 2 ∧ (let ws : List Nat := s.bltWords l.pc; err ≠ BltErr.list ∧ rectFault ws = some code)) ∧
    (∃ (s : State) (c : BltClass) (l : BltList) (err : BltErr), NextCommand s c l 3 ∧ err = BltErr.list) ∧
    (∃ (s : State) (c : BltClass) (l : BltList) (err : BltErr), NextCommand s c l 3 ∧ (let ws : List Nat := s.bltWords l.pc; err ≠ BltErr.list ∧ ((rectOf ws).w = 0 ∨ (rectOf ws).h = 0) ∧ rectFault ws = none)) ∧
    (∃ (s : State) (c : BltClass) (l : BltList) (err : BltErr) (code : Nat), NextCommand s c l 3 ∧ (let ws : List Nat := s.bltWords l.pc; err ≠ BltErr.list ∧ rectFault ws = some code)) ∧
    (∃ (s : State) (c : BltClass) (l : BltList) (err : BltErr), NextCommand s c l 4 ∧ err = BltErr.list) ∧
    (∃ (s : State) (c : BltClass) (l : BltList) (err : BltErr), NextCommand s c l 4 ∧ (let ws : List Nat := s.bltWords l.pc; err ≠ BltErr.list ∧ ((rectOf ws).w = 0 ∨ (rectOf ws).h = 0) ∧ rectFault ws = none)) ∧
    (∃ (s : State) (c : BltClass) (l : BltList) (err : BltErr) (code : Nat), NextCommand s c l 4 ∧ (let ws : List Nat := s.bltWords l.pc; err ≠ BltErr.list ∧ rectFault ws = some code)) ∧
    (∃ (s : State) (c : BltClass) (l : BltList) (err : BltErr), NextCommand s c l 5 ∧ err = BltErr.list) ∧
    (∃ (s : State) (c : BltClass) (l : BltList) (err : BltErr), NextCommand s c l 5 ∧ (let ws : List Nat := s.bltWords l.pc; err ≠ BltErr.list ∧ ((rectOf ws).w = 0 ∨ (rectOf ws).h = 0) ∧ rectFault ws = none)) ∧
    (∃ (s : State) (c : BltClass) (l : BltList) (err : BltErr) (code : Nat), NextCommand s c l 5 ∧ (let ws : List Nat := s.bltWords l.pc; err ≠ BltErr.list ∧ rectFault ws = some code)) ∧
    (∃ (s : State) (l : BltList) (rows : Option Nat), s.active pBLITTER = true ∧ s.r pBLITTER BLITTER.STATUS_BATCH_HALT = 0 ∧ s.blt.batch.cur = some l ∧ s.blt.batch.pause = none ∧ l.waiting = false ∧ l.begun = true ∧ l.rowAt ≠ 0 ∧ l.stop = false ∧ s.raceRunnable = false ∧ s.b pMEMCTL MEMCTL.TRAIN_STAT_RUNNING = false ∧ rectFault l.words = none ∧ (rectOf l.words).w ≠ 0 ∧ (rectOf l.words).h ≠ 0 ∧ (∀ (j : Nat), j ∈ RowsNow BltClass.batch rows l.words l.rowAt → s.bltRowDenied (rectOf l.words) j = none) ∧ (let p : Instr × Nat := (Instr.bltCopy BltClass.batch BltErr.none rows, 1); l.words.getD 0 0 = p.snd)) ∧
    (∃ (s : State) (c : BltClass) (l : BltList) (op : Nat) (rows : Option Nat) (j : Nat) (k : Nat) (a : Nat), NextCommand s c l op ∧ (let ws : List Nat := s.bltWords l.pc; let r : Rect := rectOf ws; rectFault ws = none ∧ r.w ≠ 0 ∧ r.h ≠ 0 ∧ rows ≠ some 0 ∧ r.rows.head? = some j ∧ (let p : (BltErr → Instr) × Nat := (fun e => Instr.bltCopy c e rows, 1); p.snd = op ∧ s.bltRowDenied r j = some (k, a)))) ∧
    (∃ (s : State) (c : BltClass) (l : BltList) (op : Nat) (rows : Option Nat) (j : Nat) (n : Nat), NextCommand s c l op ∧ (let ws : List Nat := s.bltWords l.pc; let r : Rect := rectOf ws; rectFault ws = none ∧ r.w ≠ 0 ∧ r.h ≠ 0 ∧ rows ≠ some 0 ∧ r.rows.head? = some j ∧ (let p : (BltErr → Instr) × Nat := (fun e => Instr.bltCopy c e rows, 1); p.snd = op ∧ op ≠ 2 ∧ s.bltRowDenied r j = none ∧ n < r.units))) ∧
    (∃ (s : State) (c : BltClass) (l : BltList), NextCommand s c l 7 ∧ (let a : Nat := (s.bltWords l.pc).getD 2 0 + (s.bltWords l.pc).getD 3 0 * 2 ^ 32; a % 64 = 0 ∧ (∀ (k : Nat), k < 32 → s.canRead Master.blitter (a + 64 * k) 64 = true))) ∧
    (∃ (s : State) (c : BltClass) (l : BltList) (err : BltErr), NextCommand s c l 7 ∧ (let a : Nat := (s.bltWords l.pc).getD 2 0 + (s.bltWords l.pc).getD 3 0 * 2 ^ 32; (err = BltErr.list ∨ err ≠ BltErr.none ∧ a % 64 = 0 ∧ ∀ (k : Nat), k < 32 → s.canRead Master.blitter (a + 64 * k) 64 = true))) ∧
    (∃ (s : State) (c : BltClass) (l : BltList), NextCommand s c l 6 ∧ (let q : Nat × Nat × Nat := waitOf (s.bltWords l.pc); s.present 0 (pgHEAD q.fst) = true ∧ s.enabled (pgHEAD q.fst) = true ∧ q.snd.fst < (s.mode q.fst).vTot ∧ q.snd.snd < (s.mode q.fst).vTot)) ∧
    (∃ (s : State) (c : BltClass) (l : BltList), NextCommand s c l 6 ∧ (let q : Nat × Nat × Nat := waitOf (s.bltWords l.pc); (s.present 0 (pgHEAD q.fst) = false ∨ s.enabled (pgHEAD q.fst) = false ∨ (s.mode q.fst).vTot ≤ q.snd.fst ∨ (s.mode q.fst).vTot ≤ q.snd.snd))) ∧
    (∃ (s : State) (c : BltClass) (l : BltList), s.active pBLITTER = true ∧ (s.bltCls c).cur = some l ∧ l.waiting = true ∧ l.stop = false ∧ inWindow (waitOf l.words).snd.fst (waitOf l.words).snd.snd (s.beam (waitOf l.words).fst) = true) ∧
    (∃ (s : State) (c : BltClass) (l : BltList), NextCommand s c l 8) ∧
    (∃ (s : State) (c : BltClass) (l : BltList), NextCommand s c l 14 ∧ (let a : Nat := (s.bltWords l.pc).getD 2 0 + (s.bltWords l.pc).getD 3 0 * 2 ^ 32; a % 64 = 0 ∧ s.inPart 1 a 64 = true)) ∧
    (∃ (s : State) (c : BltClass) (l : BltList), NextCommand s c l 14 ∧ (let a : Nat := (s.bltWords l.pc).getD 2 0 + (s.bltWords l.pc).getD 3 0 * 2 ^ 32; (a % 64 ≠ 0 ∨ s.inPart 1 a 64 = false))) ∧
    (∃ (s : State) (l : BltList), NextCommand s BltClass.race l 15 ∧ s.blt.race.queue = []) ∧
    (∃ (s : State) (l : BltList) (m : BltList) (q : List BltList), NextCommand s BltClass.batch l 15 ∧ s.blt.batch.queue = m :: q) ∧
    (∃ (s : State) (c : BltClass) (l : BltList), NextCommand s c l 15) :=
  ⟨⟨run1 .race cL [] (put ([0]) z), .race, cL, by unfold NextCommand; decide +kernel⟩,
   ⟨run1 .race cL [] (put ([9]) z), .race, cL, 9, by unfold NextCommand; decide +kernel⟩,
   ⟨run1 .race cL [] (put (rect 1 0x55 0) z), .race, cL, none, by unfold NextCommand; decide +kernel⟩,
   ⟨run1 .race cL [] (put (rect 2 0x55 0) z), .race, cL, none, by unfold NextCommand; decide +kernel⟩,
   ⟨run1 .race cL [] (put (((rect 3 0x75 0).set 9 0).set 10 0x00020008) z), .race, cL, none, by unfold NextCommand; decide +kernel⟩,
   ⟨run1 .race cL [] (put (rect 4 0x55 0) z), .race, cL, none, by unfold NextCommand; decide +kernel⟩,
   ⟨run1 .race cL [] (put (rect 5 0x55 0) z), .race, cL, none, by unfold NextCommand; decide +kernel⟩,
   ⟨run1 .race cL [] (put (rect 1 0x55 0) z), .race, cL, .list, by unfold NextCommand; decide +kernel⟩,
   ⟨run1 .race cL [] (put (rectWH 1 0x55 0) z), .race, cL, .none, by unfold NextCommand; decide +kernel⟩,
   ⟨run1 .race cL [] (put (rect 1 0x55 2) z), .race, cL, .none, 3, by unfold NextCommand; decide +kernel⟩,
   ⟨run1 .race cL [] (put (rect 2 0x55 0) z), .race, cL, .list, by unfold NextCommand; decide +kernel⟩,
   ⟨run1 .race cL [] (put (rectWH 2 0x55 0) z), .race, cL, .none, by unfold NextCommand; decide +kernel⟩,
   ⟨run1 .race cL [] (put (rect 2 0x855 0) z), .race, cL, .none, 1, by unfold NextCommand; decide +kernel⟩,
   ⟨run1 .race cL [] (put (rect 3 0x55 0) z), .race, cL, .list, by unfold NextCommand; decide +kernel⟩,
   ⟨run1 .race cL [] (put (rectWH 3 0x55 0) z), .race, cL, .none, by unfold NextCommand; decide +kernel⟩,
   ⟨run1 .race cL [] (put (rect 3 0x55 0) z), .race, cL, .none, 2, by unfold NextCommand; decide +kernel⟩,
   ⟨run1 .race cL [] (put (rect 4 0x55 0) z), .race, cL, .list, by unfold NextCommand; decide +kernel⟩,
   ⟨run1 .race cL [] (put (rectWH 4 0x55 0) z), .race, cL, .none, by unfold NextCommand; decide +kernel⟩,
   ⟨run1 .race cL [] (put (rect 4 0x855 0) z), .race, cL, .none, 1, by unfold NextCommand; decide +kernel⟩,
   ⟨run1 .race cL [] (put (rect 5 0x55 0) z), .race, cL, .list, by unfold NextCommand; decide +kernel⟩,
   ⟨run1 .race cL [] (put (rectWH 5 0x55 0) z), .race, cL, .none, by unfold NextCommand; decide +kernel⟩,
   ⟨run1 .race cL [] (put (rect 5 0x855 0) z), .race, cL, .none, 1, by unfold NextCommand; decide +kernel⟩,
   ⟨run1 .batch { cL with begun := true, rowAt := 1, words := rect 1 0x55 0 ++ [0, 0, 0, 0, 0] } [] z, { cL with begun := true, rowAt := 1, words := rect 1 0x55 0 ++ [0, 0, 0, 0, 0] }, none, by decide +kernel⟩,
   ⟨run1 .race cL [] (put (rectAt 1 (pb 1 + z.partBytes 1 - 8)) z), .race, cL, 1, none, 0, 2, pb 1 + z.partBytes 1, by unfold NextCommand; decide +kernel⟩,
   ⟨run1 .race cL [] (put (rect 1 0x55 0) z), .race, cL, 1, none, 0, 0, by unfold NextCommand; decide +kernel⟩,
   ⟨run1 .race cL [] (put ([7, 0] ++ half (pb 1 + 0x4000)) z), .race, cL, by unfold NextCommand; decide +kernel⟩,
   ⟨run1 .race cL [] (put ([7, 0] ++ half (pb 1 + 0x4000)) z), .race, cL, .list, by unfold NextCommand; decide +kernel⟩,
   ⟨run1 .race cL [] (put [6, 0, 0x00050002] bell), .race, cL, by unfold NextCommand; decide +kernel⟩,
   ⟨run1 .race cL [] (put ([6, 0, 0x00050002]) z), .race, cL, by unfold NextCommand; decide +kernel⟩,
   ⟨run1 .race { cL with waiting := true, words := [6, 0, 0x00050002] } [] (bell.w (pgHEAD 0) HEAD.BEAM_LINE 3), .race, { cL with waiting := true, words := [6, 0, 0x00050002] }, by decide +kernel⟩,
   ⟨run1 .race cL [] (put ([8, 77]) z), .race, cL, by unfold NextCommand; decide +kernel⟩,
   ⟨run1 .race cL [] (put ([0xE, 0] ++ half (pb 1 + 0x5000)) z), .race, cL, by unfold NextCommand; decide +kernel⟩,
   ⟨run1 .race cL [] (put [0xE, 0, 77, 0] z), .race, cL, by unfold NextCommand; decide +kernel⟩,
   ⟨run1 .race cL [] (put ([0xF]) z), cL, by unfold NextCommand; decide +kernel⟩,
   ⟨run1 .batch cL [cL] (put [0xF] z), cL, cL, [], by unfold NextCommand; decide +kernel⟩,
   ⟨run1 .race cL [] (put ([0xF]) z), .race, cL, by unfold NextCommand; decide +kernel⟩⟩

theorem wit_FieldPortsReceiveAndDeliver :
    (∃ (s : State) (n : Nat) (v : BitVec 32) (wr : Code), n < 16 ∧ Admits s 0 (pgFP n) 8 4 wr ∧ v.toNat % 8 = 1 ∧ s.r (pgFP n) CTRL_ENABLE = 0 ∧ s.fpEnableOk n = true) ∧
    (∃ (s : State) (n : Nat) (v : BitVec 32) (wr : Code), n < 16 ∧ Admits s 0 (pgFP n) 8 4 wr ∧ v.toNat % 8 = 1 ∧ s.r (pgFP n) CTRL_ENABLE = 0 ∧ s.fpEnableOk n = false) ∧
    (∃ (s : State) (n : Nat) (v : BitVec 32) (wr : Code), n < 16 ∧ Admits s 0 (pgFP n) 8 4 wr ∧ v.toNat % 8 = 0 ∧ s.r (pgFP n) CTRL_ENABLE = 1 ∧ (s.fp n).txTxn = none ∧ (s.fp n).dispQ = []) ∧
    (∃ (s : State) (n : Nat), UnitUp s 0 (pgFP n) Kind.kFP n ∧ s.rxOpen n = true ∧ s.r (pgFP n) FP.ASSIST_CV_EN = 0 ∧ ((s.fp n).phase = TxPhase.quiet → s.r (pgFP n) FP.LINE_CFG_DUPLEX = 0 ∨ s.r (pgFP n) FP.LINE_CFG_LBT = 1) ∧ s.r (pgFP n) FP.LINE_CFG_MODE = 0 ∧ s.r (pgFP n) FP.ASSIST_KIND = 0 ∧ (s.fp n).needIdle = false) ∧
    (∃ (s : State) (n : Nat), UnitUp s 0 (pgFP n) Kind.kFP n ∧ s.rxOpen n = true ∧ s.r (pgFP n) FP.ASSIST_CV_EN = 0 ∧ ((s.fp n).phase = TxPhase.quiet → s.r (pgFP n) FP.LINE_CFG_DUPLEX = 0 ∨ s.r (pgFP n) FP.LINE_CFG_LBT = 1) ∧ s.r (pgFP n) FP.LINE_CFG_MODE ≠ 0 ∧ s.r (pgFP n) FP.ASSIST_KIND = 4 ∧ (s.fp n).opened = true) ∧
    (∃ (s : State) (n : Nat), UnitUp s 0 (pgFP n) Kind.kFP n ∧ s.rxOpen n = true ∧ s.r (pgFP n) FP.ASSIST_CV_EN = 0 ∧ ((s.fp n).phase = TxPhase.quiet → s.r (pgFP n) FP.LINE_CFG_DUPLEX = 0 ∨ s.r (pgFP n) FP.LINE_CFG_LBT = 1) ∧ s.r (pgFP n) FP.LINE_CFG_MODE ≠ 0 ∧ (s.fp n).opened = false) ∧
    (∃ (s : State) (n : Nat), UnitUp s 0 (pgFP n) Kind.kFP n ∧ s.rxOpen n = true ∧ (s.fp n).inFrame = true ∧ s.r (pgFP n) FP.LINE_CFG_MODE = 0) ∧
    (∃ (s : State) (n : Nat), UnitUp s 0 (pgFP n) Kind.kFP n ∧ s.rxOpen n = true ∧ (s.fp n).inFrame = true ∧ s.r (pgFP n) FP.ASSIST_KIND = 0) ∧
    (∃ (s : State) (n : Nat), UnitUp s 0 (pgFP n) Kind.kFP n ∧ s.rxOpen n = true ∧ (s.fp n).inFrame = true ∧ s.r (pgFP n) FP.ASSIST_KIND = 2) ∧
    (∃ (s : State) (n : Nat), UnitUp s 0 (pgFP n) Kind.kFP n ∧ s.rxOpen n = true ∧ (s.fp n).inFrame = true ∧ s.r (pgFP n) FP.LINE_CFG_MODE ≠ 0) ∧
    (∃ (s : State) (n : Nat) (level : Bool), UnitUp s 0 (pgFP n) Kind.kFP n ∧ s.active (pgFP n) = true ∧ s.r (pgFP n) FP.STATUS_CD = b2n !level ∧ (level = true → s.cdPin n = true) ∧ (s.r (pgFP n) FP.LINE_CFG_CD_GATE = 0 ∨ level = true ∨ (s.fp n).inFrame = false)) ∧
    (∃ (s : State) (n : Nat) (level : Bool), UnitUp s 0 (pgFP n) Kind.kFP n ∧ s.active (pgFP n) = true ∧ s.r (pgFP n) FP.STATUS_CD = b2n !level ∧ (level = true → s.cdPin n = true) ∧ s.r (pgFP n) FP.LINE_CFG_CD_GATE = 1 ∧ level = false ∧ (s.fp n).inFrame = true) ∧
    (∃ (s : State) (n : Nat), UnitUp s 0 (pgFP n) Kind.kFP n ∧ s.cdPin n = false ∧ s.r (pgFP n) FP.STATUS_CD = 0) ∧
    (∃ (s : State) (n : Nat), n < 16 ∧ s.r (pgFP n) FP.ASSIST_CV_EN = 0 ∧ s.r (pgFP n) FP.ASSIST_KIND = 0 ∧ (let t : State := s.rxEnd n; (t.fp n).phase ≠ TxPhase.quiet)) ∧
    (∃ (s : State) (n : Nat), n < 16 ∧ s.r (pgFP n) FP.ASSIST_CV_EN = 0 ∧ s.r (pgFP n) FP.ASSIST_KIND = 0 ∧ (let x : FieldPort := s.fp n; let level : Nat := s.rxLevel (fpRing n); (∀ (m : LineMark), m ∈ x.rxE → m.framing = false ∧ m.parity = false ∧ m.gap = false) ∧ x.format = false ∧ x.aborted = false ∧ x.brk = false ∧ x.cvBad = false ∧ x.rx.length ≤ s.r (pgFP n) FP.RX_MAX ∧ level < 2 ^ s.r (pgFP n) FP.RX_DESC_COUNT ∧ List.foldl (fun x1 x2 => x1 + x2) 0 (List.take level x.ring.lens) + x.rx.length ≤ 2 ^ s.r (pgFP n) FP.RX_DATA_SIZE ∧ s.padUp (s.r (pgFP n) FP.RING) = true)) ∧
    (∃ (s : State) (n : Nat), n < 16 ∧ s.r (pgFP n) FP.ASSIST_CV_EN = 0 ∧ s.r (pgFP n) FP.ASSIST_KIND = 0 ∧ (let x : FieldPort := s.fp n; (x.rxE.any fun x => x.framing) = true ∧ s.r (pgFP n) FP.ASSIST_KEEP_BAD = 0)) :=
  ⟨⟨fpc, 1, 1, 1, by unfold Admits; decide +kernel⟩,
   ⟨fpw FP.BAUD_INC 0 fpc, 1, 1, 1, by unfold Admits; decide +kernel⟩,
   ⟨fpe, 1, 0, 1, by unfold Admits; decide +kernel⟩,
   ⟨fpe, 1, by unfold UnitUp; decide +kernel⟩,
   ⟨fpx { opened := true } (fpw FP.ASSIST_KIND 4 (fpw FP.LINE_CFG_MODE 1 fpe)), 1, by unfold UnitUp; decide +kernel⟩,
   ⟨fpw FP.ASSIST_KIND 4 (fpw FP.LINE_CFG_MODE 1 fpe), 1, by unfold UnitUp; decide +kernel⟩,
   ⟨fpx { inFrame := true, rx := [1, 2, 3] } (fpe), 1, by unfold UnitUp; decide +kernel⟩,
   ⟨fpx { inFrame := true, rx := [1, 2, 3] } (fpe), 1, by unfold UnitUp; decide +kernel⟩,
   ⟨fpx { inFrame := true, rx := [1, 2, 3] } (fpw FP.ASSIST_KIND 2 fpe), 1, by unfold UnitUp; decide +kernel⟩,
   ⟨fpx { inFrame := true, rx := [1, 2, 3] } (fpw FP.ASSIST_KIND 4 (fpw FP.LINE_CFG_MODE 1 fpe)), 1, by unfold UnitUp; decide +kernel⟩,
   ⟨fpe, 1, true, by unfold UnitUp; decide +kernel⟩,
   ⟨fpx { inFrame := true, rx := [1, 2, 3] } (fpw FP.LINE_CFG_CD_GATE 1 (fpw FP.STATUS_CD 1 fpe)), 1, false, by unfold UnitUp; decide +kernel⟩,
   ⟨fpe.w pPINS (PINS.MP_CFG_ALLOW.at 28) 0, 1, by unfold UnitUp; decide +kernel⟩,
   ⟨fpc, 1, by decide +kernel⟩,
   ⟨fpc, 1, by decide +kernel⟩,
   ⟨fpx { inFrame := true, rx := [1], rxE := [{ framing := true }] } (fpe), 1, by decide +kernel⟩⟩

theorem wit_FieldPortsKeyAndSend :
    (∃ (s : State) (n : Nat) (v : BitVec 32) (wr : Code), n < 16 ∧ Admits s 0 (pgFP n) 312 4 wr ∧ (let d : Nat := (v.toNat % 65536 + 65536 - s.r (pgFP n) FP.TX_TAIL) % 65536; d ≤ 2 ^ s.r (pgFP n) FP.TX_DESC_COUNT)) ∧
    (∃ (s : State) (n : Nat) (v : BitVec 32) (wr : Code), n < 16 ∧ Admits s 0 (pgFP n) 312 4 wr ∧ (let d : Nat := (v.toNat % 65536 + 65536 - s.r (pgFP n) FP.TX_TAIL) % 65536; 2 ^ s.r (pgFP n) FP.TX_DESC_COUNT < d)) ∧
    (∃ (s : State) (n : Nat) (v : BitVec 32) (wr : Code), n < 16 ∧ Admits s 0 (pgFP n) 308 4 wr ∧ (let d : Nat := (s.r (pgFP n) FP.RX_HEAD + 65536 - v.toNat % 65536) % 65536; d ≤ s.rxLevel (fpRing n))) ∧
    (∃ (s : State) (n : Nat) (v : BitVec 32) (wr : Code), n < 16 ∧ Admits s 0 (pgFP n) 308 4 wr ∧ (let d : Nat := (s.r (pgFP n) FP.RX_HEAD + 65536 - v.toNat % 65536) % 65536; s.rxLevel (fpRing n) < d)) ∧
    (∃ (s : State) (n : Nat), UnitUp s 0 (pgFP n) Kind.kFP n ∧ s.txOpen n = true ∧ ((s.fp n).phase = TxPhase.idle ∨ (s.fp n).phase = TxPhase.held) ∧ (let p : Nat := pgFP n; let cl : Nat := s.r p FP.RING; let d : List Byte := s.padRead cl (s.r p FP.TX_DESC_BASE + 16 * (s.r p FP.TX_TAIL % 2 ^ s.r p FP.TX_DESC_COUNT)) 16; (s.fp n).dispQ = [] ∧ s.r p FP.TX_HEAD ≠ s.r p FP.TX_TAIL ∧ s.padUp cl = true ∧ 1 ≤ fieldLE d 4 2 ∧ fieldLE d 4 2 ≤ 4096 ∧ fieldLE d 6 2 < 16 ∧ fieldLE d 6 2 % 2 = 0 ∧ fieldLE d 8 8 ≠ 0 ∧ BitVec.toNat s.stamp < fieldLE d 8 8)) ∧
    (∃ (s : State) (n : Nat) (t : Nat) (bytes : List (BitVec 8)) (l : List (Nat × List (BitVec 8))), UnitUp s 0 (pgFP n) Kind.kFP n ∧ s.txOpen n = true ∧ ((s.fp n).phase = TxPhase.idle ∨ (s.fp n).phase = TxPhase.held) ∧ (let p : Nat := pgFP n; (s.fp n).dispQ = (t, bytes) :: l ∧ s.dispBarred n (t, bytes) = false ∧ s.r p FP.LINE_CFG_LBT = 1)) ∧
    (∃ (s : State) (n : Nat) (t : Nat) (bytes : List (BitVec 8)), UnitUp s 0 (pgFP n) Kind.kFP n ∧ s.txOpen n = true ∧ ((s.fp n).phase = TxPhase.idle ∨ (s.fp n).phase = TxPhase.held) ∧ (let p : Nat := pgFP n; (s.fp n).dispQ = [(t, bytes)] ∧ s.dispBarred n (t, bytes) = true ∧ s.r p FP.TX_HEAD = s.r p FP.TX_TAIL)) ∧
    (∃ (s : State) (n : Nat), UnitUp s 0 (pgFP n) Kind.kFP n ∧ s.txOpen n = true ∧ (s.fp n).phase = TxPhase.notBefore ∧ s.r (pgFP n) FP.LINE_CFG_LBT = 1) ∧
    (∃ (s : State) (n : Nat), UnitUp s 0 (pgFP n) Kind.kFP n ∧ s.txOpen n = true ∧ (s.fp n).phase = TxPhase.quiet ∧ s.r (pgFP n) FP.STATUS_CD = 0 ∧ (s.fp n).inFrame = false ∧ s.r (pgFP n) FP.STATUS_PTT = 0 ∧ s.txBarred n = false) ∧
    (∃ (s : State) (n : Nat), UnitUp s 0 (pgFP n) Kind.kFP n ∧ s.txOpen n = true ∧ (s.fp n).phase = TxPhase.quiet ∧ s.r (pgFP n) FP.STATUS_CD = 0 ∧ (s.fp n).inFrame = false ∧ s.txBarred n = true) ∧
    (∃ (s : State) (n : Nat), UnitUp s 0 (pgFP n) Kind.kFP n ∧ s.txOpen n = true ∧ (s.fp n).phase = TxPhase.keyup ∧ s.txBarred n = true) ∧
    (∃ (s : State) (n : Nat), UnitUp s 0 (pgFP n) Kind.kFP n ∧ s.txOpen n = true ∧ (s.fp n).phase = TxPhase.keyup ∧ s.txBarred n = false) ∧
    (∃ (s : State) (n : Nat), UnitUp s 0 (pgFP n) Kind.kFP n ∧ s.txOpen n = true ∧ (s.fp n).phase = TxPhase.keyup ∧ s.r (pgFP n) FP.ASSIST_CV_EN = 0 ∧ (s.fp n).txTxn = none ∧ (s.r (pgFP n) FP.ASSIST_KIND ≠ 2 ∨ (s.fp n).lineFc = none)) ∧
    (∃ (s : State) (n : Nat) (f : Nat), UnitUp s 0 (pgFP n) Kind.kFP n ∧ s.txOpen n = true ∧ (s.fp n).phase = TxPhase.keyup ∧ s.r (pgFP n) FP.ASSIST_CV_EN = 0 ∧ (s.fp n).txTxn = none ∧ s.r (pgFP n) FP.ASSIST_KIND = 2 ∧ (s.fp n).lineFc = some f) ∧
    (∃ (s : State) (n : Nat), UnitUp s 0 (pgFP n) Kind.kFP n ∧ s.txOpen n = true ∧ (s.fp n).phase = TxPhase.sending ∧ (s.fp n).txTxn = none) ∧
    (∃ (s : State) (n : Nat), UnitUp s 0 (pgFP n) Kind.kFP n ∧ s.txOpen n = true ∧ (s.fp n).phase = TxPhase.tail) ∧
    (∃ (s : State) (n : Nat), UnitUp s 0 (pgFP n) Kind.kFP n ∧ s.active (pgFP n) = true ∧ s.r (pgFP n) FP.STATUS_PTT = 1 ∧ s.r (pgFP n) FP.TX_LIMITS_TX_MAX ≠ 0 ∧ (s.fp n).phase = TxPhase.sending ∧ (s.fp n).txTxn = none ∧ (s.fp n).dispQ = []) :=
  ⟨⟨fpe, 1, 0, 1, by unfold Admits; decide +kernel⟩,
   ⟨fpe, 1, 5, 1, by unfold Admits; decide +kernel⟩,
   ⟨fpe, 1, 0, 1, by unfold Admits; decide +kernel⟩,
   ⟨fpe, 1, 4, 1, by unfold Admits; decide +kernel⟩,
   ⟨(fpw FP.TX_HEAD 1 fpe).padWrite 1 0x3000 (leBytes 4 5 ++ leBytes 2 9 ++ leBytes 2 0 ++ leBytes 8 0x1000000000), 1, by unfold UnitUp; decide +kernel⟩,
   ⟨fpw FP.LINE_CFG_LBT 1 (fpx { dispQ := [(3, [1, 2])] } fpe), 1, 3, [1, 2], [], by unfold UnitUp; decide +kernel⟩,
   ⟨fpw FP.LINE_CFG_LBT 1 (fpw FP.ASSIST_CV_EN 1 (fpx { dispQ := [(3, [1, 2])] } fpe)), 1, 3, [1, 2], by unfold UnitUp; decide +kernel⟩,
   ⟨fpw FP.LINE_CFG_LBT 1 (fpx { phase := .notBefore, txIn := [1, 2], txBytes := [1, 2], txTime := 0x1000000 } fpe), 1, by unfold UnitUp; decide +kernel⟩,
   ⟨fpw FP.LINE_CFG_LBT 1 (fpx { phase := .quiet, txIn := [1, 2], txBytes := [1, 2], txTime := 0x1000000 } fpe), 1, by unfold UnitUp; decide +kernel⟩,
   ⟨fpw FP.ASSIST_CV_EN 1 (fpx { phase := .quiet, txIn := [1, 2], txFlags := 3 } fpe), 1, by unfold UnitUp; decide +kernel⟩,
   ⟨fpw FP.ASSIST_CV_EN 1 (fpx { phase := .keyup, txIn := [1, 2], txFlags := 3 } fpe), 1, by unfold UnitUp; decide +kernel⟩,
   ⟨fpw FP.LINE_CFG_LBT 1 (fpx { phase := .keyup, txIn := [1, 2], txBytes := [1, 2], txTime := 0x1000000 } fpe), 1, by unfold UnitUp; decide +kernel⟩,
   ⟨fpw FP.LINE_CFG_LBT 1 (fpx { phase := .keyup, txIn := [1, 2], txBytes := [1, 2], txTime := 0x1000000 } fpe), 1, by unfold UnitUp; decide +kernel⟩,
   ⟨fpw FP.ASSIST_KIND 2 (fpx { phase := .keyup, txIn := [1, 2], lineFc := some 5 } fpe), 1, 5, by unfold UnitUp; decide +kernel⟩,
   ⟨fpw FP.LINE_CFG_LBT 1 (fpx { phase := .sending, txIn := [1, 2], txBytes := [1, 2], txTime := 0x1000000 } fpe), 1, by unfold UnitUp; decide +kernel⟩,
   ⟨fpw FP.LINE_CFG_LBT 1 (fpx { phase := .tail, txIn := [1, 2], txBytes := [1, 2], txTime := 0x1000000 } fpe), 1, by unfold UnitUp; decide +kernel⟩,
   ⟨fpw FP.TX_LIMITS_TX_MAX 3 (fpw FP.STATUS_PTT 1 (fpx { phase := .sending, txBytes := [1, 2] } fpe)), 1, by unfold UnitUp; decide +kernel⟩⟩

theorem wit_CheckValueUnitsFeedFinishSaveAndCheck :
    (∃ (s : State) (u : Nat) (wr : Code), u < 16 ∧ Admits s 0 (pgCV u) 256 4 wr ∧ (s.cv u).midFrame = [] ∧ (s.cv u).ctxCmd = none ∧ (s.cv u).self = false) ∧
    (∃ (s : State) (u : Nat) (wr : Code), u < 16 ∧ Admits s 0 (pgCV u) 256 4 wr ∧ ((s.cv u).midFrame ≠ [] ∨ (s.cv u).ctxCmd ≠ none ∨ (s.cv u).self = true)) ∧
    (∃ (s : State) (u : Nat) (wr : Code), u < 16 ∧ Admits s 0 (pgCV u) 384 4 wr ∧ s.r (pgCV u) CV.SRC_KIND = 3 ∧ s.r (pgCV u) (ctxFld CV.CFG_WIDTH (s.r (pgCV u) CV.CTX_SEL)) ≤ 64) ∧
    (∃ (s : State) (u : Nat) (wr : Code), u < 16 ∧ Admits s 0 (pgCV u) 388 4 wr ∧ s.r (pgCV u) CV.SRC_KIND = 3 ∧ s.r (pgCV u) (ctxFld CV.CFG_WIDTH (s.r (pgCV u) CV.CTX_SEL)) ≤ 64) ∧
    (∃ (s : State) (u : Nat) (wr : Code), u < 16 ∧ Admits s 0 (pgCV u) 392 8 wr ∧ s.r (pgCV u) CV.SRC_KIND = 3 ∧ s.r (pgCV u) (ctxFld CV.CFG_WIDTH (s.r (pgCV u) CV.CTX_SEL)) ≤ 64) ∧
    (∃ (s : State) (u : Nat) (wr : Code), u < 16 ∧ Admits s 0 (pgCV u) 384 4 wr ∧ s.r (pgCV u) CV.SRC_KIND ≠ 3) ∧
    (∃ (s : State) (u : Nat) (wr : Code), u < 16 ∧ Admits s 0 (pgCV u) 388 4 wr ∧ s.r (pgCV u) CV.SRC_KIND ≠ 3) ∧
    (∃ (s : State) (u : Nat) (wr : Code), u < 16 ∧ Admits s 0 (pgCV u) 392 8 wr ∧ s.r (pgCV u) CV.SRC_KIND ≠ 3) ∧
    (∃ (s : State) (u : Nat) (v : BitVec 32) (wr : Code), u < 16 ∧ Admits s 0 (pgCV u) 400 4 wr ∧ s.r (pgCV u) CV.SRC_KIND = 3 ∧ v.getLsbD 0 = true ∧ s.r (pgCV u) (ctxFld CV.CFG_WIDTH (s.r (pgCV u) CV.CTX_SEL)) ≤ 64) ∧
    (∃ (s : State) (u : Nat) (v : BitVec 32) (wr : Code), u < 16 ∧ Admits s 0 (pgCV u) 416 4 wr ∧ (let c : Nat := v.toNat % 4; (s.cv u).ctxCmd = none ∧ (¬c ∈ (s.cv u).midFrame) ∧ v.getLsbD 4 = true ∧ v.getLsbD 5 = false)) ∧
    (∃ (s : State) (u : Nat) (v : BitVec 32) (wr : Code), u < 16 ∧ Admits s 0 (pgCV u) 416 4 wr ∧ (let c : Nat := v.toNat % 4; (s.cv u).ctxCmd = none ∧ (¬c ∈ (s.cv u).midFrame) ∧ v.getLsbD 4 = false ∧ v.getLsbD 5 = true)) ∧
    (∃ (s : State) (u : Nat) (v : BitVec 32) (wr : Code), u < 16 ∧ Admits s 0 (pgCV u) 416 4 wr ∧ (let c : Nat := v.toNat % 4; ((s.cv u).ctxCmd ≠ none ∨ c ∈ (s.cv u).midFrame) ∧ v.getLsbD 4 = true)) ∧
    (∃ (s : State) (u : Nat) (c : Nat) (save : Bool), UnitUp s 0 (pgCV u) Kind.kCV u ∧ (s.cv u).ctxCmd = some (c, save) ∧ s.padUp (s.r (pgCV u) CV.CTX_ADDR_CLUSTER) = true) ∧
    (∃ (s : State) (u : Nat) (v : BitVec 32) (wr : Code), u < 16 ∧ Admits s 0 (pgCV u) 432 4 wr ∧ v.getLsbD 0 = true ∧ s.cvIdle u = true ∧ s.fenced 0 (pgCV u) = false ∧ (s.cv u).self = false) ∧
    (∃ (s : State) (u : Nat) (v : BitVec 32) (wr : Code), u < 16 ∧ Admits s 0 (pgCV u) 432 4 wr ∧ v.getLsbD 0 = true ∧ s.cvIdle u = false) ∧
    (∃ (s : State) (u : Nat) (k : Nat), UnitUp s 0 (pgCV u) Kind.kCV u ∧ (s.cv u).self = true ∧ k ≤ 6) :=
  ⟨⟨z, 1, 1, by unfold Admits; decide +kernel⟩,
   ⟨cv0.setCv 1 { midFrame := [2] }, 1, 1, by unfold Admits; decide +kernel⟩,
   ⟨cv0, 1, 1, by unfold Admits; decide +kernel⟩,
   ⟨cv0, 1, 1, by unfold Admits; decide +kernel⟩,
   ⟨cv0, 1, 1, by unfold Admits; decide +kernel⟩,
   ⟨z, 1, 1, by unfold Admits; decide +kernel⟩,
   ⟨z, 1, 1, by unfold Admits; decide +kernel⟩,
   ⟨z, 1, 1, by unfold Admits; decide +kernel⟩,
   ⟨cv0, 1, 1, 1, by unfold Admits; decide +kernel⟩,
   ⟨z, 1, 0x10, 1, by unfold Admits; decide +kernel⟩,
   ⟨z, 1, 0x20, 1, by unfold Admits; decide +kernel⟩,
   ⟨cv0.setCv 1 { midFrame := [2] }, 1, 0x12, 1, by unfold Admits; decide +kernel⟩,
   ⟨z.setCv 1 { ctxCmd := some (1, true) }, 1, 1, true, by unfold UnitUp; decide +kernel⟩,
   ⟨z, 1, 1, 1, by unfold Admits; decide +kernel⟩,
   ⟨cv0, 1, 1, 1, by unfold Admits; decide +kernel⟩,
   ⟨z.setCv 1 { self := true }, 1, 1, by unfold UnitUp; decide +kernel⟩⟩

theorem wit_RequestRingsFeedTheCommitEngine :
    (∃ (s : State) (n : Nat) (v : BitVec 32) (wr : Code), n < 16 ∧ Admits s 0 pPOINTS (1024 + 64 * n) 4 wr ∧ s.crEn n = false ∧ v.getLsbD 0 = true ∧ 2 ≤ v.toNat / 256 % 16 ∧ s.crGeometry n (v.toNat / 2 % 2) (v.toNat / 4 % 16) (v.toNat / 256 % 16) = true) ∧
    (∃ (s : State) (n : Nat) (v : BitVec 32) (wr : Code), n < 16 ∧ Admits s 0 pPOINTS (1024 + 64 * n) 4 wr ∧ s.crEn n = true ∧ v.getLsbD 0 = false) ∧
    (∃ (s : State) (n : Nat) (v : BitVec 32) (wr : Code), n < 16 ∧ Admits s 0 pPOINTS (1024 + 64 * n) 4 wr ∧ s.crEn n = true ∧ v.getLsbD 0 = true) ∧
    (∃ (s : State) (n : Nat) (v : BitVec 32) (wr : Code), n < 16 ∧ Admits s 0 pPOINTS (1048 + 64 * n) 4 wr ∧ (let d : Nat := (v.toNat % 65536 + 65536 - s.r pPOINTS (crFld POINTS.CR_TAIL n)) % 65536; d ≤ s.crSize n)) ∧
    (∃ (s : State) (n : Nat) (v : BitVec 32) (wr : Code), n < 16 ∧ Admits s 0 pPOINTS (1048 + 64 * n) 4 wr ∧ (let d : Nat := (v.toNat % 65536 + 65536 - s.r pPOINTS (crFld POINTS.CR_TAIL n)) % 65536; s.crSize n < d)) ∧
    (∃ (s : State) (n : Nat) (v : BitVec 32) (wr : Code), n < 16 ∧ Admits s 0 pPOINTS (1060 + 64 * n) 4 wr ∧ (let d : Nat := (s.r pPOINTS (crFld POINTS.CR_RES_HEAD n) + 65536 - v.toNat % 65536) % 65536; d ≤ s.crResLevel n)) ∧
    (∃ (s : State) (n : Nat) (v : BitVec 32) (wr : Code), n < 16 ∧ Admits s 0 pPOINTS (1060 + 64 * n) 4 wr ∧ (let d : Nat := (s.r pPOINTS (crFld POINTS.CR_RES_HEAD n) + 65536 - v.toNat % 65536) % 65536; s.crResLevel n < d)) ∧
    (∃ (s : State) (n : Nat) (v : BitVec 32) (wr : Code), n < 16 ∧ Admits s 0 pPOINTS (1028 + 64 * n) 4 wr ∧ s.itemOwner pPOINTS (crFld POINTS.CR_OWNER n) ≠ 255 ∧ s.validOwner (BitVec.setWidth 8 v) = true) ∧
    (∃ (s : State) (n : Nat) (v : BitVec 32) (wr : Code), n < 16 ∧ Admits s 0 pPOINTS (1028 + 64 * n) 4 wr ∧ (s.itemOwner pPOINTS (crFld POINTS.CR_OWNER n) = 255 ∨ s.validOwner (BitVec.setWidth 8 v) = false)) ∧
    (∃ (s : State) (n : Nat) (b : List (BitVec 8)), s.active pPOINTS = true ∧ s.points.taken = none ∧ s.following = false ∧ (s.nextRing 0 s.points.nextRing fun _ => true) = some n ∧ s.ringRead n (s.r pPOINTS (crFld POINTS.CR_REQ_BASE n)) (s.r pPOINTS (crFld POINTS.CR_TAIL n)) = some b ∧ (let w0 : Nat := fieldLE b 0 4; let p : Nat := w0 % 2 ^ 20; p < s.r pPOINTS POINTS.REC_COUNT ∧ s.inPart 2 (s.pointAddr p) 64 = true)) ∧
    (∃ (s : State) (c : Commit), s.active pPOINTS = true ∧ s.points.taken = some c ∧ s.following = false ∧ s.commitStalled = false ∧ s.points.stallFc = none) ∧
    (∃ (s : State) (p : Nat), s.inPart 2 (s.pointAddr p) 64 = true ∧ (let r : PointRec := s.pointRec p; r.aclass % 8 = 0 ∧ nbit r.limEn 4 = false ∧ nfld r.brands 22 6 = 0)) :=
  ⟨⟨z, 1, 0x405, 1, by unfold Admits; decide +kernel⟩,
   ⟨ring 1 0 4 1 z, 1, 0, 1, by unfold Admits; decide +kernel⟩,
   ⟨ring 1 0 4 1 z, 1, 1, 1, by unfold Admits; decide +kernel⟩,
   ⟨z, 1, 0, 1, by unfold Admits; decide +kernel⟩,
   ⟨z, 1, 0x405, 1, by unfold Admits; decide +kernel⟩,
   ⟨z, 1, 0, 1, by unfold Admits; decide +kernel⟩,
   ⟨z, 1, 1, 1, by unfold Admits; decide +kernel⟩,
   ⟨z, 1, 0, 1, by unfold Admits; decide +kernel⟩,
   ⟨z, 1, 0x405, 1, by unfold Admits; decide +kernel⟩,
   ⟨ent 3 (cme 0 0 0) (ring 3 0 4 1 pts), 3, cme 0 0 0, by decide +kernel⟩,
   ⟨{ pts with points := { pts.points with taken := some tkn } }, tkn, by decide +kernel⟩,
   ⟨ent 3 (cme 0 0 0) (ring 3 0 4 1 pts), 1, by decide +kernel⟩⟩

theorem wit_CommandTransactionsOpenExpireAndEnd :
    (∃ (s : State) (n : Nat) (b : List (BitVec 8)), s.active pCOMMANDS = true ∧ (s.appendRole = true → s.journalReady = true) ∧ (s.nextRing 1 s.points.nextCmd fun n => decide (s.crResLevel n + s.claimed n < s.crSize n)) = some n ∧ s.ringRead n (s.r pPOINTS (crFld POINTS.CR_REQ_BASE n)) (s.r pPOINTS (crFld POINTS.CR_TAIL n)) = some b) ∧
    (∃ (s : State) (n : Nat) (k : Nat), s.domainOn 0 pCOMMANDS = true ∧ (s.txn n).state = 1 ∧ (s.txn n).channel = k ∧ k < 16 ∧ s.channelHeld k = false ∧ s.channelQueued k (s.txn n).opened = false ∧ s.dispatchOpen = true ∧ s.sendBarred k (s.txn n).selAddr (s.txn n).selLen = false) ∧
    (∃ (s : State) (n : Nat), s.domainOn 0 pCOMMANDS = true ∧ s.following = false ∧ (let x : Txn := s.txn n; (x.state = 1 ∨ x.state = 3))) ∧
    (∃ (s : State) (n : Nat), s.domainOn 0 pCOMMANDS = true ∧ s.following = false ∧ (let x : Txn := s.txn n; x.state = 4)) ∧
    (∃ (s : State) (n : Nat), s.domainOn 0 pCOMMANDS = true ∧ s.following = false ∧ (let x : Txn := s.txn n; (x.state = 6 ∨ x.state = 8))) ∧
    (∃ (s : State) (n : Nat), s.domainOn 0 pCOMMANDS = true ∧ s.following = false ∧ (let x : Txn := s.txn n; x.state = 7)) ∧
    (∃ (s : State) (v : BitVec 32) (wr : Code), Admits s 0 pCOMMANDS 288 4 wr ∧ (let n : Nat := v.toNat % 4096; s.txnWriter n wr = true ∧ ((s.txn n).state = 1 ∨ (s.txn n).state = 3 ∨ (s.txn n).state = 4 ∨ (s.txn n).state = 8))) ∧
    (∃ (s : State) (v : BitVec 32) (wr : Code), Admits s 0 pCOMMANDS 288 4 wr ∧ (let n : Nat := v.toNat % 4096; s.txnWriter n wr = true ∧ ((s.txn n).state = 0 ∨ (s.txn n).state = 2 ∨ 5 ≤ (s.txn n).state ∧ (s.txn n).state ≤ 7))) ∧
    (∃ (s : State) (v : BitVec 32) (wr : Code), Admits s 0 pCOMMANDS 288 4 wr ∧ (let n : Nat := v.toNat % 4096; s.txnWriter n wr = false)) ∧
    (∃ (s : State) (v : BitVec 32) (wr : Code), Admits s 0 pCOMMANDS 292 4 wr ∧ s.txnWriter (v.toNat % 4096) wr = true ∧ (s.txn (v.toNat % 4096)).state = 4 ∧ (s.txn (v.toNat % 4096)).hold = true) ∧
    (∃ (s : State) (v : BitVec 32) (wr : Code), Admits s 0 pCOMMANDS 292 4 wr ∧ s.txnWriter (v.toNat % 4096) wr = true ∧ ((s.txn (v.toNat % 4096)).state ≠ 4 ∨ (s.txn (v.toNat % 4096)).hold = false)) ∧
    (∃ (s : State) (v : BitVec 32) (wr : Code), Admits s 0 pCOMMANDS 292 4 wr ∧ s.txnWriter (v.toNat % 4096) wr = false) ∧
    (∃ (s : State) (n : Nat) (m : Nat), (s.txn n).state ≠ 0 ∧ m ≠ n) ∧
    (∃ (s : State), s.mainUp = true ∧ s.authority = true) :=
  ⟨⟨ent 2 (cre 0) (ring 2 1 4 1 (zc)), 2, cre 0, by decide +kernel⟩,
   ⟨tx 1 false (ring 2 1 4 1 zc), 3, 1, by decide +kernel⟩,
   ⟨tx 1 false (ring 2 1 4 1 zc), 3, by decide +kernel⟩,
   ⟨ent 2 (cre 0) (ring 2 1 4 1 (tx 4 false zc)), 3, by decide +kernel⟩,
   ⟨tx 6 false (ring 2 1 4 1 zc), 3, by decide +kernel⟩,
   ⟨tx 7 false (ring 2 1 4 1 zc), 3, by decide +kernel⟩,
   ⟨ent 2 (cre 0) (ring 2 1 4 1 (tx 4 false zc)), 3, 1, by unfold Admits; decide +kernel⟩,
   ⟨ent 2 (cre 0) (ring 2 1 4 1 (zc)), 3, 1, by unfold Admits; decide +kernel⟩,
   ⟨ent 2 (cre 0) (ring 2 1 4 1 (zc)), 3, 5, by unfold Admits; decide +kernel⟩,
   ⟨tx 4 true (ring 2 1 4 1 zc), 3, 1, by unfold Admits; decide +kernel⟩,
   ⟨ent 2 (cre 0) (ring 2 1 4 1 (zc)), 3, 1, by unfold Admits; decide +kernel⟩,
   ⟨ent 2 (cre 0) (ring 2 1 4 1 (zc)), 3, 5, by unfold Admits; decide +kernel⟩,
   ⟨ent 2 (cre 0) (ring 2 1 4 1 (tx 4 false zc)), 3, 2, by decide +kernel⟩,
   ⟨ent 2 (cre 0) (ring 2 1 4 1 (zc)), by decide +kernel⟩⟩

theorem wit_VoicesTakeActionsAndSound :
    (∃ (s : State) (v : BitVec 32) (wr : Code), Admits s 0 pAUDIO 8 4 wr ∧ v.toNat % 8 = 1 ∧ s.r pAUDIO CTRL_ENABLE = 0) ∧
    (∃ (s : State) (v : BitVec 32) (wr : Code), Admits s 0 pAUDIO 8 4 wr ∧ v.toNat % 8 = 0 ∧ s.r pAUDIO CTRL_ENABLE = 1 ∧ s.protRoutes = [] ∧ s.audio.voices = []) ∧
    (∃ (s : State) (v : BitVec 32) (wr : Code), Admits s 0 pAUDIO 8 4 wr ∧ v.toNat % 8 = 0 ∧ s.protRoutes ≠ [] ∧ wr ≠ 2 ∧ wr ≠ 126) ∧
    (∃ (s : State) (v : Nat) (wr : Code), v < 64 ∧ Admits s 0 pAUDIO 264 8 wr ∧ s.audioRuns = true ∧ s.r pAUDIO (AUDIO.VOWNER_OWNER.at (4 * v)) = BitVec.toNat wr ∧ s.audio.queue.length < 256) ∧
    (∃ (s : State) (v : Nat) (wr : Code), v < 64 ∧ Admits s 0 pAUDIO 264 8 wr ∧ s.audioRuns = true ∧ s.r pAUDIO (AUDIO.VOWNER_OWNER.at (4 * v)) ≠ BitVec.toNat wr ∧ s.r pAUDIO (AUDIO.VOWNER_ACT.at (4 * v)) ≠ BitVec.toNat wr ∧ wr ≠ 2 ∧ wr ≠ 126) ∧
    (∃ (s : State) (b : Nat), s.r pAUDIO (busFld AUDIO.LIMIT_EN b) = 1) ∧
    (∃ (a : VAction) (b : VAction), b.fc ≠ a.fc) ∧
    (∃ (a : VAction) (b : VAction), b.fc = a.fc ∧ a.rank < b.rank) ∧
    (∃ (s : State), s.mainUp = true ∧ (∀ (p : Nat), p < 4 → s.r pAUDIO (AUDIO.TCTRL_EN.at (16 * p)) = 0) ∧ s.domainOn 0 pAUDIO = true ∧ s.audioRuns = false) ∧
    (∃ (s : State), s.mainUp = true ∧ (∀ (p : Nat), p < 4 → s.r pAUDIO (AUDIO.TCTRL_EN.at (16 * p)) = 0) ∧ s.domainOn 0 pAUDIO = true ∧ s.audioRuns = true ∧ s.audio.waitAlign = true) ∧
    (∃ (s : State), s.mainUp = true ∧ (∀ (p : Nat), p < 4 → s.r pAUDIO (AUDIO.TCTRL_EN.at (16 * p)) = 0) ∧ s.domainOn 0 pAUDIO = true ∧ s.audioRuns = true ∧ s.audio.waitAlign = false ∧ s.devState = stRUNNING ∧ s.audio.voices = [] ∧ s.audio.queue = []) ∧
    (∃ (s : State) (v : Nat) (atk : Nat) (f : Nat) (rank : Nat) (param : BitVec 32) (wr : Code), s.mainUp = true ∧ (∀ (p : Nat), p < 4 → s.r pAUDIO (AUDIO.TCTRL_EN.at (16 * p)) = 0) ∧ s.domainOn 0 pAUDIO = true ∧ s.audioRuns = true ∧ s.audio.waitAlign = false ∧ s.audio.voices = [] ∧ s.audio.queue = [{ voice := v, act := 0, param := param, wr := wr, rank := rank, fc := f : VAction }] ∧ f + 64 ≤ s.fc ∧ v < 64 ∧ s.r pAUDIO (voiceFld AUDIO.VCTRL_KIND v) < 2 ∧ s.r pAUDIO (voiceFld AUDIO.ENV_ATTACK v) = atk ∧ atk ≠ 0 ∧ param.toNat % 65536 ≠ 0) ∧
    (∃ (s : State) (v : Nat), v < 64 ∧ s.audioRuns = true ∧ s.domainOn 0 pAUDIO = true ∧ (let x : Voice := s.voice v; let n : Nat := min 256 (s.pcmTotal v - x.fetched); let a : Nat := s.r pAUDIO (voiceFld AUDIO.PCM_BASE v) + x.fetched; s.voiceKind v = 3 ∧ x.state = VState.fetch ∧ x.startOn = true ∧ x.buf.length ≤ 768 ∧ x.fetched < s.pcmTotal v ∧ x.owed = 0 ∧ s.r pAUDIO (voiceFld AUDIO.VCTRL_LOOP v) = 0 ∧ s.canRead Master.audio a n = true)) ∧
    (∃ (s : State) (v : Nat), v < 64 ∧ s.audioRuns = true ∧ s.domainOn 0 pAUDIO = true ∧ (let x : Voice := s.voice v; (x.state = VState.attack ∨ x.state = VState.sustain ∨ x.state = VState.release ∨ x.state = VState.stopping) ∧ x.dur = 1)) ∧
    (∃ (s : State) (v : Nat), v < 64 ∧ s.audioRuns = true ∧ s.domainOn 0 pAUDIO = true ∧ (let x : Voice := s.voice v; (x.state = VState.attack ∨ x.state = VState.sustain ∨ x.state = VState.release ∨ x.state = VState.stopping) ∧ x.dur ≠ 1)) ∧
    (∃ (s : State) (v : Nat), v < 64 ∧ s.audioRuns = true ∧ s.domainOn 0 pAUDIO = true ∧ (let x : Voice := s.voice v; (x.state = VState.attack ∨ x.state = VState.sustain ∨ x.state = VState.release ∨ x.state = VState.stopping) ∧ x.cadLeft ≤ 1 ∧ s.r pAUDIO (voiceFld AUDIO.CADENCE_OFF v) ≠ 0)) ∧
    (∃ (s : State) (v : Nat), v < 64 ∧ s.audioRuns = true ∧ s.domainOn 0 pAUDIO = true ∧ (let x : Voice := s.voice v; (x.state = VState.attack ∨ x.state = VState.sustain ∨ x.state = VState.release ∨ x.state = VState.stopping) ∧ s.r pAUDIO (voiceFld AUDIO.CADENCE_OFF v) = 0)) ∧
    (∃ (s : State) (b : Nat), Admits s 1 pPROTR 1540 4 2 ∧ s.r1 pPROTR PROTR.PR_ADDR_PAGE = 0 ∧ b < 16 ∧ s.r1 pPROTR PROTR.PR_ADDR_OFFSET = 3072 + 32 * b ∧ s.locked 0 pAUDIO = false ∧ s.domainOn 0 pAUDIO = true) :=
  ⟨⟨z.w pAUDIO CTRL_ENABLE 0, 1, 1, by unfold Admits; decide +kernel⟩,
   ⟨z, 0, 1, by unfold Admits; decide +kernel⟩,
   ⟨za.w1 pPROTR PROTR.PROT 1, 0, 1, by unfold Admits; decide +kernel⟩,
   ⟨z, 1, 1, by unfold Admits; decide +kernel⟩,
   ⟨z, 1, 16, by unfold Admits; decide +kernel⟩,
   ⟨z.w pAUDIO (busFld AUDIO.LIMIT_EN 1) 1, 1, by decide +kernel⟩,
   ⟨act 3 5, act 4 5, by decide +kernel⟩,
   ⟨{ act 3 5 with rank := 1 }, act 3 5, by decide +kernel⟩,
   ⟨tz (z.w pAUDIO CTRL_ENABLE 0), by decide +kernel⟩,
   ⟨tz { za with audio := { za.audio with waitAlign := true } }, by decide +kernel⟩,
   ⟨tz za, by decide +kernel⟩,
   ⟨tz (vw AUDIO.ENV_ATTACK 3 { za with fc := 100, audio := { za.audio with queue := [act 3 0x0005C000] } }), 1, 3, 3, 43, 0x0005C000, 1, by decide +kernel⟩,
   ⟨vw AUDIO.PCM_BASE (pb 1 + 0x100) (vw AUDIO.PCM_LEN 4 (vw AUDIO.VCTRL_KIND 3 (za.setVoice 1 { state := .fetch, startOn := true }))), 1, by decide +kernel⟩,
   ⟨vdur 1 3, 1, by decide +kernel⟩,
   ⟨vdur 2 0, 1, by decide +kernel⟩,
   ⟨vdur 1 3, 1, by decide +kernel⟩,
   ⟨vdur 2 0, 1, by decide +kernel⟩,
   ⟨za.w1 pPROTR PROTR.PR_ADDR_OFFSET 0xC20, 1, by unfold Admits; decide +kernel⟩⟩

theorem wit_InterruptsAreRungDeliveredHeldOffAndCoalesced :
    (∃ (s : State) (v : BitVec 32) (wr : Code), Admits s 0 pINTC 256 4 wr ∧ (let n : Nat := v.toNat % 4096; n < 2560)) ∧
    (∃ (s : State) (v : BitVec 32) (wr : Code), Admits s 0 pINTC 256 4 wr ∧ (let n : Nat := v.toNat % 4096; let g : Nat := n / 64; let i : Nat := n % 64; let ringer : Nat := s.r (pgINTCG g) (INTCG.SCFG_RINGER.at (16 * i)); 2560 ≤ n ∧ ringer ≠ 0 ∧ ringer ≠ BitVec.toNat wr)) ∧
    (∃ (s : State) (v : BitVec 32) (wr : Code), Admits s 0 pINTC 256 4 wr ∧ (let n : Nat := v.toNat % 4096; let g : Nat := n / 64; let i : Nat := n % 64; let ringer : Nat := s.r (pgINTCG g) (INTCG.SCFG_RINGER.at (16 * i)); 2560 ≤ n ∧ (ringer = 0 ∨ ringer = BitVec.toNat wr) ∧ nbit (s.r (pgINTCG g) INTCG.DB_PEND) i = false)) ∧
    (∃ (s : State) (v : BitVec 32) (wr : Code), Admits s 0 pINTC 256 4 wr ∧ (let n : Nat := v.toNat % 4096; let g : Nat := n / 64; let i : Nat := n % 64; let ringer : Nat := s.r (pgINTCG g) (INTCG.SCFG_RINGER.at (16 * i)); 2560 ≤ n ∧ (ringer = 0 ∨ ringer = BitVec.toNat wr) ∧ nbit (s.r (pgINTCG g) INTCG.DB_PEND) i = true)) ∧
    (∃ (s : State) (g : Nat) (i : Nat), s.mainUp = true ∧ g < 64 ∧ i < 64 ∧ (let u : State := s.scanSources.levelSettleAll; u.fc < (u.group g).slotFc)) ∧
    (∃ (s : State) (g : Nat) (i : Nat), s.mainUp = true ∧ g < 64 ∧ i < 64 ∧ (let u : State := s.scanSources.levelSettleAll; u.r pINTC INTC.SERVICE = 0 ∧ u.fc < (u.group g).freeFc)) ∧
    (∃ (s : State) (g : Nat) (i : Nat), s.mainUp = true ∧ g < 64 ∧ i < 64 ∧ (let u : State := s.scanSources.levelSettleAll; u.r pINTC INTC.SERVICE = 0 ∧ (u.group g).freeFc ≤ u.fc ∧ (u.group g).waiting = [] ∧ (u.group g).promoted = [])) ∧
    (∃ (s : State) (g : Nat) (i : Nat) (since : Nat) (ran : Nat), s.mainUp = true ∧ g < 64 ∧ i < 64 ∧ (let u : State := s.scanSources.levelSettleAll; let p : Nat := pgINTCG g; let prio : Nat := u.r p (INTCG.SCFG_PRIO.at (16 * i)); u.r pINTC INTC.SERVICE = 0 ∧ (u.group g).slotFc ≤ u.fc ∧ (u.group g).freeFc ≤ u.fc ∧ (u.group g).waiting = [(i, since, ran)] ∧ (u.group g).promoted = [] ∧ u.r p (INTCG.SCFG_PATIENCE.at (16 * i)) = 0 ∧ prio ≠ 0 ∧ u.r p (INTCG.SCFG_HOST.at (16 * i)) = 1)) ∧
    (∃ (s : State) (g : Nat) (i : Nat) (since : Nat) (ran : Nat) (c : Nat), s.mainUp = true ∧ g < 64 ∧ i < 64 ∧ (let u : State := s.scanSources.levelSettleAll; let p : Nat := pgINTCG g; let prio : Nat := u.r p (INTCG.SCFG_PRIO.at (16 * i)); u.r pINTC INTC.SERVICE = 0 ∧ (u.group g).slotFc ≤ u.fc ∧ (u.group g).freeFc ≤ u.fc ∧ (u.group g).waiting = [(i, since, ran)] ∧ (u.group g).promoted = [] ∧ u.r p (INTCG.SCFG_PATIENCE.at (16 * i)) = 0 ∧ prio ≠ 0 ∧ c < 64 ∧ u.r p (INTCG.SCFG_HOST.at (16 * i)) = 0 ∧ u.r p (INTCG.TARGET.at (16 * i)) = 2 ^ c ∧ u.coreUp c = true ∧ u.enabled (pgSC c) = true ∧ (u.core c).running = true ∧ u.fenced 0 (pgSC c) = false ∧ (u.core c).lockup = false ∧ (u.core c).irq = none ∧ (u.core c).ie = true ∧ (u.core c).rprio < prio)) ∧
    (∃ (s : State) (g : Nat) (i : Nat), s.mainUp = true ∧ g < 64 ∧ i < 64 ∧ (let u : State := s.scanSources.levelSettleAll; let p : Nat := pgINTCG g; u.r pINTC INTC.SERVICE = 1 ∧ (u.group g).draining = false ∧ (u.group g).window = none ∧ (u.group g).waiting.length < u.r p INTCG.GCFG_COAL_COUNT)) ∧
    (∃ (s : State) (g : Nat) (i : Nat), s.mainUp = true ∧ g < 64 ∧ i < 64 ∧ s.r pINTC INTC.SERVICE = 0 ∧ (let u : State := s.advanceFc (s.group g).freeFc; let x : Group := u.group g; x.waiting = [])) ∧
    (∃ (s : State) (g : Nat) (i : Nat) (since : Nat) (ran : Nat), s.mainUp = true ∧ g < 64 ∧ i < 64 ∧ s.r pINTC INTC.SERVICE = 0 ∧ (let u : State := s.advanceFc (s.group g).freeFc; let x : Group := u.group g; let p : Nat := u.r (pgINTCG g) (INTCG.SCFG_PATIENCE.at (16 * i)); x.waiting = [(i, since, ran)] ∧ x.promoted = [] ∧ p ≠ 0 ∧ p * 1782 < ran + (min u.fc x.freeFc - max since x.timerFc))) ∧
    (∃ (s : State) (g : Nat) (t : Nat), s.mainUp = true ∧ g < 64 ∧ s.r pINTC INTC.SERVICE = 1 ∧ (s.group g).window = some t) :=
  ⟨⟨nsv (gi 1 77 0 0 { waiting := [(2, 0, 0)] } z), 5, 1, by unfold Admits; decide +kernel⟩,
   ⟨gw INTCG.SCFG_RINGER 9 z, 2626, 1, by unfold Admits; decide +kernel⟩,
   ⟨z.setGroup 41 { window := some 0 }, 2626, 1, by unfold Admits; decide +kernel⟩,
   ⟨nsv (gi 1 77 0 0 { waiting := [(2, 0, 0)] } z), 2626, 1, by unfold Admits; decide +kernel⟩,
   ⟨gi 1 77 0 0 { waiting := [(3, 0, 0)], slotFc := 5 } z, 41, 41, by decide +kernel⟩,
   ⟨nsv (gi 1 77 0 0 { freeFc := 5000 } z), 41, 41, by decide +kernel⟩,
   ⟨nsv (gi 1 77 0 0 { waiting := [(2, 0, 0)] } z), 2, 41, by decide +kernel⟩,
   ⟨nsv (gi 1 77 0 0 { waiting := [(2, 0, 0)] } z), 41, 2, 0, 0, by decide +kernel⟩,
   ⟨nsv (gi 0 0 0 2 { waiting := [(2, 0, 0)] } (cr1 z)), 41, 2, 0, 0, 1, by decide +kernel⟩,
   ⟨z.setGroup 41 { window := some 0 }, 2, 41, by decide +kernel⟩,
   ⟨nsv (gi 1 77 0 0 { waiting := [(2, 0, 0)] } z), 2, 41, by decide +kernel⟩,
   ⟨nsv (gi 1 77 3 0 { waiting := [(2, 0, 9999)], freeFc := 50 } z), 41, 2, 0, 9999, by decide +kernel⟩,
   ⟨z.setGroup 41 { window := some 0 }, 41, 0, by decide +kernel⟩⟩

theorem wit_CompareChannelsMatchAndTheTimeBaseCalibrates :
    (∃ (s : State) (n : Nat), n < 64 ∧ s.mainUp = true ∧ s.pdOn 48 = true ∧ (let f : Fld → Fld := fun x => x.at (32 * n); s.r pTIMEBASE (f TIMEBASE.CMP_CTRL_EN) = 1 ∧ s.r pTIMEBASE (f TIMEBASE.CMP_STATUS_CATCHING) = 0 ∧ (let c : Nat := s.r pTIMEBASE (f TIMEBASE.CMP_COMPARE); let u : State := s.advanceTb c; c ≤ BitVec.toNat u.tb))) ∧
    (∃ (s : State) (n : Nat), n < 64 ∧ s.mainUp = true ∧ s.pdOn 48 = true ∧ (let f : Fld → Fld := fun x => x.at (32 * n); s.r pTIMEBASE (f TIMEBASE.CMP_STATUS_CATCHING) = 1)) ∧
    (∃ (s : State) (count : Nat), s.mainUp = true ∧ s.pdOn 48 = true ∧ s.r pCLOCKS CLOCKS.STATUS_HOLDOVER = 0 ∧ 26986500 ≤ count ∧ count ≤ 27013500) ∧
    (∃ (s : State) (count : Nat), s.mainUp = true ∧ s.pdOn 48 = true ∧ (s.r pCLOCKS CLOCKS.STATUS_HOLDOVER = 1 ∨ count < 26986500 ∨ 27013500 < count)) :=
  ⟨⟨cmp 0 0 z, 1, by decide +kernel⟩,
   ⟨tbw TIMEBASE.CMP_STATUS_CATCHING 1 (cmp 5 7 z), 1, by decide +kernel⟩,
   ⟨cmp 0 0 z, 27000000, by decide +kernel⟩,
   ⟨cmp 0 0 z, 1, by decide +kernel⟩⟩

theorem wit_DroverChannelsGoMoveAndStop :
    (∃ (s : State) (n : Nat) (wr : Code), n < 32 ∧ Admits s 0 (pgDV n) 320 4 wr ∧ s.r (pgDV n) DV.STATE ≠ 1 ∧ s.dvRefusal n = none) ∧
    (∃ (s : State) (n : Nat) (wr : Code) (code : Nat), n < 32 ∧ Admits s 0 (pgDV n) 320 4 wr ∧ s.r (pgDV n) DV.STATE ≠ 1 ∧ s.dvRefusal n = some code) ∧
    (∃ (s : State) (n : Nat) (wr : Code), n < 32 ∧ Admits s 0 (pgDV n) 320 4 wr ∧ s.r (pgDV n) DV.STATE = 1) ∧
    (∃ (s : State) (n : Nat), n < 32 ∧ s.r (pgDV n) DV.CFG_SSPACE = 0 ∧ s.r (pgDV n) DV.CFG_DSPACE = 0 ∧ (s.r (pgDV n) DV.ELEM = 0 ∨ s.r (pgDV n) (DV.C.at 0) = 0 ∨ s.r (pgDV n) (DV.C.at 4) = 0 ∨ s.r (pgDV n) (DV.C.at 8) = 0)) ∧
    (∃ (s : State) (n : Nat), n < 32 ∧ s.r (pgDV n) DV.CFG_SSPACE = 0 ∧ s.r (pgDV n) DV.CFG_DSPACE = 0 ∧ s.r (pgDV n) DV.ELEM ≠ 0 ∧ s.r (pgDV n) (DV.C.at 0) = 1 ∧ s.r (pgDV n) (DV.C.at 4) = 1 ∧ s.r (pgDV n) (DV.C.at 8) = 1) ∧
    (∃ (s : State), s.domainOn 0 pDROVER = true ∧ (∀ (k : Nat), k < 32 → s.r (pgDV k) DV.STATE ≠ 1)) ∧
    (∃ (s : State) (n : Nat), n < 32 ∧ s.domainOn 0 pDROVER = true ∧ s.active pDROVER = true ∧ s.fenced 0 (pgDV n) = false ∧ s.r (pgDV n) DV.STATE = 1 ∧ (∀ (k : Nat), k < 32 → k ≠ n → s.r (pgDV k) DV.STATE ≠ 1) ∧ s.r (pgDV n) (DV.C.at 0) = 1 ∧ s.r (pgDV n) (DV.C.at 4) = 1 ∧ s.r (pgDV n) (DV.C.at 8) = 1 ∧ s.r (pgDV n) DV.CFG_SSPACE = 0 ∧ s.fc < s.dvNext) ∧
    (∃ (s : State) (n : Nat), n < 32 ∧ s.domainOn 0 pDROVER = true ∧ s.active pDROVER = true ∧ s.fenced 0 (pgDV n) = false ∧ s.r (pgDV n) DV.STATE = 1 ∧ (∀ (k : Nat), k < 32 → k ≠ n → s.r (pgDV k) DV.STATE ≠ 1) ∧ s.r (pgDV n) (DV.C.at 0) = 1 ∧ s.r (pgDV n) (DV.C.at 4) = 1 ∧ s.r (pgDV n) (DV.C.at 8) = 1 ∧ s.r (pgDV n) DV.CFG_SSPACE = 0 ∧ (let e : Nat := s.r (pgDV n) DV.ELEM; let a : Nat := s.r (pgDV n) DV.SRC; let b : Nat := s.r (pgDV n) DV.DST; let x : DvSt := s.dvst n; s.dvNext ≤ s.fc ∧ e ≠ 0 ∧ s.r (pgDV n) DV.REMAIN = e ∧ a % 64 + e ≤ 64 ∧ b % 64 + e ≤ 64 ∧ s.host.tracked = [] ∧ x.readPos = 0 ∧ x.staging = [] ∧ s.canRead Master.drover a e = true)) ∧
    (∃ (s : State) (n : Nat), n < 32 ∧ s.domainOn 0 pDROVER = true ∧ s.active pDROVER = true ∧ s.fenced 0 (pgDV n) = false ∧ s.r (pgDV n) DV.STATE = 1 ∧ (∀ (k : Nat), k < 32 → k ≠ n → s.r (pgDV k) DV.STATE ≠ 1) ∧ s.r (pgDV n) (DV.C.at 0) = 1 ∧ s.r (pgDV n) (DV.C.at 4) = 1 ∧ s.r (pgDV n) (DV.C.at 8) = 1 ∧ s.r (pgDV n) DV.CFG_SSPACE = 0 ∧ (let e : Nat := s.r (pgDV n) DV.ELEM; let a : Nat := s.r (pgDV n) DV.SRC; let b : Nat := s.r (pgDV n) DV.DST; let x : DvSt := s.dvst n; s.dvNext ≤ s.fc ∧ e ≠ 0 ∧ s.r (pgDV n) DV.REMAIN = e ∧ a % 64 + e ≤ 64 ∧ b % 64 + e ≤ 64 ∧ s.host.tracked = [] ∧ x.readPos = 0 ∧ x.staging = [] ∧ s.canRead Master.drover a e = false)) ∧
    (∃ (s : State) (n : Nat), n < 32 ∧ s.domainOn 0 pDROVER = true ∧ s.active pDROVER = true ∧ s.fenced 0 (pgDV n) = false ∧ s.r (pgDV n) DV.STATE = 1 ∧ (∀ (k : Nat), k < 32 → k ≠ n → s.r (pgDV k) DV.STATE ≠ 1) ∧ s.r (pgDV n) (DV.C.at 0) = 1 ∧ s.r (pgDV n) (DV.C.at 4) = 1 ∧ s.r (pgDV n) (DV.C.at 8) = 1 ∧ s.r (pgDV n) DV.CFG_SSPACE = 0 ∧ (let e : Nat := s.r (pgDV n) DV.ELEM; let a : Nat := s.r (pgDV n) DV.SRC; let b : Nat := s.r (pgDV n) DV.DST; let x : DvSt := s.dvst n; s.dvNext ≤ s.fc ∧ e ≠ 0 ∧ s.r (pgDV n) DV.REMAIN = e ∧ a % 64 + e ≤ 64 ∧ b % 64 + e ≤ 64 ∧ s.host.tracked = [] ∧ x.readPos = e ∧ x.writePos = 0 ∧ x.staging.length = e ∧ s.r (pgDV n) DV.CFG_DSPACE = 0 ∧ s.canWrite Master.drover b e = true)) ∧
    (∃ (s : State) (n : Nat), n < 32 ∧ s.domainOn 0 pDROVER = true ∧ s.active pDROVER = true ∧ s.fenced 0 (pgDV n) = false ∧ s.r (pgDV n) DV.STATE = 1 ∧ (∀ (k : Nat), k < 32 → k ≠ n → s.r (pgDV k) DV.STATE ≠ 1) ∧ s.r (pgDV n) (DV.C.at 0) = 1 ∧ s.r (pgDV n) (DV.C.at 4) = 1 ∧ s.r (pgDV n) (DV.C.at 8) = 1 ∧ s.r (pgDV n) DV.CFG_SSPACE = 0 ∧ (let e : Nat := s.r (pgDV n) DV.ELEM; let a : Nat := s.r (pgDV n) DV.SRC; let b : Nat := s.r (pgDV n) DV.DST; let x : DvSt := s.dvst n; s.dvNext ≤ s.fc ∧ e ≠ 0 ∧ s.r (pgDV n) DV.REMAIN = e ∧ a % 64 + e ≤ 64 ∧ b % 64 + e ≤ 64 ∧ s.host.tracked = [] ∧ x.readPos = e ∧ x.writePos = 0 ∧ x.staging.length = e ∧ s.r (pgDV n) DV.CFG_DSPACE = 1 ∧ b < 2 ^ 23 ∧ s.padUp (b / 2 ^ 20) = true)) ∧
    (∃ (s : State) (n : Nat), UnitUp s 0 (pgDV n) Kind.kDV n ∧ s.r (pgDV n) DV.STATE = 1 ∧ s.r (pgDV n) DV.REMAIN = 0) ∧
    (∃ (s : State) (n : Nat), UnitUp s 0 (pgDV n) Kind.kDV n ∧ (s.r (pgDV n) DV.STATE ≠ 1 ∨ s.r (pgDV n) DV.REMAIN ≠ 0)) :=
  ⟨⟨dch 4 (pb 1) (pb 1 + 64) 0 0 {}, 1, 1, by unfold Admits; decide +kernel⟩,
   ⟨z, 1, 1, 4, by unfold Admits; decide +kernel⟩,
   ⟨dch 4 (pb 1) (pb 1 + 64) 0 1 {}, 1, 1, by unfold Admits; decide +kernel⟩,
   ⟨dch 0 (pb 1) (pb 1 + 2) 0 0 {}, 1, by decide +kernel⟩,
   ⟨z, 1, by decide +kernel⟩,
   ⟨z, by decide +kernel⟩,
   ⟨{ dch 4 (pb 1) (pb 1 + 4096) 0 1 {} with dvNext := 9 }, 1, by decide +kernel⟩,
   ⟨dch 4 (pb 1) (pb 1 + 64) 0 1 {}, 1, by decide +kernel⟩,
   ⟨dch 4 0x40000000000 (pb 1) 0 1 {}, 1, by decide +kernel⟩,
   ⟨dch 4 (pb 1) (pb 1 + 64) 0 1 { readPos := 4, staging := [1, 2, 3, 4] }, 1, by decide +kernel⟩,
   ⟨dch 4 (pb 1) 0x100 1 1 { readPos := 4, staging := [1, 2, 3, 4] }, 1, by decide +kernel⟩,
   ⟨dvw DV.REMAIN 0 (dch 4 (pb 1) (pb 1 + 64) 0 1 {}), 1, by unfold UnitUp; decide +kernel⟩,
   ⟨z, 1, by unfold UnitUp; decide +kernel⟩⟩

theorem wit_TheHostAttachesAndItsRingsRelay :
    (∃ (s : State) (rate : Nat) (width : Nat), s.mainUp = true ∧ s.phase ≠ BootPhase.held ∧ s.phase ≠ BootPhase.tripped ∧ 1 ≤ rate ∧ rate ≤ 3 ∧ 1 ≤ width ∧ width ≤ 3) ∧
    (∃ (s : State), s.mainUp = false) ∧
    (∃ (s : State), s.mainUp = true) ∧
    (∃ (s : State) (f : Nat) (i : Nat), s.mainUp = true ∧ f < 2 ∧ i < 6) ∧
    (∃ (s : State) (size : Nat), s.mainUp = true ∧ s.r pHOST HOST.LINK_STAT_RATE ≠ 0 ∧ size % 268435456 = 0 ∧ (let room : Nat := (s.r pPARTITIONS PARTITIONS.PART_SIZE + s.r pPARTITIONS PARTITIONS.HIST_WIN_SIZE) * 2 ^ 30; s.host.memActive = true ∧ size ≤ room)) ∧
    (∃ (s : State) (size : Nat), s.mainUp = true ∧ s.r pHOST HOST.LINK_STAT_RATE ≠ 0 ∧ size % 268435456 = 0 ∧ (let room : Nat := (s.r pPARTITIONS PARTITIONS.PART_SIZE + s.r pPARTITIONS PARTITIONS.HIST_WIN_SIZE) * 2 ^ 30; (s.host.memActive = false ∨ room < size))) ∧
    (∃ (s : State) (v : Nat), s.mainUp = true ∧ v < 2048 ∧ (∀ (x : Nat), x ∈ s.host.pba → s.vectorOpen x = false) ∧ v ∈ s.host.open_) ∧
    (∃ (s : State) (v : Nat), s.mainUp = true ∧ v < 2048 ∧ (∀ (x : Nat), x ∈ s.host.pba → s.vectorOpen x = false) ∧ (¬v ∈ s.host.open_) ∧ (¬v ∈ s.host.pba)) ∧
    (∃ (s : State) (v : Nat), s.mainUp = true ∧ v < 2048 ∧ (∀ (x : Nat), x ∈ s.host.pba → s.vectorOpen x = false) ∧ (¬v ∈ s.host.open_) ∧ List.filter (fun x => x == v) s.host.pba = [v] ∧ ({ s with host := { s.host with open_ := s.host.open_ ++ [v] } } : State).vectorOpen v = true) ∧
    (∃ (s : State) (n : Nat) (v : BitVec 32) (wr : Code), n < 8 ∧ Admits s 0 pHOST (524 + 32 * n) 4 wr ∧ (let d : Nat := (v.toNat % 65536 + 65536 - s.r pHOST (HOST.IR_TAIL.at (32 * n))) % 65536; let size : Nat := 2 ^ s.r pHOST (HOST.IR_CFG_SIZE.at (32 * n)); d ≤ size)) ∧
    (∃ (s : State) (n : Nat) (v : BitVec 32) (wr : Code), n < 8 ∧ Admits s 0 pHOST (524 + 32 * n) 4 wr ∧ (let d : Nat := (v.toNat % 65536 + 65536 - s.r pHOST (HOST.IR_TAIL.at (32 * n))) % 65536; let size : Nat := 2 ^ s.r pHOST (HOST.IR_CFG_SIZE.at (32 * n)); size < d)) ∧
    (∃ (s : State) (n : Nat) (v : BitVec 32) (wr : Code), n < 8 ∧ Admits s 0 pHOST (784 + 32 * n) 4 wr ∧ (let tail : Nat := s.r pHOST (HOST.OR_TAIL.at (32 * n)); let d : Nat := (v.toNat % 65536 + 65536 - tail) % 65536; let used : Nat := (s.r pHOST (HOST.OR_HEAD.at (32 * n)) + 65536 - tail) % 65536; d ≤ used)) ∧
    (∃ (s : State) (n : Nat) (v : BitVec 32) (wr : Code), n < 8 ∧ Admits s 0 pHOST (784 + 32 * n) 4 wr ∧ (let tail : Nat := s.r pHOST (HOST.OR_TAIL.at (32 * n)); let d : Nat := (v.toNat % 65536 + 65536 - tail) % 65536; let used : Nat := (s.r pHOST (HOST.OR_HEAD.at (32 * n)) + 65536 - tail) % 65536; used < d)) ∧
    (∃ (s : State) (n : Nat) (v : BitVec 32) (wr : Code), n < 8 ∧ Admits s 0 pHOST 1036 4 wr ∧ (let d : Nat := (v.toNat % 65536 + 65536 - s.r pHOST HOST.RTX_TAIL) % 65536; d ≤ 2 ^ s.r pHOST HOST.RTX_DESC_COUNT)) ∧
    (∃ (s : State) (n : Nat) (v : BitVec 32) (wr : Code), n < 8 ∧ Admits s 0 pHOST 1036 4 wr ∧ (let d : Nat := (v.toNat % 65536 + 65536 - s.r pHOST HOST.RTX_TAIL) % 65536; 2 ^ s.r pHOST HOST.RTX_DESC_COUNT < d)) ∧
    (∃ (s : State) (n : Nat) (l : RelayLine), n < 8 ∧ s.mainUp = true ∧ s.pdOn 49 = true ∧ s.fenced 0 pHOST = false ∧ s.active pFIELD = true ∧ s.r pHOST (HOST.IR_CFG_EN.at (32 * n)) = 1 ∧ (let f : Fld → Fld := fun x => x.at (32 * n); s.r pHOST (f HOST.IR_HEAD) ≠ s.r pHOST (f HOST.IR_TAIL) ∧ s.r pHOST (f HOST.IR_TAIL_ADDR) = 0 ∧ s.cacheUp = true ∧ fieldLE l 2 2 = 3 ∧ 1 ≤ fieldLE l 4 1 ∧ fieldLE l 4 1 ≤ 56 ∧ fieldLE l 5 3 = 0 ∧ s.chanValid (fieldLE l 0 2) = false)) ∧
    (∃ (s : State) (n : Nat) (l : RelayLine), n < 8 ∧ s.mainUp = true ∧ s.pdOn 49 = true ∧ s.fenced 0 pHOST = false ∧ s.active pFIELD = true ∧ s.r pHOST (HOST.IR_CFG_EN.at (32 * n)) = 1 ∧ (let f : Fld → Fld := fun x => x.at (32 * n); s.r pHOST (f HOST.IR_HEAD) ≠ s.r pHOST (f HOST.IR_TAIL) ∧ s.r pHOST (f HOST.IR_TAIL_ADDR) = 0 ∧ s.cacheUp = true ∧ fieldLE l 4 1 = 0)) ∧
    (∃ (s : State) (o : Nat), o < 8 ∧ s.mainUp = true ∧ s.pdOn 49 = true ∧ s.fenced 0 pHOST = false ∧ s.active pFIELD = true ∧ s.cacheUp = true ∧ sget [] s.host.orQ o = [] ∧ (let f : Fld → Fld := fun x => x.at (32 * o); let cl : Nat := s.r pHOST HOST.RTX_CFG_CLUSTER; let d : List Byte := s.padRead cl (s.r pHOST HOST.RTX_DESC_BASE + 16 * (s.r pHOST HOST.RTX_TAIL % 2 ^ s.r pHOST HOST.RTX_DESC_COUNT)) 16; let k : Nat := fieldLE d 6 2 / 16; s.r pHOST (f HOST.OR_CFG_EN) = 1 ∧ s.r pHOST (f HOST.OR_CFG_INT) = 0 ∧ s.r pHOST (f HOST.OR_HEAD_ADDR) = 0 ∧ s.r pHOST HOST.RTX_CFG_EN = 1 ∧ s.r pHOST HOST.RTX_HEAD ≠ s.r pHOST HOST.RTX_TAIL ∧ s.padUp cl = true ∧ s.chanValid k = true ∧ 1 ≤ fieldLE d 4 2 ∧ fieldLE d 4 2 ≤ 4096 ∧ fieldLE d 8 8 = 0 ∧ k / 512 = o ∧ nbit (fieldLE d 6 2) 0 = false ∧ (let bytes : List Byte := s.padRingRead cl (s.r pHOST HOST.RTX_DATA_BASE) (2 ^ s.r pHOST HOST.RTX_DATA_SIZE) (fieldLE d 0 4) (fieldLE d 4 2); let u : State × List Byte × Option Nat × List Byte := s.relayBuild k false bytes; let head : Nat := s.r pHOST (f HOST.OR_HEAD); let used : Nat := (head + 65536 - s.r pHOST (f HOST.OR_TAIL)) % 65536; let size : Nat := 2 ^ s.r pHOST (f HOST.OR_CFG_SIZE); 1 ≤ u.snd.fst.length ∧ u.snd.fst.length ≤ 56 ∧ used + 1 ≤ size))) ∧
    (∃ (s : State) (o : Nat), o < 8 ∧ s.mainUp = true ∧ s.pdOn 49 = true ∧ s.fenced 0 pHOST = false ∧ s.active pFIELD = true ∧ s.cacheUp = true ∧ sget [] s.host.orQ o = [] ∧ (let f : Fld → Fld := fun x => x.at (32 * o); let cl : Nat := s.r pHOST HOST.RTX_CFG_CLUSTER; let d : List Byte := s.padRead cl (s.r pHOST HOST.RTX_DESC_BASE + 16 * (s.r pHOST HOST.RTX_TAIL % 2 ^ s.r pHOST HOST.RTX_DESC_COUNT)) 16; let k : Nat := fieldLE d 6 2 / 16; s.r pHOST (f HOST.OR_CFG_EN) = 1 ∧ s.r pHOST (f HOST.OR_CFG_INT) = 0 ∧ s.r pHOST (f HOST.OR_HEAD_ADDR) = 0 ∧ s.r pHOST HOST.RTX_CFG_EN = 1 ∧ s.r pHOST HOST.RTX_HEAD ≠ s.r pHOST HOST.RTX_TAIL ∧ s.padUp cl = true ∧ s.chanValid k = true ∧ 1 ≤ fieldLE d 4 2 ∧ fieldLE d 4 2 ≤ 4096 ∧ fieldLE d 8 8 = 0 ∧ k / 512 = o ∧ nbit (fieldLE d 6 2) 0 = false ∧ (let bytes : List Byte := s.padRingRead cl (s.r pHOST HOST.RTX_DATA_BASE) (2 ^ s.r pHOST HOST.RTX_DATA_SIZE) (fieldLE d 0 4) (fieldLE d 4 2); let u : State × List Byte × Option Nat × List Byte := s.relayBuild k false bytes; let head : Nat := s.r pHOST (f HOST.OR_HEAD); let used : Nat := (head + 65536 - s.r pHOST (f HOST.OR_TAIL)) % 65536; let size : Nat := 2 ^ s.r pHOST (f HOST.OR_CFG_SIZE); used + (u.snd.fst.length + 55) / 56 > size))) :=
  ⟨⟨{ z with phase := .up }, 1, 1, by decide +kernel⟩,
   ⟨State.reset, by decide +kernel⟩,
   ⟨{ z with phase := .up }, by decide +kernel⟩,
   ⟨{ z with phase := .up }, 1, 1, by decide +kernel⟩,
   ⟨{ up with host := { up.host with memActive := true, open_ := [5], pba := [7] } }, 0x10000000, by decide +kernel⟩,
   ⟨up, 0x10000000, by decide +kernel⟩,
   ⟨{ up with host := { up.host with memActive := true, open_ := [5], pba := [7] } }, 5, by decide +kernel⟩,
   ⟨{ z with phase := .up }, 1, by decide +kernel⟩,
   ⟨{ z with host := { z.host with open_ := [5], pba := [7], cfg := [(0, 6), (1, 0x8000)] } }, 7, by decide +kernel⟩,
   ⟨{ z with phase := .up }, 1, 0, 1, by unfold Admits; decide +kernel⟩,
   ⟨hi HOST.IR_CFG 0x104 (hi HOST.IR_HEAD 3 up), 1, 17, 1, by unfold Admits; decide +kernel⟩,
   ⟨{ z with phase := .up }, 1, 0, 1, by unfold Admits; decide +kernel⟩,
   ⟨{ z with phase := .up }, 1, 1, 1, by unfold Admits; decide +kernel⟩,
   ⟨{ z with phase := .up }, 1, 0, 1, by unfold Admits; decide +kernel⟩,
   ⟨{ z with phase := .up }, 1, 17, 1, by unfold Admits; decide +kernel⟩,
   ⟨hi HOST.IR_CFG 0x104 (hi HOST.IR_HEAD 3 up), 1, leBytes 2 99 ++ leBytes 2 3 ++ leBytes 1 5 ++ leBytes 59 0, by decide +kernel⟩,
   ⟨hi HOST.IR_CFG 0x104 (hi HOST.IR_HEAD 3 up), 1, leBytes 2 99 ++ leBytes 2 3 ++ leBytes 60 0, by decide +kernel⟩,
   ⟨obq 20 4, 1, by decide +kernel⟩,
   ⟨obq 200 1, 1, by decide +kernel⟩⟩

theorem wit_PinsAreConfiguredDrivenAndTalkSerial :
    (∃ (s : State) (k : Nat) (v : BitVec 32) (wr : Code), k < 128 ∧ Admits s 0 pPINS (256 + 4 * k) 4 wr ∧ s.r pPINS (PINS.MP_CFG_OWNER.at (4 * k)) = BitVec.toNat wr ∧ v.getLsbD 0 = true ∧ (96 ≤ k ∧ k < 112 ∨ 124 ≤ k)) ∧
    (∃ (s : State) (k : Nat) (v : BitVec 32) (wr : Code), k < 128 ∧ Admits s 0 pPINS (256 + 4 * k) 4 wr ∧ s.r pPINS (PINS.MP_CFG_OWNER.at (4 * k)) = BitVec.toNat wr ∧ (v.getLsbD 0 = false ∨ k < 96 ∨ 112 ≤ k ∧ k < 124) ∧ v.toNat / 2 ^ 24 = BitVec.toNat wr) ∧
    (∃ (s : State) (b : Nat) (wr : Code), b < 4 ∧ (∀ (j : Nat), j < 32 → s.r pPINS (PINS.MP_CFG_OWNER.at (4 * (32 * b + j))) = BitVec.toNat wr) ∧ Admits s 0 pPINS (768 + 32 * b) 4 wr) ∧
    (∃ (s : State) (b : Nat) (wr : Code), b < 4 ∧ (∀ (j : Nat), j < 32 → s.r pPINS (PINS.MP_CFG_OWNER.at (4 * (32 * b + j))) = BitVec.toNat wr) ∧ Admits s 0 pPINS (784 + 32 * b) 4 wr) ∧
    (∃ (s : State) (b : Nat) (wr : Code), b < 4 ∧ (∀ (j : Nat), j < 32 → s.r pPINS (PINS.MP_CFG_OWNER.at (4 * (32 * b + j))) = BitVec.toNat wr) ∧ Admits s 0 pPINS (772 + 32 * b) 4 wr) ∧
    (∃ (s : State) (b : Nat) (wr : Code), b < 4 ∧ (∀ (j : Nat), j < 32 → s.r pPINS (PINS.MP_CFG_OWNER.at (4 * (32 * b + j))) = BitVec.toNat wr) ∧ Admits s 0 pPINS (776 + 32 * b) 4 wr) ∧
    (∃ (s : State) (b : Nat) (wr : Code), b < 4 ∧ (∀ (j : Nat), j < 32 → s.r pPINS (PINS.MP_CFG_OWNER.at (4 * (32 * b + j))) = BitVec.toNat wr) ∧ Admits s 0 pPINS (780 + 32 * b) 4 wr) ∧
    (∃ (s : State) (b : Nat) (v : BitVec 32) (wr : Code), b < 4 ∧ (let out : Fld := PINS.GPIO_OUT.at (32 * b); let old : BitVec 32 := BitVec.ofNat 32 (s.r pPINS out); (∀ (j : Nat), j < 32 → s.r pPINS (PINS.MP_CFG_OWNER.at (4 * (32 * b + j))) ≠ 0 ∧ s.r pPINS (PINS.MP_CFG_OWNER.at (4 * (32 * b + j))) ≠ BitVec.toNat wr) ∧ wr ≠ 2 ∧ v.getLsbD 0 ≠ old.getLsbD 0 ∧ Admits s 0 pPINS (768 + 32 * b) 4 wr)) ∧
    (∃ (s : State) (b : Nat) (v : BitVec 32) (wr : Code), b < 4 ∧ (let oe : Fld := PINS.GPIO_OE.at (32 * b); (∀ (j : Nat), j < 32 → s.r pPINS (PINS.MP_CFG_OWNER.at (4 * (32 * b + j))) ≠ 0 ∧ s.r pPINS (PINS.MP_CFG_OWNER.at (4 * (32 * b + j))) ≠ BitVec.toNat wr) ∧ wr ≠ 2 ∧ v.getLsbD 0 ≠ (BitVec.ofNat 32 (s.r pPINS oe)).getLsbD 0 ∧ Admits s 0 pPINS (784 + 32 * b) 4 wr)) ∧
    (∃ (s : State) (b : Nat) (v : BitVec 32) (wr : Code), b < 4 ∧ (∀ (j : Nat), j < 32 → s.r pPINS (PINS.MP_CFG_OWNER.at (4 * (32 * b + j))) ≠ 0 ∧ s.r pPINS (PINS.MP_CFG_OWNER.at (4 * (32 * b + j))) ≠ BitVec.toNat wr) ∧ wr ≠ 2 ∧ v.getLsbD 0 = true ∧ Admits s 0 pPINS (772 + 32 * b) 4 wr) ∧
    (∃ (s : State) (b : Nat) (v : BitVec 32) (wr : Code), b < 4 ∧ (∀ (j : Nat), j < 32 → s.r pPINS (PINS.MP_CFG_OWNER.at (4 * (32 * b + j))) ≠ 0 ∧ s.r pPINS (PINS.MP_CFG_OWNER.at (4 * (32 * b + j))) ≠ BitVec.toNat wr) ∧ wr ≠ 2 ∧ v.getLsbD 0 = true ∧ Admits s 0 pPINS (776 + 32 * b) 4 wr) ∧
    (∃ (s : State) (b : Nat) (v : BitVec 32) (wr : Code), b < 4 ∧ (∀ (j : Nat), j < 32 → s.r pPINS (PINS.MP_CFG_OWNER.at (4 * (32 * b + j))) ≠ 0 ∧ s.r pPINS (PINS.MP_CFG_OWNER.at (4 * (32 * b + j))) ≠ BitVec.toNat wr) ∧ wr ≠ 2 ∧ v.getLsbD 0 = true ∧ Admits s 0 pPINS (780 + 32 * b) 4 wr) ∧
    (∃ (s : State) (b : Nat) (v : BitVec 2), b < 4 ∧ s.mainUp = true ∧ v ≠ 3 ∧ s.bankV b = v.toNat) ∧
    (∃ (s : State) (b : Nat) (v : BitVec 2), b < 4 ∧ s.mainUp = true ∧ v ≠ 3 ∧ s.bankV b ≠ v.toNat) ∧
    (∃ (s : State) (q : Nat) (v : BitVec 32) (wr : Code), v.getLsbD 31 = true ∧ q < 4 ∧ Admits s 0 pPINS (1028 + 32 * q) 4 wr ∧ s.r pPINS (PINS.I2C_CFG_EN.at (32 * q)) = 1 ∧ s.r pPINS (PINS.I2C_STAT_BUSY.at (32 * q)) = 0) ∧
    (∃ (s : State) (q : Nat) (v : BitVec 32) (wr : Code), v.getLsbD 31 = true ∧ q < 4 ∧ Admits s 0 pPINS (1028 + 32 * q) 4 wr ∧ s.r pPINS (PINS.I2C_CFG_EN.at (32 * q)) = 1 ∧ s.r pPINS (PINS.I2C_STAT_BUSY.at (32 * q)) = 1) ∧
    (∃ (s : State) (q : Nat) (v : BitVec 32) (wr : Code), v.getLsbD 31 = true ∧ q < 2 ∧ Admits s 0 pPINS (1284 + 32 * q) 4 wr ∧ s.r pPINS (PINS.SPI_CFG_EN.at (32 * q)) = 1 ∧ s.r pPINS (PINS.SPI_STAT.at (32 * q)) = 0) ∧
    (∃ (s : State) (q : Nat) (v : BitVec 32) (wr : Code), v.getLsbD 31 = true ∧ q < 2 ∧ Admits s 0 pPINS (1284 + 32 * q) 4 wr ∧ s.r pPINS (PINS.SPI_CFG_EN.at (32 * q)) = 1 ∧ s.r pPINS (PINS.SPI_STAT.at (32 * q)) = 1) ∧
    (∃ (s : State) (q : Nat), q < 4 ∧ s.mainUp = true ∧ s.r pPINS (PINS.I2C_STAT_BUSY.at (32 * q)) = 1 ∧ s.pinIn (81 + 2 * q) = true) ∧
    (∃ (s : State) (q : Nat) (nack : Bool), q < 4 ∧ s.mainUp = true ∧ s.r pPINS (PINS.I2C_STAT_BUSY.at (32 * q)) = 1 ∧ (nack = true ∨ s.pinIn (81 + 2 * q) = false)) ∧
    (∃ (s : State) (q : Nat), q < 4 ∧ s.mainUp = true ∧ s.r pPINS (PINS.I2C_STAT_BUSY.at (32 * q)) = 1 ∧ s.pinIn (80 + 2 * q) = false) ∧
    (∃ (s : State) (q : Nat), q < 4 ∧ s.mainUp = true ∧ s.r pPINS (PINS.I2C_STAT_BUSY.at (32 * q)) = 1 ∧ s.pinIn (80 + 2 * q) = true) ∧
    (∃ (s : State) (q : Nat), q < 2 ∧ s.mainUp = true ∧ s.r pPINS (PINS.SPI_STAT.at (32 * q)) = 1) :=
  ⟨⟨z, 100, 1, 1, by unfold Admits; decide +kernel⟩,
   ⟨z, 1, 0x01000001, 1, by unfold Admits; decide +kernel⟩,
   ⟨z, 1, 1, by unfold Admits; decide +kernel⟩,
   ⟨z, 1, 1, by unfold Admits; decide +kernel⟩,
   ⟨z, 1, 1, by unfold Admits; decide +kernel⟩,
   ⟨z, 1, 1, by unfold Admits; decide +kernel⟩,
   ⟨z, 1, 1, by unfold Admits; decide +kernel⟩,
   ⟨pown 1 9, 1, 1, 1, by unfold Admits; decide +kernel⟩,
   ⟨pown 1 9, 1, 1, 1, by unfold Admits; decide +kernel⟩,
   ⟨pown 1 9, 1, 1, 1, by unfold Admits; decide +kernel⟩,
   ⟨pown 1 9, 1, 1, 1, by unfold Admits; decide +kernel⟩,
   ⟨pown 1 9, 1, 1, 1, by unfold Admits; decide +kernel⟩,
   ⟨z, 1, 2, by decide +kernel⟩,
   ⟨z, 1, 0, by decide +kernel⟩,
   ⟨ser 1 0, 1, 0x80000000, 1, by unfold Admits; decide +kernel⟩,
   ⟨ser 1 1, 1, 0x80000000, 1, by unfold Admits; decide +kernel⟩,
   ⟨ser 1 0, 1, 0x80000000, 1, by unfold Admits; decide +kernel⟩,
   ⟨ser 1 1, 1, 0x80000000, 1, by unfold Admits; decide +kernel⟩,
   ⟨ser 1 1, 1, by decide +kernel⟩,
   ⟨ser 1 1, 1, true, by decide +kernel⟩,
   ⟨{ pw PINS.MP_CFG_ALLOW 328 1 (pw PINS.MP_CFG_ALLOW 332 1 (pw PINS.MP_CFG_ALLOW 376 1 (ser 1 1))) with pins := { (ser 1 1).pins with bankV := [] } }, 1, by decide +kernel⟩,
   ⟨ser 1 1, 1, by decide +kernel⟩,
   ⟨ser 1 1, 1, by decide +kernel⟩⟩

theorem wit_TheJournalAppendsFlushesCheckpointsAndReplays :
    (∃ (s : State) (e : JEntry), s.domainOn 0 pJOURNAL = true ∧ s.journal.buf = [e] ∧ s.journal.waiting = [] ∧ s.journal.user = false ∧ (let c : Nat := 2 ^ s.r pJOURNAL JOURNAL.STAGE_SIZE; let a : Nat := s.r pJOURNAL JOURNAL.STAGE_BASE + BitVec.toNat e.seq % c * 64; e.staged = false ∧ e.bytes.length = 64 ∧ s.canWrite Master.journal a 64 = false)) ∧
    (∃ (s : State) (e : JEntry), s.domainOn 0 pJOURNAL = true ∧ s.journal.buf = [e] ∧ s.journal.waiting = [] ∧ s.journal.user = false ∧ (let c : Nat := 2 ^ s.r pJOURNAL JOURNAL.STAGE_SIZE; let a : Nat := s.r pJOURNAL JOURNAL.STAGE_BASE + BitVec.toNat e.seq % c * 64; e.staged = false ∧ e.bytes.length = 64 ∧ s.canWrite Master.journal a 64 = true ∧ s.r pJOURNAL JOURNAL.CFG_PW_EN = 0)) ∧
    (∃ (s : State) (e : JEntry), s.domainOn 0 pJOURNAL = true ∧ s.journal.buf = [e] ∧ s.journal.waiting = [] ∧ s.journal.user = false ∧ e.issued = true ∧ e.windowed = false ∧ s.r pJOURNAL JOURNAL.CFG_PW_EN = 1 ∧ s.cacheUp = false) ∧
    (∃ (s : State) (e : JEntry), s.domainOn 0 pJOURNAL = true ∧ s.journal.buf = [e] ∧ s.journal.waiting = [] ∧ s.journal.user = false ∧ e.issued = true ∧ e.windowed = false ∧ s.r pJOURNAL JOURNAL.CFG_PW_EN = 1 ∧ s.cacheUp = true) ∧
    (∃ (s : State) (e : JEntry), s.domainOn 0 pJOURNAL = true ∧ s.journal.buf = [e] ∧ s.journal.waiting = [] ∧ s.journal.user = false ∧ e.issued = false) ∧
    (∃ (s : State), s.mainUp = true ∧ s.mayHandOver = false ∧ s.domainOn 0 pJOURNAL = true ∧ s.journal.user = true) ∧
    (∃ (s : State), s.mainUp = true ∧ s.mayHandOver = false ∧ s.domainOn 0 pJOURNAL = true ∧ s.journal.user = false ∧ s.r pJOURNAL JOURNAL.CFG_PWRFAIL_FLUSH = 1) ∧
    (∃ (s : State), s.mainUp = true ∧ s.mayHandOver = false ∧ s.domainOn 0 pJOURNAL = true ∧ s.r pJOURNAL JOURNAL.CFG_PWRFAIL_FLUSH = 0) ∧
    (∃ (s : State) (wr : Code), Admits s 0 pJOURNAL 800 4 wr ∧ (let ok : Bool := s.appendRole && !s.journal.user && s.enabled pJOURNAL && !s.fenced 0 pJOURNAL && !s.b pJOURNAL JOURNAL.STATUS_GPF; ok = false)) ∧
    (∃ (s : State) (v : BitVec 32) (wr : Code), Admits s 0 pJOURNAL 800 4 wr ∧ (let ok : Bool := s.appendRole && !s.journal.user && s.enabled pJOURNAL && !s.fenced 0 pJOURNAL && !s.b pJOURNAL JOURNAL.STATUS_GPF; ok = true ∧ nbit v.toNat 31 = false)) ∧
    (∃ (s : State) (v : BitVec 32) (wr : Code), Admits s 0 pJOURNAL 800 4 wr ∧ (let ok : Bool := s.appendRole && !s.journal.user && s.enabled pJOURNAL && !s.fenced 0 pJOURNAL && !s.b pJOURNAL JOURNAL.STATUS_GPF; ok = true ∧ nbit v.toNat 31 = true ∧ s.journalRoom (v.toNat % 8 + 1) = false)) ∧
    (∃ (s : State) (v : BitVec 32) (wr : Code), Admits s 0 pJOURNAL 800 4 wr ∧ (let ok : Bool := s.appendRole && !s.journal.user && s.enabled pJOURNAL && !s.fenced 0 pJOURNAL && !s.b pJOURNAL JOURNAL.STATUS_GPF; ok = true ∧ nbit v.toNat 31 = true ∧ v.toNat % 8 = 0 ∧ s.journalRoom 1 = true ∧ s.journalRuns = true ∧ s.linkOpen = false)) ∧
    (∃ (s : State) (wr : Code), Admits s 0 pJOURNAL 360 4 wr ∧ s.marking = true) ∧
    (∃ (s : State) (wr : Code), Admits s 0 pJOURNAL 360 4 wr ∧ s.marking = false ∧ s.appendRole = false) ∧
    (∃ (s : State) (wr : Code), Admits s 0 pJOURNAL 360 4 wr ∧ s.journal.waiting = [] ∧ s.openTxns = [] ∧ s.journalRoom 1 = true ∧ s.journalRuns = true ∧ s.linkOpen = false) ∧
    (∃ (s : State) (wr : Code), Admits s 0 pJOURNAL 360 4 wr ∧ s.journal.cpBusy.isSome = true) ∧
    (∃ (s : State) (wr : Code), Admits s 0 pJOURNAL 360 4 wr ∧ s.journal.cpBusy = none ∧ s.cpBad = true) ∧
    (∃ (s : State) (wr : Code), Admits s 0 pJOURNAL 360 4 wr ∧ s.journal.cpBusy = none ∧ s.cpBad = false) ∧
    (∃ (s : State), s.r pJOURNAL JOURNAL.CP_SEQ ≠ s.r pJOURNAL JOURNAL.CP_MARK_SEQ) ∧
    (∃ (s : State), s.r pJOURNAL JOURNAL.CP_LEN % 64 ≠ 0) ∧
    (∃ (s : State), s.r pJOURNAL JOURNAL.CP_SLOT_MIB * 1048576 < s.r pJOURNAL JOURNAL.CP_LEN + 64) ∧
    (∃ (s : State), s.domainOn 0 pJOURNAL = true ∧ s.journal.cpBusy = none) ∧
    (∃ (s : State) (k : Nat) (src : Nat) (len : Nat) (seq : Nat), s.domainOn 0 pJOURNAL = true ∧ s.journal.cpBusy = some (k, src, len, seq) ∧ s.journal.cpOwn = false ∧ k < 2 ∧ seq < 2 ^ 64 ∧ s.cacheUp = false) ∧
    (∃ (s : State) (k : Nat) (src : Nat) (len : Nat) (seq : Nat), s.domainOn 0 pJOURNAL = true ∧ s.journal.cpBusy = some (k, src, len, seq) ∧ s.journal.cpOwn = false ∧ k < 2 ∧ seq < 2 ^ 64 ∧ s.cacheUp = true) ∧
    (∃ (s : State) (wr : Code), Admits s 0 pJOURNAL 416 4 wr ∧ (s.role ≠ 3 ∨ s.journal.replay = true)) ∧
    (∃ (s : State) (wr : Code), Admits s 0 pJOURNAL 416 4 wr ∧ s.role = 3 ∧ s.journal.replay = false) ∧
    (∃ (s : State), s.domainOn 0 pJOURNAL = true ∧ s.journal.replay = false) ∧
    (∃ (s : State), s.domainOn 0 pJOURNAL = true ∧ s.journal.replay = true ∧ s.role = 3 ∧ s.journal.replayAt = 0 ∧ s.r pJOURNAL JOURNAL.REPLAY_COUNT = 1 ∧ s.b pMEMCTL MEMCTL.TRAIN_STAT_RUNNING = false ∧ (let q : Nat := s.r pJOURNAL JOURNAL.NEXT_SEQ; let e : List Byte := s.devRead Master.journal (s.r pJOURNAL JOURNAL.REPLAY_SRC) 64; fieldLE e 60 4 = BitVec.toNat (crc32c (List.take 60 e)) ∧ fieldLE e 0 8 = q ∧ fieldLE e 20 2 = 3841 ∧ nbit (fieldLE e 22 2) 0 = false ∧ q + 1 < 2 ^ 64 ∧ s.r pJOURNAL JOURNAL.STATUS_GPF = 0 ∧ s.fenced 0 pJOURNAL = false ∧ s.journal.buf.length < 2048 ∧ s.linkOpen = false)) ∧
    (∃ (s : State), s.domainOn 0 pJOURNAL = true ∧ s.journal.replay = true ∧ s.role = 3 ∧ s.journal.replayAt = 0 ∧ s.r pJOURNAL JOURNAL.REPLAY_COUNT = 1 ∧ s.b pMEMCTL MEMCTL.TRAIN_STAT_RUNNING = false ∧ (let e : List Byte := s.devRead Master.journal (s.r pJOURNAL JOURNAL.REPLAY_SRC) 64; (¬fieldLE e 60 4 = BitVec.toNat (crc32c (List.take 60 e))))) :=
  ⟨⟨jb je (zj.w pJOURNAL JOURNAL.STAGE_BASE 0x1000), je, by decide +kernel⟩,
   ⟨jb { je with issued := true } (zj.w pHOST HOST.LINK_STAT_CACHE 0), { je with issued := true }, by decide +kernel⟩,
   ⟨jb { je with issued := true } ((zj.w pJOURNAL JOURNAL.CFG_PW_EN 1).w pHOST HOST.LINK_STAT_CACHE 0), { je with issued := true }, by decide +kernel⟩,
   ⟨jb { je with staged := true, issued := true } (zj.w pJOURNAL JOURNAL.CFG_PW_EN 1), { je with staged := true, issued := true }, by decide +kernel⟩,
   ⟨jb je zj, je, by decide +kernel⟩,
   ⟨{ zj with journal := { zj.journal with user := true } }, by decide +kernel⟩,
   ⟨zj, by decide +kernel⟩,
   ⟨zj.w pJOURNAL JOURNAL.CFG_PWRFAIL_FLUSH 0, by decide +kernel⟩,
   ⟨zj.w pJOURNAL CTRL_ENABLE 0, 1, by unfold Admits; decide +kernel⟩,
   ⟨zj, 0, 1, by unfold Admits; decide +kernel⟩,
   ⟨zj.w pJOURNAL JOURNAL.NEXT_SEQ 1025, 0x80000000, 1, by unfold Admits; decide +kernel⟩,
   ⟨zj, 0x80000000, 1, by unfold Admits; decide +kernel⟩,
   ⟨{ zj with journal := { zj.journal with waiting := [(3, [])] } }, 1, by unfold Admits; decide +kernel⟩,
   ⟨role 1 zj, 1, by unfold Admits; decide +kernel⟩,
   ⟨zj, 1, by unfold Admits; decide +kernel⟩,
   ⟨{ zj.w pHOST HOST.LINK_STAT_CACHE 0 with journal := { zj.journal with cpBusy := some (0, 0x40, 64, 7) } }, 1, by unfold Admits; decide +kernel⟩,
   ⟨zj, 1, by unfold Admits; decide +kernel⟩,
   ⟨(zj.w pJOURNAL JOURNAL.CP_SRC (pb 4)).w pJOURNAL JOURNAL.CP_SLOT_MIB 1, 1, by unfold Admits; decide +kernel⟩,
   ⟨zj.w pJOURNAL JOURNAL.CP_SEQ 5, by decide +kernel⟩,
   ⟨zj.w pJOURNAL JOURNAL.CP_LEN 65, by decide +kernel⟩,
   ⟨zj.w pJOURNAL JOURNAL.CP_LEN 0xFFFFFFC0, by decide +kernel⟩,
   ⟨zj, by decide +kernel⟩,
   ⟨{ zj.w pHOST HOST.LINK_STAT_CACHE 0 with journal := { zj.journal with cpBusy := some (0, 0x40, 64, 7) } }, 0, 64, 64, 7, by decide +kernel⟩,
   ⟨{ zj with journal := { zj.journal with cpBusy := some (0, 0x40, 64, 7) } }, 0, 64, 64, 7, by decide +kernel⟩,
   ⟨zj, 1, by unfold Admits; decide +kernel⟩,
   ⟨role 3 zj, 1, by unfold Admits; decide +kernel⟩,
   ⟨zj, by decide +kernel⟩,
   ⟨rp (eU 5), by decide +kernel⟩,
   ⟨rp [1], by decide +kernel⟩⟩

theorem wit_TheMirrorPairClaimsHandsOverAndResyncs :
    (∃ (s : State) (v : BitVec 32) (wr : Code), Admits s 0 pMIRROR 264 4 wr ∧ v.toNat / 256 ≠ 4281684) ∧
    (∃ (s : State) (v : BitVec 32) (wr : Code), Admits s 0 pMIRROR 264 4 wr ∧ v.toNat / 256 = 4281684 ∧ s.r pMIRROR MIRROR.ROLE_SCHEDULED = 1) ∧
    (∃ (s : State) (v : BitVec 32) (wr : Code), Admits s 0 pMIRROR 264 4 wr ∧ s.r pMIRROR MIRROR.ROLE_SCHEDULED = 0 ∧ v = 1096111105 ∧ (s.enabled pJOURNAL = false ∨ 4294967293 < s.newEpoch ∨ s.role = 0 ∨ s.role = 1 ∧ s.pairUp = false)) ∧
    (∃ (s : State) (v : BitVec 32) (wr : Code), Admits s 0 pMIRROR 264 4 wr ∧ s.r pMIRROR MIRROR.ROLE_SCHEDULED = 0 ∧ v = 1096111105 ∧ s.enabled pJOURNAL = true ∧ s.newEpoch ≤ 4294967293 ∧ s.role = 2) ∧
    (∃ (s : State) (v : BitVec 32) (wr : Code), Admits s 0 pMIRROR 264 4 wr ∧ s.r pMIRROR MIRROR.ROLE_SCHEDULED = 0 ∧ v = 1096111105 ∧ s.enabled pJOURNAL = true ∧ s.newEpoch ≤ 4294967293 ∧ s.role = 3 ∧ s.r pMIRROR MIRROR.CFG_PAIRED = 0 ∧ s.bellwether.isSome = true) ∧
    (∃ (s : State) (v : BitVec 32) (wr : Code), Admits s 0 pMIRROR 264 4 wr ∧ s.r pMIRROR MIRROR.ROLE_SCHEDULED = 0 ∧ v = 1096111105 ∧ s.enabled pJOURNAL = true ∧ s.newEpoch ≤ 4294967293 ∧ s.role = 1 ∧ s.pairUp = true) ∧
    (∃ (s : State) (v : BitVec 32) (wr : Code), Admits s 0 pMIRROR 264 4 wr ∧ s.r pMIRROR MIRROR.ROLE_SCHEDULED = 0 ∧ v = 1096111106 ∧ (s.mayHandOver = false ∨ s.pairUp = false)) ∧
    (∃ (s : State) (v : BitVec 32) (wr : Code), Admits s 0 pMIRROR 264 4 wr ∧ s.r pMIRROR MIRROR.ROLE_SCHEDULED = 0 ∧ v = 1096111106 ∧ s.mayHandOver = true ∧ s.pairUp = true ∧ s.bellwether.isSome = true ∧ s.openTxns = []) ∧
    (∃ (s : State), s.domainOn 0 pMIRROR = true ∧ (s.mirror.takeFc = none ∨ s.mirror.relFc.isSome = true)) ∧
    (∃ (s : State) (t0 : Nat), s.domainOn 0 pMIRROR = true ∧ s.mirror.takeFc = some t0 ∧ s.mirror.relFc = none) ∧
    (∃ (s : State), s.domainOn 0 pMIRROR = true ∧ (s.mirror.relFc = none ∨ s.role ≠ 1)) ∧
    (∃ (s : State) (t0 : Nat), s.domainOn 0 pMIRROR = true ∧ s.mirror.relFc = some t0 ∧ s.role = 1) ∧
    (∃ (s : State) (b : Nat), s.domainOn 0 pMIRROR = true ∧ s.bellwether = some b ∧ (s.mirror.scheduled = none ∨ s.beam b ≠ 0)) ∧
    (∃ (s : State) (b : Nat) (x : Nat), s.domainOn 0 pMIRROR = true ∧ s.bellwether = some b ∧ s.mirror.scheduled = some (0, x) ∧ s.beam b = 0 ∧ s.openTxns = []) ∧
    (∃ (s : State) (b : Nat) (x : Nat), s.domainOn 0 pMIRROR = true ∧ s.bellwether = some b ∧ s.mirror.scheduled = some (1, x) ∧ s.beam b = 0) ∧
    (∃ (s : State), s.domainOn 0 pMIRROR = true ∧ (s.role ≠ 2 ∨ s.r pMIRROR MIRROR.STATUS_HOLDING = 0)) ∧
    (∃ (s : State), s.domainOn 0 pMIRROR = true ∧ s.role = 2 ∧ s.r pMIRROR MIRROR.STATUS_HOLDING = 1) ∧
    (∃ (s : State) (level : Bool), s.domainOn 0 pMIRROR = true ∧ (let on : Bool := s.pinIn 112 && level != s.b pMIRROR MIRROR.CFG_ARB_INV; (s.role ≠ 2 ∨ on = true ∨ s.mirror.arbHeld = false))) ∧
    (∃ (s : State) (level : Bool), s.domainOn 0 pMIRROR = true ∧ (let on : Bool := s.pinIn 112 && level != s.b pMIRROR MIRROR.CFG_ARB_INV; s.role = 2 ∧ s.r pMIRROR MIRROR.STATUS_HOLDING = 0 ∧ on = false ∧ s.mirror.arbHeld = true)) ∧
    (∃ (s : State), s.domainOn 0 pMIRROR = true ∧ s.active pMIRROR = true ∧ s.r pMIRROR MIRROR.CFG_PAIRED = 1 ∧ s.mirror.trained = false) ∧
    (∃ (s : State), s.domainOn 0 pMIRROR = true ∧ (s.active pMIRROR = false ∨ s.r pMIRROR MIRROR.CFG_PAIRED = 0 ∨ s.mirror.trained = true)) ∧
    (∃ (s : State), s.domainOn 0 pMIRROR = true ∧ s.linkOpen = true) ∧
    (∃ (s : State), s.domainOn 0 pMIRROR = true ∧ (s.active pMIRROR = false ∨ s.r pMIRROR MIRROR.CFG_PAIRED = 0)) ∧
    (∃ (s : State), s.domainOn 0 pMIRROR = true ∧ s.active pMIRROR = true ∧ s.r pMIRROR MIRROR.CFG_PAIRED = 1 ∧ (let p : Nat := s.r pMIRROR MIRROR.HB_PERIOD * msFc; let k : Nat := (s.fc - s.mirror.lastHbFc) / p + 1; k < s.r pMIRROR MIRROR.HB_MISS)) ∧
    (∃ (s : State), s.domainOn 0 pMIRROR = true ∧ s.active pMIRROR = true ∧ s.r pMIRROR MIRROR.CFG_PAIRED = 1 ∧ (let p : Nat := s.r pMIRROR MIRROR.HB_PERIOD * msFc; let k : Nat := (s.fc - s.mirror.lastHbFc) / p + 1; s.r pMIRROR MIRROR.HB_MISS ≤ k ∧ (s.role = 1 ∨ s.role = 0 ∧ s.r pMIRROR MIRROR.ISOLATE_HOLD ≠ 0))) ∧
    (∃ (s : State), s.domainOn 0 pMIRROR = true ∧ (s.mirror.trained = false ∨ s.active pMIRROR = false)) ∧
    (∃ (s : State) (crcOk : Bool), s.domainOn 0 pMIRROR = true ∧ s.mirror.trained = true ∧ s.active pMIRROR = true ∧ crcOk = false) ∧
    (∃ (s : State) (side : BitVec 8) (compat : BitVec 8), s.domainOn 0 pMIRROR = true ∧ s.mirror.trained = true ∧ s.active pMIRROR = true ∧ (¬(side.toNat % 2 ≠ s.r pMIRROR MIRROR.CFG_SIDE ∧ compat = s.behaviour))) ∧
    (∃ (s : State) (side : BitVec 8) (compat : BitVec 8), s.domainOn 0 pMIRROR = true ∧ s.mirror.trained = true ∧ s.active pMIRROR = true ∧ (side.toNat % 2 ≠ s.r pMIRROR MIRROR.CFG_SIDE ∧ compat = s.behaviour) ∧ (s.mirror.helloIn = true ∨ s.role = 1)) ∧
    (∃ (s : State) (side : BitVec 8) (compat : BitVec 8) (role : BitVec 8), s.domainOn 0 pMIRROR = true ∧ s.mirror.trained = true ∧ s.active pMIRROR = true ∧ (side.toNat % 2 ≠ s.r pMIRROR MIRROR.CFG_SIDE ∧ compat = s.behaviour) ∧ s.mirror.helloIn = false ∧ s.role = 3 ∧ (role.toNat % 4 = 0 ∨ role.toNat % 4 = 2) ∧ s.r pMIRROR MIRROR.CFG_PAIRED = 1) ∧
    (∃ (s : State) (side : BitVec 8) (compat : BitVec 8) (role : BitVec 8) (epoch : BitVec 32), s.domainOn 0 pMIRROR = true ∧ s.mirror.trained = true ∧ s.active pMIRROR = true ∧ (side.toNat % 2 ≠ s.r pMIRROR MIRROR.CFG_SIDE ∧ compat = s.behaviour) ∧ s.mirror.helloIn = false ∧ (s.role = 2 ∧ (role.toNat % 4 = 0 ∨ role.toNat % 4 = 2) ∨ s.role = 0 ∧ role.toNat % 4 = 2) ∧ s.r pMIRROR MIRROR.EPOCH < epoch.toNat) ∧
    (∃ (s : State) (side : BitVec 8) (compat : BitVec 8) (epoch : BitVec 32), s.domainOn 0 pMIRROR = true ∧ s.mirror.trained = true ∧ s.active pMIRROR = true ∧ (side.toNat % 2 ≠ s.r pMIRROR MIRROR.CFG_SIDE ∧ compat = s.behaviour) ∧ s.mirror.helloIn = false ∧ s.role = 2 ∧ epoch.toNat < s.r pMIRROR MIRROR.EPOCH ∧ s.bellwether.isSome = true) ∧
    (∃ (s : State), s.domainOn 0 pMIRROR = true ∧ s.mirror.trained = true ∧ s.active pMIRROR = true ∧ s.mirror.helloIn = true ∧ s.role ≠ 3) ∧
    (∃ (s : State) (role : BitVec 8), s.domainOn 0 pMIRROR = true ∧ s.mirror.trained = true ∧ s.active pMIRROR = true ∧ s.mirror.helloIn = true ∧ s.role = 3 ∧ s.mirror.resyncing = false ∧ role.toNat % 4 = 0 ∧ s.r pMIRROR MIRROR.CFG_PAIRED = 1 ∧ s.r pJOURNAL JOURNAL.CFG_PW_EN = 0) ∧
    (∃ (s : State) (role : BitVec 8) (n : BitVec 64), s.domainOn 0 pMIRROR = true ∧ s.mirror.trained = true ∧ s.active pMIRROR = true ∧ s.mirror.helloIn = true ∧ s.role = 3 ∧ s.mirror.resyncing = true ∧ role.toNat % 4 = 0 ∧ s.mirror.resyncTo = none ∧ s.r pJOURNAL JOURNAL.NEXT_SEQ < n.toNat) ∧
    (∃ (s : State) (role : BitVec 8) (n : BitVec 64), s.domainOn 0 pMIRROR = true ∧ s.mirror.trained = true ∧ s.active pMIRROR = true ∧ s.mirror.helloIn = true ∧ s.role = 3 ∧ s.mirror.resyncing = true ∧ role.toNat % 4 = 0 ∧ s.mirror.resyncTo = none ∧ n.toNat ≤ s.r pJOURNAL JOURNAL.NEXT_SEQ ∧ s.mirror.cpWait = false ∧ s.journal.cpOwn = false ∧ s.journal.cpNext = none ∧ s.mirror.held = [] ∧ s.mirror.goal = none ∧ s.mirror.scheduled = none ∧ s.bellwether.isSome = true) ∧
    (∃ (s : State), s.domainOn 0 pMIRROR = true ∧ s.linkOpen = true ∧ (s.role = 0 ∨ s.role = 2)) ∧
    (∃ (s : State) (bytes : List (BitVec 8)), s.domainOn 0 pMIRROR = true ∧ s.linkOpen = true ∧ (let q : Nat := s.r pJOURNAL JOURNAL.NEXT_SEQ; s.role = 1 ∧ bytes.length = 64 ∧ s.mirror.held = [] ∧ s.mirror.chain = [] ∧ s.mirror.cpWait = false ∧ s.journal.cpOwn = false ∧ s.journal.cpNext = none ∧ s.b pMEMCTL MEMCTL.TRAIN_STAT_RUNNING = false ∧ s.mirror.relFc = none ∧ q + 1 < 2 ^ 64 ∧ fieldLE bytes 60 4 = BitVec.toNat (crc32c (List.take 60 bytes)) ∧ fieldLE bytes 0 8 = q ∧ fieldLE bytes 20 2 = 3841 ∧ nbit (fieldLE bytes 22 2) 0 = false ∧ s.r pJOURNAL JOURNAL.STATUS_GPF = 0 ∧ s.fenced 0 pJOURNAL = false ∧ s.journal.buf.length < 2048)) ∧
    (∃ (s : State) (bytes : List (BitVec 8)), s.domainOn 0 pMIRROR = true ∧ s.linkOpen = true ∧ (let q : Nat := s.r pJOURNAL JOURNAL.NEXT_SEQ; s.role = 1 ∧ bytes.length = 64 ∧ s.mirror.held = [] ∧ s.mirror.chain = [] ∧ s.mirror.cpWait = false ∧ s.journal.cpOwn = false ∧ s.journal.cpNext = none ∧ s.b pMEMCTL MEMCTL.TRAIN_STAT_RUNNING = false ∧ s.mirror.relFc = none ∧ q + 1 < 2 ^ 64 ∧ fieldLE bytes 60 4 = BitVec.toNat (crc32c (List.take 60 bytes)) ∧ fieldLE bytes 0 8 = q ∧ fieldLE bytes 20 2 = 3841 ∧ nbit (fieldLE bytes 22 2) 0 = false ∧ (s.r pJOURNAL JOURNAL.STATUS_GPF = 1 ∨ s.fenced 0 pJOURNAL = true ∨ 2048 ≤ s.journal.buf.length))) ∧
    (∃ (s : State) (bytes : List (BitVec 8)), s.domainOn 0 pMIRROR = true ∧ s.linkOpen = true ∧ (let q : Nat := s.r pJOURNAL JOURNAL.NEXT_SEQ; s.role = 1 ∧ bytes.length = 64 ∧ s.mirror.held = [] ∧ s.mirror.chain = [] ∧ s.mirror.cpWait = false ∧ s.journal.cpOwn = false ∧ s.journal.cpNext = none ∧ s.b pMEMCTL MEMCTL.TRAIN_STAT_RUNNING = false ∧ s.mirror.relFc = none ∧ q + 1 < 2 ^ 64 ∧ (¬fieldLE bytes 60 4 = BitVec.toNat (crc32c (List.take 60 bytes))))) ∧
    (∃ (s : State) (acked : BitVec 64), s.domainOn 0 pMIRROR = true ∧ s.linkOpen = true ∧ (let a : Nat := s.r pMIRROR MIRROR.ACKED_NEXT; let q : Nat := s.r pJOURNAL JOURNAL.NEXT_SEQ; (a < acked.toNat ∧ acked.toNat ≤ q) ∧ s.mirror.cpSent = none)) ∧
    (∃ (s : State) (acked : BitVec 64) (k : Nat) (seq : Nat) (len : Nat), s.domainOn 0 pMIRROR = true ∧ s.linkOpen = true ∧ (let a : Nat := s.r pMIRROR MIRROR.ACKED_NEXT; let q : Nat := s.r pJOURNAL JOURNAL.NEXT_SEQ; (a < acked.toNat ∧ acked.toNat ≤ q) ∧ s.mirror.cpSent = some (k, seq, len))) ∧
    (∃ (s : State) (acked : BitVec 64), s.domainOn 0 pMIRROR = true ∧ s.linkOpen = true ∧ (let a : Nat := s.r pMIRROR MIRROR.ACKED_NEXT; let q : Nat := s.r pJOURNAL JOURNAL.NEXT_SEQ; (¬(a < acked.toNat ∧ acked.toNat ≤ q)))) ∧
    (∃ (s : State), s.domainOn 0 pMIRROR = true ∧ s.linkOpen = true ∧ (let a : Nat := s.r pMIRROR MIRROR.ACKED_NEXT; let q : Nat := s.r pJOURNAL JOURNAL.NEXT_SEQ; q ≤ a ∧ s.mirror.cpSent = none)) ∧
    (∃ (s : State), s.domainOn 0 pMIRROR = true ∧ s.linkOpen = true ∧ (s.role = 1 ∨ s.role = 3) ∧ s.mirror.stopAppend = false) ∧
    (∃ (s : State) (k : Nat) (seq : Nat) (len : Nat), s.domainOn 0 pMIRROR = true ∧ s.linkOpen = true ∧ s.cacheUp = true ∧ (s.role = 0 ∨ s.role = 2) ∧ s.mirror.cpSent = some (k, seq, len)) ∧
    (∃ (s : State), s.domainOn 0 pMIRROR = true ∧ s.linkOpen = true ∧ (let a : Nat := s.r pMIRROR MIRROR.ACKED_NEXT; let q : Nat := s.r pJOURNAL JOURNAL.NEXT_SEQ; a < q ∧ (s.role = 0 ∨ s.role = 2) ∧ s.mirror.cpSent = none ∧ (let v : State := s.advanceFc (s.mirror.ackFc + 200 * usFc); let u : State := { v with mirror := { v.mirror with ackFc := v.fc } }; u.entryAt a = none))) ∧
    (∃ (s : State) (b : List (BitVec 8)), s.domainOn 0 pMIRROR = true ∧ s.linkOpen = true ∧ (let a : Nat := s.r pMIRROR MIRROR.ACKED_NEXT; let q : Nat := s.r pJOURNAL JOURNAL.NEXT_SEQ; a < q ∧ (s.role = 0 ∨ s.role = 2) ∧ s.mirror.cpSent = none ∧ (let v : State := s.advanceFc (s.mirror.ackFc + 200 * usFc); let u : State := { v with mirror := { v.mirror with ackFc := v.fc } }; u.entryAt a = some b ∧ q = a + 1))) ∧
    (∃ (s : State), s.domainOn 0 pMIRROR = true ∧ s.linkOpen = true ∧ s.role ≠ 1) ∧
    (∃ (s : State) (last : BitVec 64), s.domainOn 0 pMIRROR = true ∧ s.linkOpen = true ∧ s.role = 1 ∧ s.r pJOURNAL JOURNAL.NEXT_SEQ ≤ last.toNat) ∧
    (∃ (s : State) (last : BitVec 64), s.domainOn 0 pMIRROR = true ∧ s.linkOpen = true ∧ s.role = 1 ∧ last.toNat < s.r pJOURNAL JOURNAL.NEXT_SEQ ∧ s.mirror.goal = none ∧ s.mirror.scheduled = none ∧ s.bellwether.isSome = true) ∧
    (∃ (s : State), s.domainOn 0 pMIRROR = true ∧ s.linkOpen = true ∧ s.mayHandOver = false) ∧
    (∃ (s : State), s.domainOn 0 pMIRROR = true ∧ s.linkOpen = true ∧ s.mayHandOver = true ∧ s.bellwether.isSome = true ∧ s.openTxns = []) ∧
    (∃ (s : State), s.domainOn 0 pMIRROR = true ∧ s.linkOpen = true ∧ s.role ≠ 0) ∧
    (∃ (s : State) (last : BitVec 64) (crc : BitVec 32) (b : List (BitVec 8)), s.domainOn 0 pMIRROR = true ∧ s.linkOpen = true ∧ s.role = 0 ∧ s.entryAt last.toNat = some b ∧ fieldLE b 60 4 = crc.toNat ∧ s.r pJOURNAL JOURNAL.NEXT_SEQ = last.toNat + 1) ∧
    (∃ (s : State) (last : BitVec 64) (k : Nat) (seq : Nat) (len : Nat), s.domainOn 0 pMIRROR = true ∧ s.linkOpen = true ∧ s.role = 0 ∧ s.entryAt last.toNat = none ∧ s.cacheUp = true ∧ s.latestCp = some (k, seq, len)) ∧
    (∃ (s : State), s.domainOn 0 pMIRROR = true ∧ s.linkOpen = true ∧ s.role ≠ 3) ∧
    (∃ (s : State), s.domainOn 0 pMIRROR = true ∧ s.linkOpen = true ∧ s.role = 3) ∧
    (∃ (s : State), s.domainOn 0 pMIRROR = true ∧ s.linkOpen = true ∧ s.role ≠ 3) ∧
    (∃ (s : State) (len : BitVec 64) (crc : BitVec 32), s.domainOn 0 pMIRROR = true ∧ s.linkOpen = true ∧ s.role = 3 ∧ BitVec.toNat (crc32c (s.devRead Master.journal (s.r pMIRROR MIRROR.RX_CP_BASE) len.toNat)) = crc.toNat) ∧
    (∃ (s : State) (len : BitVec 64) (crc : BitVec 32), s.domainOn 0 pMIRROR = true ∧ s.linkOpen = true ∧ s.role = 3 ∧ (¬BitVec.toNat (crc32c (s.devRead Master.journal (s.r pMIRROR MIRROR.RX_CP_BASE) len.toNat)) = crc.toNat) ∧ s.r pMIRROR MIRROR.CFG_PAIRED = 1) ∧
    (∃ (s : State), s.domainOn 0 pMIRROR = true ∧ (s.following = false ∨ s.mirror.trained = false ∨ s.active pMIRROR = false)) ∧
    (∃ (s : State) (h : Nat), s.domainOn 0 pMIRROR = true ∧ s.following = true ∧ s.mirror.trained = true ∧ s.active pMIRROR = true ∧ s.enabledHeads = [h] ∧ (s.hd h).source ≠ 4) ∧
    (∃ (s : State) (h : Nat) (mode : Nat), s.domainOn 0 pMIRROR = true ∧ s.following = true ∧ s.mirror.trained = true ∧ s.active pMIRROR = true ∧ s.enabledHeads = [h] ∧ (s.hd h).source = 4 ∧ ((modeOf mode).frameTicks ≠ (s.mode h).frameTicks ∨ mode = 0 ∨ 10 < mode)) ∧
    (∃ (s : State) (h : Nat) (mode : Nat), s.domainOn 0 pMIRROR = true ∧ s.following = true ∧ s.mirror.trained = true ∧ s.active pMIRROR = true ∧ s.enabledHeads = [h] ∧ (s.hd h).source = 4 ∧ (¬((modeOf mode).frameTicks ≠ (s.mode h).frameTicks ∨ mode = 0 ∨ 10 < mode))) ∧
    (∃ (s : State) (wr : Code), Admits s 0 pMIRROR 320 4 wr ∧ (s.role ≠ 3 ∨ s.mirror.cpWait = false)) ∧
    (∃ (s : State) (wr : Code), Admits s 0 pMIRROR 320 4 wr ∧ s.role = 3 ∧ s.mirror.cpWait = true ∧ s.journal.cpBusy.isSome = true) ∧
    (∃ (s : State) (wr : Code), Admits s 0 pMIRROR 320 4 wr ∧ s.role = 3 ∧ s.mirror.cpWait = true ∧ s.journal.cpBusy = none) :=
  ⟨⟨role 0 zm, 0, 1, by unfold Admits; decide +kernel⟩,
   ⟨role 2 (mw MIRROR.ROLE_SCHEDULED 1 zl), 0x41555401, 1, by unfold Admits; decide +kernel⟩,
   ⟨role 2 (zl.w pJOURNAL CTRL_ENABLE 0), 0x41555401, 1, by unfold Admits; decide +kernel⟩,
   ⟨role 2 zl, 0x41555401, 1, by unfold Admits; decide +kernel⟩,
   ⟨role 3 (mw MIRROR.CFG_PAIRED 0 zm), 0x41555401, 1, by unfold Admits; decide +kernel⟩,
   ⟨role 1 zl, 0x41555401, 1, by unfold Admits; decide +kernel⟩,
   ⟨role 2 (zl.w pJOURNAL CTRL_ENABLE 0), 0x41555402, 1, by unfold Admits; decide +kernel⟩,
   ⟨mw MIRROR.PARTNER_ROLE 1 (auth (role 0 zl)), 0x41555402, 1, by unfold Admits; decide +kernel⟩,
   ⟨role 0 zm, by decide +kernel⟩,
   ⟨mr (fun x => { x with takeFc := some 0 }) zm, 0, by decide +kernel⟩,
   ⟨role 0 zm, by decide +kernel⟩,
   ⟨mr (fun x => { x with relFc := some 100, takeFc := some 3, goal := some (0, 3) }) (role 1 zl), 100, by decide +kernel⟩,
   ⟨role 0 zm, 0, by decide +kernel⟩,
   ⟨mr (fun x => { x with scheduled := some (0, 3) }) (role 1 zl), 0, 3, by decide +kernel⟩,
   ⟨ln0 (mr (fun x => { x with scheduled := some (1, 0) }) (role 3 zl)), 0, 0, by decide +kernel⟩,
   ⟨role 0 zm, by decide +kernel⟩,
   ⟨mw MIRROR.STATUS_HOLDING 1 (auth (role 2 zl)), by decide +kernel⟩,
   ⟨role 0 zm, false, by decide +kernel⟩,
   ⟨mr (fun x => { x with arbHeld := true }) (auth (role 2 zl)), false, by decide +kernel⟩,
   ⟨role 0 zm, by decide +kernel⟩,
   ⟨role 0 zl, by decide +kernel⟩,
   ⟨role 0 zl, by decide +kernel⟩,
   ⟨role 3 (mw MIRROR.CFG_PAIRED 0 zm), by decide +kernel⟩,
   ⟨role 0 zm, by decide +kernel⟩,
   ⟨{ role 1 zl with fc := 100000000 }, by decide +kernel⟩,
   ⟨role 0 zm, by decide +kernel⟩,
   ⟨role 0 zl, false, by decide +kernel⟩,
   ⟨role 0 zl, 1, 1, by decide +kernel⟩,
   ⟨role 1 (mr (fun x => { x with helloIn := false }) zl), 1, 0, by decide +kernel⟩,
   ⟨role 3 (mr (fun x => { x with helloIn := false }) zl), 1, 0, 0, by decide +kernel⟩,
   ⟨role 0 (mr (fun x => { x with helloIn := false }) zl), 1, 0, 2, 1, by decide +kernel⟩,
   ⟨mw MIRROR.EPOCH 7 (role 2 (mr (fun x => { x with helloIn := false }) zl)), 1, 0, 0, by decide +kernel⟩,
   ⟨role 0 zl, by decide +kernel⟩,
   ⟨(role 3 zl).w pJOURNAL JOURNAL.CFG_PW_EN 0, 0, by decide +kernel⟩,
   ⟨mr (fun x => { x with resyncing := true }) (role 3 zl), 0, 7, by decide +kernel⟩,
   ⟨mr (fun x => { x with resyncing := true }) (role 3 zl), 0, 0, by decide +kernel⟩,
   ⟨role 0 zl, by decide +kernel⟩,
   ⟨role 1 zl, eU 5, by decide +kernel⟩,
   ⟨role 1 ((zl.w pJOURNAL CTRL_ENABLE 1).w pJOURNAL JOURNAL.STATUS_GPF 1), eU 5, by decide +kernel⟩,
   ⟨role 1 zl, (eU 5).take 63 ++ [1], by decide +kernel⟩,
   ⟨role 0 zl, 3, by decide +kernel⟩,
   ⟨mr (fun x => { x with cpSent := some (0, 3, 100) }) cpS, 4, 0, 3, 100, by decide +kernel⟩,
   ⟨role 0 zl, 0, by decide +kernel⟩,
   ⟨mw MIRROR.ACKED_NEXT 5 (auth (role 0 zl)), by decide +kernel⟩,
   ⟨role 1 zl, by decide +kernel⟩,
   ⟨mr (fun x => { x with cpSent := some (0, 3, 100) }) cpS, 0, 3, 100, by decide +kernel⟩,
   ⟨role 0 zl, by decide +kernel⟩,
   ⟨mw MIRROR.ACKED_NEXT 4 (jb { seq := 4, bytes := eU 4 } (auth (role 0 zl))), eU 4, by decide +kernel⟩,
   ⟨role 0 zl, by decide +kernel⟩,
   ⟨role 1 zl, 5, by decide +kernel⟩,
   ⟨role 1 zl, 0, by decide +kernel⟩,
   ⟨role 0 zl, by decide +kernel⟩,
   ⟨mw MIRROR.PARTNER_ROLE 1 (auth (role 0 zl)), by decide +kernel⟩,
   ⟨role 1 zl, by decide +kernel⟩,
   ⟨mw MIRROR.ACKED_NEXT 4 (jb { seq := 4, bytes := eU 4 } (auth (role 0 zl))), 4, BitVec.ofNat _ (BitVec.toNat (BitVec.ofNat 32 (fieldLE (eU 4) 60 4))), eU 4, by decide +kernel⟩,
   ⟨cpS, 4, 0, 3, 100, by decide +kernel⟩,
   ⟨role 0 zl, by decide +kernel⟩,
   ⟨role 3 zl, by decide +kernel⟩,
   ⟨role 0 zl, by decide +kernel⟩,
   ⟨role 3 zl, 0, 0, by decide +kernel⟩,
   ⟨role 3 zl, 0, 3, by decide +kernel⟩,
   ⟨role 0 zm, by decide +kernel⟩,
   ⟨role 1 zl, 0, by decide +kernel⟩,
   ⟨(role 1 zl).setHd 0 { zl.hd 0 with syncCfg := 0x424, begun := true }, 0, 0, by decide +kernel⟩,
   ⟨(role 1 zl).setHd 0 { zl.hd 0 with syncCfg := 0x424, begun := true }, 0, 2, by decide +kernel⟩,
   ⟨role 0 zm, 1, by unfold Admits; decide +kernel⟩,
   ⟨mr (fun x => { x with cpWait := true }) { role 3 zl with journal := { zl.journal with cpBusy := some (0, 0, 64, 7) } }, 1, by unfold Admits; decide +kernel⟩,
   ⟨mr (fun x => { x with cpWait := true }) (role 3 zl), 1, by unfold Admits; decide +kernel⟩⟩

end Sys2Proof.Tests
end

section
/-! SUPPORT. No register write touches the queue of waiting commands: one equation for each function a write on the bus
can run, in the order of the model. Chains of updates go by `rw`, which names each update's own equation: left to compute,
the kernel would compare the two states field by field. -/

namespace Sys2Proof.Machine

variable (s : State)

/-! ### Choices, folds and the parts of a state that hold no command -/

@[simp] theorem State.ite_pending (c : Prop) [Decidable c] (s t : State) :
    (if c then s else t).pending = if c then s.pending else t.pending := apply_ite ..

@[simp] theorem Eff.ite_pending (c : Prop) [Decidable c] (a b : Eff) :
    (if c then a else b).1.pending = if c then a.1.pending else b.1.pending := by split <;> rfl

@[simp] theorem State.foldl_pending {α : Type} {f : State → α → State} (h : ∀ t a, (f t a).pending = t.pending)
    (l : List α) (s : State) : (l.foldl f s).pending = s.pending := by
  induction l generalizing s with
  | nil => rfl
  | cons a l ih => rw [List.foldl_cons, ih, h]

theorem State.withRelief_pending (x : Relief) : ({ s with relief := x } : State).pending = s.pending := rfl
theorem State.withMirror_pending (x : Mirror) : ({ s with mirror := x } : State).pending = s.pending := rfl
theorem State.withJournal_pending (x : Journal) : ({ s with journal := x } : State).pending = s.pending := rfl
theorem State.withRelayRx_pending (x : Sparse RxRing) : ({ s with relayRx := x } : State).pending = s.pending := rfl

/-! ### Registers and unit tables -/

@[simp] theorem State.inc_pending (page : Nat) (f : Fld) (n : Nat) : (s.inc page f n).pending = s.pending := rfl
@[simp] theorem State.setVoice_pending (n : Nat) (x : Voice) : (s.setVoice n x).pending = s.pending := rfl

/-! ### Events and histories -/

@[simp] theorem State.accEvent_pending (func page code : Nat) (detail : W32) :
    (s.accEvent func page code detail).pending = s.pending := by simp [State.accEvent]

@[simp] theorem State.accEventOpen_pending (func page code : Nat) : (s.accEventOpen func page code).pending = s.pending := by
  simp [State.accEventOpen]

@[simp] theorem State.event_pending (page code : Nat) (detail : W32) : (s.event page code detail).pending = s.pending := by
  simp [State.event]

@[simp] theorem State.eventOpen_pending (page code : Nat) : (s.eventOpen page code).pending = s.pending := by
  simp [State.eventOpen]

@[simp] theorem State.pendInt_pending (page i : Nat) : (s.pendInt page i).pending = s.pending := rfl
@[simp] theorem State.statusBit_pending (page i : Nat) : (s.statusBit page i).pending = s.pending := rfl
@[simp] theorem State.statusBit1_pending (page i : Nat) : (s.statusBit1 page i).pending = s.pending := rfl

/-! ### One write and its checks -/

@[simp] theorem State.logDrop_pending (w : Wr) (ev : Nat) : (s.logDrop w ev).pending = s.pending := by simp [State.logDrop]
@[simp] theorem Wr.drop_pending (w : Wr) (ev : Nat) : (w.drop s ev).1.pending = s.pending := by simp [Wr.drop]

@[simp] theorem State.barred_pending (w : Wr) (x : Bar) : (s.barred w x).pending = s.pending := by
  unfold State.barred
  split <;> simp

@[simp] theorem State.guarded_pending (w : Wr) {eff : State → Eff} (h : (eff s).1.pending = s.pending) :
    (s.guarded w eff).1.pending = s.pending := by
  unfold State.guarded
  split <;> simp [h]

@[simp] theorem State.changeOwner_pending (func page : Nat) (c : Code) (w : Wr) :
    (s.changeOwner func page c w).1.pending = s.pending := by simp [State.changeOwner]

@[simp] theorem State.changeItemOwner_pending (page : Nat) (f : Fld) (c : Code) (w : Wr) :
    (s.changeItemOwner page f c w).1.pending = s.pending := by simp [State.changeItemOwner]

@[simp] theorem State.plainWrite_pending (w : Wr) (sp : RegSpec) : (s.plainWrite w sp).pending = s.pending := rfl

@[simp] theorem State.plain_pending (w : Wr) : (s.plain w).1.pending = s.pending := by
  unfold State.plain
  split
  · rfl
  · split <;> simp

@[simp] theorem done_pending : (done s).1.pending = s.pending := rfl

@[simp] theorem Wr.require_pending (w : Wr) (cond : Bool) (ev : Nat) {eff : State → Eff}
    (h : (eff s).1.pending = s.pending) : (w.require s cond ev eff).1.pending = s.pending := by
  simp [Wr.require, h]

/-! ### Memories and paddocks -/

@[simp] theorem State.setPadErr_pending (c off : Nat) (e : BitVec 2) : (s.setPadErr c off e).pending = s.pending := rfl

@[simp] theorem State.padSetByte_pending (c off : Nat) (b : Byte) : (s.padSetByte c off b).pending = s.pending := by
  simp [State.padSetByte]

@[simp] theorem State.padWrite_pending (c off : Nat) (bs : List Byte) : (s.padWrite c off bs).pending = s.pending := by
  induction bs generalizing s off with
  | nil => rfl
  | cons b bs ih => rw [State.padWrite, ih, State.padSetByte_pending]

@[simp] theorem State.cacheWrite_pending (a : Nat) (bs : List Byte) : (s.cacheWrite a bs).pending = s.pending := by
  simp [State.cacheWrite]

/-! ### Interrupt sources -/

@[simp] theorem State.scanSources_pending : s.scanSources.pending = s.pending := by simp [State.scanSources]

/-! ### Audio -/

@[simp] theorem Wr.protDrop_pending (w : Wr) : (w.protDrop s).1.pending = s.pending := by simp [Wr.protDrop]

@[simp] theorem State.voiceIdle_pending (v : Nat) : (s.voiceIdle v).pending = s.pending := by
  rw [State.voiceIdle, State.pendInt_pending, State.w_pending, State.setVoice_pending]

@[simp] theorem State.submitAction_pending (v act : Nat) (param : W32) (c : Code) (rank : Nat) :
    (s.submitAction v act param c rank).pending = s.pending := by simp [State.submitAction]

@[simp] theorem State.audioStop_pending (ends : Bool) : (s.audioStop ends).pending = s.pending := by simp [State.audioStop]
@[simp] theorem State.audioStart_pending : s.audioStart.pending = s.pending := rfl
@[simp] theorem State.audioResume_pending : s.audioResume.pending = s.pending := by rw [State.audioResume]

@[simp] theorem State.voiceWrite_pending (w : Wr) (v rel : Nat) (prot : Bool) :
    (s.voiceWrite w v rel prot).1.pending = s.pending := by simp [State.voiceWrite]

@[simp] theorem State.vownerWrite_pending (w : Wr) (v : Nat) (prot : Bool) : (s.vownerWrite w v prot).1.pending = s.pending := by
  simp [State.vownerWrite]

@[simp] theorem State.audioWrite_pending (w : Wr) (prot : Bool) : (s.audioWrite w prot).1.pending = s.pending := by
  simp [State.audioWrite]

@[simp] theorem State.routeWrite_pending (w : Wr) (prot : Bool) : (s.routeWrite w prot).1.pending = s.pending := by
  simp [State.routeWrite]

/-! ### Journal -/

@[simp] theorem State.sendFrame_pending (type : Nat) (body : List Byte) : (s.sendFrame type body).pending = s.pending := rfl
@[simp] theorem State.sendEntry_pending (bytes : List Byte) : (s.sendEntry bytes).pending = s.pending := by simp [State.sendEntry]

@[simp] theorem State.jPush_pending (kind flags : Nat) (payload : List Byte) :
    (s.jPush kind flags payload).pending = s.pending := by simp [State.jPush]

@[simp] theorem State.jChain_pending (kind : Nat) (ps : List (List Byte)) : (s.jChain kind ps).pending = s.pending := by
  induction ps generalizing s with
  | nil => rfl
  | cons p ps ih => cases ps with
    | nil => simp [State.jChain]
    | cons q l => rw [State.jChain, ih, State.jPush_pending]

@[simp] theorem State.jUser_pending : s.jUser.pending = s.pending := by simp [State.jUser]

@[simp] theorem State.jDrain_pending (ps : List (Nat × List Byte)) : (s.jDrain ps).pending = s.pending := by
  induction ps generalizing s with
  | nil => rfl
  | cons p ps ih => simp [State.jDrain, ih]

@[simp] theorem State.jResume_pending : s.jResume.pending = s.pending := by simp [State.jResume]

@[simp] theorem State.jAppend_pending (kind : Nat) (payload : List Byte) : (s.jAppend kind payload).pending = s.pending := by
  simp [State.jAppend]

@[simp] theorem State.jFirst_pending (kind : Nat) (payload : List Byte) : (s.jFirst kind payload).pending = s.pending := by
  simp [State.jFirst]

@[simp] theorem State.dropUser_pending : s.dropUser.pending = s.pending := by
  unfold State.dropUser
  split
  · rw [State.accEventOpen_pending, State.w_pending]
  · rfl

@[simp] theorem State.journalWrite_pending (w : Wr) (before : State) : (s.journalWrite w before).pending = s.pending := by
  simp [State.journalWrite]

/-! ### Check-value units -/

@[simp] theorem State.cvInit_pending (u c : Nat) : (s.cvInit u c).pending = s.pending := by
  rw [State.cvInit, State.w_pending, State.w_pending]

@[simp] theorem State.cvByte_pending (u c : Nat) (b : Byte) : (s.cvByte u c b).pending = s.pending := by
  rw [State.cvByte, State.inc_pending, State.w_pending]

@[simp] theorem State.ctxMid_pending (u c : Nat) (on : Bool) : (s.ctxMid u c on).pending = s.pending := rfl

@[simp] theorem State.feed_pending (w : Wr) (u n : Nat) : (s.feed w u n).1.pending = s.pending :=
  Wr.require_pending s w _ _ (by simp)

@[simp] theorem State.finishWrite_pending (w : Wr) (u : Nat) : (s.finishWrite w u).1.pending = s.pending := by
  simp [State.finishWrite]

@[simp] theorem State.ctxMemWrite_pending (w : Wr) (u : Nat) : (s.ctxMemWrite w u).1.pending = s.pending := by
  simp only [State.ctxMemWrite]
  split
  · simp
  · exact Wr.require_pending s w _ _ (by rw [done, State.setCv_pending, State.w_pending])

@[simp] theorem State.selfcheckWrite_pending (w : Wr) (u : Nat) : (s.selfcheckWrite w u).1.pending = s.pending := by
  simp [State.selfcheckWrite]

@[simp] theorem State.ctxRegWrite_pending (w : Wr) (u c rel : Nat) : (s.ctxRegWrite w u c rel).1.pending = s.pending := by
  simp [State.ctxRegWrite]

@[simp] theorem State.cvWrite_pending (w : Wr) (u : Nat) : (s.cvWrite w u).1.pending = s.pending := by simp [State.cvWrite]

/-! ### Points, brands and command rings -/

theorem State.ringWrite_pending {s t : State} {n base i : Nat} {bs : List Byte} (h : s.ringWrite n base i bs = some t) :
    t.pending = s.pending := by
  simp only [State.ringWrite] at h
  split at h <;> split at h <;> cases h
  · exact State.padWrite_pending ..
  · rfl

@[simp] theorem State.ringDeny_pending (n base i : Nat) : (s.ringDeny n base i).pending = s.pending := by simp [State.ringDeny]

@[simp] theorem State.crWrite_pending (w : Wr) (n rel : Nat) : (s.crWrite w n rel).1.pending = s.pending := by
  simp [State.crWrite]

@[simp] theorem State.pointsWrite_pending (w : Wr) : (s.pointsWrite w).1.pending = s.pending := by simp [State.pointsWrite]

@[simp] theorem State.tableWrite_pending (w : Wr) (top : Nat) : (s.tableWrite w top).1.pending = s.pending := by
  simp [State.tableWrite]

/-! ### The command engine -/

@[simp] theorem State.cmdStep_pending (t result : Nat) : (s.cmdStep t result).pending = s.pending := by simp [State.cmdStep]
@[simp] theorem State.txnGo_pending (t state : Nat) : (s.txnGo t state).pending = s.pending := by simp [State.txnGo]

@[simp] theorem State.resultStatus_pending (result : Nat) : (s.resultStatus result).pending = s.pending := by
  simp [State.resultStatus]

@[simp] theorem State.resultEntry_pending (n txn result last : Nat) (tag : W32) (tally object jseq : Nat) :
    (s.resultEntry n txn result last tag tally object jseq).pending = s.pending := by
  simp only [State.resultEntry]
  split
  · next t h => rw [State.pendInt_pending, State.w_pending, State.ringWrite_pending h, State.resultStatus_pending]
  · rw [State.ringDeny_pending, State.statusBit_pending, State.resultStatus_pending]

@[simp] theorem State.withdraw_pending (t : Nat) : (s.withdraw t).pending = s.pending := rfl
@[simp] theorem State.endTxn_pending (t result : Nat) : (s.endTxn t result).pending = s.pending := by simp [State.endTxn]

@[simp] theorem State.cmdDeny_pending (a : Option Nat) : (s.cmdDeny a).pending = s.pending := by
  unfold State.cmdDeny
  split <;> simp

@[simp] theorem State.passFrame_pending (t addr len : Nat) : (s.passFrame t addr len).pending = s.pending := by
  simp [State.passFrame]

@[simp] theorem State.operateCheck_pending (t : Nat) : (s.operateCheck t).pending = s.pending := by simp [State.operateCheck]
@[simp] theorem State.cancelWrite_pending (w : Wr) : (s.cancelWrite w).1.pending = s.pending := by simp [State.cancelWrite]
@[simp] theorem State.executeWrite_pending (w : Wr) : (s.executeWrite w).1.pending = s.pending := by simp [State.executeWrite]
@[simp] theorem State.txMid_pending (n : Nat) (on : Bool) : (s.txMid n on).pending = s.pending := by simp [State.txMid]
@[simp] theorem State.txCut_pending (n : Nat) : (s.txCut n).pending = s.pending := by simp [State.txCut]

@[simp] theorem State.cutDispatch_pending (n : Nat) : (s.cutDispatch n).pending = s.pending := by
  simp only [State.cutDispatch]
  split
  · split
    · rw [State.w_pending, State.w_pending, State.setFp_pending, State.txCut_pending]
    · rw [State.setFp_pending, State.txCut_pending]
  · exact State.setFp_pending ..

@[simp] theorem State.dispatchFence_pending : s.dispatchFence.pending = s.pending := by simp [State.dispatchFence]
@[simp] theorem State.hbLevel_pending : s.hbLevel.pending = s.pending := by simp [State.hbLevel]

@[simp] theorem State.setAuthority_pending (on : Bool) : (s.setAuthority on).pending = s.pending := by
  rw [State.setAuthority, State.ite_pending, State.dispatchFence_pending, ite_self, State.hbLevel_pending, State.ite_pending,
    State.pendInt_pending, ite_self, State.w_pending]

@[simp] theorem State.commandsWrite_pending (w : Wr) : (s.commandsWrite w).1.pending = s.pending := by simp [State.commandsWrite]

/-! ### Pins -/

@[simp] theorem State.pinConflicts_pending (before : State) : (s.pinConflicts before).pending = s.pending := by
  simp [State.pinConflicts]

@[simp] theorem State.pinDeny_pending (w : Wr) (pin : Nat) : (s.pinDeny w pin).pending = s.pending := by simp [State.pinDeny]

@[simp] theorem State.pinCfgWrite_pending (w : Wr) (k : Nat) : (s.pinCfgWrite w k).1.pending = s.pending := by
  simp [State.pinCfgWrite]

@[simp] theorem State.gpioWrite_pending (w : Wr) (b rel : Nat) : (s.gpioWrite w b rel).1.pending = s.pending := by
  simp only [State.gpioWrite, done, State.w_pending]
  split
  · exact State.pinDeny_pending ..
  · rfl

@[simp] theorem State.i2cWrite_pending (w : Wr) (q rel : Nat) : (s.i2cWrite w q rel).1.pending = s.pending := by
  simp [State.i2cWrite]

@[simp] theorem State.spiWrite_pending (w : Wr) (q rel : Nat) : (s.spiWrite w q rel).1.pending = s.pending := by
  simp [State.spiWrite]

@[simp] theorem State.pinsWrite_pending (w : Wr) : (s.pinsWrite w).1.pending = s.pending := by simp [State.pinsWrite]

/-! ### Lines -/

@[simp] theorem State.setPend_pending (page off : Nat) (v : W64) : (s.setPend page off v).pending = s.pending := rfl

@[simp] theorem State.palEnter_pending (n : Nat) (entry : W64) : (s.palEnter n entry).pending = s.pending := by
  simp [State.palEnter]

@[simp] theorem State.peError_pending (e bit int : Nat) (record : Bool) (code : Nat) (detail : W32) :
    (s.peError e bit int record code detail).pending = s.pending := by simp [State.peError]

@[simp] theorem State.palDataWrite_pending (n : Nat) (entry : W64) : (s.palDataWrite n entry).1.pending = s.pending := by
  simp [State.palDataWrite]

@[simp] theorem State.flkDataWrite_pending (w : Wr) (n : Nat) : (s.flkDataWrite w n).1.pending = s.pending := by
  simp [State.flkDataWrite]

@[simp] theorem State.lutDataWrite_pending (w : Wr) (n : Nat) : (s.lutDataWrite w n).1.pending = s.pending := by
  simp [State.lutDataWrite]

@[simp] theorem State.pePendWrite_pending (w : Wr) : (s.pePendWrite w).1.pending = s.pending :=
  Wr.require_pending s w _ _ rfl

/-! ### The relief engine -/

@[simp] theorem State.fenceMark_pending (func page : Nat) (req : Code) (cause : Nat) :
    (s.fenceMark func page req cause).pending = s.pending := by simp [State.fenceMark]

@[simp] theorem State.capStop_pending (h : Nat) : (s.capStop h).pending = s.pending := by
  rw [State.capStop, State.w_pending, State.setHd_pending]

@[simp] theorem State.scanOff_pending (h : Nat) : (s.scanOff h).pending = s.pending := by
  rw [State.scanOff, State.capStop_pending, State.setHd_pending]

@[simp] theorem State.setPhase_pending (p : Nat) : (s.setPhase p).pending = s.pending := rfl

@[simp] theorem State.testStart_pending (e : Nat) : (s.testStart e).pending = s.pending := by
  rw [State.testStart, State.w_pending, State.w_pending, State.setEng_pending]

@[simp] theorem State.relNext_pending : s.relNext.pending = s.pending := by
  simp only [State.relNext]
  split
  · rw [State.setPhase_pending, State.testStart_pending, State.withRelief_pending, State.setPhase_pending]
  · split
    · rw [State.withRelief_pending, State.setPhase_pending]
    · split
      · rw [State.withRelief_pending, State.setPhase_pending]
      · rw [State.withRelief_pending, State.ite_pending, State.inc_pending, ite_self, State.setPhase_pending]

@[simp] theorem State.park_pending (h : Nat) : (s.park h).pending = s.pending := by simp [State.park]
@[simp] theorem State.relLeave_pending (h : Nat) : (s.relLeave h).pending = s.pending := by simp [State.relLeave]
@[simp] theorem State.engineFenced_pending (e : Nat) : (s.engineFenced e).pending = s.pending := by simp [State.engineFenced]

@[simp] theorem State.engineUnfenced_pending (e : Nat) : (s.engineUnfenced e).pending = s.pending := by
  simp [State.engineUnfenced]

@[simp] theorem State.bistReq_pending (e : Nat) : (s.bistReq e).pending = s.pending := by
  simp only [State.bistReq]
  split
  · rfl
  · split
    · exact State.testStart_pending ..
    · split
      · rw [State.withRelief_pending, State.w_pending]
      · rw [State.ite_pending, State.relNext_pending, ite_self, State.withRelief_pending, State.w_pending]

@[simp] theorem State.bistForce_pending (e : Nat) : (s.bistForce e).pending = s.pending := by simp [State.bistForce]
@[simp] theorem State.relResume_pending : s.relResume.pending = s.pending := by simp [State.relResume]
@[simp] theorem State.peWrite_pending (w : Wr) (n : Nat) : (s.peWrite w n).1.pending = s.pending := by simp [State.peWrite]

/-! ### The role of the mirror pair -/

@[simp] theorem State.syncOwners_pending : s.syncOwners.pending = s.pending := by simp [State.syncOwners]
@[simp] theorem State.takeEpoch_pending (reason : Nat) : (s.takeEpoch reason).pending = s.pending := by simp [State.takeEpoch]
@[simp] theorem State.endHold_pending : s.endHold.pending = s.pending := State.w_pending ..
@[simp] theorem State.dropGoal_pending : s.dropGoal.pending = s.pending := rfl
@[simp] theorem State.failover_pending : s.failover.pending = s.pending := by simp [State.failover]

@[simp] theorem State.promote_pending (reason : Nat) : (s.promote reason).pending = s.pending := by
  rw [State.promote, State.hbLevel_pending, State.pendInt_pending, State.failover_pending, State.takeEpoch_pending,
    State.syncOwners_pending, State.w_pending, State.withMirror_pending, State.endHold_pending, State.dropGoal_pending]

@[simp] theorem State.leaveAppend_pending : s.leaveAppend.pending = s.pending := by simp [State.leaveAppend]
@[simp] theorem State.askResync_pending : s.askResync.pending = s.pending := by simp [State.askResync]

@[simp] theorem State.follow_pending (role : Nat) : (s.follow role).pending = s.pending := by
  have h : (((s.dropGoal.endHold.setAuthority false).w pMIRROR MIRROR.ROLE role).leaveAppend.syncOwners.pendInt pMIRROR
      0).hbLevel.pending = s.pending := by
    rw [State.hbLevel_pending, State.pendInt_pending, State.syncOwners_pending, State.leaveAppend_pending, State.w_pending,
      State.setAuthority_pending, State.endHold_pending, State.dropGoal_pending]
  simp only [State.follow]
  split
  · rw [State.askResync_pending, h]
  · rw [State.withMirror_pending, h]

@[simp] theorem State.arbDecides_pending : s.arbDecides.pending = s.pending := by simp [State.arbDecides]

@[simp] theorem State.isolate_pending : s.isolate.pending = s.pending := by
  simp only [State.isolate]
  split
  · rw [State.hbLevel_pending, State.dropGoal_pending]
  · rw [State.hbLevel_pending, State.ite_pending, State.ite_pending, State.setAuthority_pending, State.arbDecides_pending,
      State.w_pending, ite_self, ite_self, State.pendInt_pending, State.pendInt_pending, State.statusBit_pending,
      State.syncOwners_pending, State.w_pending, State.withMirror_pending, State.dropGoal_pending]

@[simp] theorem State.roleTake_pending : s.roleTake.pending = s.pending := by
  unfold State.roleTake
  split
  · rfl
  · exact State.promote_pending ..
  · rw [State.ite_pending, State.pendInt_pending, State.follow_pending, ite_self]
  · exact State.follow_pending ..

@[simp] theorem State.roleSchedule_pending : s.roleSchedule.pending = s.pending := by
  unfold State.roleSchedule
  split <;> simp

@[simp] theorem State.setGoal_pending (role reason : Nat) : (s.setGoal role reason).pending = s.pending := by simp [State.setGoal]

/-! ### Video ports -/

@[simp] theorem State.allocate_pending (p : Nat) : (s.allocate p).pending = s.pending := by simp [State.allocate]

@[simp] theorem State.linkTo_pending (p st rate lanes : Nat) : (s.linkTo p st rate lanes).pending = s.pending := by
  simp [State.linkTo]

@[simp] theorem State.linkBegin_pending (p : Nat) : (s.linkBegin p).pending = s.pending := by simp [State.linkBegin]
@[simp] theorem State.linkTrain_pending (p : Nat) : (s.linkTrain p).pending = s.pending := by simp [State.linkTrain]
@[simp] theorem State.auxWrite_pending (w : Wr) (p : Nat) : (s.auxWrite w p).1.pending = s.pending := by simp [State.auxWrite]
@[simp] theorem State.vpWrite_pending (w : Wr) (p : Nat) : (s.vpWrite w p).1.pending = s.pending := by simp [State.vpWrite]
@[simp] theorem State.portFenced_pending (p : Nat) : (s.portFenced p).pending = s.pending := by simp [State.portFenced]
@[simp] theorem State.portUnfenced_pending (p : Nat) : (s.portUnfenced p).pending = s.pending := by simp [State.portUnfenced]

/-! ### Scan and Sapphire layer -/

@[simp] theorem State.activeWrite_pending (p off : Nat) : (s.activeWrite p off).1.pending = s.pending := by
  simp [State.activeWrite]

@[simp] theorem State.sapAdvance_pending (p : Nat) : (s.sapAdvance p).pending = s.pending := by simp [State.sapAdvance]

@[simp] theorem State.sapDataWrite_pending (w : Wr) (h : Nat) : (s.sapDataWrite w h).1.pending = s.pending := by
  simp [State.sapDataWrite]

@[simp] theorem State.spalWrite_pending (w : Wr) : (s.spalWrite w).1.pending = s.pending := by simp [State.spalWrite]

@[simp] theorem State.sapCtrlWrite_pending (w : Wr) (h : Nat) : (s.sapCtrlWrite w h).1.pending = s.pending := by
  simp [State.sapCtrlWrite]

@[simp] theorem State.sapWrite_pending (w : Wr) (h : Nat) : (s.sapWrite w h).1.pending = s.pending := by simp [State.sapWrite]

/-! ### Heads -/

@[simp] theorem State.headOn_pending (h : Nat) : (s.headOn h).pending = s.pending := by simp [State.headOn]
@[simp] theorem State.headOff_pending (h : Nat) : (s.headOff h).pending = s.pending := by simp [State.headOff]

@[simp] theorem State.headWrite_pending (w : Wr) (h : Nat) : (s.headWrite w h).1.pending = s.pending := by
  have hp (cond : Bool) (ev off : Nat) (v : W64) :
      (w.require s cond ev fun t => done (t.setPend w.page off v)).1.pending = s.pending := Wr.require_pending s w _ _ rfl
  simp [State.headWrite, hp]

/-! ### Blitter -/

@[simp] theorem State.setBltCls_pending (c : BltClass) (x : BltCls) : (s.setBltCls c x).pending = s.pending := by
  unfold State.setBltCls
  split <;> simp

@[simp] theorem State.bltStart_pending (c : BltClass) : (s.bltStart c).pending = s.pending := by
  simp only [State.bltStart]
  split
  · rfl
  · split
    · rfl
    · exact State.setBltCls_pending ..

@[simp] theorem State.bltSubmit_pending (w : Wr) (c : BltClass) : (s.bltSubmit w c).1.pending = s.pending := by
  simp [State.bltSubmit]

@[simp] theorem State.bltFault_pending (c : BltClass) (code : Nat) : (s.bltFault c code).pending = s.pending := by
  simp [State.bltFault]

@[simp] theorem State.bltHeadOff_pending (h : Nat) : (s.bltHeadOff h).pending = s.pending := by
  refine State.foldl_pending (fun t c => ?_) _ s
  split
  · rw [State.ite_pending, State.bltFault_pending, ite_self]
  · rfl

@[simp] theorem State.qctrl_pending (v : Nat) : (s.qctrl v).pending = s.pending := by
  have resume (t : State) (c : BltClass) : ((t.w pBLITTER (clsHalt c) 0).bltStart c).pending = t.pending := by
    rw [State.bltStart_pending, State.w_pending]
  have flush (t : State) (c : BltClass) :
      ((t.setBltCls c (t.bltCls c).flushed).w pBLITTER (clsHalt c) 0).pending = t.pending := by
    rw [State.w_pending, State.setBltCls_pending]
  simp only [State.qctrl, State.ite_pending, resume, flush, ite_self]

@[simp] theorem State.blitterWrite_pending (w : Wr) : (s.blitterWrite w).1.pending = s.pending := by simp [State.blitterWrite]
@[simp] theorem State.bltGo_pending : s.bltGo.pending = s.pending := by simp [State.bltGo]
@[simp] theorem State.bltFenced_pending : s.bltFenced.pending = s.pending := by simp [State.bltFenced]

/-! ### Device, memory controller and safety -/

@[simp] theorem State.trainStart_pending (forced limited : Bool) : (s.trainStart forced limited).pending = s.pending := by
  simp [State.trainStart]

@[simp] theorem State.trainPend_pending : s.trainPend.pending = s.pending := by simp [State.trainPend]
@[simp] theorem State.trainForce_pending : s.trainForce.pending = s.pending := by simp [State.trainForce]
@[simp] theorem State.memctlWrite_pending (w : Wr) : (s.memctlWrite w).1.pending = s.pending := by simp [State.memctlWrite]
@[simp] theorem State.wdogRestart_pending : s.wdogRestart.pending = s.pending := rfl

@[simp] theorem State.safetyWrite_pending (w : Wr) : (s.safetyWrite w).1.pending = s.pending := by
  unfold State.safetyWrite
  split
  · simp
  · split
    · exact Wr.require_pending s w _ _ rfl
    · simp

@[simp] theorem State.deviceWrite_pending (w : Wr) : (s.deviceWrite w).1.pending = s.pending := by
  unfold State.deviceWrite
  split
  · exact Wr.require_pending s w _ _ (Wr.require_pending s w _ _ (State.w_pending ..))
  · simp

/-! ### Drover -/

@[simp] theorem State.dvFault_pending (n code addr : Nat) : (s.dvFault n code addr).pending = s.pending := by simp [State.dvFault]

@[simp] theorem State.dvGo_pending (n : Nat) : (s.dvGo n).pending = s.pending := by
  unfold State.dvGo
  split <;> simp

@[simp] theorem State.dvHalt_pending (n : Nat) : (s.dvHalt n).pending = s.pending := by simp [State.dvHalt]
@[simp] theorem State.dvWrite_pending (w : Wr) (n : Nat) : (s.dvWrite w n).1.pending = s.pending := by simp [State.dvWrite]

/-! ### Field ports -/

@[simp] theorem State.rxForget_pending (n : Nat) : (s.rxForget n).pending = s.pending := by
  rw [State.rxForget, State.w_pending, State.setFp_pending, State.ite_pending, State.ctxMid_pending, ite_self]

@[simp] theorem State.fpStop_pending (n : Nat) : (s.fpStop n).pending = s.pending := by
  rw [State.fpStop, State.foldl_pending (fun t k => State.endTxn_pending t k 19), State.w_pending, State.w_pending,
    State.setFp_pending, State.rxForget_pending, State.txCut_pending]

@[simp] theorem State.fpStart_pending (n : Nat) : (s.fpStart n).pending = s.pending := by simp [State.fpStart]
@[simp] theorem State.fpWrite_pending (w : Wr) (n : Nat) : (s.fpWrite w n).1.pending = s.pending := by simp [State.fpWrite]
@[simp] theorem State.fieldWrite_pending (w : Wr) : (s.fieldWrite w).1.pending = s.pending := by simp [State.fieldWrite]

@[simp] theorem State.fieldStart_pending : s.fieldStart.pending = s.pending := by
  rw [State.fieldStart, State.withRelayRx_pending, State.foldl_pending]
  exact fun t r => by rw [State.w_pending, State.w_pending]

/-! ### Crook cores -/

@[simp] theorem State.retire_pending (c cc : Nat) : (s.retire c cc).pending = s.pending := rfl
@[simp] theorem State.complete_pending (c len cc : Nat) : (s.complete c len cc).pending = s.pending := by simp [State.complete]
@[simp] theorem State.coreStop_pending (c : Nat) : (s.coreStop c).pending = s.pending := rfl
@[simp] theorem State.coreStart_pending (c : Nat) : (s.coreStart c).pending = s.pending := by simp [State.coreStart]
@[simp] theorem State.nudgeCore_pending (c : Nat) : (s.nudgeCore c).pending = s.pending := by simp [State.nudgeCore]
@[simp] theorem State.waitlEnd_pending (c : Nat) (z : Bool) : (s.waitlEnd c z).pending = s.pending := by simp [State.waitlEnd]

@[simp] theorem State.waitlHeadOff_pending (h : Nat) : (s.waitlHeadOff h).pending = s.pending := by
  refine State.foldl_pending (fun t c => ?_) _ s
  split
  · rw [State.ite_pending, State.waitlEnd_pending, ite_self]
  · rfl

@[simp] theorem State.lockupClear_pending (c : Nat) : (s.lockupClear c).pending = s.pending := rfl

@[simp] theorem State.coreWrite_pending (w : Wr) (c : Nat) : (s.coreWrite w c).1.pending = s.pending := by
  unfold State.coreWrite
  split
  · simp
  · split
    · exact Wr.require_pending s w _ _ (State.setCore_pending ..)
    · simp

/-! ### Power domains and clocks -/

@[simp] theorem State.entryCommitNow_pending (d : Nat) (toOff : Bool) : (s.entryCommitNow d toOff).pending = s.pending := by
  simp [State.entryCommitNow]

@[simp] theorem State.startWake_pending (d cause : Nat) : (s.startWake d cause).pending = s.pending := by simp [State.startWake]

@[simp] theorem State.levelSettle_pending (d : Nat) : (s.levelSettle d).pending = s.pending := by
  unfold State.levelSettle
  split <;> simp

@[simp] theorem State.levelSettleAll_pending : s.levelSettleAll.pending = s.pending := by simp [State.levelSettleAll]
@[simp] theorem State.targetTo_pending (d t : Nat) : (s.targetTo d t).pending = s.pending := by simp [State.targetTo]
@[simp] theorem State.plevelTo_pending (d : Nat) : (s.plevelTo d).pending = s.pending := by simp [State.plevelTo]

@[simp] theorem State.pdCtrlWrite_pending (w : Wr) (d : Nat) : (s.pdCtrlWrite w d).1.pending = s.pending := by
  simp [State.pdCtrlWrite]

@[simp] theorem State.powerWrite_pending (w : Wr) : (s.powerWrite w).1.pending = s.pending := by simp [State.powerWrite]
@[simp] theorem State.clocksCondition_pending : s.clocksCondition.pending = s.pending := by simp [State.clocksCondition]

/-! ### Interrupt groups -/

@[simp] theorem State.sendPending_pending : s.sendPending.pending = s.pending := rfl
@[simp] theorem State.vectorUnmask_pending (v : Nat) : (s.vectorUnmask v).pending = s.pending := by simp [State.vectorUnmask]
@[simp] theorem State.vectorMask_pending (v : Nat) : (s.vectorMask v).pending = s.pending := rfl
@[simp] theorem State.doorbell_pending (w : Wr) : (s.doorbell w).1.pending = s.pending := by simp [State.doorbell]

@[simp] theorem State.serviceWrite_pending (w : Wr) : (s.serviceWrite w).1.pending = s.pending := by
  simp only [State.serviceWrite]
  split
  · exact (State.foldl_pending (fun t e => State.setGroup_pending ..) _ _).trans (State.plain_pending ..)
  · split
    · exact (State.foldl_pending (fun t e => State.setGroup_pending ..) _ _).trans (State.plain_pending ..)
    · exact State.plain_pending ..

@[simp] theorem State.intcWrite_pending (w : Wr) : (s.intcWrite w).1.pending = s.pending := by simp [State.intcWrite]

@[simp] theorem State.intcgWrite_pending (w : Wr) (g : Nat) : (s.intcgWrite w g).1.pending = s.pending := by
  simp [State.intcgWrite]

/-! ### Host attachment -/

@[simp] theorem State.partitionsWrite_pending (w : Wr) : (s.partitionsWrite w).1.pending = s.pending := by
  simp [State.partitionsWrite]

@[simp] theorem State.ringRegWrite_pending (w : Wr) (n rel : Nat) (out : Bool) :
    (s.ringRegWrite w n rel out).1.pending = s.pending := by simp [State.ringRegWrite]

@[simp] theorem State.rtxWrite_pending (w : Wr) : (s.rtxWrite w).1.pending = s.pending := by simp [State.rtxWrite]
@[simp] theorem State.hostRegWrite_pending (w : Wr) : (s.hostRegWrite w).1.pending = s.pending := by simp [State.hostRegWrite]

/-! ### Commands of journal and mirror pair -/

@[simp] theorem State.userCmdWrite_pending (w : Wr) : (s.userCmdWrite w).1.pending = s.pending := by simp [State.userCmdWrite]
@[simp] theorem State.cpMark_pending : s.cpMark.pending = s.pending := by simp [State.cpMark]

@[simp] theorem State.cpBegin_pending (src len seq : Nat) (own : Bool) : (s.cpBegin src len seq own).pending = s.pending := by
  simp [State.cpBegin]

@[simp] theorem State.cpCmdWrite_pending (w : Wr) : (s.cpCmdWrite w).1.pending = s.pending := by simp [State.cpCmdWrite]

@[simp] theorem State.replayCmdWrite_pending (w : Wr) : (s.replayCmdWrite w).1.pending = s.pending := by
  unfold State.replayCmdWrite
  split
  · rfl
  · refine Wr.require_pending s w _ _ ?_
    dsimp only
    split
    · rw [done, State.withJournal_pending, State.w_pending, State.ite_pending, State.w_pending, ite_self]
    · rw [done, State.ite_pending, State.w_pending, ite_self]

@[simp] theorem State.journalRegWrite_pending (w : Wr) : (s.journalRegWrite w).1.pending = s.pending := by
  simp [State.journalRegWrite]

@[simp] theorem State.handOver_pending : s.handOver.pending = s.pending := by simp [State.handOver]

theorem State.claimOp_pending {s : State} {f : State → State} (h : s.claimOp = some f) (t : State) :
    (f t).pending = t.pending := by
  simp only [State.claimOp] at h
  split at h
  · cases h
  · split at h
    · split at h <;> cases h
      exact State.setGoal_pending ..
    · split at h
      · have hf : f t = (t.endHold.takeEpoch 1).hbLevel := (congrFun (Option.some.inj h) t).symm
        rw [hf, State.hbLevel_pending, State.takeEpoch_pending, State.endHold_pending]
      · split at h <;> cases h
        exact State.withMirror_pending ..

theorem State.handoverOp_pending {s : State} {f : State → State} (h : s.handoverOp = some f) (t : State) :
    (f t).pending = t.pending := by
  unfold State.handoverOp at h
  split at h <;> cases h
  exact State.handOver_pending ..

@[simp] theorem State.authorityWrite_pending (w : Wr) : (s.authorityWrite w).1.pending = s.pending := by
  unfold State.authorityWrite
  split
  · simp
  · split
    · simp
    · split
      · next f h =>
        split at h
        · exact State.claimOp_pending h s
        · split at h
          · exact State.handoverOp_pending h s
          · cases h
      · simp

@[simp] theorem State.loadedWrite_pending (w : Wr) : (s.loadedWrite w).1.pending = s.pending := by simp [State.loadedWrite]
@[simp] theorem State.mirrorWrite_pending (w : Wr) : (s.mirrorWrite w).1.pending = s.pending := by simp [State.mirrorWrite]

@[simp] theorem State.mirrorDown_pending : s.mirrorDown.pending = s.pending := by
  rw [State.mirrorDown, State.withMirror_pending, State.w_pending]

@[simp] theorem State.mirrorFenced_pending : s.mirrorFenced.pending = s.pending := by
  rw [State.mirrorFenced, State.hbLevel_pending, State.isolate_pending, State.mirrorDown_pending]

@[simp] theorem State.mirrorStart_pending : s.mirrorStart.pending = s.pending := by simp [State.mirrorStart]

/-! ### The common part of a page -/

@[simp] theorem State.enableEffect_pending (k : Kind) (n : Nat) : (s.enableEffect k n).pending = s.pending := by
  unfold State.enableEffect
  split <;> simp

@[simp] theorem State.disableEffect_pending (k : Kind) (n : Nat) : (s.disableEffect k n).pending = s.pending := by
  unfold State.disableEffect
  split <;> simp

@[simp] theorem State.setEnable_pending (func page : Nat) (k : Kind) (n : Nat) (on : Bool) :
    (s.setEnable func page k n on).pending = s.pending := by
  unfold State.setEnable
  split <;> simp

@[simp] theorem State.fieldFenced_pending : s.fieldFenced.pending = s.pending := by simp [State.fieldFenced]

@[simp] theorem State.fenceEffect_pending (k : Kind) (n : Nat) (req : Code) : (s.fenceEffect k n req).pending = s.pending := by
  unfold State.fenceEffect
  split <;> simp

@[simp] theorem State.fencePage_pending (func page : Nat) (k : Kind) (n : Nat) (req : Code) :
    (s.fencePage func page k n req).pending = s.pending := by simp [State.fencePage]

@[simp] theorem State.scanOn_pending (n : Nat) : (s.scanOn n).pending = s.pending := rfl

@[simp] theorem State.unfenceEffect_pending (k : Kind) (n : Nat) : (s.unfenceEffect k n).pending = s.pending := by
  unfold State.unfenceEffect
  split <;> simp

@[simp] theorem State.unfencePage_pending (func page : Nat) (k : Kind) (n : Nat) :
    (s.unfencePage func page k n).pending = s.pending := by simp [State.unfencePage]

@[simp] theorem State.ctrlWrite_pending (w : Wr) (k : Kind) (n : Nat) : (s.ctrlWrite w k n).1.pending = s.pending := by
  simp [State.ctrlWrite]

@[simp] theorem State.reassert_pending (k : Kind) (n : Nat) : (s.reassert k n).pending = s.pending := by
  unfold State.reassert
  split <;> simp

@[simp] theorem State.statusWrite_pending (w : Wr) (k : Kind) (n : Nat) : (s.statusWrite w k n).1.pending = s.pending := by
  simp [State.statusWrite]

@[simp] theorem State.histCtrl_pending (w : Wr) : (s.histCtrl w).1.pending = s.pending := by simp [State.histCtrl]
@[simp] theorem State.lockWrite_pending (w : Wr) : (s.lockWrite w).1.pending = s.pending := by simp [State.lockWrite]

@[simp] theorem State.commonWrite_pending (w : Wr) (k : Kind) (n : Nat) : (s.commonWrite w k n).1.pending = s.pending := by
  simp [State.commonWrite]

@[simp] theorem State.badSel_pending : s.badSel.1.pending = s.pending := rfl

@[simp] theorem State.ownValueWrite_pending (w : Wr) : (s.ownValueWrite w).1.pending = s.pending := by
  unfold State.ownValueWrite
  split
  · exact State.badSel_pending s
  · rw [Eff.ite_pending, Wr.drop_pending, State.changeOwner_pending, ite_self]
  · exact State.changeItemOwner_pending ..
  · rw [Eff.ite_pending, State.pinDeny_pending, State.w_pending, ite_self]
  · exact State.changeItemOwner_pending ..
  · exact State.changeOwner_pending ..

@[simp] theorem State.ownFenceWrite_pending (w : Wr) : (s.ownFenceWrite w).1.pending = s.pending := by
  unfold State.ownFenceWrite
  split
  · split <;> simp
  · simp

@[simp] theorem State.ownershipWrite_pending (w : Wr) : (s.ownershipWrite w).1.pending = s.pending := by
  simp [State.ownershipWrite]

/-! ### Data ports -/

@[simp] theorem State.dataportsWrite_pending (w : Wr) : (s.dataportsWrite w).1.pending = s.pending := by
  simp [State.dataportsWrite]

/-! ### Time base -/

@[simp] theorem State.timebaseWrite_pending (w : Wr) : (s.timebaseWrite w).1.pending = s.pending := by
  simp only [State.timebaseWrite]
  split
  · split
    · rw [State.w_pending, State.plain_pending]
    · split
      · exact State.changeItemOwner_pending ..
      · split
        · rw [State.ite_pending, State.w_pending, ite_self, State.plain_pending]
        · exact State.plain_pending ..
  · exact State.plain_pending ..

/-! ### The bus -/

@[simp] theorem State.blockWrite_pending (w : Wr) (k : Kind) (n : Nat) : (s.blockWrite w k n).1.pending = s.pending := by
  unfold State.blockWrite
  split <;> simp

@[simp] theorem State.take_pending (w : Wr) (k : Kind) (n : Nat) {block : State → Eff}
    (h : ∀ t, (block t).1.pending = t.pending) : (s.take w k n block).1.pending = s.pending := by
  simp [State.take, h]

@[simp] theorem State.holdLow_pending (w : Wr) (k : Kind) (n : Nat) : (s.holdLow w k n).1.pending = s.pending := by
  unfold State.holdLow
  split
  · exact State.guarded_pending s w rfl
  · split
    · simp
    · split
      · simp
      · rfl

@[simp] theorem State.release_pending (w : Wr) (b : Nat) : (s.release w b).pending = s.pending := rfl

@[simp] theorem State.halves_pending (w : Wr) (k : Kind) (n : Nat) {whole : State → Wr → Eff}
    (h : ∀ t v, (whole t v).1.pending = t.pending) : (s.halves w k n whole).1.pending = s.pending := by
  unfold State.halves
  extract_lets
  split
  · exact h ..
  · split
    · exact State.holdLow_pending ..
    · split
      · exact h ..
      · rw [h, State.ite_pending, State.release_pending, ite_self]

@[simp] theorem State.prData_pending (v : Nat) : (s.prData v).pending = s.pending := by simp [State.prData]
@[simp] theorem State.protrWrite_pending (w : Wr) : (s.protrWrite w).1.pending = s.pending := by simp [State.protrWrite]

@[simp] theorem State.wholeWrite_pending (w : Wr) (k : Kind) (n : Nat) : (s.wholeWrite w k n).1.pending = s.pending := by
  simp [State.wholeWrite]

@[simp] theorem State.vectorWord_pending (v j x : Nat) : (s.vectorWord v j x).pending = s.pending := by simp [State.vectorWord]

@[simp] theorem State.vectorTable_pending (w : Wr) (k : Kind) (n : Nat) : (s.vectorTable w k n).pending = s.pending := by
  unfold State.vectorTable
  split <;> simp

@[simp] theorem State.busWriteEff_pending (w : Wr) : (s.busWriteEff w).1.pending = s.pending := by
  unfold State.busWriteEff
  split <;> simp

@[simp] theorem State.busWrite_pending (w : Wr) : (s.busWrite w).pending = s.pending := by simp [State.busWrite]

end Sys2Proof.Machine
end

section
/-! SUPPORT. Register writes (00_scope R9; 02_address_spaces_memory_data_ports R23, R33). -/

namespace Sys2Proof.Machine

theorem exec_registerWrite (a : RegAddr) (size : Nat) (v : BitVec 64) (wr : Code) (s : State) :
    exec (.registerWrite a size v wr) s = .next (s.writeAt a.func a.page a.off size v.toNat wr) := rfl

theorem State.wholeWrite_of_admitted {s : State} {w : Wr} (h : s.bar w = none) (k : Kind) (n : Nat) :
    s.wholeWrite w k n = s.take w k n fun u => if k == .kPROTR then u.protrWrite w else u.blockWrite w k n :=
  State.guarded_of_admitted h _

theorem isBlock_of_admits {s : State} {func page off size : Nat} {wr : Code} {k : Kind} {n : Nat}
    (hk : pageKind func page = some (k, n)) (ha : Admits s func page off size wr) : k.isBlock = true := by
  obtain ⟨_, _, _, hb, _⟩ := (State.bar_eq_none hk).1 ha
  exact hb

/-- A write to a register that is no part of a 64-bit one is whole: the bus cuts its value to 32 bits. -/
theorem State.writeAt_single {s : State} {func page off : Nat} {k : Kind} {n : Nat} (size : Nat) (v : BitVec 64) (wr : Code)
    (hk : pageKind func page = some (k, n)) (hb : k.isBlock = true) (hw : wideBase k off = none) :
    s.writeAt func page off size v.toNat wr =
      (s.wholeWrite { func := func, page := page, off := off, size := size
                      value := if size = 8 then v else BitVec.ofNat 64 (v.toNat % 2 ^ 32), code := wr } k n).1 := by
  by_cases h8 : size = 8 <;> simp [State.writeAt, State.busWrite, State.busWriteEff, State.halves, Wr.v, nfld, hk, hb, hw, h8]

end Sys2Proof.Machine

open Sys2Proof Sys2Proof.Machine

/-- Settles O8: a register is one key of the table, and a field write goes through `wset` of that register alone. -/
theorem aFieldTakesWhatIsWrittenToIt : Obligations.AFieldTakesWhatIsWrittenToIt := by
  intro s page f x hp ho hw
  refine ⟨State.r_w_same s page f x hw, fun g hg hd => State.r_w_disjoint s page x hw hg hd, ?_,
    rfl, rfl, rfl, rfl, rfl, rfl, rfl⟩
  intro func p o hp' ho' hne
  refine State.reg_w_ne s x fun h => ?_
  obtain ⟨hf, hpp, hoo⟩ := regKey_inj hp' ho' hp ho h
  rcases hne with h | h | h
  exacts [h hf, h hpp, h hoo]

/-- Settles O10: the queue by `State.busWrite_pending`, the effect by the whole write past the checks, the checks by
`State.bar_eq_none`. -/
theorem aWriteIsTakenExactlyWhenNoCheckBarsIt : Obligations.AWriteIsTakenExactlyWhenNoCheckBarsIt := by
  refine ⟨?_, ?_, ?_, ?_⟩
  · exact fun s a size v wr => ⟨_, rfl, State.busWrite_pending s _⟩
  · intro s a size v wr k n hk hw ha w
    have hb : s.bar w = none := State.bar_of_admits ha _
    exact congrArg Host.Outcome.next ((State.writeAt_single size v wr hk (isBlock_of_admits hk ha) hw).trans
      (by rw [State.wholeWrite_of_admitted hb]))
  · intro s a v wr k n hk hw ha w
    have hb : (Released s a.func a.page a.off wr).bar w = none := State.bar_of_admits ha _
    exact congrArg Host.Outcome.next ((State.writeAt64 v wr hk (isBlock_of_admits hk ha) hw).trans
      (by rw [State.wholeWrite_of_admitted hb]))
  · intro s func page off size wr k n hk
    rw [Admits, State.bar_eq_none hk]
    simp

/-- Settles O13: these three kinds have no write rule but the plain one, and no MIR register names their pages. -/
theorem aPlainRegisterTakesItsWritableBits : Obligations.APlainRegisterTakesItsWritableBits := by
  intro s page off v wr k n sp hk hkind ho hs hwide ha
  have hw : wideBase k off = none := by simp [wideBase, hs, hwide]
  have hv : (v.setWidth 64).toNat = v.toNat := BitVec.toNat_setWidth_of_le (by decide)
  have hoff : (off == 0x010 || off == 0x014) = false := by simp; omega
  have hd : deasserts (wr32 0 page off v wr) k = false := by
    rcases hkind with rfl | rfl | rfl <;> simpa [deasserts, wr32] using hoff
  have hplain : s.blockWrite (wr32 0 page off v wr) k n = s.plain (wr32 0 page off v wr) := by
    rcases hkind with rfl | rfl | rfl <;> rfl
  have hne : k ≠ .kPROTR ∧ k ≠ .kHEAD ∧ k ≠ .kPE ∧ k ≠ .kAUDIO := by
    rcases hkind with rfl | rfl | rfl <;> decide
  obtain ⟨hprotr, hhead, hpe, haudio⟩ := hne
  have hval : (wr32 0 page off v wr).value.toNat = v.toNat := wr32_v 0 page off v wr
  rw [exec_registerWrite, hv, State.writeAt32_kind hk ha (isBlock_of_admits hk ha) hw hd ho hprotr hhead hpe haudio, hplain,
    State.plain_of_spec (w := wr32 0 page off v wr) hk hs, State.plainWrite, hval]
  rfl

end

section
/-! SUPPORT. What start-up does to registers: which pages it writes, and that it writes nothing else (03_clocks_power_startup
R3, R62, R83). -/

namespace Sys2Proof.Machine

/-! ### Updates of the register table alone -/

section
variable {P Q : Nat → Prop} {s t u : State}

/-- `t` is `s` but for registers of Function 0 pages among `P`. -/
structure WritesOnly (P : Nat → Prop) (s t : State) : Prop where
  rest : t = { s with regs := t.regs }
  reg : ∀ page off, page < 4096 → off < 4096 → ¬ P page → t.reg 0 page off = s.reg 0 page off

theorem WritesOnly.refl (P : Nat → Prop) (s : State) : WritesOnly P s s := ⟨rfl, fun _ _ _ _ _ => rfl⟩

theorem WritesOnly.trans (h : WritesOnly P s t) (h' : WritesOnly P t u) : WritesOnly P s u where
  rest := by
    have hu := h'.rest
    rw [h.rest] at hu
    exact hu
  reg page off hp ho hP := (h'.reg page off hp ho hP).trans (h.reg page off hp ho hP)

theorem WritesOnly.mono (h : WritesOnly P s t) (hPQ : ∀ page, P page → Q page) : WritesOnly Q s t :=
  ⟨h.rest, fun page off hp ho hQ => h.reg page off hp ho (mt (hPQ page) hQ)⟩

theorem State.w_writesOnly {page : Nat} {f : Fld} (hp : page < 4096) (ho : f.off < 4096) (s : State) (x : Nat) :
    WritesOnly (· = page) s (s.w page f x) where
  rest := rfl
  reg _ _ hp' ho' hne := State.reg_w_ne s x fun h => hne (regKey_inj hp' ho' hp ho h).2.1

theorem WritesOnly.foldl {α : Type} {f : State → α → State} {l : List α} (h : ∀ a ∈ l, ∀ t, WritesOnly P t (f t a))
    (s : State) : WritesOnly P s (l.foldl f s) := by
  induction l generalizing s with
  | nil => exact .refl P s
  | cons a l ih => exact (h a (by simp) s).trans (ih (fun b hb => h b (by simp [hb])) (f s a))

/-- A field of a page outside `P` reads as before. -/
theorem WritesOnly.r_eq (h : WritesOnly P s t) {page : Nat} {f : Fld} (hp : page < 4096) (ho : f.off < 4096) (hP : ¬ P page) :
    t.r page f = s.r page f := by
  unfold State.r
  rw [h.reg page f.off hp ho hP]

end

variable (s : State)

/-! ### Absent domains (R3) -/

/-- A domain the part does not have goes OFF (R3). -/
def State.offIfAbsent (t : State) (d : Nat) : State :=
  if pdPresent t.variant d then t
  else (t.w pPOWER (pdFld POWER.PD_CTRL_TARGET d) 2).w pPOWER (pdFld POWER.PD_STATUS_STATE d) 3

theorem State.absentOff_eq_foldl : s.absentOff = (List.range 50).foldl State.offIfAbsent s := rfl

theorem State.offIfAbsent_variant (d : Nat) : (s.offIfAbsent d).variant = s.variant := by
  unfold State.offIfAbsent
  split
  · rfl
  · rw [State.w_variant, State.w_variant]

theorem pdCtrl_off_lt {d : Nat} (hd : d < 50) : (pdFld POWER.PD_CTRL_TARGET d).off < 4096 := by
  show 0x100 + 0x10 * d < 4096
  omega

theorem pdStatus_off_lt {d : Nat} (hd : d < 50) : (pdFld POWER.PD_STATUS_STATE d).off < 4096 := by
  show 0x104 + 0x10 * d < 4096
  omega

/-- A write of another register of POWER leaves a domain's STATE. -/
theorem State.pdState_w_ne {f : Fld} (x : Nat) {d : Nat} (hd : d < 50) (ho : f.off < 4096) (h : f.off ≠ 0x104 + 0x10 * d) :
    (s.w pPOWER f x).pdState d = s.pdState d :=
  State.r_w_ne s x fun hk => h (regKey_inj (by decide) (pdStatus_off_lt hd) (by decide) ho hk).2.2.symm

theorem State.pdState_w_same (d : Nat) : (s.w pPOWER (pdFld POWER.PD_STATUS_STATE d) 3).pdState d = 3 :=
  State.r_w_same s pPOWER (pdFld POWER.PD_STATUS_STATE d) 3 (show 0 + 3 ≤ 64 by decide)

theorem State.pdState_offIfAbsent {d e : Nat} (hd : d < 50) (he : e < 50) :
    (s.offIfAbsent e).pdState d = if d = e ∧ pdPresent s.variant e = false then 3 else s.pdState d := by
  unfold State.offIfAbsent
  split
  · next h => simp [h]
  · next h =>
    by_cases hde : d = e
    · subst hde
      simpa [h] using State.pdState_w_same _ d
    · rw [if_neg (fun h' => hde h'.1),
        State.pdState_w_ne _ _ hd (pdStatus_off_lt he) (show 0x104 + 0x10 * e ≠ 0x104 + 0x10 * d by omega),
        State.pdState_w_ne _ _ hd (pdCtrl_off_lt he) (show 0x100 + 0x10 * e ≠ 0x104 + 0x10 * d by omega)]

theorem State.pdState_foldl_offIfAbsent {d : Nat} (hd : d < 50) (l : List Nat) (hl : ∀ e ∈ l, e < 50) (s : State) :
    (l.foldl State.offIfAbsent s).pdState d = if d ∈ l ∧ pdPresent s.variant d = false then 3 else s.pdState d := by
  induction l generalizing s with
  | nil => simp
  | cons e l ih =>
    rw [List.foldl_cons, ih (fun x hx => hl x (by simp [hx])), State.offIfAbsent_variant,
      State.pdState_offIfAbsent s hd (hl e (by simp))]
    by_cases hde : d = e
    · subst hde
      cases pdPresent s.variant d <;> simp
    · simp [hde]

/-- After the fuses are read an absent domain is OFF and a present one as it was (R3, R83). -/
theorem State.pdState_absentOff {d : Nat} (hd : d < 50) :
    s.absentOff.pdState d = if pdPresent s.variant d = false then 3 else s.pdState d := by
  rw [State.absentOff_eq_foldl, State.pdState_foldl_offIfAbsent hd _ (fun e he => List.mem_range.1 he)]
  simp [hd]

/-! ### From the PLL's lock to the training of memory (R83) -/

theorem State.offIfAbsent_writesOnly {d : Nat} (hd : d < 50) : WritesOnly (· = pPOWER) s (s.offIfAbsent d) := by
  unfold State.offIfAbsent
  split
  · exact .refl _ s
  · exact (State.w_writesOnly (by decide) (pdCtrl_off_lt hd) s 2).trans
      (State.w_writesOnly (by decide) (pdStatus_off_lt hd) _ 3)

theorem State.absentOff_writesOnly : WritesOnly (· = pPOWER) s s.absentOff :=
  .foldl (fun _ hd t => t.offIfAbsent_writesOnly (List.mem_range.1 hd)) s

theorem State.setLayout_writesOnly (l : Layout) : WritesOnly (· = pPARTITIONS) s (s.setLayout l) := by
  have hw {f : Fld} (ho : f.off < 4096) (t : State) (x : Nat) : WritesOnly (· = pPARTITIONS) t (t.w pPARTITIONS f x) :=
    State.w_writesOnly (by decide) ho t x
  have hpart (k : Nat) (hk : k ∈ List.range 5) (t : State) (base size : Nat) : WritesOnly (· = pPARTITIONS) t
      ((t.w pPARTITIONS (PARTITIONS.PART_BASE.at (16 * k)) base).w pPARTITIONS (PARTITIONS.PART_SIZE.at (16 * k)) size) := by
    have hk : k < 5 := List.mem_range.1 hk
    exact (hw (show 0x100 + 16 * k < 4096 by omega) t base).trans (hw (show 0x108 + 16 * k < 4096 by omega) _ size)
  exact ((WritesOnly.foldl (fun k hk t => hpart k hk t _ _) s).trans (hw (by decide) _ l.win)).trans (hw (by decide) _ l.base)

theorem State.hpdSettle_writesOnly {p : Nat} (hp : p < 8) :
    WritesOnly (fun page => 0x580 ≤ page ∧ page < 0x588) s (s.hpdSettle p) := by
  have hpage : 0x580 ≤ pgVP p ∧ pgVP p < 0x588 := by unfold pgVP; omega
  unfold State.hpdSettle
  split
  · exact (State.w_writesOnly (by omega) (by decide) s _).mono fun page h => h ▸ hpage
  · exact .refl _ s

/-- The pages whose registers are set between the fuses and the training of memory (R44, R83, R201). -/
def bootPage (page : Nat) : Prop := page = pPARTITIONS ∨ 0x580 ≤ page ∧ page < 0x588

/-- The state in which memory trains, but for where start-up stands. -/
def State.bootSettled (s : State) : State :=
  (List.range 8).foldl (fun (t : State) p => t.hpdSettle p) (s.absentOff.setLayout s.bootLayout)

theorem State.bootSettled_writesOnly_absentOff : WritesOnly bootPage s.absentOff s.bootSettled :=
  ((s.absentOff.setLayout_writesOnly _).mono fun _ => .inl).trans
    ((WritesOnly.foldl (fun _ hp t => t.hpdSettle_writesOnly (List.mem_range.1 hp)) _).mono fun _ => .inr)

theorem State.bootSettled_writesOnly : WritesOnly (fun page => page = pPOWER ∨ bootPage page) s s.bootSettled :=
  (s.absentOff_writesOnly.mono fun _ => .inl).trans (s.bootSettled_writesOnly_absentOff.mono fun _ => .inr)

/-- A domain the part does not have is OFF, every other one as it was (R3, R83). -/
theorem State.pdState_bootSettled {d : Nat} (hd : d < 50) :
    s.bootSettled.pdState d = if pdPresent s.variant d = false then 3 else s.pdState d := by
  rw [← State.pdState_absentOff s hd]
  exact s.bootSettled_writesOnly_absentOff.r_eq (by decide) (pdStatus_off_lt hd) (by unfold bootPage; decide)

/-- Start-up changes no clock status once the PLL has locked. -/
theorem State.r_bootSettled_clocks {f : Fld} (ho : f.off < 4096) : s.bootSettled.r pCLOCKS f = s.r pCLOCKS f :=
  s.bootSettled_writesOnly.r_eq (by decide) ho (by unfold bootPage; decide)

theorem State.toTraining_eq :
    s.toTraining = { s with regs := s.bootSettled.regs, phase := if s.straps.getLsbD 1 then .factory else .training } := by
  have ht : s.toTraining =
    { s.bootSettled with phase := if s.bootSettled.straps.getLsbD 1 then .factory else .training } := rfl
  rw [ht, s.bootSettled_writesOnly.rest]

/-- The root PLL shows its lock (R62). -/
def State.lockShown (s : State) : State := (s.w pCLOCKS CLOCKS.STATUS_PLL_LOCK 1).w pCLOCKS CLOCKS.STATUS_RUN 1

/-- MAIN out of reset with the time base at 0 (R62, R437). -/
def State.mainOut (s : State) : State := { s.lockShown with mainUp := true, fc := 0, tb := 0, tbFrac := 0 }

theorem State.pllLock_eq (h : s.phase = .locking) : s.pllLock = s.mainOut.toTraining := by
  unfold State.pllLock
  rw [h]
  rfl

/-- Fields are read from the register table alone. -/
theorem State.r_congr {s t : State} (h : t.regs = s.regs) (page : Nat) (f : Fld) : t.r page f = s.r page f := by
  unfold State.r State.reg
  rw [h]

theorem State.pdState_congr {s t : State} (h : t.regs = s.regs) (d : Nat) : t.pdState d = s.pdState d := State.r_congr h ..

theorem State.mainOut_regs : s.mainOut.regs = s.lockShown.regs := by rw [State.mainOut]

theorem State.lockShown_writesOnly : WritesOnly (· = pCLOCKS) s s.lockShown :=
  (State.w_writesOnly (f := CLOCKS.STATUS_PLL_LOCK) (by decide) (by decide) s 1).trans
    (State.w_writesOnly (f := CLOCKS.STATUS_RUN) (by decide) (by decide) _ 1)

theorem State.mainOut_eq :
    s.mainOut = { s with regs := s.lockShown.regs, mainUp := true, fc := 0, tb := 0, tbFrac := 0 } := by
  rw [State.mainOut, s.lockShown_writesOnly.rest]

/-- All the lock of the root PLL changes: registers, where start-up stands, and MAIN with its time (R62, R83, R437). -/
theorem State.mainOut_toTraining_eq :
    s.mainOut.toTraining = { s with
      regs := s.mainOut.bootSettled.regs, phase := if s.straps.getLsbD 1 then .factory else .training
      mainUp := true, fc := 0, tb := 0, tbFrac := 0 } := by
  rw [State.toTraining_eq]
  generalize s.mainOut.bootSettled.regs = regs
  rw [State.mainOut_eq]

theorem State.pdState_mainOut {d : Nat} (hd : d < 50) : s.mainOut.pdState d = s.pdState d :=
  (State.pdState_congr s.mainOut_regs d).trans
    (s.lockShown_writesOnly.r_eq (by decide) (pdStatus_off_lt hd) (by decide))

theorem State.mainOut_pllLock : s.mainOut.r pCLOCKS CLOCKS.STATUS_PLL_LOCK = 1 := by
  rw [State.r_congr s.mainOut_regs, State.lockShown,
    State.r_w_disjoint (f := CLOCKS.STATUS_RUN) (g := CLOCKS.STATUS_PLL_LOCK) _ pCLOCKS 1 (by decide) rfl (by decide),
    State.r_w_same s pCLOCKS CLOCKS.STATUS_PLL_LOCK 1 (by decide)]
  rfl

theorem State.mainOut_run : s.mainOut.r pCLOCKS CLOCKS.STATUS_RUN = 1 := by
  rw [State.r_congr s.mainOut_regs, State.lockShown,
    State.r_w_same _ pCLOCKS CLOCKS.STATUS_RUN 1 (by decide)]
  rfl

theorem State.coldStart_of_held (h : s.phase = .held) (straps : BitVec 4) :
    s.coldStart straps = { s with phase := .aon, straps := straps } := by
  unfold State.coldStart
  rw [h]

theorem State.refOk_of_aon (h : s.phase = .aon) :
    s.refOk = { s.w pCLOCKS CLOCKS.STATUS_REF_OK 1 with phase := .locking } := by
  unfold State.refOk
  rw [h]

/-! ### The reference (R63) -/

/-- A field write leaves FENCE_REQ of its page unless it goes to CTRL. -/
theorem State.fenced_w {page : Nat} {f : Fld} (hp : page < 4096) (ho : f.off < 4096) (hc : f.off ≠ 0x008) (x : Nat) :
    (s.w page f x).fenced 0 page = s.fenced 0 page := by
  unfold State.fenced
  rw [State.reg_w_ne (func := 0) (p := page) (off := 0x008) s x fun h => hc (regKey_inj hp (by decide) hp ho h).2.2.symm]

theorem State.b_of_r_eq_one {page : Nat} {f : Fld} (h : s.r page f = 1) : s.b page f = true := by
  simp [State.b, h]

/-- A locked reference lost: holdover, and REF_LOSS recorded by the block (R63). -/
theorem State.refLoss_of_locked (href : s.r pCLOCKS CLOCKS.STATUS_REF_OK = 1) (hpll : s.r pCLOCKS CLOCKS.STATUS_PLL_LOCK = 1) :
    s.refLoss = (((((s.w pCLOCKS CLOCKS.STATUS_REF_OK 0).w pCLOCKS CLOCKS.STATUS_PLL_LOCK 0).w pCLOCKS
      CLOCKS.STATUS_RUN 0).w pCLOCKS CLOCKS.STATUS_HOLDOVER 1).w pCLOCKS STATUS_DEGRADED 1).eventOpen pCLOCKS Ev.REF_LOSS := by
  have hpll' : (s.w pCLOCKS CLOCKS.STATUS_REF_OK 0).r pCLOCKS CLOCKS.STATUS_PLL_LOCK = 1 :=
    (State.r_w_disjoint (f := CLOCKS.STATUS_REF_OK) (g := CLOCKS.STATUS_PLL_LOCK) s pCLOCKS 0 (by decide) rfl
      (by decide)).trans hpll
  simp only [State.refLoss, State.b_of_r_eq_one s href, State.b_of_r_eq_one _ hpll', if_true]

theorem State.refReturn_of_holdover (h : s.r pCLOCKS CLOCKS.STATUS_HOLDOVER = 1) :
    s.refReturn = (((s.w pCLOCKS CLOCKS.STATUS_REF_OK 1).w pCLOCKS CLOCKS.STATUS_PLL_LOCK 1).w pCLOCKS
      CLOCKS.STATUS_RUN 1).w pCLOCKS CLOCKS.STATUS_HOLDOVER 0 := by
  simp only [State.refReturn, State.b_of_r_eq_one s h, if_true]

theorem State.eventOpen_of_open {page : Nat} (h : s.fenced 0 page = false) (code : Nat) :
    s.eventOpen page code = s.accEventOpen 0 page code := by
  simp [State.eventOpen, h]

end Sys2Proof.Machine

open Sys2Proof Sys2Proof.Machine

/-- Settles O24: what the lock of the PLL changes by `State.mainOut_toTraining_eq`, the registers it leaves by
`State.bootSettled_writesOnly`, loss and return of the reference branch by branch. -/
theorem clockSourcesComeUpHoldOverAndReturn : Obligations.ClockSourcesComeUpHoldOverAndReturn := by
  refine ⟨fun s straps hs => ?_, fun s hs => ?_, fun s hs => ?_, fun s href hpll hf => ?_, fun s hh => ?_⟩
  · exact congrArg Host.Outcome.next (s.coldStart_of_held hs straps)
  · exact congrArg Host.Outcome.next (s.refOk_of_aon hs)
  · refine ⟨s.mainOut.toTraining, congrArg Host.Outcome.next (s.pllLock_eq hs), ?_⟩
    have hregs : s.mainOut.toTraining.regs = s.mainOut.bootSettled.regs := by rw [State.mainOut_toTraining_eq]
    have hvariant : s.mainOut.variant = s.variant := by rw [State.mainOut_eq]
    have hpd (d : Nat) (hd : d < 50) :
        s.mainOut.toTraining.pdState d = if pdPresent s.variant d = false then 3 else s.pdState d := by
      rw [State.pdState_congr hregs, State.pdState_bootSettled _ hd, State.pdState_mainOut s hd, hvariant]
    refine ⟨?_, ?_, ?_, ?_, ?_, ?pll, ?run, ?absent, ?present, ?_, ?_, ?_, ?_, ?_⟩
    case pll => rw [State.r_congr hregs, State.r_bootSettled_clocks _ (by decide), State.mainOut_pllLock]
    case run => rw [State.r_congr hregs, State.r_bootSettled_clocks _ (by decide), State.mainOut_run]
    case absent => exact fun d hd habsent => by rw [hpd d hd, if_pos habsent]
    case present => exact fun d hd hpresent => by rw [hpd d hd, if_neg (by simp [hpresent])]
    all_goals rw [State.mainOut_toTraining_eq]
  · show Host.Outcome.next s.refLoss = _
    rw [State.refLoss_of_locked s href hpll, State.eventOpen_of_open]
    repeat rw [State.fenced_w _ (by decide) (by decide) (by decide)]
    exact hf
  · exact congrArg Host.Outcome.next (s.refReturn_of_holdover hh)

end

section
/-! SUPPORT. What one fabric cycle with no command waiting changes (02_address_spaces_memory_data_ports R39;
03_clocks_power_startup R62; 12_journal_and_mirror_pair R334; 16_interrupts_drover_timebase R437). -/

namespace Sys2Proof.Machine

variable (s : State)

/-! ### The interrupt sources -/

theorem State.foldl_groupsOnly {α : Type} {f : State → α → State}
    (h : ∀ t a, ∃ groups, f t a = { t with groups := groups }) (l : List α) (s : State) :
    ∃ groups, l.foldl f s = { s with groups := groups } := by
  induction l generalizing s with
  | nil => exact ⟨s.groups, rfl⟩
  | cons a l ih =>
    obtain ⟨g, hg⟩ := h s a
    obtain ⟨g', hg'⟩ := ih (f s a)
    exact ⟨g', by rw [List.foldl_cons, hg', hg]⟩

/-- A scan of the sources changes the groups and, for WAKE#, the host's side (R422, R447). -/
theorem State.scanSources_eq : ∃ groups host, s.scanSources = { s with groups := groups, host := host } := by
  unfold State.scanSources
  extract_lets l service t
  obtain ⟨groups, ht⟩ : ∃ groups, t = { s with groups := groups } := by
    refine State.foldl_groupsOnly (fun u g => ?_) _ s
    dsimp only
    split
    · exact ⟨u.groups, rfl⟩
    · exact ⟨_, rfl⟩
  rw [ht]
  split
  · exact ⟨groups, s.host, rfl⟩
  · split
    · exact ⟨groups, _, rfl⟩
    · exact ⟨groups, s.host, rfl⟩

/-! ### The time base -/

theorem State.tbCycle_of_stopped (h : s.clocks.tbStopped = true ∨ s.pdOn 48 = false) : s.tbCycle = s :=
  if_pos (by simpa using h)

section
variable {s} (hrun : s.clocks.tbStopped = false) (hon : s.pdOn 48 = true)
include hrun hon

theorem State.tbCycle_of_carry (h : s.tbFrac = 11) : s.tbCycle = { s with tbFrac := 0, tb := s.tb + 1 } := by
  simp [State.tbCycle, hrun, hon, h]

theorem State.tbCycle_of_count (h : s.tbFrac ≠ 11) : s.tbCycle = { s with tbFrac := s.tbFrac + 1 } := by
  simp [State.tbCycle, hrun, hon, h]

end

/-- The time base looks at no interrupt group, host, core or count of fabric cycles, and changes none. -/
theorem State.tbCycle_with (groups : Sparse Group) (host : HostSt) (cores : Sparse Core) (fc : Nat) :
    ({ s with groups := groups, host := host, cores := cores, fc := fc } : State).tbCycle =
      { s with groups := groups, host := host, cores := cores, fc := fc, tb := s.tbCycle.tb, tbFrac := s.tbCycle.tbFrac } := by
  by_cases hstop : s.clocks.tbStopped = true ∨ s.pdOn 48 = false
  · rw [s.tbCycle_of_stopped hstop]
    exact State.tbCycle_of_stopped _ hstop
  · obtain ⟨hrun, hon⟩ : s.clocks.tbStopped = false ∧ s.pdOn 48 = true := by simpa using hstop
    by_cases hfrac : s.tbFrac = 11
    · rw [State.tbCycle_of_carry hrun hon hfrac]
      exact State.tbCycle_of_carry hrun hon hfrac
    · rw [State.tbCycle_of_count hrun hon hfrac]
      exact State.tbCycle_of_count hrun hon hfrac

/-! ### The cycle (R62) -/

theorem tick_of_down (h : s.mainUp = false) : tick s = s := by
  simp [tick, h]

/-- All one fabric cycle changes. -/
theorem tick_of_up (h : s.mainUp = true) : ∃ groups host cores, tick s =
    { s with groups := groups, host := host, cores := cores, fc := s.fc + 1, wdog := s.wdog - 1
             tb := s.tbCycle.tb, tbFrac := s.tbCycle.tbFrac } := by
  obtain ⟨groups, host, hscan⟩ := s.scanSources_eq
  refine ⟨groups, host, (s.scanSources.coreCycles 1).cores, ?_⟩
  have hcycle : ({ s.scanSources.coreCycles 1 with fc := s.fc + 1 } : State) =
      { s with groups := groups, host := host, cores := (s.scanSources.coreCycles 1).cores, fc := s.fc + 1 } := by
    rw [hscan]
    rfl
  rw [tick, if_pos h, hcycle, State.tbCycle_with, State.wdogCycle]

/-! ### The HELLO that falls due (R334) -/

/-- A HELLO that goes out changes the mirror link alone. -/
theorem State.helloDue_eq : ∃ mirror, s.helloDue = { s with mirror := mirror } := by
  unfold State.helloDue
  split
  · exact ⟨_, rfl⟩
  · exact ⟨s.mirror, rfl⟩

/-- While MAIN is held in reset no block acts (R62). -/
theorem State.active_of_down (h : s.mainUp = false) (page : Nat) : s.active page = false := by
  have hdomain : s.domainOn 0 page = false := by
    unfold State.domainOn
    split
    · exact h
    · simp [State.pdOn, h]
  simp [State.active, hdomain]

theorem State.idle_of_down (h : s.mainUp = false) : s.idle = s := by
  rw [State.idle, tick_of_down s h]
  simp [State.helloDue, s.active_of_down h]

/-- All that an idle fabric cycle changes, and how its counts move. -/
theorem State.idle_of_up (h : s.mainUp = true) : ∃ groups host cores mirror, s.idle =
    { s with groups := groups, host := host, cores := cores, mirror := mirror, fc := s.fc + 1, wdog := s.wdog - 1
             tb := s.tbCycle.tb, tbFrac := s.tbCycle.tbFrac } := by
  obtain ⟨groups, host, cores, htick⟩ := tick_of_up s h
  obtain ⟨mirror, hhello⟩ := (tick s).helloDue_eq
  exact ⟨groups, host, cores, mirror, by rw [State.idle, hhello, htick]⟩

theorem step_of_empty (h : s.pending = []) : step s = .next s.idle := by
  unfold step
  rw [h]

end Sys2Proof.Machine

open Sys2Proof Sys2Proof.Machine

/-- Settles O2: an empty queue lets `State.idle` run, which is nothing while MAIN is in reset and by `State.idle_of_up`
one cycle of the counters else; the time base by the three cases of `State.tbCycle`. -/
theorem emptyQueueLetsOneFabricCyclePass : Obligations.EmptyQueueLetsOneFabricCyclePass := by
  refine ⟨fun s hempty hdown => ?_, fun s hempty hup => ⟨s.idle, step_of_empty s hempty, ?_⟩⟩
  · rw [step_of_empty s hempty, s.idle_of_down hdown]
  · obtain ⟨groups, host, cores, mirror, hidle⟩ := s.idle_of_up hup
    rw [hidle]
    refine ⟨rfl, rfl, fun hstop => ?_, fun hrun hon hfrac => ?_, fun hrun hon hfrac => ?_,
      hempty, rfl, rfl, rfl, rfl, rfl, rfl, rfl⟩
    · rw [s.tbCycle_of_stopped hstop]
      exact ⟨rfl, rfl⟩
    · rw [State.tbCycle_of_carry hrun hon hfrac]
      exact ⟨rfl, rfl⟩
    · rw [State.tbCycle_of_count hrun hon hfrac]
      exact ⟨rfl, rfl⟩

end

section
/-! SUPPORT. Memory training: what a write of TRAIN_CTRL, a drift and a pending retrain come to (03_clocks_power_startup
R80, R81, R82). -/

namespace Sys2Proof.Machine

variable (s : State)

theorem State.b_of_r_eq_zero {page : Nat} {f : Fld} (h : s.r page f = 0) : s.b page f = false := by
  simp [State.b, h]

/-! ### Requests (R80, R81) -/

section
variable {s} (h : s.r pMEMCTL MEMCTL.TRAIN_STAT_RUNNING = 1)
include h

theorem State.trainPend_of_running : s.trainPend = s := if_pos (s.b_of_r_eq_one h)

theorem State.trainForce_of_running : s.trainForce = s := if_pos (s.b_of_r_eq_one h)

end

section
variable {s} (h : s.r pMEMCTL MEMCTL.TRAIN_STAT_RUNNING = 0)
include h

theorem State.trainPend_of_idle :
    s.trainPend = if s.enabledHeads = [] then s.trainStart false false else s.w pMEMCTL MEMCTL.TRAIN_STAT_PENDING 1 := by
  simp [State.trainPend, s.b_of_r_eq_zero h, List.isEmpty_iff]

theorem State.trainForce_of_idle : s.trainForce = s.trainStart true false := by
  simp [State.trainForce, s.b_of_r_eq_zero h]

theorem State.driftRetrain_of_beyond {drift : Nat} (hup : s.mainUp = true)
    (hlim : s.r pMEMCTL MEMCTL.TRAIN_CTRL_DRIFT_LIMIT ≠ 0) (hdrift : s.r pMEMCTL MEMCTL.TRAIN_CTRL_DRIFT_LIMIT < drift) :
    s.driftRetrain drift =
      if s.enabledHeads = [] then s.trainStart false false else s.w pMEMCTL MEMCTL.TRAIN_STAT_PENDING 1 := by
  rw [← State.trainPend_of_idle h]
  simp [State.driftRetrain, hup, hlim, hdrift]

section
variable (hpend : s.r pMEMCTL MEMCTL.TRAIN_STAT_PENDING = 1)
include hpend

theorem State.retrainStart_of_headless (hbell : s.bellwether = none) : s.retrainStart = s.trainStart false false := by
  simp [State.retrainStart, s.b_of_r_eq_one hpend, s.b_of_r_eq_zero h, hbell]

/-- At the bellwether's first blank line a pending retrain starts once every enabled head is ready (R80). -/
theorem State.retrainStart_of_blank {b : Nat} (hbell : s.bellwether = some b)
    (hline : s.r (pgHEAD b) HEAD.BEAM_LINE = (s.mode b).vAct)
    (hready : ∀ h ∈ s.enabledHeads, min 3 (s.r (pgHEAD h) HEAD.LOOKAHEAD) ≤ s.lookahead h) :
    s.retrainStart = s.trainStart false false := by
  have hall : s.enabledHeads.all (fun h => s.trainReady h) = true :=
    List.all_eq_true.2 fun h hh => decide_eq_true (hready h hh)
  simp [State.retrainStart, s.b_of_r_eq_one hpend, s.b_of_r_eq_zero h, hbell, hline, hall]

end

end

/-- A retrain under way ends 60 us after its start (R81). -/
theorem State.retrainDone_of_running (h : s.r pMEMCTL MEMCTL.TRAIN_STAT_RUNNING = 1) :
    s.retrainDone = ((s.advanceFc (s.trainFc + 60 * 1782)).w pMEMCTL MEMCTL.TRAIN_STAT_RUNNING 0).inc pMEMCTL
      MEMCTL.TRAIN_STAT_TRAIN_COUNT :=
  if_pos (s.b_of_r_eq_one h)

/-! ### TRAIN_CTRL (R81, R82) -/

theorem exec_trainRequest (v : BitVec 32) (wr : Code) :
    exec (.trainRequest v wr) s = .next (s.writeAt 0 pMEMCTL 0x200 4 v.toNat wr) := rfl

theorem exec_trainForce (v : BitVec 32) (wr : Code) :
    exec (.trainForce v wr) s = .next (s.writeAt 0 pMEMCTL 0x200 4 v.toNat wr) := rfl

theorem specAt_trainCtrl : specAt .kMEMCTL 0x200 =
    some (⟨0x200, 0x0, 1, false, 0xFFFF00, 0x0, 0x780A00, false, false, true⟩, 0x200) := by decide

/-- What a write of TRAIN_CTRL stores leaves every register but TRAIN_CTRL as it was. -/
theorem State.plain_trainCtrl (v : BitVec 32) (wr : Code) :
    ∃ x, (s.plain (wr32 0 pMEMCTL 0x200 v wr)).1 = s.setReg 0 pMEMCTL 0x200 x := by
  rw [State.plain_of_spec (w := wr32 0 pMEMCTL 0x200 v wr) (k := .kMEMCTL) (n := 0) rfl specAt_trainCtrl]
  exact ⟨_, rfl⟩

/-- A field of another register keeps its value. -/
theorem State.r_setReg_ne {page p off : Nat} {f : Fld} (v : W64) (hp : p < 4096) (hf : f.off < 4096) (hpage : page < 4096)
    (hoff : off < 4096) (h : p ≠ page ∨ f.off ≠ off) : (s.setReg 0 page off v).r p f = s.r p f := by
  have hkey : regKey 0 p f.off ≠ regKey 0 page off := fun hk => by
    obtain ⟨_, hpp, hoo⟩ := regKey_inj hp hf hpage hoff hk
    rcases h with h | h
    exacts [h hpp, h hoo]
  unfold State.r
  rw [State.reg_setReg_ne s v hkey]

theorem State.enabledHeads_setReg_memctl {off : Nat} (v : W64) (hoff : off < 4096) :
    (s.setReg 0 pMEMCTL off v).enabledHeads = s.enabledHeads := by
  refine List.filter_congr fun h hh => ?_
  have hh : h < 32 := List.mem_range.1 hh
  have henabled : (s.setReg 0 pMEMCTL off v).r (pgHEAD h) CTRL_ENABLE = s.r (pgHEAD h) CTRL_ENABLE :=
    s.r_setReg_ne v (by unfold pgHEAD; omega) (by decide) (by decide) hoff (.inl (by simp only [pgHEAD, pMEMCTL]; omega))
  simp only [State.enabled, State.b, henabled]
  rfl

variable {v : BitVec 32} {wr : Code}

theorem State.running_plain_trainCtrl :
    (s.plain (wr32 0 pMEMCTL 0x200 v wr)).1.r pMEMCTL MEMCTL.TRAIN_STAT_RUNNING = s.r pMEMCTL MEMCTL.TRAIN_STAT_RUNNING := by
  obtain ⟨x, hx⟩ := s.plain_trainCtrl v wr
  rw [hx]
  exact s.r_setReg_ne x (by decide) (by decide) (by decide) (by decide) (.inr (by decide))

theorem State.enabledHeads_plain_trainCtrl : (s.plain (wr32 0 pMEMCTL 0x200 v wr)).1.enabledHeads = s.enabledHeads := by
  obtain ⟨x, hx⟩ := s.plain_trainCtrl v wr
  rw [hx, s.enabledHeads_setReg_memctl x (by decide)]

/-- The two command bits of TRAIN_CTRL: FORCE, then REQUEST (R81, R82). -/
def State.trainCtrlActs (s : State) (v : BitVec 32) : State :=
  let t := if v.getLsbD 1 then s.trainForce else s
  if v.getLsbD 0 then t.trainPend else t

theorem State.trainCtrlActs_request (h0 : v.getLsbD 0 = true) (h1 : v.getLsbD 1 = false) :
    s.trainCtrlActs v = s.trainPend := by
  simp only [State.trainCtrlActs, h0, h1, if_true, Bool.false_eq_true, if_false]

theorem State.trainCtrlActs_force (h0 : v.getLsbD 0 = false) (h1 : v.getLsbD 1 = true) :
    s.trainCtrlActs v = s.trainForce := by
  simp only [State.trainCtrlActs, h0, h1, if_true, Bool.false_eq_true, if_false]

theorem State.trainCtrlActs_of_running (h : s.r pMEMCTL MEMCTL.TRAIN_STAT_RUNNING = 1) : s.trainCtrlActs v = s := by
  simp only [State.trainCtrlActs, State.trainForce_of_running h, ite_self, State.trainPend_of_running h]

/-- An accepted write of TRAIN_CTRL is stored, and its two command bits act. -/
theorem State.writeAt_trainCtrl {s : State} (ha : Admits s 0 pMEMCTL 0x200 4 wr) :
    s.writeAt 0 pMEMCTL 0x200 4 v.toNat wr = (s.plain (wr32 0 pMEMCTL 0x200 v wr)).1.trainCtrlActs v := by
  rw [State.writeAt32_kind (k := .kMEMCTL) (n := 0) (by decide) ha rfl (by decide) rfl (by decide) (by decide)
    (by decide) (by decide) (by decide)]
  have hbit (i : Nat) : nbit (wr32 0 pMEMCTL 0x200 v wr).v i = v.getLsbD i := by
    rw [wr32_v]
    rfl
  simp only [State.blockWrite, State.memctlWrite, hbit]
  rfl

/-! ### The start of a retrain (R80, R81) -/

theorem State.trainStart_stat (forced limited : Bool) :
    (s.trainStart forced limited).r pMEMCTL MEMCTL.TRAIN_STAT_RUNNING = 1 ∧
    (s.trainStart forced limited).r pMEMCTL MEMCTL.TRAIN_STAT_PENDING = 0 ∧
    (s.trainStart forced limited).r pMEMCTL MEMCTL.TRAIN_STAT_DEFERRED_FRAMES = 0 ∧
    (s.trainStart forced limited).r pMEMCTL MEMCTL.TRAIN_STAT_LAST_FORCED = b2n forced ∧
    (s.trainStart forced limited).r pMEMCTL MEMCTL.TRAIN_STAT_LAST_LIMITED = b2n limited := by
  have hregs : (s.trainStart forced limited).regs = (((((s.w pMEMCTL MEMCTL.TRAIN_STAT_RUNNING 1).w pMEMCTL
      MEMCTL.TRAIN_STAT_PENDING 0).w pMEMCTL MEMCTL.TRAIN_STAT_DEFERRED_FRAMES 0).w pMEMCTL
      MEMCTL.TRAIN_STAT_LAST_FORCED (b2n forced)).w pMEMCTL MEMCTL.TRAIN_STAT_LAST_LIMITED (b2n limited)).regs := rfl
  have hbit (b : Bool) : b2n b % 2 = b2n b := by cases b <;> rfl
  simp (disch := decide) [State.r_congr hregs, State.r_w_same, State.r_w_disjoint, hbit]

theorem State.trainStart_frame (forced limited : Bool) :
    (s.trainStart forced limited).trainFc = s.fc ∧ (s.trainStart forced limited).mem = s.mem ∧
    (s.trainStart forced limited).hist = s.hist := by
  simp [State.trainStart]

end Sys2Proof.Machine

open Sys2Proof Sys2Proof.Machine

/-- Settles O27: a write of TRAIN_CTRL by `State.writeAt_trainCtrl`, which leaves RUNNING and the heads as they are; then
REQUEST, FORCE, drift and start by what each does while a retrain runs and while none does. -/
theorem memoryTrainingRunsAsRequested : Obligations.MemoryTrainingRunsAsRequested := by
  refine ⟨?request, ?headless, ?force, ?running, ?drift, ?start, ?blank, ?done, ?stat⟩
  case request =>
    intro s v wr ha h0 h1 hrun hheads
    rw [exec_trainRequest, State.writeAt_trainCtrl ha, State.trainCtrlActs_request _ h0 h1,
      State.trainPend_of_idle (s.running_plain_trainCtrl.trans hrun), s.enabledHeads_plain_trainCtrl, if_neg hheads]
  case headless =>
    intro s v wr ha h0 h1 hrun hheads
    rw [exec_trainRequest, State.writeAt_trainCtrl ha, State.trainCtrlActs_request _ h0 h1,
      State.trainPend_of_idle (s.running_plain_trainCtrl.trans hrun), s.enabledHeads_plain_trainCtrl, if_pos hheads]
  case force =>
    intro s v wr ha h0 h1 hrun
    rw [exec_trainForce, State.writeAt_trainCtrl ha, State.trainCtrlActs_force _ h0 h1,
      State.trainForce_of_idle (s.running_plain_trainCtrl.trans hrun)]
  case running =>
    intro s v wr ha hrun
    rw [exec_trainRequest, exec_trainForce, State.writeAt_trainCtrl ha,
      State.trainCtrlActs_of_running _ (s.running_plain_trainCtrl.trans hrun)]
    exact ⟨rfl, rfl⟩
  case drift =>
    intro s drift hup hlim hdrift hrun
    exact congrArg Host.Outcome.next ((if_pos hup).trans (State.driftRetrain_of_beyond hrun hup hlim hdrift))
  case start =>
    intro s hup hpend hrun hbell
    exact congrArg Host.Outcome.next ((if_pos hup).trans (State.retrainStart_of_headless hrun hpend hbell))
  case blank =>
    intro s b hup hpend hrun hbell hline hready
    exact congrArg Host.Outcome.next ((if_pos hup).trans (State.retrainStart_of_blank hrun hpend hbell hline hready))
  case done =>
    intro s hup hrun
    exact congrArg Host.Outcome.next ((if_pos hup).trans (s.retrainDone_of_running hrun))
  case stat =>
    intro s forced limited
    obtain ⟨hrun, hpend, hdefer, hforced, hlimited⟩ := s.trainStart_stat forced limited
    exact ⟨_, rfl, hrun, hpend, hdefer, hforced, hlimited, s.trainStart_frame forced limited⟩

end

section
/-! SUPPORT. A domain's entry and the stream of its head (03_clocks_power_startup R69, R73). -/

namespace Sys2Proof.Machine

/-- A part whose PD00 waits to enter RETENTION and is quiet, since head and engine are disabled, while head 0's stream
still carries pixels: a disabled head sends idle pattern only from its next line boundary (R196). -/
def stoppingHead : State :=
  (({ State.reset with mainUp := true, heads := [(0, { begun := true, idle := false, stopping := true })] } : State).w
    pPOWER (pdFld POWER.PD_CTRL_TARGET 0) 1).w pPOWER (pdFld POWER.PD_STATUS_ENTRY_PENDING 0) 1

theorem stoppingHead_pending : stoppingHead.r pPOWER (pdFld POWER.PD_STATUS_ENTRY_PENDING 0) = 1 := rfl

theorem stoppingHead_quiet : stoppingHead.domainQuiet 0 = true := rfl

theorem stoppingHead_live : (stoppingHead.hd 0).idle = false := rfl

/-- The head of a domain that leaves ON sends idle pattern at once (R73). -/
theorem stoppingHead_domainEntry_idle : ((stoppingHead.domainEntry 0).hd 0).idle = true := rfl

end Sys2Proof.Machine

open Sys2Proof Sys2Proof.Machine

/-- Refutes O25: its clause on the commit of an entry names changes of POWER and of the domain alone for every domain
below PD46, but a head whose domain leaves ON sends idle pattern (R73): PD00 with a head that is still stopping. -/
theorem not_aDomainEntersRestsAndWakes : ¬ Obligations.ADomainEntersRestsAndWakes := by
  unfold Obligations.ADomainEntersRestsAndWakes
  rintro ⟨_, _, hcommit, _⟩
  have hnext := hcommit stoppingHead 0 (by decide) rfl stoppingHead_pending stoppingHead_quiet
  have hstate : stoppingHead.domainEntry 0 = _ := Host.Outcome.next.inj hnext
  have hlive : ((stoppingHead.domainEntry 0).hd 0).idle = (stoppingHead.hd 0).idle := by
    rw [hstate, State.hd_setDom, State.hd_w, State.hd_w]
  rw [stoppingHead_domainEntry_idle, stoppingHead_live] at hlive
  exact absurd hlive (by decide)

end

section
/-! SUPPORT. Writes of an engine's page: what each of its data registers and holds does with the value written
(04_pastures_tiles_layers R114, R115; 05_flocks_sprites R131, R132, R133; 07_composition_and_sapphire_layer R170;
12_journal_and_mirror_pair R333). -/

namespace Sys2Proof.Machine

/-! ### From the bus to the engine (R23, R333) -/

section
variable {s : State} {e off : Nat} {wr : Code} (he : e < 33) (ho : 0x100 ≤ off)
include ho

theorem deasserts_pe {page size : Nat} {x : W64} :
    deasserts { func := 0, page := page, off := off, size := size, value := x, code := wr } .kPE = false := by
  simp [deasserts]
  omega

include he

section
variable {v : BitVec 32} {t : State} (ha : Admits s 0 (pgPE e) off 4 wr) (hw : wideBase .kPE off = none)
include ha hw

theorem State.unitWrite_pe32 :
    s.unitWrite 33 e 0 (pgPE e) off 4 v.toNat wr =
      if (s.peWrite (wr32 0 (pgPE e) off v wr) e).2
      then (s.peWrite (wr32 0 (pgPE e) off v wr) e).1.journalWrite (wr32 0 (pgPE e) off v wr) s
      else (s.peWrite (wr32 0 (pgPE e) off v wr) e).1 :=
  (if_pos he).trans (State.writeAt32_block (pageKind_pgPE he) ha rfl hw (deasserts_pe ho) ho (by decide))

theorem State.unitWrite_pe32_of_accepted (h : s.peWrite (wr32 0 (pgPE e) off v wr) e = (t, true)) :
    s.unitWrite 33 e 0 (pgPE e) off 4 v.toNat wr = t.journalWrite (wr32 0 (pgPE e) off v wr) s := by
  rw [State.unitWrite_pe32 he ho ha hw, h, if_pos rfl]

theorem State.unitWrite_pe32_of_dropped (h : s.peWrite (wr32 0 (pgPE e) off v wr) e = (t, false)) :
    s.unitWrite 33 e 0 (pgPE e) off 4 v.toNat wr = t := by
  rw [State.unitWrite_pe32 he ho ha hw, h, if_neg Bool.false_ne_true]

end

section
variable {v : BitVec 64} {t : State} (ha : Admits s 0 (pgPE e) off 8 wr) (hw : wideBase .kPE off = some off)
include ha hw

theorem State.unitWrite_pe64 :
    s.unitWrite 33 e 0 (pgPE e) off 8 v.toNat wr =
      let r := (Released s 0 (pgPE e) off wr).peWrite (wr64 0 (pgPE e) off v wr) e
      if r.2 then r.1.journalWrite (wr64 0 (pgPE e) off v wr) (Released s 0 (pgPE e) off wr) else r.1 :=
  (if_pos he).trans (State.writeAt64_block (pageKind_pgPE he) ha rfl hw (deasserts_pe ho) ho (by decide))

theorem State.unitWrite_pe64_of_accepted
    (h : (Released s 0 (pgPE e) off wr).peWrite (wr64 0 (pgPE e) off v wr) e = (t, true)) :
    s.unitWrite 33 e 0 (pgPE e) off 8 v.toNat wr =
      t.journalWrite (wr64 0 (pgPE e) off v wr) (Released s 0 (pgPE e) off wr) := by
  rw [State.unitWrite_pe64 he ho ha hw, h]
  exact if_pos rfl

theorem State.unitWrite_pe64_of_dropped
    (h : (Released s 0 (pgPE e) off wr).peWrite (wr64 0 (pgPE e) off v wr) e = (t, false)) :
    s.unitWrite 33 e 0 (pgPE e) off 8 v.toNat wr = t := by
  rw [State.unitWrite_pe64 he ho ha hw, h]
  exact if_neg Bool.false_ne_true

end

end

/-! ### What each register does with a write -/

theorem specAt_layerHold : specAt .kPE 0x104 =
    some (⟨0x104, 0, 1, false, 0xFF, 0, 0, false, false, false⟩, 0x104) := by decide

theorem specAt_flkHold : specAt .kPE 0x604 =
    some (⟨0x604, 0, 1, false, 0x1, 0, 0, true, false, false⟩, 0x604) := by decide

@[simp] theorem wr64_value (func page off : Nat) (v : BitVec 64) (wr : Code) : (wr64 func page off v wr).value = v := by
  simp [wr64]

section
variable (s : State) {w : Wr} {e : Nat}

/-- A write dropped on an engine's page is recorded in that page's own history (R33, R187). -/
theorem Wr.drop_pe (hf : w.func = 0) (hp : w.page = pgPE e) (he : e < 33) :
    w.drop s Ev.BAD_STATE = (s.accEventOpen 0 (pgPE e) Ev.BAD_STATE, false) := by
  have hpage : histPage w.func w.page = (0, pgPE e) := by
    rw [hf, hp]
    exact if_neg (by unfold pgPE; omega)
  simp [Wr.drop, State.logDrop, hpage]

/-- PE32 has no layers, flock or tables of its own: their registers are dropped there (R219). -/
theorem State.peWrite_relief (hf : w.func = 0) (hp : w.page = pgPE 32) (ho : w.off < 0x900) :
    s.peWrite w 32 = (s.accEventOpen 0 (pgPE 32) Ev.BAD_STATE, false) := by
  rw [State.peWrite, if_pos ⟨rfl, ho⟩, Wr.drop_pe s hf hp (by decide)]

variable (he : e < 32)
include he

theorem State.peWrite_palData (ho : w.off = 0x110) : s.peWrite w e = s.palDataWrite e w.value := by
  simp [State.peWrite, peComposes, ho, he.ne]

theorem State.peWrite_flkData (ho : w.off = 0x610) : s.peWrite w e = s.flkDataWrite w e := by
  simp [State.peWrite, peComposes, ho, he.ne]

theorem State.peWrite_lutData (ho : w.off = 0x804) : s.peWrite w e = s.lutDataWrite w e := by
  simp [State.peWrite, peComposes, ho, he.ne]

/-- The two holds are plain registers (R114, R132). -/
theorem State.peWrite_hold (ho : w.off = 0x104 ∨ w.off = 0x604) : s.peWrite w e = s.plain w := by
  rcases ho with ho | ho <;> simp [State.peWrite, peComposes, ho, he.ne]

theorem State.plain_hold (hf : w.func = 0) (hp : w.page = pgPE e) (ho : w.off = 0x104 ∨ w.off = 0x604) :
    s.plain w = ((s.plain w).1, true) := by
  have hk : pageKind w.func w.page = some (.kPE, e) := by rw [hf, hp, pageKind_pgPE (by omega)]
  obtain ⟨sp, hs⟩ : ∃ sp, specAt .kPE w.off = some (sp, w.off) := by
    rcases ho with ho | ho <;> rw [ho]
    exacts [⟨_, specAt_layerHold⟩, ⟨_, specAt_flkHold⟩]
  rw [State.plain_of_spec hk hs]

end

section
variable {s : State} {e : Nat}

theorem State.palDataWrite_of_room (entry : W64) (hroom : (s.eng e).palQ.length < 64) (hwait : (s.eng e).palWait = []) :
    s.palDataWrite e entry = (s.palEnter e entry, true) := by
  simp [State.palDataWrite, hroom, hwait, done]

theorem State.palDataWrite_of_full (entry : W64) (hfull : 64 ≤ (s.eng e).palQ.length) :
    s.palDataWrite e entry = (s.setEng e { s.eng e with palWait := (s.eng e).palWait ++ [entry] }, true) := by
  have hroom : ¬ ((s.eng e).palQ.length < 64 ∧ (s.eng e).palWait.isEmpty = true) := by omega
  simp only [State.palDataWrite, if_neg hroom, done]

/-- A full flock queue that no line start drains at once (R132, R133). -/
def State.flkStuck (s : State) (e : Nat) : Prop :=
  256 ≤ (s.eng e).flkQ.length ∧ (s.r (pgPE e) PE.FLK_HOLD ≠ 0 ∨ s.r (pgPE e) PE.FLK_CFG_FRAME_SYNC ≠ 0)

/-- A flock write enters its queue at WORD, which moves on under AUTOINC (R131). -/
def State.flkEnter (s : State) (e : Nat) (data : W32) : State :=
  let i := s.r (pgPE e) PE.FLK_ADDR_WORD
  let q : FlkWrite := { word := i, data := data, mask := BitVec.ofNat 32 (s.r (pgPE e) PE.FLK_MASK), soft := true }
  let t := s.setEng e { s.eng e with flkQ := (s.eng e).flkQ ++ [q] }
  if s.b (pgPE e) PE.FLK_ADDR_AUTOINC then t.w (pgPE e) PE.FLK_ADDR_WORD (i + 1) else t

/-- A table entry is written at INDEX, which moves on under AUTOINC (R170). -/
def State.lutEnter (s : State) (e : Nat) (entry : BitVec 12) : State :=
  let i := s.r (pgPE e) PE.LUT_ADDR_INDEX
  let k := lutKey e (s.r (pgPE e) PE.LUT_ADDR_BANK) (s.r (pgPE e) PE.LUT_ADDR_TABLE) i
  let t : State := { s with lut := sset (BitVec.ofNat 12 i) s.lut k entry }
  if s.b (pgPE e) PE.LUT_ADDR_AUTOINC then t.w (pgPE e) PE.LUT_ADDR_INDEX (i + 1) else t

variable {off : Nat} (v : BitVec 32) (wr : Code)

theorem State.flkDataWrite_of_stuck (h : s.flkStuck e) :
    s.flkDataWrite (wr32 0 (pgPE e) off v wr) e =
      (s.peError e 9 6 true Ev.FLOCK_FULL (BitVec.ofNat 32 (s.r (pgPE e) PE.FLK_ADDR_WORD)), false) :=
  if_pos (by simpa [State.flkStuck, State.b, wr32] using h)

theorem State.flkDataWrite_of_not_stuck (h : ¬ s.flkStuck e) :
    s.flkDataWrite (wr32 0 (pgPE e) off v wr) e = (s.flkEnter e v, true) := by
  refine (if_neg (by simpa [State.flkStuck, State.b, wr32] using h)).trans ?_
  rw [wr32_v, BitVec.ofNat_toNat, BitVec.setWidth_eq]
  rfl

theorem State.lutDataWrite_of_idle (h : s.r (pgPE e) PE.LUT_ADDR_BANK ≠ s.r (pgPE e) PE.COMP_STAT) :
    s.lutDataWrite (wr32 0 (pgPE e) off v wr) e = (s.lutEnter e (v.setWidth 12), true) := by
  refine (if_pos (bne_iff_ne.2 h)).trans ?_
  rw [wr32_v, BitVec.ofNat_toNat]
  rfl

theorem State.lutDataWrite_of_in_use (h : s.r (pgPE e) PE.LUT_ADDR_BANK = s.r (pgPE e) PE.COMP_STAT) :
    s.lutDataWrite (wr32 0 (pgPE e) off v wr) e = (wr32 0 (pgPE e) off v wr).drop s Ev.BAD_STATE :=
  if_neg (by simpa [wr32] using h)

end

/-! ### The two holds and PE32, from the bus -/

section
variable {s : State} {e off : Nat} {wr : Code}

theorem State.unitWrite_hold {v : BitVec 32} (he : e < 32) (ho : off = 0x104 ∨ off = 0x604)
    (ha : Admits s 0 (pgPE e) off 4 wr) :
    s.unitWrite 33 e 0 (pgPE e) off 4 v.toNat wr =
      (s.plain (wr32 0 (pgPE e) off v wr)).1.journalWrite (wr32 0 (pgPE e) off v wr) s := by
  have hw : wideBase .kPE off = none := by rcases ho with rfl | rfl <;> decide
  refine State.unitWrite_pe32_of_accepted (by omega) (by omega) ha hw ?_
  rw [State.peWrite_hold s he ho, ← State.plain_hold s he rfl rfl ho]

section
variable (ho : 0x100 ≤ off) (ho' : off < 0x900)
include ho ho'

theorem State.unitWrite_relief32 {v : BitVec 32} (ha : Admits s 0 (pgPE 32) off 4 wr) (hw : wideBase .kPE off = none) :
    s.unitWrite 33 32 0 (pgPE 32) off 4 v.toNat wr = s.accEventOpen 0 (pgPE 32) Ev.BAD_STATE :=
  State.unitWrite_pe32_of_dropped (by decide) ho ha hw (State.peWrite_relief s rfl rfl ho')

theorem State.unitWrite_relief64 {v : BitVec 64} (ha : Admits s 0 (pgPE 32) off 8 wr) (hw : wideBase .kPE off = some off) :
    s.unitWrite 33 32 0 (pgPE 32) off 8 v.toNat wr =
      (Released s 0 (pgPE 32) off wr).accEventOpen 0 (pgPE 32) Ev.BAD_STATE :=
  State.unitWrite_pe64_of_dropped (by decide) ho ha hw (State.peWrite_relief _ rfl rfl ho')

end

end

end Sys2Proof.Machine

open Sys2Proof Sys2Proof.Machine

/-- Settles O29: an accepted write reaches `State.peWrite` by `State.unitWrite_pe32` and `State.unitWrite_pe64`; then each
register by what it does where its queue has room or its bank is idle, and where not. -/
theorem paletteFlockAndTableWritesQueue : Obligations.PaletteFlockAndTableWritesQueue := by
  refine ⟨?pal, ?flk, ?lut, ?layerHold, ?flkHold, ?reliefPal, ?reliefFlk, ?reliefLut, ?reliefLayerHold, ?reliefFlkHold⟩
  case pal =>
    intro s e v wr he ha
    refine ⟨fun hroom hwait => congrArg Host.Outcome.next ?_, fun hfull => congrArg Host.Outcome.next ?_⟩
    · refine State.unitWrite_pe64_of_accepted (by omega) (by decide) ha (by decide) ?_
      rw [State.peWrite_palData _ he rfl, wr64_value,
        State.palDataWrite_of_room (s := Released s 0 (pgPE e) 0x110 wr) v hroom hwait]
      rfl
    · refine State.unitWrite_pe64_of_accepted (by omega) (by decide) ha (by decide) ?_
      rw [State.peWrite_palData _ he rfl, wr64_value,
        State.palDataWrite_of_full (s := Released s 0 (pgPE e) 0x110 wr) v hfull]
      rfl
  case flk =>
    intro s e v wr he ha
    refine ⟨fun hroom => congrArg Host.Outcome.next ?_, fun hfull hhold => congrArg Host.Outcome.next ?_⟩
    · have hfree : ¬ s.flkStuck e := by
        rintro ⟨hfull, hhold⟩
        omega
      refine State.unitWrite_pe32_of_accepted (by omega) (by decide) ha (by decide) ?_
      rw [State.peWrite_flkData s he rfl, State.flkDataWrite_of_not_stuck v wr hfree]
      rfl
    · have hstuck : s.flkStuck e := ⟨hfull, by omega⟩
      refine State.unitWrite_pe32_of_dropped (by omega) (by decide) ha (by decide) ?_
      rw [State.peWrite_flkData s he rfl, State.flkDataWrite_of_stuck v wr hstuck]
      rfl
  case lut =>
    intro s e v wr he ha
    refine ⟨fun hidle => congrArg Host.Outcome.next ?_, fun huse => congrArg Host.Outcome.next ?_⟩
    · refine State.unitWrite_pe32_of_accepted (by omega) (by decide) ha (by decide) ?_
      rw [State.peWrite_lutData s he rfl, State.lutDataWrite_of_idle v wr hidle]
      rfl
    · refine State.unitWrite_pe32_of_dropped (by omega) (by decide) ha (by decide) ?_
      rw [State.peWrite_lutData s he rfl, State.lutDataWrite_of_in_use v wr huse, Wr.drop_pe s rfl rfl (by omega)]
  case layerHold => exact fun s e v wr he ha => congrArg Host.Outcome.next (State.unitWrite_hold he (.inl rfl) ha)
  case flkHold => exact fun s e v wr he ha => congrArg Host.Outcome.next (State.unitWrite_hold he (.inr rfl) ha)
  case reliefPal =>
    exact fun s v wr ha => congrArg Host.Outcome.next (State.unitWrite_relief64 (by decide) (by decide) ha (by decide))
  all_goals exact fun s v wr ha =>
    congrArg Host.Outcome.next (State.unitWrite_relief32 (by decide) (by decide) ha (by decide))

end

section
/-! SUPPORT. What an engine's work on a line changes: itself, its caches, the history, registers of engine pages and of
MEMCTL, and nothing else (04_pastures_tiles_layers R110, R113, R116, R117). -/

namespace Sys2Proof.Machine

/-! ### Events change histories alone (R30, R473) -/

section
variable (s : State)

theorem State.accEvent_eq (func page code : Nat) (detail : W32) :
    ∃ hist, s.accEvent func page code detail = { s with hist := hist } := by
  unfold State.accEvent
  split
  · exact ⟨_, rfl⟩
  · exact ⟨s.hist, rfl⟩

theorem State.event_eq (page code : Nat) (detail : W32) : ∃ hist, s.event page code detail = { s with hist := hist } := by
  unfold State.event
  split
  · exact ⟨s.hist, rfl⟩
  · exact s.accEvent_eq ..

/-- An event with an open detail also takes a free value (log entry 8). -/
theorem State.eventOpen_eq (page code : Nat) :
    ∃ hist n, s.eventOpen page code = { s with hist := hist, freeCtr := n } := by
  unfold State.eventOpen
  split
  · exact ⟨s.hist, s.freeCtr, rfl⟩
  · obtain ⟨hist, h⟩ := s.accEvent_eq 0 page code (BitVec.ofNat 32 (Config.freeNat s.freeCtr))
    exact ⟨hist, s.freeCtr + 1, by rw [State.accEventOpen, h, State.fresh]⟩

end

/-! ### The frame -/

/-- The registers an engine's work may write: MEMCTL's, and those of engine pages below their self-test. -/
def engineReg (page off : Nat) : Prop := page = pMEMCTL ∨ (0x520 ≤ page ∧ page < 0x560) ∧ off < 0x900

/-- From `s` to `t` engine `e` has worked: owners, locks, memory, waiting commands, heads, the other engines and every
register that is none of `engineReg` are as they were. -/
structure EngineActs (e : Nat) (s t : State) : Prop where
  owners : t.owners = s.owners
  locks : t.locks = s.locks
  mem : t.mem = s.mem
  pending : t.pending = s.pending
  heads : t.heads = s.heads
  others : ∀ d, d ≠ e → t.eng d = s.eng d
  reg : ∀ page off, page < 4096 → off < 4096 → ¬ engineReg page off → t.reg 0 page off = s.reg 0 page off

section
variable {e : Nat} {s t u : State}

theorem EngineActs.refl (e : Nat) (s : State) : EngineActs e s s :=
  ⟨rfl, rfl, rfl, rfl, rfl, fun _ _ => rfl, fun _ _ _ _ _ => rfl⟩

theorem EngineActs.trans (h : EngineActs e s t) (h' : EngineActs e t u) : EngineActs e s u where
  owners := h'.owners.trans h.owners
  locks := h'.locks.trans h.locks
  mem := h'.mem.trans h.mem
  pending := h'.pending.trans h.pending
  heads := h'.heads.trans h.heads
  others d hd := (h'.others d hd).trans (h.others d hd)
  reg page off hp ho hr := (h'.reg page off hp ho hr).trans (h.reg page off hp ho hr)

/-- A change of none of the parts the frame speaks of. -/
theorem EngineActs.elsewhere (howners : t.owners = s.owners) (hlocks : t.locks = s.locks) (hmem : t.mem = s.mem)
    (hpending : t.pending = s.pending) (hheads : t.heads = s.heads) (hengines : t.engines = s.engines)
    (hregs : t.regs = s.regs) : EngineActs e s t where
  owners := howners
  locks := hlocks
  mem := hmem
  pending := hpending
  heads := hheads
  others d _ := by unfold State.eng; rw [hengines]
  reg page off _ _ _ := by unfold State.reg; rw [hregs]

/-- A fold that carries a list along. -/
theorem EngineActs.foldl_fst {α β : Type} {f : State × β → α → State × β} (l : List α) (x : State × β)
    (h : ∀ y a, EngineActs e y.1 (f y a).1) : EngineActs e x.1 (l.foldl f x).1 := by
  induction l generalizing x with
  | nil => exact .refl e x.1
  | cons a l ih => exact (h x a).trans (ih (f x a))

theorem EngineActs.foldl {α : Type} {f : State → α → State} (l : List α) (s : State)
    (h : ∀ t a, EngineActs e t (f t a)) : EngineActs e s (l.foldl f s) := by
  induction l generalizing s with
  | nil => exact .refl e s
  | cons a l ih => exact (h s a).trans (ih (f s a))

theorem EngineActs.ite {c : Prop} [Decidable c] (ht : EngineActs e s t) (hu : EngineActs e s u) :
    EngineActs e s (if c then t else u) := by
  split
  · exact ht
  · exact hu

/-! ### What the frame says of a head -/

theorem EngineActs.r_eq (h : EngineActs e s t) {page : Nat} {f : Fld} (hp : page < 4096) (ho : f.off < 4096)
    (hr : ¬ engineReg page f.off) : t.r page f = s.r page f := by
  unfold State.r
  rw [h.reg page f.off hp ho hr]

theorem EngineActs.hd_eq (h : EngineActs e s t) (n : Nat) : t.hd n = s.hd n := by
  unfold State.hd
  rw [h.heads]

theorem not_engineReg_pgHEAD {n : Nat} (hn : n < 32) (off : Nat) : ¬ engineReg (pgHEAD n) off := by
  unfold engineReg pgHEAD pMEMCTL
  omega

theorem EngineActs.mode_eq (h : EngineActs e s t) {n : Nat} (hn : n < 32) : t.mode n = s.mode n := by
  unfold State.mode
  rw [h.r_eq (by unfold pgHEAD; omega) (by decide) (not_engineReg_pgHEAD hn _)]

theorem EngineActs.stateOf_eq (h : EngineActs e s t) (n : Nat) : t.stateOf n = s.stateOf n := by
  unfold State.stateOf State.relHead
  rw [h.r_eq (page := pgPE 32) (by decide) (by decide) (by unfold engineReg; decide)]

theorem State.relHead_lt (s : State) : s.relHead < 32 := wfld_lt ..

theorem State.stateOf_lt (s : State) (n : Nat) : s.stateOf n < 32 := by
  unfold State.stateOf
  split
  · assumption
  · exact s.relHead_lt

end

/-! ### What an engine does -/

section
variable {e : Nat} (s : State)

theorem State.w_engineActs {page : Nat} {f : Fld} (hr : engineReg page f.off) (ho : f.off < 0x900) (x : Nat) :
    EngineActs e s (s.w page f x) where
  owners := rfl
  locks := rfl
  mem := rfl
  pending := rfl
  heads := rfl
  others _ _ := rfl
  reg p o hp ho' hne := State.reg_w_ne s x fun hk => by
    have hpage : page < 4096 := by unfold engineReg pMEMCTL at hr; omega
    obtain ⟨_, rfl, rfl⟩ := regKey_inj hp ho' hpage (by omega) hk
    exact hne hr

theorem State.w_pe_engineActs {n : Nat} {f : Fld} (hn : n < 64) (ho : f.off < 0x900) (x : Nat) :
    EngineActs e s (s.w (pgPE n) f x) :=
  s.w_engineActs (.inr ⟨by unfold pgPE; omega, ho⟩) ho x

theorem State.w_memctl_engineActs {f : Fld} (ho : f.off < 0x900) (x : Nat) : EngineActs e s (s.w pMEMCTL f x) :=
  s.w_engineActs (.inl rfl) ho x

theorem State.setEng_engineActs (x : Engine) : EngineActs e s (s.setEng e x) :=
  ⟨rfl, rfl, rfl, rfl, rfl, fun _ hd => State.eng_setEng_ne s x hd, fun _ _ _ _ _ => rfl⟩

theorem State.setCache_engineActs (n : Nat) (x : Cache) : EngineActs e s (s.setCache n x) :=
  .elsewhere rfl rfl rfl rfl rfl rfl rfl

theorem State.fresh_engineActs : EngineActs e s s.fresh := .elsewhere rfl rfl rfl rfl rfl rfl rfl

theorem State.event_engineActs (page code : Nat) (detail : W32) : EngineActs e s (s.event page code detail) := by
  obtain ⟨hist, h⟩ := s.event_eq page code detail
  rw [h]
  exact .elsewhere rfl rfl rfl rfl rfl rfl rfl

theorem State.eventOpen_engineActs (page code : Nat) : EngineActs e s (s.eventOpen page code) := by
  obtain ⟨hist, n, h⟩ := s.eventOpen_eq page code
  rw [h]
  exact .elsewhere rfl rfl rfl rfl rfl rfl rfl

theorem State.advanceFc_engineActs (due : Nat) : EngineActs e s (s.advanceFc due) := by
  obtain ⟨groups, host, h⟩ := s.scanSources_eq
  unfold State.advanceFc
  rw [h]
  exact .ite (.elsewhere rfl rfl rfl rfl rfl rfl rfl) (.elsewhere rfl rfl rfl rfl rfl rfl rfl)

/-- A request that waits for the end of a retrain (R81). -/
theorem State.memWait_engineActs : EngineActs e s s.memWait := by
  unfold State.memWait State.retrainDone
  refine .ite ?_ (.refl e s)
  exact ((s.advanceFc_engineActs _).trans (State.w_memctl_engineActs _ (by decide) _)).trans
    (State.w_memctl_engineActs _ (by decide) _)

/-- A granule counted as read and, at a hungry head, in HUNGRY (R52, R116). -/
def State.granted (s : State) (e : Nat) (d : Need) : State :=
  let t := (s.countMiss e d).setEng e { s.eng e with granules := (s.eng e).granules + 1 }
  if (s.eng e).hungry then t.inc pMEMCTL MEMCTL.HUNGRY else t

theorem State.granule_of_denied {d : Need} {err : Bool} (h : s.inPart 1 (d.line * 64) 64 = false) :
    s.granule e d err = (s.fetchLost e d.line).peDeny e (d.line * 64) := by
  simp [State.granule, h]

theorem State.granule_of_granted {d : Need} {err : Bool} (h : s.inPart 1 (d.line * 64) 64 = true) :
    s.granule e d err =
      if err then ((s.memWait.granted e d).fetchLost e d.line).peFetchError e
      else (s.memWait.granted e d).setCache e (((s.memWait.granted e d).cache e).enter d) := by
  simp only [State.granule, h, Bool.not_true, Bool.false_eq_true, if_false]
  rfl

section
variable (he : e < 64)
include he

/-- STATUS and INT_PEND raised on the engine's page. -/
theorem State.raise_engineActs (bit int : Nat) : EngineActs e s ((s.statusBit (pgPE e) bit).pendInt (pgPE e) int) :=
  (s.w_pe_engineActs he (show 0x00C < 0x900 by decide) 1).trans
    (State.w_pe_engineActs _ he (show 0x014 < 0x900 by decide) 1)

theorem State.peError_engineActs (bit int : Nat) (record : Bool) (code : Nat) (detail : W32) :
    EngineActs e s (s.peError e bit int record code detail) :=
  (s.raise_engineActs he bit int).trans (.ite (State.event_engineActs _ ..) (.refl e _))

theorem State.peOnce_engineActs (bit int key code : Nat) (detail : W32) :
    EngineActs e s (s.peOnce e bit int key code detail) :=
  EngineActs.trans (.ite (s.setEng_engineActs _) (.refl e s)) (State.peError_engineActs _ he ..)

theorem State.overBudget_engineActs (h c : Nat) : EngineActs e s (s.overBudget e h c) :=
  .ite (s.peOnce_engineActs he ..) (.refl e s)

/-! ### Reads -/

theorem State.countMiss_engineActs (d : Need) : EngineActs e s (s.countMiss e d) := by
  unfold State.countMiss
  split
  · exact .ite (.refl e s) (s.w_pe_engineActs he (by decide) _)
  · exact s.w_pe_engineActs he (by decide) _
  · exact .refl e s

theorem State.peFetchError_engineActs : EngineActs e s (s.peFetchError e) :=
  (s.raise_engineActs he 4 1).trans (State.eventOpen_engineActs _ ..)

theorem State.granted_engineActs (d : Need) : EngineActs e s (s.granted e d) :=
  have hcount := (s.countMiss_engineActs he d).trans (State.setEng_engineActs _ _)
  hcount.trans (.ite (State.w_memctl_engineActs _ (by decide) _) (.refl e _))

theorem State.granule_engineActs (d : Need) (err : Bool) : EngineActs e s (s.granule e d err) := by
  cases hpart : s.inPart 1 (d.line * 64) 64 with
  | false =>
    rw [s.granule_of_denied hpart]
    exact (s.setEng_engineActs _).trans (State.peError_engineActs _ he ..)
  | true =>
    rw [s.granule_of_granted hpart]
    refine (s.memWait_engineActs.trans (State.granted_engineActs _ he d)).trans (.ite ?_ (State.setCache_engineActs _ ..))
    exact (State.setEng_engineActs _ _).trans (State.peFetchError_engineActs _ he)

end

end

end Sys2Proof.Machine
end

section
/-! SUPPORT. What an engine latches for a line (04_pastures_tiles_layers R109, R113 step 4, R117; 05_flocks_sprites R125 to
R127). -/

namespace Sys2Proof.Machine

section
variable (s : State) {e : Nat} (he : e < 64)
include he

theorem State.frameCounters_engineActs (h : Nat) : EngineActs e s (s.frameCounters e h) := by
  have hw {f : Fld} (ho : f.off < 0x900) (t : State) (x : Nat) : EngineActs e t (t.w (pgPE e) f x) := t.w_pe_engineActs he ho x
  exact ((((((hw (by decide) s _).trans (hw (by decide) _ _)).trans (hw (by decide) _ _)).trans (hw (by decide) _ _)).trans
    (hw (by decide) _ _)).trans (State.setCache_engineActs _ ..)).trans (State.setEng_engineActs _ _)

theorem State.latchLayers_engineActs (h : Nat) : EngineActs e s (s.latchLayers e h).1 := by
  unfold State.latchLayers
  refine EngineActs.foldl_fst _ (s, []) fun y l => ?_
  dsimp only
  split
  · exact .refl e _
  · exact .trans (.ite (.refl e _) (State.fresh_engineActs _)) (State.peOnce_engineActs _ he ..)

theorem State.evalSprites_engineActs (h c : Nat) : EngineActs e s (s.evalSprites e h c).1 := by
  unfold State.evalSprites
  split
  · exact .refl e s
  · refine EngineActs.foldl_fst _ (s, []) fun y i => ?_
    dsimp only
    split
    · exact .refl e _
    · split
      · split <;> exact .refl e _
      · exact .trans (.ite (.refl e _) (State.fresh_engineActs _)) (State.peOnce_engineActs _ he ..)

/-- What engine `e` has latched for line `c` before its record of the line is set: counters published, bank shown,
layers and sprites evaluated. -/
def State.latchReady (s : State) (e h c : Nat) : State :=
  let s' := if c = 0 then s.frameCounters e h else s
  let t := s'.w (pgPE h) PE.COMP_STAT (b2n (s'.b (pgPE h) PE.COMP_CFG_LUT_BANK))
  let u := (t.latchLayers e h).1
  let r := if c < (s.mode h).vAct then u.evalSprites e h c else (u, [])
  if 256 < r.2.length then r.1.peOnce e 7 4 101 Ev.SPRITE_OVERFLOW (mkDetail [(c, 0), (r.2.length, 16)]) else r.1

theorem State.latchReady_engineActs {h : Nat} (hh : h < 32) (c : Nat) : EngineActs e s (s.latchReady e h c) := by
  unfold State.latchReady
  extract_lets s' t u r
  have hcount : EngineActs e s s' := .ite (s.frameCounters_engineActs he h) (.refl e s)
  have hbank : EngineActs e s t := hcount.trans (s'.w_pe_engineActs (by omega) (by decide) _)
  have hlayers : EngineActs e s u := hbank.trans (t.latchLayers_engineActs he h)
  have hsprites : EngineActs e s r.1 := by
    unfold r
    split
    · exact hlayers.trans (u.evalSprites_engineActs he h c)
    · exact hlayers
  exact hsprites.trans (.ite (r.1.peOnce_engineActs he ..) (.refl e _))

end

variable (s : State) {e h c : Nat} (k : Nat) (compose : Bool)

/-- The record of the line is set last, and a blank line's budget is judged at once (R113, R117). -/
theorem State.latch_eq : ∃ x : Engine, x.composing = (if compose && decide (c < (s.mode h).vAct) then some c else none) ∧
    s.latch e h c k compose =
      if (s.mode h).vAct ≤ c then ((s.latchReady e h c).setEng e x).overBudget e h c else (s.latchReady e h c).setEng e x :=
  ⟨_, rfl, rfl⟩

theorem State.latch_engineActs (he : e < 64) (hh : h < 32) : EngineActs e s (s.latch e h c k compose) := by
  obtain ⟨x, _, heq⟩ := s.latch_eq (e := e) (h := h) (c := c) k compose
  have hset := (s.latchReady_engineActs he hh c).trans (State.setEng_engineActs _ x)
  rw [heq]
  exact .ite (hset.trans (State.overBudget_engineActs _ he h c)) hset

/-- An active line is under composition once it is latched. -/
theorem State.latch_composing (hact : c < (s.mode h).vAct) : ((s.latch e h c k true).eng e).composing = some c := by
  obtain ⟨x, hx, heq⟩ := s.latch_eq (e := e) (h := h) (c := c) k true
  rw [heq, if_neg (by omega), State.eng_setEng_same, hx]
  simp [hact]

end Sys2Proof.Machine
end

section
/-! SUPPORT. What the first steps of a line start leave as they were: pending copies, queues and the line list go into
their registers and tables, and the head's beam registers and line count stay (04_pastures_tiles_layers R113 to R115;
05_flocks_sprites R132; 06_line_lists_and_the_beam R141, R149 to R155; 11_points_brands_commands R296). -/

namespace Sys2Proof.Machine

/-! ### The frame -/

/-- The registers of a head's page that no step of a line start writes once COMPOSE_LINE stands: 0x100 to 0x21B, MODE and
HEAD_STAT among them. -/
def beamReg (off : Nat) : Prop := 0x100 ≤ off ∧ off < 0x21C

/-- From `s` to `t` steps of a line start of head `h` have run: owners, locks, memory and waiting commands, the head's
`beamReg` registers and the line whose start comes next are as they were. -/
structure LineKeeps (h : Nat) (s t : State) : Prop where
  owners : t.owners = s.owners
  locks : t.locks = s.locks
  mem : t.mem = s.mem
  pending : t.pending = s.pending
  startNext : (t.hd h).startNext = (s.hd h).startNext
  reg : ∀ off, beamReg off → t.reg 0 (pgHEAD h) off = s.reg 0 (pgHEAD h) off

section
variable {h : Nat} {s t u : State}

theorem LineKeeps.refl (h : Nat) (s : State) : LineKeeps h s s := ⟨rfl, rfl, rfl, rfl, rfl, fun _ _ => rfl⟩

theorem LineKeeps.trans (k : LineKeeps h s t) (k' : LineKeeps h t u) : LineKeeps h s u where
  owners := k'.owners.trans k.owners
  locks := k'.locks.trans k.locks
  mem := k'.mem.trans k.mem
  pending := k'.pending.trans k.pending
  startNext := k'.startNext.trans k.startNext
  reg off hb := (k'.reg off hb).trans (k.reg off hb)

/-- A change of none of the parts the frame speaks of. -/
theorem LineKeeps.elsewhere (howners : t.owners = s.owners) (hlocks : t.locks = s.locks) (hmem : t.mem = s.mem)
    (hpending : t.pending = s.pending) (hheads : t.heads = s.heads) (hregs : t.regs = s.regs) : LineKeeps h s t where
  owners := howners
  locks := hlocks
  mem := hmem
  pending := hpending
  startNext := by unfold State.hd; rw [hheads]
  reg off _ := by unfold State.reg; rw [hregs]

theorem LineKeeps.foldl {α : Type} {f : State → α → State} {l : List α} (hf : ∀ a ∈ l, ∀ t, LineKeeps h t (f t a))
    (s : State) : LineKeeps h s (l.foldl f s) := by
  induction l generalizing s with
  | nil => exact .refl h s
  | cons a l ih => exact (hf a (by simp) s).trans (ih (fun b hb => hf b (by simp [hb])) (f s a))

theorem LineKeeps.ite {c : Prop} [Decidable c] (ht : LineKeeps h s t) (hu : LineKeeps h s u) :
    LineKeeps h s (if c then t else u) := by
  split
  · exact ht
  · exact hu

theorem EngineActs.lineKeeps {e : Nat} (a : EngineActs e s t) (hh : h < 32) : LineKeeps h s t where
  owners := a.owners
  locks := a.locks
  mem := a.mem
  pending := a.pending
  startNext := by rw [a.hd_eq]
  reg off hb := a.reg _ off (by unfold pgHEAD; omega) (by unfold beamReg at hb; omega) (not_engineReg_pgHEAD hh off)

theorem LineKeeps.r_eq (k : LineKeeps h s t) {f : Fld} (hf : beamReg f.off) : t.r (pgHEAD h) f = s.r (pgHEAD h) f := by
  unfold State.r
  rw [k.reg f.off hf]

end

/-! ### What a list entry may name (R150, R151) -/

theorem reg32Target_lt {off : Nat} (ht : reg32Target off = true) : off < 4096 := by
  simp only [reg32Target, Bool.and_eq_true, decide_eq_true_eq] at ht
  omega

theorem reg64Target_lt {off : Nat} (ht : reg64Target off = true) : off < 4096 := by
  simp only [reg64Target, Bool.or_eq_true, Bool.and_eq_true, beq_iff_eq, decide_eq_true_eq] at ht
  omega

/-- The word of a clean BLINK entry names one of seven classes (R150). -/
theorem LLEntry.class_lt {e : LLEntry} (hclean : e.clean = true) (hop : e.op = 0x05) : e.w1.toNat < 8 := by
  simp only [LLEntry.clean, hop, Bool.and_eq_true, decide_eq_true_eq] at hclean
  omega

/-! ### Registers and tables -/

section
variable {h : Nat} (s : State)

theorem State.setHd_lineKeeps {x : HeadSt} (hx : x.startNext = (s.hd h).startNext) : LineKeeps h s (s.setHd h x) :=
  ⟨rfl, rfl, rfl, rfl, by rw [State.hd_setHd_same, hx], fun _ _ => rfl⟩

theorem State.setEng_lineKeeps (n : Nat) (x : Engine) : LineKeeps h s (s.setEng n x) := .elsewhere rfl rfl rfl rfl rfl rfl

theorem State.event_lineKeeps (page code : Nat) (detail : W32) : LineKeeps h s (s.event page code detail) := by
  obtain ⟨hist, heq⟩ := s.event_eq page code detail
  rw [heq]
  exact .elsewhere rfl rfl rfl rfl rfl rfl

theorem State.setPalette_lineKeeps (n i : Nat) (v : W64) : LineKeeps h s (s.setPalette n i v) :=
  .elsewhere rfl rfl rfl rfl rfl rfl

theorem State.setFlock_lineKeeps (n i : Nat) (data mask : W32) : LineKeeps h s (s.setFlock n i data mask) :=
  .elsewhere rfl rfl rfl rfl rfl rfl

theorem State.drainFlk_lineKeeps (n c : Nat) : LineKeeps h s (s.drainFlk n c) :=
  .ite (.refl h s) (.trans (.foldl (fun _ _ t => t.setFlock_lineKeeps ..) s) (State.setEng_lineKeeps _ ..))

variable (hh : h < 32)
include hh

theorem State.setReg_lineKeeps {page off : Nat} (v : W64) (hp : page < 4096) (ho : off < 4096)
    (hne : page ≠ pgHEAD h ∨ ¬ beamReg off) : LineKeeps h s (s.setReg 0 page off v) where
  owners := rfl
  locks := rfl
  mem := rfl
  pending := rfl
  startNext := rfl
  reg o hb := State.reg_setReg_ne s v fun hk => by
    obtain ⟨_, hpage, rfl⟩ := regKey_inj (by unfold pgHEAD; omega) (by unfold beamReg at hb; omega) hp ho hk
    exact hne.elim (· hpage.symm) (· hb)

theorem State.setReg_pe_lineKeeps {off : Nat} (v : W64) (ho : off < 4096) : LineKeeps h s (s.setReg 0 (pgPE h) off v) :=
  s.setReg_lineKeeps hh v (by unfold pgPE; omega) ho (.inl (by unfold pgPE pgHEAD; omega))

/-- A register of the head's page outside its beam registers. -/
theorem State.w_head_lineKeeps {f : Fld} (ho : f.off < 4096) (hf : ¬ beamReg f.off) (x : Nat) :
    LineKeeps h s (s.w (pgHEAD h) f x) := s.setReg_lineKeeps hh _ (by unfold pgHEAD; omega) ho (.inr hf)

theorem State.w_pe_lineKeeps {f : Fld} (ho : f.off < 4096) (x : Nat) : LineKeeps h s (s.w (pgPE h) f x) :=
  s.setReg_pe_lineKeeps hh _ ho

theorem State.w_brands_lineKeeps {f : Fld} (ho : f.off < 4096) (x : Nat) : LineKeeps h s (s.w pBRANDS f x) :=
  s.setReg_lineKeeps hh _ (by decide) ho (.inl (by unfold pgHEAD pBRANDS; omega))

/-! ### Pending copies and queues (R113 steps 1 and 2, R296) -/

theorem State.transfer_lineKeeps {page : Nat} {p : Nat → Bool} (hp : page < 4096)
    (hne : page ≠ pgHEAD h ∨ ∀ off, p off = true → ¬ beamReg off) : LineKeeps h s (s.transfer page p) := by
  unfold State.transfer
  extract_lets mine s'
  have hcopies : LineKeeps h s s' := by
    refine LineKeeps.foldl (fun q hq t => ?_) s
    have hpick : p (q.1 % 0x1000) = true := (Bool.and_eq_true_iff.1 (List.mem_filter.1 hq).2).2
    exact t.setReg_lineKeeps hh q.2 hp (Nat.mod_lt _ (by decide)) (hne.imp id (· _ hpick))
  exact hcopies.trans (.elsewhere rfl rfl rfl rfl rfl rfl)

theorem State.palEnter_lineKeeps (entry : W64) : LineKeeps h s (s.palEnter h entry) :=
  (s.setEng_lineKeeps h _).trans (.ite (State.w_pe_lineKeeps _ hh (by decide) _) (.refl h _))

theorem State.drainPal_lineKeeps : LineKeeps h s (s.drainPal h) := by
  have hqueue : LineKeeps h s ((s.eng h).palQ.foldl (fun t q => t.setPalette h q.1 q.2) s) :=
    .foldl (fun _ _ t => t.setPalette_lineKeeps ..) s
  exact (hqueue.trans (State.setEng_lineKeeps _ ..)).trans (.foldl (fun v _ t => t.palEnter_lineKeeps hh v) _)

theorem State.enterGroups_lineKeeps (n : Nat) (l : List BrandGroup) (blocked : Bool) :
    LineKeeps h s (s.enterGroups n l blocked).1 := by
  induction l generalizing s blocked with
  | nil => exact .refl h s
  | cons g l ih =>
    unfold State.enterGroups
    split
    · exact ih s blocked
    · split
      · exact ih s true
      · split
        · exact (s.w_brands_lineKeeps hh (by decide) _).trans (ih _ false)
        · split
          · exact ((s.setEng_lineKeeps n _).trans (State.w_brands_lineKeeps _ hh (by decide) _)).trans (ih _ false)
          · exact ih s true

theorem State.brandEnter_lineKeeps (n : Nat) : LineKeeps h s (s.brandEnter n) :=
  .ite (.refl h s) ((s.enterGroups_lineKeeps hh n _ false).trans (.elsewhere rfl rfl rfl rfl rfl rfl))

/-! ### The line list (R149 to R155) -/

theorem State.statusBit_head_lineKeeps (i : Nat) : LineKeeps h s (s.statusBit (pgHEAD h) i) :=
  s.w_head_lineKeeps hh (show 0x00C < 4096 by decide) (show ¬ beamReg 0x00C by unfold beamReg; decide) 1

theorem State.pendInt_head_lineKeeps (i : Nat) : LineKeeps h s (s.pendInt (pgHEAD h) i) :=
  s.w_head_lineKeeps hh (show 0x014 < 4096 by decide) (show ¬ beamReg 0x014 by unfold beamReg; decide) 1

theorem State.llStop_lineKeeps (x : Nat) : LineKeeps h s (s.w (pgHEAD h) HEAD.LL_STAT_STOPPED x) :=
  s.w_head_lineKeeps hh (by decide) (by unfold beamReg; decide) x

theorem State.llError_lineKeeps (e : LLEntry) (reason : Nat) (stop : Bool) : LineKeeps h s (s.llError h e reason stop) := by
  have hraise := (s.statusBit_head_lineKeeps hh 3).trans (State.pendInt_head_lineKeeps _ hh 16)
  refine (hraise.trans (.ite (.refl h _) ?_)).trans (.ite (State.llStop_lineKeeps _ hh 1) (.refl h _))
  refine .trans (State.setHd_lineKeeps _ ?_) (State.event_lineKeeps _ ..)
  exact hraise.startNext.symm

theorem State.llReg_lineKeeps (e : LLEntry) {off : Nat} (v : Nat) (ho : off < 4096) : LineKeeps h s (s.llReg h e off v) :=
  .ite (s.llError_lineKeeps hh e 4 false) (s.setReg_pe_lineKeeps hh _ ho)

theorem State.llScan_lineKeeps (e : LLEntry) : LineKeeps h s (s.llScan h e) :=
  .ite (s.llError_lineKeeps hh e 7 false) (s.setHd_lineKeeps rfl)

theorem State.llOne_lineKeeps (e : LLEntry) : LineKeeps h s (s.llOne h e) := by
  have herr (reason : Nat) : LineKeeps h s (s.llError h e reason false) := s.llError_lineKeeps hh e reason false
  unfold State.llOne
  extract_lets w1
  split
  · exact herr 2
  · next hclean =>
    split
    · split
      · exact herr 3
      · next ht => exact s.llReg_lineKeeps hh e _ (reg32Target_lt (by simpa using ht))
    · split
      · exact herr 3
      · next ht => exact s.llReg_lineKeeps hh e _ (reg64Target_lt (by simpa using ht))
    · exact s.setPalette_lineKeeps ..
    · exact s.setFlock_lineKeeps ..
    · next hop =>
      have hclass := LLEntry.class_lt (by simpa using hclean) hop
      refine .ite (herr 3) (s.w_head_lineKeeps hh ?_ ?_ _)
      · show 0x240 + 4 * (e.w1.toNat - 1) < 4096
        omega
      · show ¬ beamReg (0x240 + 4 * (e.w1.toNat - 1))
        unfold beamReg
        omega
    · exact (s.pendInt_head_lineKeeps hh _).trans (State.w_head_lineKeeps _ hh (by decide) (by unfold beamReg; decide) _)
    · exact s.llScan_lineKeeps hh e
    · exact .ite (herr 3) (s.llScan_lineKeeps hh e)
    · exact .refl h s

theorem State.llTake_lineKeeps (c k : Nat) (l : List LLEntry) : LineKeeps h s (s.llTake h c k l).1 := by
  induction l generalizing s k with
  | nil => exact LineKeeps.trans (.ite (s.llStop_lineKeeps hh 1) (.refl h s)) (State.setHd_lineKeeps _ rfl)
  | cons e l ih =>
    unfold State.llTake
    split
    · exact s.setHd_lineKeeps rfl
    · split
      · exact (s.llError_lineKeeps hh e 6 true).trans (ih _ k)
      · split
        · exact LineKeeps.trans (.ite (s.llError_lineKeeps hh e 5 true) (s.llError_lineKeeps hh e 2 false)) (ih _ k)
        · split
          · exact (s.llError_lineKeeps hh e 1 true).trans (ih _ k)
          · split
            · exact s.setHd_lineKeeps rfl
            · have hlast : LineKeeps h s (s.setHd h { s.hd h with llLast := e.line }) := s.setHd_lineKeeps rfl
              dsimp only
              split
              · exact hlast.trans (ih _ k)
              · exact (hlast.trans (State.llOne_lineKeeps _ hh e)).trans (ih _ (k + 1))

theorem State.llSwitch_lineKeeps : LineKeeps h s (s.llSwitch h) := by
  have hw {f : Fld} (ho : f.off < 4096) (hf : ¬ beamReg f.off) (t : State) (x : Nat) : LineKeeps h t (t.w (pgHEAD h) f x) :=
    t.w_head_lineKeeps hh ho hf x
  unfold State.llSwitch
  extract_lets x s1 s2 s3 s4 en
  have hstat : LineKeeps h s s2 := (hw (by decide) (by unfold beamReg; decide) s _).trans (s1.llStop_lineKeeps hh 0)
  have hlook : LineKeeps h s s4 := (hstat.trans (hw (by decide) (by unfold beamReg; decide) s2 _)).trans
    (hw (by decide) (by unfold beamReg; decide) s3 _)
  exact hlook.trans (s4.setHd_lineKeeps hlook.startNext.symm)

end

end Sys2Proof.Machine
end

section
/-! SUPPORT. A line start: the head moves on, the line is fed, the engines latch it (04_pastures_tiles_layers R113;
06_line_lists_and_the_beam R141, R142, R155; 08_heads_video_ports_relief R215). -/

namespace Sys2Proof.Machine

/-! ### The steps -/

section
variable (s : State) (h c : Nat)

/-- The line counts as started: COMPOSE_LINE shows it, and the next start is that of the line after (R141, R142). -/
def State.lineOpened (s : State) (h c : Nat) : State :=
  let m := s.mode h
  let x := s.hd h
  let look := min 7 ((c + m.vTot - s.beam h) % m.vTot)
  (s.setHd h { x with startNext := (c + 1) % m.vTot, minLook := min x.minLook look, llWaiting := false }).w (pgHEAD h)
    HEAD.COMPOSE_LINE c

/-- Steps 1 to 3 of R113 in a mode of `v` lines: pending copies, queues and the line list; with the number of entries keyed
to the line. -/
def State.lineFed (s : State) (h c v : Nat) : State × Nat :=
  let s := if c + 1 = v then s.transfer (pgHEAD h) (fun o => o == 0x220 || o == 0x228) else s
  let held := s.r (pgPE h) PE.LAYER_HOLD
  let s := s.transfer (pgPE h) (fun o => match peLayer o with | some l => !nbit held l | none => true)
  let s := ((s.drainPal h).drainFlk h c).brandEnter h
  let x := s.hd h
  let r := (s.setHd h { x with llDue := [] }).llTake h c 0 (x.llDue ++ x.llBuf)
  (if c + 1 = v then r.1.llSwitch h else r.1, r.2)

/-- Step 4 of R113: the serving engine latches the line, then the engine that builds it beside that one (R215). -/
def State.lineLatched (s : State) (h c k : Nat) (compose : Bool) : Option Nat → State
  | some e => (s.latch (s.servedBy h) h c k compose).latch e h c k compose
  | none => s.latch (s.servedBy h) h c k compose

theorem State.lineStartRun_eq (compose : Bool) :
    s.lineStartRun h c compose =
      let r := (s.lineOpened h c).lineFed h c (s.mode h).vTot
      r.1.lineLatched h c r.2 compose (r.1.shadowOf h c) := by
  unfold State.lineStartRun State.lineLatched
  extract_lets
  rfl

variable {s : State} {e h c : Nat}

/-- MODE names ten modes: what holds of them holds of every mode (R194). -/
theorem modeOf_forall {p : Mode → Prop} (hp : ∀ k < 10, p (modeOf k)) (m : Nat) : p (modeOf m) := by
  by_cases hm : m < 10
  · exact hp m hm
  · have hlast : modeOf m = modeOf 0 := by
      unfold modeOf
      iterate 9 rw [if_neg (by omega)]
      rfl
    exact hlast ▸ hp 0 (by decide)

theorem modeOf_vTot_lt (m : Nat) : (modeOf m).vTot < 4096 :=
  modeOf_forall (p := fun x => x.vTot < 4096) (by decide) m

theorem State.composeLine_lineOpened (hc : c < (s.mode h).vTot) : (s.lineOpened h c).r (pgHEAD h) HEAD.COMPOSE_LINE = c := by
  have hlt : c < 4096 := Nat.lt_trans hc (modeOf_vTot_lt _)
  rw [State.lineOpened, State.r_w_same _ _ HEAD.COMPOSE_LINE c (by decide)]
  exact Nat.mod_eq_of_lt hlt

theorem State.startNext_lineOpened : ((s.lineOpened h c).hd h).startNext = (c + 1) % (s.mode h).vTot := by
  rw [State.lineOpened, State.hd_w, State.hd_setHd_same]

theorem State.lineOpened_frame : (s.lineOpened h c).owners = s.owners ∧ (s.lineOpened h c).locks = s.locks ∧
    (s.lineOpened h c).mem = s.mem ∧ (s.lineOpened h c).pending = s.pending := by
  simp [State.lineOpened]

/-- Opening a line writes COMPOSE_LINE alone of the head's registers. -/
theorem State.r_lineOpened {f : Fld} (ho : f.off ≠ 0x214) (hf : beamReg f.off) (hh : h < 32) :
    (s.lineOpened h c).r (pgHEAD h) f = s.r (pgHEAD h) f :=
  State.r_w_ne _ c fun hk => ho (regKey_inj (by unfold pgHEAD; omega) (by unfold beamReg at hf; omega)
    (by unfold pgHEAD; omega) (by decide) hk).2.2

theorem State.lineFed_lineKeeps (hh : h < 32) (v : Nat) : LineKeeps h s (s.lineFed h c v).1 := by
  unfold State.lineFed
  extract_lets s1 held s2 s3 x r
  have hlist : LineKeeps h s s1 := by
    refine .ite (s.transfer_lineKeeps hh (by unfold pgHEAD; omega) (.inr fun off hoff => ?_)) (.refl h s)
    unfold beamReg
    simp at hoff
    omega
  have hpe : LineKeeps h s s2 := hlist.trans
    (s1.transfer_lineKeeps hh (by unfold pgPE; omega) (.inl (by unfold pgPE pgHEAD; omega)))
  have hqueues : LineKeeps h s s3 := ((hpe.trans (s2.drainPal_lineKeeps hh)).trans (State.drainFlk_lineKeeps _ h c)).trans
    (State.brandEnter_lineKeeps _ hh h)
  have hdue : LineKeeps h s3 (s3.setHd h { x with llDue := [] }) := s3.setHd_lineKeeps rfl
  have htaken : LineKeeps h s r.1 := (hqueues.trans hdue).trans (State.llTake_lineKeeps _ hh c 0 _)
  exact htaken.trans (.ite (r.1.llSwitch_lineKeeps hh) (.refl h r.1))

/-- The engine beside the serving one is PE32 or the head's own (R215). -/
theorem State.shadowOf_lt (hh : h < 32) (hs : s.shadowOf h c = some e) : e < 64 := by
  unfold State.shadowOf at hs
  split_ifs at hs <;> simp at hs <;> omega

theorem State.servedBy_lt : s.servedBy h < 64 := wfld_lt ..

theorem State.mode_lineKeeps {t : State} (k : LineKeeps h s t) : t.mode h = s.mode h := by
  unfold State.mode
  rw [k.r_eq (by unfold beamReg; decide)]

theorem State.servedBy_lineKeeps {t : State} (k : LineKeeps h s t) : t.servedBy h = s.servedBy h :=
  k.r_eq (by unfold beamReg; decide)

section
variable (hh : h < 32) (k : Nat) {beside : Option Nat} (hb : ∀ d, beside = some d → d < 64)
include hh hb

theorem State.lineLatched_lineKeeps (compose : Bool) : LineKeeps h s (s.lineLatched h c k compose beside) := by
  have hserve : LineKeeps h s (s.latch (s.servedBy h) h c k compose) :=
    (s.latch_engineActs k compose State.servedBy_lt hh).lineKeeps hh
  cases beside with
  | none => exact hserve
  | some d => exact hserve.trans ((State.latch_engineActs _ k compose (hb d rfl) hh).lineKeeps hh)

/-- The serving engine composes an active line, whatever engine builds it beside. -/
theorem State.lineLatched_composing (hact : c < (s.mode h).vAct) :
    ((s.lineLatched h c k true beside).eng (s.servedBy h)).composing = some c := by
  have hserve := s.latch_composing (e := s.servedBy h) k hact
  cases beside with
  | none => exact hserve
  | some d =>
    have hmode := State.mode_lineKeeps
      ((s.latch_engineActs (c := c) k true State.servedBy_lt hh).lineKeeps (e := s.servedBy h) hh)
    by_cases hd : s.servedBy h = d
    · subst hd
      exact State.latch_composing _ k (by rw [hmode]; exact hact)
    · have hothers := (State.latch_engineActs (s.latch (s.servedBy h) h c k true) (c := c) k true (hb d rfl) hh).others _ hd
      exact (congrArg Engine.composing hothers).trans hserve

end

/-! ### The start of a line -/

/-- What a started line leaves: COMPOSE_LINE and the next start, the composition of an active line in the serving engine,
and owners, locks, memory and waiting commands as they were (R113, R141). -/
theorem State.lineStartRun_started (hh : h < 32) (hc : c < (s.mode h).vTot) :
    (s.lineStartRun h c true).r (pgHEAD h) HEAD.COMPOSE_LINE = c ∧
    ((s.lineStartRun h c true).hd h).startNext = (c + 1) % (s.mode h).vTot ∧
    (c < (s.mode h).vAct → ((s.lineStartRun h c true).eng (s.servedBy h)).composing = some c) ∧
    (s.lineStartRun h c true).owners = s.owners ∧ (s.lineStartRun h c true).locks = s.locks ∧
    (s.lineStartRun h c true).mem = s.mem ∧ (s.lineStartRun h c true).pending = s.pending := by
  rw [State.lineStartRun_eq]
  extract_lets r
  have hfed : LineKeeps h (s.lineOpened h c) r.1 := State.lineFed_lineKeeps hh _
  have hbeside (d : Nat) (hd : r.1.shadowOf h c = some d) : d < 64 := State.shadowOf_lt hh hd
  have hall := hfed.trans (State.lineLatched_lineKeeps (c := c) hh r.2 hbeside true)
  obtain ⟨howners, hlocks, hmem, hpending⟩ := State.lineOpened_frame (s := s) (h := h) (c := c)
  refine ⟨?shown, ?next, fun hact => ?composing, ?_, ?_, ?_, ?_⟩
  case shown => rw [hall.r_eq (by unfold beamReg; decide), State.composeLine_lineOpened hc]
  case next => rw [hall.startNext, State.startNext_lineOpened]
  case composing =>
    have hmode : r.1.mode h = s.mode h := by
      rw [State.mode_lineKeeps hfed, State.mode, State.r_lineOpened (by decide) (by unfold beamReg; decide) hh, State.mode]
    have hserve : r.1.servedBy h = s.servedBy h := by
      rw [State.servedBy_lineKeeps hfed]
      exact State.r_lineOpened (by decide) (by unfold beamReg; decide) hh
    rw [← hserve]
    exact State.lineLatched_composing hh r.2 hbeside (by rwa [hmode])
  exacts [hall.owners.trans howners, hall.locks.trans hlocks, hall.mem.trans hmem, hall.pending.trans hpending]

/-- The head an engine serves names it as its server (R211). -/
theorem State.servedBy_of_headOf (he : e < 33) (hhead : s.headOf e = some h) : s.servedBy h = e ∧ h < 32 := by
  unfold State.headOf at hhead
  split_ifs at hhead with hlt hserve hserve <;> cases hhead
  · exact ⟨hserve, hlt⟩
  · exact ⟨by omega, s.relHead_lt⟩

theorem State.lineStart_of_ready (hhead : s.headOf e = some h) (hdue : s.startDue h = true)
    (hready : s.llReady h (s.hd h).startNext = true) : s.lineStart e = s.lineStartRun h (s.hd h).startNext true := by
  simp [State.lineStart, hhead, hdue, hready]

theorem State.lineStart_of_wait (hhead : s.headOf e = some h) (hdue : s.startDue h = true)
    (hready : s.llReady h (s.hd h).startNext = false) (hwait : (s.hd h).llWaiting = false) :
    s.lineStart e = (s.setHd h { s.hd h with llWaiting := true, llWaits := (s.hd h).llWaits + 1 }).statusBit (pgHEAD h) 4 := by
  simp [State.lineStart, hhead, hdue, hready, hwait]

end

end Sys2Proof.Machine
end

section
/-! SUPPORT. Reads of an engine, the completion of a line, and the read of one list entry (04_pastures_tiles_layers R110,
R116, R117; 06_line_lists_and_the_beam R155; 08_heads_video_ports_relief R214). -/

namespace Sys2Proof.Machine

/-! ### Events of an engine -/

section
variable (s : State) (e bit int : Nat)

theorem State.regs_event (page code : Nat) (detail : W32) : (s.event page code detail).regs = s.regs := by
  obtain ⟨hist, heq⟩ := s.event_eq page code detail
  rw [heq]

theorem State.eng_event (page code : Nat) (detail : W32) (n : Nat) : (s.event page code detail).eng n = s.eng n := by
  obtain ⟨hist, heq⟩ := s.event_eq page code detail
  rw [heq]
  rfl

theorem State.regs_eventOpen (page code : Nat) : (s.eventOpen page code).regs = s.regs := by
  obtain ⟨hist, n, heq⟩ := s.eventOpen_eq page code
  rw [heq]

theorem State.eng_eventOpen (page code m : Nat) : (s.eventOpen page code).eng m = s.eng m := by
  obtain ⟨hist, n, heq⟩ := s.eventOpen_eq page code
  rw [heq]
  rfl

theorem State.caches_eventOpen (page code : Nat) : (s.eventOpen page code).caches = s.caches := by
  obtain ⟨hist, n, heq⟩ := s.eventOpen_eq page code
  rw [heq]

/-- What raises STATUS and INT_PEND of a page sets both bits. -/
theorem State.raised {bit int : Nat} (hbit : bit < 64) (hint : int < 64) (page : Nat) :
    ((s.statusBit page bit).pendInt page int).r page (STATUS_BIT bit) = 1 ∧
    ((s.statusBit page bit).pendInt page int).r page (INT_PEND_BIT int) = 1 := by
  constructor
  · have hkey : regKey 0 page (STATUS_BIT bit).off ≠ regKey 0 page (INT_PEND_BIT int).off := by
      simp [regKey, STATUS_BIT, INT_PEND_BIT]
    rw [State.pendInt, State.r_w_ne _ 1 hkey, State.statusBit, State.r_w_same _ _ _ _ (show bit + 1 ≤ 64 by omega)]
    rfl
  · rw [State.pendInt, State.r_w_same _ _ _ _ (show int + 1 ≤ 64 by omega)]
    rfl

theorem State.regs_peError (record : Bool) (code : Nat) (detail : W32) :
    (s.peError e bit int record code detail).regs = ((s.statusBit (pgPE e) bit).pendInt (pgPE e) int).regs := by
  unfold State.peError
  split
  · exact State.regs_event ..
  · rfl

theorem State.eng_peError (record : Bool) (code : Nat) (detail : W32) (n : Nat) :
    (s.peError e bit int record code detail).eng n = s.eng n := by
  unfold State.peError
  split
  · exact State.eng_event ..
  · rfl

theorem State.peError_raised {bit int : Nat} (hbit : bit < 64) (hint : int < 64) (record : Bool) (code : Nat) (detail : W32) :
    (s.peError e bit int record code detail).r (pgPE e) (STATUS_BIT bit) = 1 ∧
    (s.peError e bit int record code detail).r (pgPE e) (INT_PEND_BIT int) = 1 := by
  have hregs := s.regs_peError e bit int record code detail
  rw [State.r_congr hregs, State.r_congr hregs]
  exact s.raised hbit hint (pgPE e)

theorem State.eng_peOnce (key code : Nat) (detail : W32) :
    ∃ l, (s.peOnce e bit int key code detail).eng e = { s.eng e with once := l } := by
  unfold State.peOnce
  extract_lets x first s'
  rw [State.eng_peError]
  cases hfirst : first with
  | false => exact ⟨(s.eng e).once, by simp [s', hfirst, x]⟩
  | true => exact ⟨key :: x.once, by simp [s', hfirst, x]⟩

theorem State.peOnce_raised {bit int : Nat} (hbit : bit < 64) (hint : int < 64) (key code : Nat) (detail : W32) :
    (s.peOnce e bit int key code detail).r (pgPE e) (STATUS_BIT bit) = 1 ∧
    (s.peOnce e bit int key code detail).r (pgPE e) (INT_PEND_BIT int) = 1 :=
  State.peError_raised _ e hbit hint ..

theorem State.overBudget_of_within {h : Nat} (hcost : (s.eng e).cost ≤ 4 * (s.mode h).lineCc) (c : Nat) :
    s.overBudget e h c = s := if_neg (Nat.not_lt.2 hcost)

theorem State.overBudget_raised {h : Nat} (hcost : 4 * (s.mode h).lineCc < (s.eng e).cost) (c : Nat) :
    (s.overBudget e h c).r (pgPE e) (STATUS_BIT 6) = 1 ∧ (s.overBudget e h c).r (pgPE e) (INT_PEND_BIT 3) = 1 := by
  rw [State.overBudget, if_pos hcost]
  exact s.peOnce_raised e (by decide) (by decide) ..

theorem State.eng_overBudget (h c : Nat) : ∃ l, (s.overBudget e h c).eng e = { s.eng e with once := l } := by
  unfold State.overBudget
  dsimp only
  split
  · exact s.eng_peOnce ..
  · exact ⟨(s.eng e).once, rfl⟩

end

/-! ### Completion of a line (R116, R117, R214) -/

section
variable (s : State) (e c : Nat)

/-- What line `c` still has to read has come. -/
def State.lineRead (s : State) (e c : Nat) : State := (s.missing e c).foldl (fun t d => t.granule e d false) s

/-- The composed line is in the line store and in the compare signature. -/
def State.lineStored (s : State) (e c : Nat) : State :=
  let h := s.stateOf e
  let m := s.mode h
  let x := s.eng e
  let pix := s.composeLine h x m c
  let b : LineBuf := { line := c, frame := s.composeFrame h c, pix := pix }
  let sig := if x.sigCount = c then
      BitVec.ofNat 32 (crc32cRun x.sigRun.toNat (pix.flatMap (fun p => leBytes 4 p.toNat))) else x.sigRun
  (s.setCache e ((s.cache e).used (s.lineNeeds x m (s.lineCtx h x c)))).setEng e
    { x with composing := none, startMem := [], bad := [], lines := (b :: x.lines).take (storeLines m)
             sigRun := sig, sigCount := if x.sigCount = c then c + 1 else x.sigCount }

variable {s e c}

theorem State.lineComplete_eq (hc : (s.eng e).composing = some c) :
    s.lineComplete e = (((s.lineRead e c).lineStored e c).overBudget e ((s.lineRead e c).stateOf e) c).fresh := by
  unfold State.lineComplete
  rw [hc]
  rfl

theorem State.lineRead_of_complete (hmissing : s.missing e c = []) : s.lineRead e c = s := by
  rw [State.lineRead, hmissing, List.foldl_nil]

theorem State.eng_lineStored : ((s.lineStored e c).eng e).composing = none ∧
    ((s.lineStored e c).eng e).cost = (s.eng e).cost ∧
    ((s.lineStored e c).eng e).lines =
      (({ line := c, frame := s.composeFrame (s.stateOf e) c,
          pix := s.composeLine (s.stateOf e) (s.eng e) (s.mode (s.stateOf e)) c } : LineBuf) :: (s.eng e).lines).take
        (storeLines (s.mode (s.stateOf e))) := by
  have heng := State.eng_setEng_same (s.setCache e ((s.cache e).used
    (s.lineNeeds (s.eng e) (s.mode (s.stateOf e)) (s.lineCtx (s.stateOf e) (s.eng e) c)))) e
  unfold State.lineStored
  extract_lets
  rw [heng]
  exact ⟨rfl, rfl, rfl⟩

theorem State.lineStored_engineActs : EngineActs e s (s.lineStored e c) :=
  (s.setCache_engineActs e _).trans (State.setEng_engineActs _ _)

theorem modeOf_storeLines_pos (m : Nat) : 0 < storeLines (modeOf m) :=
  modeOf_forall (p := fun x => 0 < storeLines x) (by decide) m

section
variable (he : e < 64)
include he

theorem State.lineRead_engineActs : EngineActs e s (s.lineRead e c) :=
  EngineActs.foldl _ s fun t d => t.granule_engineActs he d false

theorem State.lineComplete_engineActs (hc : (s.eng e).composing = some c) : EngineActs e s (s.lineComplete e) := by
  rw [State.lineComplete_eq hc]
  have hstored := (State.lineRead_engineActs (s := s) (c := c) he).trans (State.lineStored_engineActs (c := c))
  exact (hstored.trans (State.overBudget_engineActs _ he _ c)).trans (State.fresh_engineActs _)

theorem State.stateOf_lineRead : (s.lineRead e c).stateOf e = s.stateOf e := (State.lineRead_engineActs he).stateOf_eq e

theorem State.mode_lineRead {n : Nat} (hn : n < 32) : (s.lineRead e c).mode n = s.mode n :=
  (State.lineRead_engineActs he).mode_eq hn

end

/-- What a completed line leaves of its engine (R94, R214). -/
theorem State.eng_lineComplete (hc : (s.eng e).composing = some c) :
    ((s.lineComplete e).eng e).composing = none ∧
    ((s.lineComplete e).eng e).lines = (((s.lineRead e c).lineStored e c).eng e).lines := by
  obtain ⟨l, hbudget⟩ := State.eng_overBudget ((s.lineRead e c).lineStored e c) e ((s.lineRead e c).stateOf e) c
  obtain ⟨hnone, _⟩ := State.eng_lineStored (s := s.lineRead e c) (e := e) (c := c)
  rw [State.lineComplete_eq hc, State.eng_fresh, hbudget]
  dsimp only
  exact ⟨hnone, rfl⟩

/-- The line is the newest of the store, which keeps to its size (R94). -/
theorem State.lineComplete_done (he : e < 64) (hc : (s.eng e).composing = some c) :
    ((s.lineComplete e).eng e).composing = none ∧ ((s.lineComplete e).eng e).lines.head?.map (·.line) = some c ∧
    ((s.lineComplete e).eng e).lines.length ≤ storeLines (s.mode (s.stateOf e)) := by
  obtain ⟨hnone, hlines⟩ := State.eng_lineComplete hc
  obtain ⟨_, _, hstored⟩ := State.eng_lineStored (s := s.lineRead e c) (e := e) (c := c)
  rw [State.stateOf_lineRead he, State.mode_lineRead he (s.stateOf_lt e)] at hstored
  have hroom : storeLines (s.mode (s.stateOf e)) ≠ 0 := (modeOf_storeLines_pos _).ne'
  rw [hlines, hstored]
  refine ⟨hnone, ?_, List.length_take_le ..⟩
  rw [List.head?_take, if_neg hroom]
  rfl

theorem State.regs_lineStored : (s.lineStored e c).regs = s.regs := by
  unfold State.lineStored
  extract_lets
  rw [State.setEng_regs, State.setCache]

theorem State.hist_lineStored : (s.lineStored e c).hist = s.hist := by
  unfold State.lineStored
  extract_lets
  rw [State.setEng_hist, State.setCache]

theorem State.mode_lineStored (n : Nat) : (s.lineStored e c).mode n = s.mode n := by
  rw [State.mode, State.r_congr State.regs_lineStored, State.mode]

/-- A complete line within its budget is stored and nothing else (R117). -/
theorem State.lineComplete_of_within (hc : (s.eng e).composing = some c) (hmissing : s.missing e c = [])
    (hcost : (s.eng e).cost ≤ 4 * (s.mode (s.stateOf e)).lineCc) : s.lineComplete e = (s.lineStored e c).fresh := by
  obtain ⟨_, hstored, _⟩ := State.eng_lineStored (s := s) (e := e) (c := c)
  rw [State.lineComplete_eq hc, State.lineRead_of_complete hmissing, State.overBudget_of_within]
  rwa [hstored, State.mode_lineStored]

/-- A complete line beyond its budget is reported (R117). -/
theorem State.lineComplete_of_over (hc : (s.eng e).composing = some c) (hmissing : s.missing e c = [])
    (hcost : 4 * (s.mode (s.stateOf e)).lineCc < (s.eng e).cost) :
    (s.lineComplete e).r (pgPE e) (STATUS_BIT 6) = 1 ∧ (s.lineComplete e).r (pgPE e) (INT_PEND_BIT 3) = 1 := by
  obtain ⟨_, hstored, _⟩ := State.eng_lineStored (s := s) (e := e) (c := c)
  rw [State.lineComplete_eq hc, State.lineRead_of_complete hmissing]
  have hover : 4 * ((s.lineStored e c).mode (s.stateOf e)).lineCc < ((s.lineStored e c).eng e).cost := by
    rwa [hstored, State.mode_lineStored]
  exact State.overBudget_raised _ e hover c

end

/-! ### Reads (R110, R116) -/

section
variable {s : State} {e : Nat}

theorem State.memWait_of_idle (h : s.r pMEMCTL MEMCTL.TRAIN_STAT_RUNNING = 0) : s.memWait = s := by
  simp [State.memWait, State.retrainDone, s.b_of_r_eq_zero h]

section
variable {c : Nat} (hc : (s.eng e).composing = some c) {k : FetchKind} {a : Nat} (err : Bool)
include hc

theorem State.pastureFetchDone_of_not_missing
    (hd : ((s.missing e c).find? fun x => x.kind == k && x.line == a / 64) = none) : s.pastureFetchDone e k a err = s := by
  simp only [State.pastureFetchDone, hc, hd]

theorem State.pastureFetchDone_of_missing {d : Need}
    (hd : ((s.missing e c).find? fun x => x.kind == k && x.line == a / 64) = some d) :
    s.pastureFetchDone e k a err = s.granule e d err := by
  simp only [State.pastureFetchDone, hc, hd]

end

theorem State.countMiss_of_map {d : Need} (hd : d.kind = .map) :
    s.countMiss e d = s.w (pgPE e) PE.MAP_MISSES (s.r (pgPE e) PE.MAP_MISSES + 1) := by
  simp [State.countMiss, hd, State.inc]

theorem State.countMiss_of_bitmap {d : Need} (hd : d.kind = .bitmap) : s.countMiss e d = s := by
  simp [State.countMiss, hd]

/-- A tile none of whose granules is there counts as a miss (R116). -/
theorem State.countMiss_of_tile {d : Need} (hd : d.kind = .tile) (hnone : ∀ l ∈ (s.cache e).tiles, l < d.lo ∨ d.hi < l) :
    s.countMiss e d = s.w (pgPE e) PE.TILE_MISSES (s.r (pgPE e) PE.TILE_MISSES + 1) := by
  have hany : ((s.cache e).tiles.any fun l => decide (d.lo ≤ l) && decide (l ≤ d.hi)) = false := by
    refine List.any_eq_false.2 fun l hl => ?_
    have := hnone l hl
    simp
    omega
  simp only [State.countMiss, hd, hany]
  rfl

theorem State.countMiss_of_tile_held {d : Need} (hd : d.kind = .tile) (hle : d.lo ≤ d.hi) (hlo : d.lo ∈ (s.cache e).tiles) :
    s.countMiss e d = s := by
  have hany : ((s.cache e).tiles.any fun l => decide (d.lo ≤ l) && decide (l ≤ d.hi)) = true :=
    List.any_eq_true.2 ⟨d.lo, hlo, by simp [hle]⟩
  simp only [State.countMiss, hd, hany]
  rfl

/-- Counting a miss writes a register and nothing else. -/
theorem State.countMiss_eq (d : Need) : ∃ regs, s.countMiss e d = { s with regs := regs } := by
  unfold State.countMiss
  split
  · split
    · exact ⟨s.regs, rfl⟩
    · exact ⟨_, rfl⟩
  · exact ⟨_, rfl⟩
  · exact ⟨s.regs, rfl⟩

/-- A granted granule counts in registers and in its engine's granules. -/
theorem State.granted_eq (d : Need) : ∃ regs, s.granted e d =
    ({ s with regs := regs } : State).setEng e { s.eng e with granules := (s.eng e).granules + 1 } := by
  obtain ⟨regs, hcount⟩ := s.countMiss_eq (e := e) d
  unfold State.granted
  rw [hcount]
  dsimp only
  split
  · exact ⟨_, rfl⟩
  · exact ⟨regs, rfl⟩

theorem State.cache_granted (d : Need) : (s.granted e d).cache e = s.cache e := by
  obtain ⟨regs, heq⟩ := s.granted_eq (e := e) d
  rw [heq]
  rfl

theorem State.bad_granted (d : Need) : ((s.granted e d).eng e).bad = (s.eng e).bad := by
  obtain ⟨regs, heq⟩ := s.granted_eq (e := e) d
  rw [heq, State.eng_setEng_same]

end

section
variable (s : State) (e : Nat)

theorem State.regs_peFetchError : (s.peFetchError e).regs = ((s.statusBit (pgPE e) 4).pendInt (pgPE e) 1).regs :=
  State.regs_eventOpen ..

/-- A read in error is reported, and its granule lost to the line (R110). -/
theorem State.peFetchError_fetchLost (line : Nat) :
    (((s.fetchLost e line).peFetchError e).eng e).bad = line :: (s.eng e).bad ∧
    ((s.fetchLost e line).peFetchError e).r (pgPE e) (STATUS_BIT 4) = 1 ∧
    ((s.fetchLost e line).peFetchError e).r (pgPE e) (INT_PEND_BIT 1) = 1 ∧
    ((s.fetchLost e line).peFetchError e).cache e = s.cache e := by
  have hregs := (s.fetchLost e line).regs_peFetchError e
  have hcaches : ((s.fetchLost e line).peFetchError e).caches = s.caches := by
    rw [State.peFetchError, State.caches_eventOpen, State.pendInt, State.w_caches, State.statusBit, State.w_caches,
      State.fetchLost, State.setEng_caches]
  have heng : ((s.fetchLost e line).peFetchError e).eng e = { s.eng e with bad := line :: (s.eng e).bad } := by
    rw [State.peFetchError, State.eng_eventOpen, State.pendInt, State.eng_w, State.statusBit, State.eng_w, State.fetchLost,
      State.eng_setEng_same]
  obtain ⟨hstatus, hint⟩ := (s.fetchLost e line).raised (bit := 4) (int := 1) (by decide) (by decide) (pgPE e)
  exact ⟨by rw [heng], by rw [State.r_congr hregs, hstatus], by rw [State.r_congr hregs, hint],
    by rw [State.cache, hcaches, State.cache]⟩

/-- A refused read is reported, counts as no granule, and its granule is lost to the line (R46, R110). -/
theorem State.peDeny_fetchLost (line a : Nat) :
    ((s.fetchLost e line).peDeny e a).r (pgPE e) (STATUS_BIT 3) = 1 ∧
    ((s.fetchLost e line).peDeny e a).r (pgPE e) (INT_PEND_BIT 0) = 1 ∧
    (((s.fetchLost e line).peDeny e a).eng e).granules = (s.eng e).granules ∧
    (((s.fetchLost e line).peDeny e a).eng e).bad = line :: (s.eng e).bad := by
  obtain ⟨hstatus, hint⟩ := State.peError_raised (s.fetchLost e line) e (bit := 3) (int := 0) (by decide) (by decide) true
    Ev.PART_DENY (BitVec.ofNat 32 a)
  have heng : ((s.fetchLost e line).peDeny e a).eng e = { s.eng e with bad := line :: (s.eng e).bad } := by
    rw [State.peDeny, State.eng_peError, State.fetchLost, State.eng_setEng_same]
  exact ⟨hstatus, hint, by rw [heng], by rw [heng]⟩

end

end Sys2Proof.Machine
end

section
/-! SUPPORT. The read of one entry of a line list (06_line_lists_and_the_beam R150, R155). -/

namespace Sys2Proof.Machine

section
variable {s : State} {h : Nat}

/-- An entry kept: it stands in the list buffer, and the list is read on behind it. -/
def HeadSt.keeps (x : HeadSt) (e : LLEntry) (a : Nat) : HeadSt :=
  { x with llBuf := x.llBuf ++ [e], llRead := x.llRead + 1, llAddr := (a + 16) % 2 ^ 64 }

theorem HeadSt.keeps_llBuf (x : HeadSt) (e : LLEntry) (a : Nat) : (x.keeps e a).llBuf = x.llBuf ++ [e] := rfl
theorem HeadSt.keeps_llRead (x : HeadSt) (e : LLEntry) (a : Nat) : (x.keeps e a).llRead = x.llRead + 1 := rfl
theorem HeadSt.keeps_llAddr (x : HeadSt) (e : LLEntry) (a : Nat) : (x.keeps e a).llAddr = (a + 16) % 2 ^ 64 := rfl

/-- A NOP of a line of the frame, read as one of the list's 65,536 entries, is kept (R150). -/
theorem State.llRead_of_nop {a : Nat} {e : LLEntry} (he : llEntryOf (memRead s.mem a 16) (s.hd h).llRead = e)
    (hop : e.op = 0) (hline : e.line < (s.mode h).vTot) (hpos : (s.hd h).llRead < 65536) :
    s.llRead h 1 a = s.setHd h ((s.hd h).keeps e a) := by
  have hread : min ((s.hd h).llRead + 1) 65537 = (s.hd h).llRead + 1 := by omega
  have hin : ¬ 65536 ≤ e.pos := by
    rw [← he]
    exact Nat.not_le.2 hpos
  have hreach : ¬ (s.mode h).vTot ≤ e.line := by omega
  simp only [State.llRead, he, hread]
  simp [hin, hop, hreach, HeadSt.keeps]

/-- Writing a head's own state back changes nothing a hungry head is judged by (R52). -/
theorem State.hungry_setHd_self : (s.setHd h (s.hd h)).hungry h = s.hungry h := by
  have hregs : (s.setHd h (s.hd h)).regs = s.regs := rfl
  have hhd : (s.setHd h (s.hd h)).hd h = s.hd h := State.hd_setHd_same ..
  have hen : (s.setHd h (s.hd h)).enabled (pgHEAD h) = s.enabled (pgHEAD h) := by
    simp only [State.enabled, State.b, State.r_congr hregs]
  have hlook : (s.setHd h (s.hd h)).lookahead h = s.lookahead h := by
    simp only [State.lookahead, State.beam, State.mode, State.r_congr hregs, hhd]
  rw [State.hungry, hen, hlook, hhd, State.hungry]

/-- The list of head `h` is being read: its engine serves, and nothing has ended or stopped the list (R155). -/
def State.listOpen (s : State) (h : Nat) : Prop :=
  s.serves (s.servedBy h) = true ∧ s.enabled (pgHEAD h) = true ∧ (s.hd h).llActive = true ∧ (s.hd h).llEnded = false ∧
    s.r (pgHEAD h) HEAD.LL_STAT_STOPPED = 0 ∧ (s.hd h).dark = false

/-- The next entries of an open list that has room, arriving for a head that is not hungry and no line start of which
waits, while memory does not train (R155). -/
theorem State.llFetchDone_of_room (hopen : s.listOpen h) (hidle : s.r pMEMCTL MEMCTL.TRAIN_STAT_RUNNING = 0)
    (hwait : (s.hd h).llWaiting = false) (hroom : (s.hd h).llBuf.length < 64) (hfed : s.hungry h = false)
    (hpart : s.inPart 1 (s.hd h).llAddr 16 = true) :
    s.llFetchDone h false =
      let t := (s.setHd h (s.hd h)).llRead h
        (min (64 - (s.hd h).llBuf.length) ((64 - (s.hd h).llAddr % 64) / 16)) (s.hd h).llAddr
      if (t.hd h).llWaiting && t.startDue h && t.llReady h (t.hd h).startNext
      then t.lineStartRun h (t.hd h).startNext true else t := by
  obtain ⟨hserves, hen, hact, hend, hstop, hdark⟩ := hopen
  have hgo : (!s.serves (s.servedBy h) || !s.enabled (pgHEAD h) || !(s.hd h).llActive || (s.hd h).llEnded ||
      s.b (pgHEAD h) HEAD.LL_STAT_STOPPED || ((s.hd h).dark && !(s.hd h).darkEnd)) = false := by
    simp [hserves, hen, hact, hend, hdark, s.b_of_r_eq_zero hstop]
  have hsome : ¬ 64 - (s.hd h).llBuf.length = 0 := by omega
  have hpart' : (s.setHd h (s.hd h)).inPart 1 (s.hd h).llAddr 16 = true := hpart
  have hserved : (s.setHd h (s.hd h)).memWait.countHungry h = s.setHd h (s.hd h) := by
    rw [State.memWait_of_idle (s := s.setHd h (s.hd h)) hidle, State.countHungry, State.hungry_setHd_self, hfed]
    rfl
  unfold State.llFetchDone
  simp only [hgo, hwait, hsome, hpart', hserved, Bool.false_and, Bool.not_true, Bool.false_eq_true, if_false]

/-- The last entry of a granule, where it is a NOP, is kept and no line starts (R150, R155). -/
theorem State.llFetchDone_of_nop {e : LLEntry} (hopen : s.listOpen h) (hidle : s.r pMEMCTL MEMCTL.TRAIN_STAT_RUNNING = 0)
    (hwait : (s.hd h).llWaiting = false) (hroom : (s.hd h).llBuf.length < 64) (hfed : s.hungry h = false)
    (hpart : s.inPart 1 (s.hd h).llAddr 16 = true) (hlast : (s.hd h).llAddr % 64 = 48)
    (he : llEntryOf (memRead s.mem (s.hd h).llAddr 16) (s.hd h).llRead = e) (hop : e.op = 0)
    (hline : e.line < (s.mode h).vTot) (hpos : (s.hd h).llRead < 65536) :
    s.llFetchDone h false = (s.setHd h (s.hd h)).setHd h ((s.hd h).keeps e (s.hd h).llAddr) := by
  have hone : min (64 - (s.hd h).llBuf.length) ((64 - (s.hd h).llAddr % 64) / 16) = 1 := by omega
  have hhd : (s.setHd h (s.hd h)).hd h = s.hd h := State.hd_setHd_same ..
  have hread := State.llRead_of_nop (s := s.setHd h (s.hd h)) (h := h) (a := (s.hd h).llAddr) (e := e) (by rwa [hhd]) hop hline
    (by rwa [hhd])
  rw [hhd] at hread
  have hstill : ((s.hd h).keeps e (s.hd h).llAddr).llWaiting = false := hwait
  rw [State.llFetchDone_of_room hopen hidle hwait hroom hfed hpart, hone, hread]
  simp only [State.hd_setHd_same, hstill, Bool.false_and, Bool.false_eq_true, if_false]

end

/-! ### Units that are up (R2, R66) -/

/-- Behind PE32's page there is no engine's (R40). -/
theorem pageKind_ne_pe {page : Nat} (hp : 0x541 ≤ page) (n : Nat) : pageKind 0 page ≠ some (.kPE, n) := by
  unfold pageKind pageKind0
  rw [if_pos rfl]
  iterate 10 rw [if_neg (by omega)]
  split_ifs <;> simp

theorem pe_lt_of_unitUp {s : State} {e : Nat} (hup : UnitUp s 0 (pgPE e) .kPE e) : e < 33 := by
  obtain ⟨hhas, _⟩ := hup
  by_contra he
  simp only [State.has, Bool.and_eq_true, beq_iff_eq] at hhas
  exact pageKind_ne_pe (by unfold pgPE; omega) e hhas.1

theorem State.onUnit_of_up {s : State} {func page : Nat} {k : Kind} {n : Nat} (hup : UnitUp s func page k n)
    (f : State → State) : s.onUnit func page k n f = f s := by
  obtain ⟨hhas, hon⟩ := hup
  simp [State.onUnit, hhas, hon]

end Sys2Proof.Machine

open Sys2Proof Sys2Proof.Machine

/-- Settles O30: a start by `State.lineStartRun_started`, a completion by what `State.lineStored` leaves, a read by
`State.granule_of_granted` and `State.granule_of_denied`, the frames by `LineKeeps` and `EngineActs`. -/
theorem anEngineStartsFetchesAndCompletesALine : Obligations.AnEngineStartsFetchesAndCompletesALine := by
  refine ⟨?start, ?wait, ?complete, ?fetch, ?miss, ?list⟩
  case start =>
    intro s e h hup hhead hdue hready hline
    obtain ⟨hserve, hh⟩ := State.servedBy_of_headOf (pe_lt_of_unitUp hup) hhead
    have hstart : exec (.lineStart e) s = .next (s.lineStartRun h (s.hd h).startNext true) :=
      congrArg Host.Outcome.next ((State.onUnit_of_up hup _).trans (State.lineStart_of_ready hhead hdue hready))
    have hstarted := State.lineStartRun_started hh hline
    rw [hserve] at hstarted
    exact ⟨_, hstart, hstarted⟩
  case wait =>
    intro s e h hup hhead hdue hready hwait
    exact congrArg Host.Outcome.next ((State.onUnit_of_up hup _).trans (State.lineStart_of_wait hhead hdue hready hwait))
  case complete =>
    intro s e c hup hc
    have he : e < 64 := Nat.lt_trans (pe_lt_of_unitUp hup) (by decide)
    have hstep : exec (.lineComplete e) s = .next (s.lineComplete e) :=
      congrArg Host.Outcome.next (State.onUnit_of_up hup _)
    refine ⟨⟨_, hstep, ?_⟩, fun hmissing hcost => ⟨_, hstep, ?_⟩, fun hmissing hcost => ⟨_, hstep, ?_⟩⟩
    · have hacts := State.lineComplete_engineActs he hc
      obtain ⟨hnone, hhead, hlen⟩ := State.lineComplete_done he hc
      exact ⟨hnone, hhead, hlen, hacts.others, hacts.owners, hacts.locks, hacts.mem, hacts.pending⟩
    · obtain ⟨_, _, hlines⟩ := State.eng_lineStored (s := s) (e := e) (c := c)
      rw [State.lineComplete_of_within hc hmissing hcost, State.eng_fresh, State.fresh_regs, State.fresh_hist, State.fresh_mem]
      exact ⟨hlines, State.regs_lineStored, State.hist_lineStored, State.lineStored_engineActs.mem⟩
    · exact State.lineComplete_of_over hc hmissing hcost
  case fetch =>
    intro s e a c k hup _ hc hidle
    have he : e < 64 := Nat.lt_trans (pe_lt_of_unitUp hup) (by decide)
    have hstep (err : Bool) : exec (.pastureFetchDone e k a err) s = .next (s.pastureFetchDone e k a err) :=
      congrArg Host.Outcome.next (State.onUnit_of_up hup _)
    refine ⟨fun hd err => ?_, fun d hd => ?_⟩
    · rw [hstep, State.pastureFetchDone_of_not_missing hc err hd]
    · have hgranule (err : Bool) : exec (.pastureFetchDone e k a err) s = .next (s.granule e d err) := by
        rw [hstep, State.pastureFetchDone_of_missing hc err hd]
      have hacts (err : Bool) : EngineActs e s (s.granule e d err) := s.granule_engineActs he d err
      refine ⟨fun hpart => ⟨?_, _, hgranule true, ?_⟩, fun hpart err => ⟨_, hgranule err, ?_⟩⟩
      · rw [hgranule, State.granule_of_granted s hpart, State.memWait_of_idle hidle, State.cache_granted]
        rfl
      · have hsame := hacts true
        rw [State.granule_of_granted s hpart, State.memWait_of_idle hidle, if_pos rfl] at hsame ⊢
        obtain ⟨hbad, hstatus, hint, hcache⟩ := (s.granted e d).peFetchError_fetchLost e d.line
        rw [State.cache_granted] at hcache
        rw [State.bad_granted] at hbad
        exact ⟨hbad, hstatus, hint, hcache, hsame.mem, hsame.owners, hsame.locks⟩
      · have hsame := hacts err
        rw [State.granule_of_denied s hpart] at hsame ⊢
        obtain ⟨hstatus, hint, hgranules, hbad⟩ := s.peDeny_fetchLost e d.line (d.line * 64)
        exact ⟨hstatus, hint, hgranules, hbad, hsame.mem, hsame.owners, hsame.locks⟩
  case miss =>
    exact fun s e d => ⟨State.countMiss_of_map, State.countMiss_of_bitmap, State.countMiss_of_tile, State.countMiss_of_tile_held⟩
  case list =>
    intro s h hup hserves hen hidle hact hend hstop hdark hwait hroom hfed hpart hlast hop hline hpos
    have hstep : exec (.llFetchDone h false) s = .next (s.llFetchDone h false) :=
      congrArg Host.Outcome.next (State.onUnit_of_up hup _)
    have hkept := State.llFetchDone_of_nop ⟨hserves, hen, hact, hend, hstop, hdark⟩ hidle hwait hroom hfed hpart hlast rfl
      hop hline hpos
    refine ⟨_, hstep, ?_⟩
    simp only [hkept, State.hd_setHd_same, HeadSt.keeps_llBuf, HeadSt.keeps_llRead, HeadSt.keeps_llAddr, State.setHd_regs,
      State.setHd_mem, State.setHd_owners, State.setHd_locks, State.setHd_hist, and_self]

end

section
/-! SUPPORT. A line left out in the frame after the one whose error asked for it (06_line_lists_and_the_beam R140;
08_heads_video_ports_relief R206; log entry 141). -/

namespace Sys2Proof.Machine

/-- Dot 0 of the next line of a running head whose deadline has passed, before line V_total − 1 (R140). -/
theorem State.beamLine_of_running {s : State} {h : Nat} (hpres : s.present 0 (pgHEAD h) = true) (hpd : s.pdOn h = true)
    (hen : s.enabled (pgHEAD h) = true) (hbegun : (s.hd h).begun = true) (hdead : (s.hd h).deadline = true)
    (hline : s.beam h + 1 ≠ (s.mode h).vTot) :
    s.beamLine h = s.beamAt h (s.nextLine h).1 ((s.hd h).dotFc + (s.mode h).lineFc) (s.beam h + 1) := by
  simp [State.beamLine, hpres, hpd, hen, hbegun, hdead, hline]

/-- Without an event in this frame the beam leaves out what the frame before could not, and goes on at line V_total − 1
(R206; log entry 141). -/
theorem State.nextLine_of_short {s : State} {h : Nat} (hevt : (s.hd h).evtUsed = false)
    (hshort : (s.mode h).vTot ≤ s.beam h + 2 + (s.hd h).short) (hbefore : s.beam h + 2 < (s.mode h).vTot) :
    s.nextLine h = ((s.mode h).vTot - 1, true) := by
  have hleaves : (s.hd h).leaves = (s.hd h).short := by simp [HeadSt.leaves, hevt]
  rw [State.nextLine]
  simp only [hleaves, if_pos (And.intro hshort hbefore)]

/-- Head 0 in MODE 10 on GENLOCK, past the deadline of line 2247 of a frame without an event yet. In the frame before,
E = −3 was measured at line 2247, where one line alone was left to leave out: two are left out in this frame. -/
def shortenedFrame : State :=
  (((({ State.reset with
        mainUp := true
        heads := [(0, { begun := true, deadline := true, idle := false, syncCfg := 0x402, short := 2 })] } : State).w
    (pgPE 0) CTRL_ENABLE 1).w (pgHEAD 0) CTRL_ENABLE 1).w (pgHEAD 0) HEAD.SYNC_CFG 0x402).w (pgHEAD 0) HEAD.BEAM_LINE 2246

theorem shortenedFrame_up : UnitUp shortenedFrame 0 (pgHEAD 0) .kHEAD 0 := ⟨rfl, rfl⟩

theorem shortenedFrame_beam : shortenedFrame.beam 0 = 2246 := rfl

theorem shortenedFrame_vTot : (shortenedFrame.mode 0).vTot = 2250 := rfl

theorem shortenedFrame_beamLine : shortenedFrame.beamLine 0 =
    shortenedFrame.beamAt 0 2249 ((shortenedFrame.hd 0).dotFc + (shortenedFrame.mode 0).lineFc) 2247 := by
  have hnext : shortenedFrame.nextLine 0 = (2249, true) :=
    State.nextLine_of_short rfl (by rw [shortenedFrame_vTot, shortenedFrame_beam]; decide)
      (by rw [shortenedFrame_vTot, shortenedFrame_beam]; decide)
  have hline : shortenedFrame.beam 0 + 1 ≠ (shortenedFrame.mode 0).vTot := by
    rw [shortenedFrame_beam, shortenedFrame_vTot]
    decide
  rw [State.beamLine_of_running rfl rfl rfl rfl rfl hline, hnext, shortenedFrame_beam]

theorem shortenedFrame_shown : (shortenedFrame.beamLine 0).r (pgHEAD 0) HEAD.BEAM_LINE = 2249 := by
  rw [shortenedFrame_beamLine]
  decide +kernel

end Sys2Proof.Machine

open Sys2Proof Sys2Proof.Machine

/-- Refutes O31: its clause on BEAM_LINE has the next line come after every line of a head that is not held, but lines
that the frame before could not leave out are left out in this one (R206, log entry 141): from line 2246 the beam of
`shortenedFrame` moves to line 2249. -/
theorem not_theBeamMovesLineByLine : ¬ Obligations.TheBeamMovesLineByLine := by
  unfold Obligations.TheBeamMovesLineByLine
  rintro ⟨_, _, hbeam, _, _⟩
  obtain ⟨t, hstep, hline, _⟩ := hbeam shortenedFrame 0 shortenedFrame_up rfl rfl rfl
    (by rw [shortenedFrame_vTot, shortenedFrame_beam]; decide) (by decide)
  have hrun : exec (.beamLine 0) shortenedFrame = .next (shortenedFrame.beamLine 0) :=
    congrArg Host.Outcome.next (State.onUnit_of_up shortenedFrame_up _)
  obtain rfl : shortenedFrame.beamLine 0 = t := Host.Outcome.next.inj (hrun.symm.trans hstep)
  rw [shortenedFrame_shown, shortenedFrame_beam] at hline
  exact absurd hline (by decide)

end

section
/-! SUPPORT. The last head of a mirrored part is disabled while it steps down (08_heads_video_ports_relief R196;
12_journal_and_mirror_pair R331 to R333). -/

namespace Sys2Proof.Machine

/-- An ACTIVE part that has given authority up, with the change to STANDBY scheduled, no head enabled and head 0's pages
mirrored. -/
def steppingDown : State :=
  { ((State.reset.w pMIRROR MIRROR.ROLE 0).w pMIRROR MIRROR.MIR_HEADS 1) with
    mirror := { State.reset.mirror with scheduled := some (1, 0) } }

theorem steppingDown_owner : steppingDown.owner 0 (pgHEAD 0) = 0x01 := rfl

/-- As STANDBY the part gives its mirrored pages to the mirror hardware (R333). -/
theorem steppingDown_headOff_owner : (steppingDown.headOff 0).owner 0 (pgHEAD 0) = 0x7E := by decide +kernel

end Sys2Proof.Machine

open Sys2Proof Sys2Proof.Machine

/-- Refutes O34: its clause on the role change with no head left has every owner stay, but a part that becomes STANDBY
sets the owners of its mirrored pages to 0x7E (R333): on `steppingDown` head 0's page goes from 0x01 to 0x7E. -/
theorem not_headsSwitchOnAndOffAndFollowSync : ¬ Obligations.HeadsSwitchOnAndOffAndFollowSync := by
  unfold Obligations.HeadsSwitchOnAndOffAndFollowSync
  rintro ⟨_, _, _, _, hchange, _, _⟩
  obtain ⟨t, rfl, _, _, _, _, howners, _⟩ := hchange steppingDown 0 0 (by decide) rfl rfl rfl (by decide) rfl
  have hkept : (steppingDown.headOff 0).owner 0 (pgHEAD 0) = steppingDown.owner 0 (pgHEAD 0) := by
    unfold State.owner
    rw [howners]
  rw [steppingDown_headOff_owner, steppingDown_owner] at hkept
  exact absurd hkept (by decide)

end

section
/-! SUPPORT. TRAIN on a part that is not yet RUNNING (03_clocks_power_startup R90; 08_heads_video_ports_relief R201). -/

namespace Sys2Proof.Machine

section
variable {s : State} {p : Nat} {wr : Code}

theorem State.vpWrite_linkCmd (v : BitVec 32) :
    s.vpWrite (wr32 0 (pgVP p) 0x104 v wr) p =
      (let t := if nbit v.toNat 1 && s.linkState p != lk.DOWN then s.linkTo p lk.DOWN 0 0 else s
       if nbit v.toNat 0 then t.linkTrain p else t, true) := by
  have hoff : (wr32 0 (pgVP p) 0x104 v wr).off = 0x104 := rfl
  simp [State.vpWrite, hoff, done]

theorem exec_linkTrain_of_admits (hp : p < 8) (ha : Admits s 0 (pgVP p) 0x104 4 wr) :
    exec (.linkTrain p wr) s = .next (s.linkTrain p) := by
  have hwrite : s.unitWrite 8 p 0 (pgVP p) 0x104 4 (1 : BitVec 32).toNat wr =
      (s.vpWrite (wr32 0 (pgVP p) 0x104 1 wr) p).1 :=
    (if_pos hp).trans (State.writeAt32_kind (pageKind_pgVP hp) ha rfl (by decide) rfl (by decide) (by decide)
      (by decide) (by decide) (by decide))
  rw [State.vpWrite_linkCmd] at hwrite
  exact congrArg Host.Outcome.next hwrite

/-- A port does not train before RUNNING (R90). -/
theorem State.linkTrain_of_not_running (h : s.devState ≠ stRUNNING) : s.linkTrain p = s := if_neg h

end

/-- A part out of reset whose DEVICE.STATE is still BOOT, as before its configuration image. -/
def bootingPart : State := { State.reset with mainUp := true }

theorem bootingPart_admits : Admits bootingPart 0 (pgVP 0) 0x104 4 0x01 := rfl

theorem bootingPart_portActs : bootingPart.portActs 0 = true := rfl

theorem bootingPart_devState : bootingPart.devState = stBOOT := rfl

theorem bootingPart_linkState : bootingPart.linkState 0 = lk.DOWN := rfl

end Sys2Proof.Machine

open Sys2Proof Sys2Proof.Machine

/-- Refutes O35: its clause on TRAIN has every port that acts begin to train, but before RUNNING the ports stay untrained
(R90): on `bootingPart`, in BOOT, TRAIN leaves port 0 without a link. -/
theorem not_videoPortsTrainDropAndTalk : ¬ Obligations.VideoPortsTrainDropAndTalk := by
  unfold Obligations.VideoPortsTrainDropAndTalk
  rintro ⟨htrain, _⟩
  obtain ⟨t, hstep, hstate, _⟩ := htrain bootingPart 0 0x01 (by decide) bootingPart_admits bootingPart_portActs
  have hboot : bootingPart.devState ≠ stRUNNING := by rw [bootingPart_devState]; decide
  rw [exec_linkTrain_of_admits (by decide) bootingPart_admits, State.linkTrain_of_not_running hboot] at hstep
  obtain rfl : bootingPart = t := Host.Outcome.next.inj hstep
  rw [bootingPart_linkState] at hstate
  exact absurd hstate (by decide)

end

section
/-! SUPPORT. Self-tests of the engines: requests and forced tests from the bus, the start of a test, its end, and the
RESUME of a parked relief engine (08_heads_video_ports_relief R211 to R213, R216 to R220; 18_faults_and_containment
R471). -/

namespace Sys2Proof.Machine

/-! ### What the rotation's steps keep -/

/-- From `s` to `t` owners, locks, memory and what the page of a head's engine `e` shows of its self-test are as they
were (R216). -/
structure TestKeeps (e : Nat) (s t : State) : Prop where
  owners : t.owners = s.owners
  locks : t.locks = s.locks
  mem : t.mem = s.mem
  shown : e < 32 → ∀ off, 0x900 ≤ off → off < 4096 → t.reg 0 (pgPE e) off = s.reg 0 (pgPE e) off

/-- Engine `e` also keeps its verdict and its CTRL (R217, R471). -/
structure VerdictKeeps (e : Nat) (s t : State) : Prop extends TestKeeps e s t where
  failed : (t.eng e).failedTest = (s.eng e).failedTest
  ctrl : t.reg 0 (pgPE e) 0x008 = s.reg 0 (pgPE e) 0x008

section
variable {e : Nat} {s t u : State}

theorem TestKeeps.trans (k : TestKeeps e s t) (k' : TestKeeps e t u) : TestKeeps e s u where
  owners := k'.owners.trans k.owners
  locks := k'.locks.trans k.locks
  mem := k'.mem.trans k.mem
  shown he off hlo hhi := (k'.shown he off hlo hhi).trans (k.shown he off hlo hhi)

/-- A field of the self-test registers of a head's engine. -/
theorem TestKeeps.r_eq (k : TestKeeps e s t) (he : e < 32) {f : Fld} (hlo : 0x900 ≤ f.off) (hhi : f.off < 4096) :
    t.r (pgPE e) f = s.r (pgPE e) f := by
  unfold State.r
  rw [k.shown he f.off hlo hhi]

theorem VerdictKeeps.refl (e : Nat) (s : State) : VerdictKeeps e s s :=
  ⟨⟨rfl, rfl, rfl, fun _ _ _ _ => rfl⟩, rfl, rfl⟩

theorem VerdictKeeps.trans (k : VerdictKeeps e s t) (k' : VerdictKeeps e t u) : VerdictKeeps e s u where
  toTestKeeps := k.toTestKeeps.trans k'.toTestKeeps
  failed := k'.failed.trans k.failed
  ctrl := k'.ctrl.trans k.ctrl

theorem VerdictKeeps.ite {c : Prop} [Decidable c] (ht : VerdictKeeps e s t) (hu : VerdictKeeps e s u) :
    VerdictKeeps e s (if c then t else u) := by
  split
  · exact ht
  · exact hu

/-- A change of none of the parts the frame speaks of. -/
theorem VerdictKeeps.elsewhere (howners : t.owners = s.owners) (hlocks : t.locks = s.locks) (hmem : t.mem = s.mem)
    (hengines : t.engines = s.engines) (hregs : t.regs = s.regs) : VerdictKeeps e s t where
  owners := howners
  locks := hlocks
  mem := hmem
  shown _ _ _ _ := by unfold State.reg; rw [hregs]
  failed := by unfold State.eng; rw [hengines]
  ctrl := by unfold State.reg; rw [hregs]

theorem VerdictKeeps.fenced_eq (k : VerdictKeeps e s t) : t.fenced 0 (pgPE e) = s.fenced 0 (pgPE e) := by
  unfold State.fenced
  rw [k.ctrl]

end

section
variable {e : Nat} (s : State)

theorem State.setEng_verdictKeeps {n : Nat} {x : Engine} (hx : x.failedTest = (s.eng n).failedTest) :
    VerdictKeeps e s (s.setEng n x) where
  owners := rfl
  locks := rfl
  mem := rfl
  shown _ _ _ _ := rfl
  failed := by
    by_cases hn : e = n
    · rw [hn, State.eng_setEng_same, hx]
    · rw [State.eng_setEng_ne s x hn]
  ctrl := rfl

theorem State.setCache_verdictKeeps (n : Nat) (x : Cache) : VerdictKeeps e s (s.setCache n x) :=
  .elsewhere rfl rfl rfl rfl rfl

/-- The rotation's own data hold no part of the frame. -/
theorem State.withRelief_verdictKeeps (x : Relief) : VerdictKeeps e s { s with relief := x } :=
  .elsewhere rfl rfl rfl rfl rfl

theorem State.accEvent_verdictKeeps (func page code : Nat) (detail : W32) :
    VerdictKeeps e s (s.accEvent func page code detail) := by
  obtain ⟨hist, heq⟩ := s.accEvent_eq func page code detail
  rw [heq]
  exact .elsewhere rfl rfl rfl rfl rfl

theorem State.fresh_verdictKeeps : VerdictKeeps e s s.fresh := .elsewhere rfl rfl rfl rfl rfl

variable (he : e < 33)
include he

/-- A register that is neither CTRL nor one of a head's engine's self-test. -/
theorem State.setReg_verdictKeeps {page off : Nat} (v : W64) (hp : page < 4096) (ho : off < 4096) (hctrl : off ≠ 0x008)
    (hshown : page = pgPE 32 ∨ off < 0x900) : VerdictKeeps e s (s.setReg 0 page off v) where
  owners := rfl
  locks := rfl
  mem := rfl
  shown he' o hlo hhi := State.reg_setReg_ne s v fun hk => by
    obtain ⟨_, hpage, hoff⟩ := regKey_inj (by unfold pgPE; omega) hhi hp ho hk
    unfold pgPE at hpage hshown
    omega
  failed := rfl
  ctrl := State.reg_setReg_ne s v fun hk =>
    hctrl (regKey_inj (by unfold pgPE; omega) (by decide) hp ho hk).2.2.symm

/-- A register of PE32 other than its CTRL. -/
theorem State.w_relief_verdictKeeps {f : Fld} (ho : f.off < 4096) (hctrl : f.off ≠ 0x008) (x : Nat) :
    VerdictKeeps e s (s.w (pgPE 32) f x) :=
  s.setReg_verdictKeeps he _ (by decide) ho hctrl (.inl rfl)

theorem State.setPhase_verdictKeeps (p : Nat) : VerdictKeeps e s (s.setPhase p) :=
  s.w_relief_verdictKeeps he (by decide) (by decide) p

theorem State.statusBit_verdictKeeps {page : Nat} (hp : page < 4096) (i : Nat) : VerdictKeeps e s (s.statusBit page i) :=
  s.setReg_verdictKeeps he _ hp (show 0x00C < 4096 by decide) (show 0x00C ≠ 0x008 by decide)
    (.inr (show 0x00C < 0x900 by decide))

/-- The relief engine's own test shows on PE32 alone (R217). -/
theorem State.testStart_relief_verdictKeeps : VerdictKeeps e s (s.testStart 32) := by
  unfold State.testStart
  extract_lets p x s1
  have hdrop : VerdictKeeps e s s1 := s.setEng_verdictKeeps rfl
  exact (hdrop.trans (s1.w_relief_verdictKeeps he (by decide) (by decide) 0)).trans
    (State.w_relief_verdictKeeps _ he (by decide) (by decide) 1)

theorem State.relNext_verdictKeeps : VerdictKeeps e s s.relNext := by
  unfold State.relNext
  extract_lets s0 r s1
  have hidle : VerdictKeeps e s s0 := s.setPhase_verdictKeeps he ph.IDLE
  split
  · have hself : VerdictKeeps e s0 s1 := s0.withRelief_verdictKeeps _
    exact ((hidle.trans hself).trans (s1.testStart_relief_verdictKeeps he)).trans (State.setPhase_verdictKeeps _ he _)
  · split
    · exact hidle.trans (s0.withRelief_verdictKeeps _)
    · split
      · exact hidle.trans (s0.withRelief_verdictKeeps _)
      · exact (hidle.trans (.ite (s0.w_relief_verdictKeeps he (by decide) (by decide) _) (.refl e s0))).trans
          (State.withRelief_verdictKeeps _ _)

theorem State.park_verdictKeeps {h : Nat} (hh : h < 33) : VerdictKeeps e s (s.park h) :=
  (s.setPhase_verdictKeeps he _).trans (State.statusBit_verdictKeeps _ he (by unfold pgPE; omega) 2)

/-- A fence of the engine takes nothing from its verdict or its test (R211, R218). -/
theorem State.engineFenced_verdictKeeps : VerdictKeeps e s (s.engineFenced e) := by
  unfold State.engineFenced
  extract_lets x s1
  have hstop : VerdictKeeps e s s1 := s.setEng_verdictKeeps rfl
  refine hstop.trans (.ite (.ite (s1.park_verdictKeeps he he) (.refl e s1)) (.ite (.refl e s1) ?_))
  exact (s1.setPhase_verdictKeeps he _).trans (State.withRelief_verdictKeeps _ _)

/-! ### A failed engine is fenced (R217, R471) -/

/-- FENCE_REQ of the engine's page leaves what the page shows of its test. -/
theorem State.fenceReq_testKeeps : TestKeeps e s (s.w (pgPE e) CTRL_FENCE_REQ 1) where
  owners := rfl
  locks := rfl
  mem := rfl
  shown _ off hlo hhi := State.reg_w_ne s 1 fun hk => by
    obtain ⟨_, _, hoff⟩ := regKey_inj (by unfold pgPE; omega) hhi (by unfold pgPE; omega) (show 0x008 < 4096 by decide) hk
    omega

omit he in
theorem State.fenceReq_fenced (page : Nat) : (s.w page CTRL_FENCE_REQ 1).fenced 0 page = true := by
  have hset : (s.w page CTRL_FENCE_REQ 1).r page CTRL_FENCE_REQ = 1 := State.r_w_same s page CTRL_FENCE_REQ 1 (by decide)
  exact bne_iff_ne.2 fun h => absurd (hset.symm.trans h) (by decide)

/-- Past FENCE_REQ a fence writes STATUS and the history (R471). -/
theorem State.fenceMark_verdictKeeps (req : Code) (cause : Nat) :
    VerdictKeeps e (s.w (pgPE e) CTRL_FENCE_REQ 1) (s.fenceMark 0 (pgPE e) req cause) := by
  unfold State.fenceMark
  extract_lets s1 s2
  have hs1 : s1 = s.w (pgPE e) CTRL_FENCE_REQ 1 := rfl
  have hstatus : VerdictKeeps e s1 s2 := .ite (.refl e s1)
    (s1.setReg_verdictKeeps he _ (by unfold pgPE; omega) (by decide) (by decide) (.inr (by decide)))
  rw [← hs1]
  exact hstatus.trans (s2.accEvent_verdictKeeps ..)

/-- After `fenceEngine` the engine is fenced as a failed one, and shows its test as before. -/
theorem State.fenceEngine_fences : TestKeeps e s (s.fenceEngine e) ∧ ((s.fenceEngine e).eng e).failedTest = true ∧
    (s.fenceEngine e).fenced 0 (pgPE e) = true := by
  unfold State.fenceEngine
  extract_lets x s1
  have hmarked : (s1.eng e).failedTest = true := by rw [State.eng_setEng_same]
  have hkeeps : TestKeeps e s s1 := ⟨rfl, rfl, rfl, fun _ _ _ _ => rfl⟩
  split
  · next hfenced => exact ⟨hkeeps, hmarked, hfenced⟩
  · have hrest := ((s1.fenceMark_verdictKeeps he 0 (Config.freeNat s1.freeCtr % 65536)).trans
      (State.fresh_verdictKeeps _)).trans (State.engineFenced_verdictKeeps _ he)
    exact ⟨(hkeeps.trans (s1.fenceReq_testKeeps he)).trans hrest.toTestKeeps, by rw [hrest.failed, State.eng_w, hmarked],
      by rw [hrest.fenced_eq, s1.fenceReq_fenced]⟩

end

/-! ### The end of a test (R216 to R218) -/

theorem State.present_of_up {s : State} {page : Nat} {k : Kind} {n : Nat} (hup : UnitUp s 0 page k n) :
    s.present 0 page = true := by
  obtain ⟨hhas, _⟩ := hup
  simp only [State.has, Bool.and_eq_true, beq_iff_eq] at hhas
  obtain ⟨hkind, hpresent⟩ := hhas
  simpa only [State.present, hkind] using hpresent

section
variable (s : State) (e code : Nat)

/-- The page shows the test's end: result, code and frame. -/
def State.bistShown (s : State) (e code : Nat) : State :=
  let p := pgPE e
  (((s.w p PE.BIST_STAT_RUNNING 0).w p PE.BIST_STAT_RESULT (if code = 0 then 1 else 2)).w p PE.BIST_STAT_CODE code).w p
    PE.BIST_FRAME (s.hd (s.stateOf e)).frame.toNat

/-- The engine's line store and caches hold nothing after a test. -/
def State.bistCleared (s : State) (e : Nat) : State :=
  (s.setEng e { s.eng e with lines := [], sigCount := 0, sigRun := 0xFFFFFFFF, sigFrame := none }).setCache e {}

/-- A passed test lifts the engine's verdict; the rotation goes on behind PE32's own test between slots. -/
def State.bistPassed (s : State) (e : Nat) : State :=
  let t := s.setEng e { s.eng e with failedTest := false, forced := false }
  if e = 32 ∧ t.relPhase = ph.SELF_TEST ∧ !t.relief.skipCompare then t.relNext else t

/-- PE32 serves the head of engine `e` in its slot (R213). -/
def State.reliefServes (s : State) (e : Nat) : Bool :=
  decide (e < 32) && s.relHead == e && s.servedBy e == 32 && (s.relPhase == ph.TEST || s.relPhase == ph.RETURN)

/-- A failed test: PE32 stays where it serves, the engine is fenced, a failed PE32 stops the rotation. -/
def State.bistFailed (s : State) (e : Nat) : State :=
  let t := if s.reliefServes e then { (s.park e) with relief := { s.relief with testFailed := true } } else s
  let u := t.fenceEngine e
  if e = 32 then u.setPhase ph.STOPPED else u

variable {s e code}

theorem State.bistDone_of_running (hp : s.present 0 (pgPE e) = true) (hrun : s.r (pgPE e) PE.BIST_STAT_RUNNING = 1) :
    s.bistDone e code =
      if code = 0 then ((s.bistShown e code).bistCleared e).bistPassed e
      else ((s.bistShown e code).bistCleared e).bistFailed e := by
  unfold State.bistDone
  extract_lets p h s1 s2 s3 s4 s5 s6
  rw [if_neg (by simp [hp, p, hrun])]
  rfl

/-- A field of another register of the page keeps its value. -/
theorem State.r_w_off (s : State) (page : Nat) {f g : Fld} (x : Nat) (h : g.off ≠ f.off) : (s.w page f x).r page g = s.r page g :=
  State.r_w_ne s x fun hk => h (by unfold regKey at hk; omega)

theorem State.bistShown_shows (he : e < 32) (hcode : code < 256) :
    (s.bistShown e code).r (pgPE e) PE.BIST_STAT_RUNNING = 0 ∧
    (s.bistShown e code).r (pgPE e) PE.BIST_STAT_RESULT = (if code = 0 then 1 else 2) ∧
    (s.bistShown e code).r (pgPE e) PE.BIST_STAT_CODE = code ∧
    (s.bistShown e code).r (pgPE e) PE.BIST_FRAME = (s.hd e).frame.toNat % 2 ^ 32 := by
  have hstate : s.stateOf e = e := if_pos he
  unfold State.bistShown
  rw [hstate]
  refine ⟨?running, ?result, ?code, ?frame⟩
  case running =>
    rw [State.r_w_off _ _ _ (by decide),
      State.r_w_disjoint (f := PE.BIST_STAT_CODE) (g := PE.BIST_STAT_RUNNING) _ _ _ (by decide) rfl (by decide),
      State.r_w_disjoint (f := PE.BIST_STAT_RESULT) (g := PE.BIST_STAT_RUNNING) _ _ _ (by decide) rfl (by decide),
      State.r_w_same _ _ _ _ (by decide)]
    rfl
  case result =>
    rw [State.r_w_off _ _ _ (by decide),
      State.r_w_disjoint (f := PE.BIST_STAT_CODE) (g := PE.BIST_STAT_RESULT) _ _ _ (by decide) rfl (by decide),
      State.r_w_same _ _ _ _ (by decide)]
    split <;> rfl
  case code =>
    rw [State.r_w_off _ _ _ (by decide), State.r_w_same _ _ _ _ (by decide)]
    exact Nat.mod_eq_of_lt hcode
  case frame => exact State.r_w_same _ _ PE.BIST_FRAME _ (by decide)

theorem State.bistShown_frame (s : State) (e code : Nat) : (s.bistShown e code).owners = s.owners ∧
    (s.bistShown e code).locks = s.locks ∧ (s.bistShown e code).mem = s.mem := by
  simp [State.bistShown]

/-- What a test shows at its end stays under the steps that follow it. -/
theorem TestKeeps.shows {t : State} (k : TestKeeps e (s.bistShown e code) t) (he : e < 32) (hcode : code < 256) :
    t.r (pgPE e) PE.BIST_STAT_RUNNING = 0 ∧ t.r (pgPE e) PE.BIST_STAT_RESULT = (if code = 0 then 1 else 2) ∧
    t.r (pgPE e) PE.BIST_STAT_CODE = code ∧ t.r (pgPE e) PE.BIST_FRAME = (s.hd e).frame.toNat % 2 ^ 32 := by
  rw [k.r_eq he (by decide) (by decide), k.r_eq he (by decide) (by decide), k.r_eq he (by decide) (by decide),
    k.r_eq he (by decide) (by decide)]
  exact State.bistShown_shows he hcode

theorem State.fenced_bistShown (he : e < 33) : (s.bistShown e code).fenced 0 (pgPE e) = s.fenced 0 (pgPE e) := by
  have hpage : pgPE e < 4096 := by unfold pgPE; omega
  unfold State.bistShown
  iterate 4 rw [State.fenced_w _ hpage (by decide) (by decide)]

theorem State.bistCleared_verdictKeeps : VerdictKeeps e s (s.bistCleared e) := by
  unfold State.bistCleared
  refine .trans ?_ (State.setCache_verdictKeeps _ e {})
  exact s.setEng_verdictKeeps rfl

theorem State.setEng_testKeeps (n : Nat) (x : Engine) : TestKeeps e s (s.setEng n x) :=
  ⟨rfl, rfl, rfl, fun _ _ _ _ => rfl⟩

theorem State.bistPassed_ends (he : e < 33) : TestKeeps e s (s.bistPassed e) ∧
    ((s.bistPassed e).eng e).failedTest = false ∧ (s.bistPassed e).fenced 0 (pgPE e) = s.fenced 0 (pgPE e) := by
  unfold State.bistPassed
  extract_lets x t
  have hlifted : (t.eng e).failedTest = false := by rw [State.eng_setEng_same]
  have hgoes : VerdictKeeps e t (if e = 32 ∧ t.relPhase = ph.SELF_TEST ∧ !t.relief.skipCompare then t.relNext else t) :=
    .ite (t.relNext_verdictKeeps he) (.refl e t)
  exact ⟨(s.setEng_testKeeps e _).trans hgoes.toTestKeeps, by rw [hgoes.failed, hlifted], by rw [hgoes.fenced_eq]; rfl⟩

theorem State.bistFailed_ends (he : e < 33) : TestKeeps e s (s.bistFailed e) ∧
    ((s.bistFailed e).eng e).failedTest = true ∧ (s.bistFailed e).fenced 0 (pgPE e) = true := by
  unfold State.bistFailed
  extract_lets p r t u
  have hstays : VerdictKeeps e s t :=
    .ite ((s.park_verdictKeeps he he).trans (State.withRelief_verdictKeeps _ _)) (.refl e s)
  obtain ⟨hfence, hfailed, hfenced⟩ := t.fenceEngine_fences he
  have hstops : VerdictKeeps e u (if e = 32 then u.setPhase ph.STOPPED else u) :=
    .ite (u.setPhase_verdictKeeps he _) (.refl e u)
  exact ⟨(hstays.toTestKeeps.trans hfence).trans hstops.toTestKeeps, by rw [hstops.failed, hfailed],
    by rw [hstops.fenced_eq, hfenced]⟩

/-- A test ends with its result on the page; a pass lifts the verdict, a failure gives it and fences the engine. -/
theorem State.bistDone_ends (he : e < 33) (hp : s.present 0 (pgPE e) = true) (hrun : s.r (pgPE e) PE.BIST_STAT_RUNNING = 1) :
    TestKeeps e (s.bistShown e code) (s.bistDone e code) ∧
    (code = 0 → ((s.bistDone e code).eng e).failedTest = false ∧
      (s.bistDone e code).fenced 0 (pgPE e) = s.fenced 0 (pgPE e)) ∧
    (code ≠ 0 → ((s.bistDone e code).eng e).failedTest = true ∧ (s.bistDone e code).fenced 0 (pgPE e) = true) := by
  have hcleared := (s.bistShown e code).bistCleared_verdictKeeps (e := e)
  rw [State.bistDone_of_running hp hrun]
  by_cases hpass : code = 0
  · obtain ⟨hkeeps, hverdict, hfenced⟩ := ((s.bistShown e code).bistCleared e).bistPassed_ends he
    rw [hcleared.fenced_eq, State.fenced_bistShown he] at hfenced
    rw [if_pos hpass]
    exact ⟨hcleared.toTestKeeps.trans hkeeps, fun _ => ⟨hverdict, hfenced⟩, absurd hpass⟩
  · obtain ⟨hkeeps, hfailed⟩ := ((s.bistShown e code).bistCleared e).bistFailed_ends he
    rw [if_neg hpass]
    exact ⟨hcleared.toTestKeeps.trans hkeeps, fun h => absurd h hpass, fun _ => hfailed⟩

end

/-! ### Requests from the bus (R218 to R220) -/

section
variable (s : State) {e : Nat} {wr : Code}

/-- BIST_CTRL: FORCE, then REQ (R219, R220). -/
theorem State.peWrite_bist (v : BitVec 32) :
    s.peWrite (wr32 0 (pgPE e) 0x900 v wr) e =
      (let t := if nbit v.toNat 1 then s.bistForce e else s
       if nbit v.toNat 0 then t.bistReq e else t, true) := by
  have hoff : (wr32 0 (pgPE e) 0x900 v wr).off = 0x900 := rfl
  simp [State.peWrite, peComposes, hoff, done]

section
variable (he : e < 32) (ha : Admits s 0 (pgPE e) 0x900 4 wr)
include he ha

theorem exec_bistReq_of_admits :
    exec (.bistReq e wr) s = .next ((s.bistReq e).journalWrite (wr32 0 (pgPE e) 0x900 1 wr) s) :=
  congrArg Host.Outcome.next (State.unitWrite_pe32_of_accepted (v := 1) (by omega) (by decide) ha (by decide)
    (s.peWrite_bist 1))

theorem exec_bistForce_of_admits :
    exec (.bistForce e wr) s = .next ((s.bistForce e).journalWrite (wr32 0 (pgPE e) 0x900 2 wr) s) :=
  congrArg Host.Outcome.next (State.unitWrite_pe32_of_accepted (v := 2) (by omega) (by decide) ha (by decide)
    (s.peWrite_bist 2))

end

/-- A request joins the rotation's queue (R219). -/
theorem State.bistReq_of_idle (he : e < 32) (hq : s.r (pgPE e) PE.BIST_STAT_QUEUED = 0)
    (hr : s.r (pgPE e) PE.BIST_STAT_RUNNING = 0) :
    s.bistReq e = { s.w (pgPE e) PE.BIST_STAT_QUEUED 1 with
      relief := { s.relief with queued := s.relief.queued ++ [e] } } := by
  simp only [State.bistReq, s.b_of_r_eq_zero hq, s.b_of_r_eq_zero hr, he, he.ne, Bool.or_self, Bool.false_eq_true, false_and,
    if_true, if_false]
  rfl

theorem State.bistReq_of_asked (h : s.r (pgPE e) PE.BIST_STAT_QUEUED = 1 ∨ s.r (pgPE e) PE.BIST_STAT_RUNNING = 1) :
    s.bistReq e = s := by
  have hasked : (s.b (pgPE e) PE.BIST_STAT_QUEUED || s.b (pgPE e) PE.BIST_STAT_RUNNING) = true :=
    Bool.or_eq_true_iff.2 (h.imp s.b_of_r_eq_one s.b_of_r_eq_one)
  exact if_pos hasked

/-- The requests of engine `e` are dropped from the rotation's queue (R220). -/
def State.unasked (s : State) (e : Nat) : State :=
  { s with relief := { s.relief with queued := s.relief.queued.filter (fun n => n != e) } }

/-- The test of a serving engine is forced at once, and its head goes dark (R220). -/
theorem State.bistForce_of_serving (he : e < 32) (hserve : s.servedBy e = e) (hr : s.r (pgPE e) PE.BIST_STAT_RUNNING = 0) :
    s.bistForce e = ((s.unasked e).setEng e { s.eng e with forced := true }).testStart e := by
  have hhere : (!s.fenced 0 (pgPE e) && (e == 32 || s.servedBy e == 32)) = false := by
    simp [hserve, he.ne]
  have hidle : s.b (pgPE e) PE.BIST_STAT_RUNNING = false := s.b_of_r_eq_zero hr
  simp only [State.bistForce, hhere, hidle, Bool.false_eq_true, if_false]
  have hserve' : (s.unasked e).servedBy e = e := hserve
  change ((s.unasked e).setEng e { s.eng e with forced := (s.unasked e).servedBy e == e }).testStart e = _
  rw [hserve', beq_self_eq_true]

/-! ### The start of a test (R213, R216) -/

theorem State.testStart_starts (s : State) (e : Nat) : (s.testStart e).r (pgPE e) PE.BIST_STAT_RUNNING = 1 ∧
    (s.testStart e).r (pgPE e) PE.BIST_STAT_QUEUED = 0 ∧
    (s.testStart e).eng e = { s.eng e with composing := none, startMem := [], bad := [] } := by
  unfold State.testStart
  refine ⟨State.r_w_same _ _ PE.BIST_STAT_RUNNING _ (by decide), ?_, ?_⟩
  · rw [State.r_w_disjoint (f := PE.BIST_STAT_RUNNING) (g := PE.BIST_STAT_QUEUED) _ _ _ (by decide) rfl (by decide),
      State.r_w_same _ _ _ _ (by decide)]
    rfl
  · rw [State.eng_w, State.eng_w, State.eng_setEng_same]

theorem State.testStart_keeps (s : State) (e : Nat) : (s.testStart e).relief = s.relief ∧ (s.testStart e).mem = s.mem ∧
    (s.testStart e).hist = s.hist ∧ (s.testStart e).owners = s.owners := by
  simp [State.testStart]

/-! ### RESUME (R218) -/

theorem State.relResume_resumes (s : State) : s.relResume.relPhase = 3 ∧
    s.relResume.r (pgPE s.relHead) PE.BIST_STAT_RUNNING = 1 ∧ s.relResume.relief.testFailed = false ∧
    s.relResume.mem = s.mem ∧ s.relResume.owners = s.owners := by
  have hhead := s.relHead_lt
  have hpage : pgPE s.relHead ≠ pgPE 32 := by unfold pgPE; omega
  unfold State.relResume
  extract_lets h r t
  obtain ⟨hrun, _⟩ := t.testStart_starts h
  obtain ⟨hrelief, hmem, _, howners⟩ := t.testStart_keeps h
  refine ⟨State.r_w_same _ _ PE.REL_STAT_PHASE _ (by decide), ?_, ?_, ?_, ?_⟩
  · exact (State.r_setReg_ne _ _ (by unfold pgPE; omega) (by decide) (by decide) (by decide) (.inl hpage)).trans hrun
  · rw [State.setPhase, State.w_relief, hrelief]
  · rw [State.setPhase, State.w_mem, hmem]
  · rw [State.setPhase, State.w_owners, howners]

theorem exec_relResume (v : BitVec 32) :
    exec (.relResume v wr) s = .next (s.unitWrite 33 32 0 (pgPE 32) 0x980 4 v.toNat wr) :=
  congrArg Host.Outcome.next (if_pos (show 32 < 33 by decide)).symm

/-- REL_CTRL with RESUME is stored and acts where the parked head's engine may run its test again (R218). -/
theorem State.peWrite_resume (v : BitVec 32) (hbit : v.getLsbD 1 = true) :
    s.peWrite (wr32 0 (pgPE 32) 0x980 v wr) 32 =
      if s.resumeOk then ((s.plain (wr32 0 (pgPE 32) 0x980 v wr)).1.relResume, true)
      else (s.accEventOpen 0 (pgPE 32) Ev.BAD_STATE, false) := by
  have hoff : (wr32 0 (pgPE 32) 0x980 v wr).off = 0x980 := rfl
  have hresume : nbit v.toNat 1 = true := hbit
  have hdrop := Wr.drop_pe s (w := wr32 0 (pgPE 32) 0x980 v wr) (e := 32) rfl rfl (by decide)
  simp [State.peWrite, peComposes, hoff, hresume, done, Wr.require, hdrop]

end

end Sys2Proof.Machine

open Sys2Proof Sys2Proof.Machine

/-- Settles O36: requests and RESUME from the bus by `State.peWrite_bist` and `State.peWrite_resume`, a test's end by what
`State.bistPassed` and `State.bistFailed` keep of what `State.bistShown` writes. -/
theorem selfTestsAreQueuedForcedAndEnd : Obligations.SelfTestsAreQueuedForcedAndEnd := by
  refine ⟨fun s e wr he ha => ⟨fun hq hr _ => ?req, fun hasked => ?asked, fun hserve hr _ => ?force⟩,
    fun s e code hup hrun hcode => ?done, fun s v wr ha hbit => ⟨fun hok => ?resume, fun hbad => ?refused⟩,
    fun s _ => ⟨_, rfl, s.relResume_resumes⟩⟩
  case req => rw [exec_bistReq_of_admits s he ha, State.bistReq_of_idle s he hq hr]
  case asked => rw [exec_bistReq_of_admits s he ha, State.bistReq_of_asked s hasked]
  case force =>
    refine ⟨s.bistForce e, exec_bistForce_of_admits s he ha, ?_⟩
    rw [State.bistForce_of_serving s he hserve hr]
    generalize hasked : (s.unasked e).setEng e { s.eng e with forced := true } = u
    obtain ⟨hrunning, hqueued, heng⟩ := u.testStart_starts e
    obtain ⟨hrelief, hmem, hhist, _⟩ := u.testStart_keeps e
    refine ⟨hrunning, hqueued, ?_⟩
    rw [heng, hrelief, hmem, hhist, ← hasked, State.eng_setEng_same]
    exact ⟨rfl, rfl, rfl, rfl, rfl⟩
  case done =>
    have hstep : exec (.bistDone e code) s = .next (s.bistDone e code) :=
      congrArg Host.Outcome.next (State.onUnit_of_up hup _)
    obtain ⟨hkeeps, hpassed, hfailed⟩ := State.bistDone_ends (code := code) (pe_lt_of_unitUp hup) (State.present_of_up hup) hrun
    obtain ⟨howners, hlocks, hmem⟩ := s.bistShown_frame e code
    exact ⟨_, hstep, fun he => hkeeps.shows he hcode, hpassed, hfailed, hkeeps.mem.trans hmem, hkeeps.owners.trans howners,
      hkeeps.locks.trans hlocks⟩
  case resume =>
    rw [exec_relResume, State.unitWrite_pe32_of_accepted (by decide) (by decide) ha (by decide)
      ((s.peWrite_resume v hbit).trans (if_pos hok))]
  case refused =>
    rw [exec_relResume, State.unitWrite_pe32_of_dropped (by decide) (by decide) ha (by decide)
      ((s.peWrite_resume v hbit).trans (if_neg (by simp [hbad])))]

end

section
/-! SUPPORT. The blitter from the bus: lists submitted to it, QCTRL, the watermark of a RACE list and the end of a pause
(09_blitter R225, R226, R238, R239, R241). -/

namespace Sys2Proof.Machine

variable (s : State) {c : BltClass}

/-! ### The classes -/

@[simp] theorem State.bltCls_setBltCls (c : BltClass) (x : BltCls) : (s.setBltCls c x).bltCls c = x := by
  cases c <;> rfl

@[simp] theorem State.setBltCls_setBltCls (c : BltClass) (x y : BltCls) :
    (s.setBltCls c x).setBltCls c y = s.setBltCls c y := by
  cases c <;> rfl

@[simp] theorem State.regs_setBltCls (c : BltClass) (x : BltCls) : (s.setBltCls c x).regs = s.regs := by
  cases c <;> rfl

theorem State.active_setBltCls (c : BltClass) (x : BltCls) (page : Nat) : (s.setBltCls c x).active page = s.active page := by
  cases c <;> rfl

@[simp] theorem State.bltCls_w (page : Nat) (f : Fld) (x : Nat) (c : BltClass) : (s.w page f x).bltCls c = s.bltCls c := by
  cases c <;> rfl

/-! ### The next list of a class (R226, R241) -/

section
variable {s}

theorem State.bltStart_of_queued {l : BltList} {q : List BltList} (hact : s.active pBLITTER = true)
    (hrun : s.r pBLITTER (clsHalt c) = 0) (hcur : (s.bltCls c).cur = none) (hq : (s.bltCls c).queue = l :: q) :
    s.bltStart c = s.setBltCls c { s.bltCls c with queue := q, cur := some l } := by
  simp [State.bltStart, hact, s.b_of_r_eq_zero hrun, hcur, hq]

theorem State.bltStart_of_busy (h : (s.bltCls c).cur ≠ none ∨ s.r pBLITTER (clsHalt c) = 1) : s.bltStart c = s := by
  refine if_pos ?_
  rcases h with h | h
  · simp [Option.isSome_iff_ne_none.2 h]
  · simp [s.b_of_r_eq_one h]

theorem State.bltStart_of_empty (hq : (s.bltCls c).queue = []) : s.bltStart c = s := by
  simp [State.bltStart, hq]

end

/-! ### Submission (R225, R226, R238) -/

/-- The list a submission of address `a` makes: a RACE list latches the watermark (R238). -/
def State.listAt (s : State) (c : BltClass) (a : Nat) : BltList :=
  { addr := a, pc := a, wmEn := c == .race && s.b pBLITTER BLITTER.RACE_WMARK_EN
    wmHead := s.r pBLITTER BLITTER.RACE_WMARK_HEAD, wmLine := s.r pBLITTER BLITTER.RACE_WMARK_LINE }

section
variable {s} {w : Wr} {a : Nat} (hv : w.value.toNat = a)
include hv

theorem State.bltSubmit_of_bad (h : a % 64 ≠ 0 ∨ s.inPart 1 a 64 = false) : s.bltSubmit w c = w.drop s Ev.BAD_VALUE := by
  refine if_neg ?_
  subst hv
  simpa using fun ha => h.resolve_left (not_not.2 ha)

section
variable (ha : a % 64 = 0) (hp : s.inPart 1 a 64 = true)
include ha hp

theorem State.bltSubmit_of_full (hq : 16 ≤ (s.bltCls c).queue.length) :
    s.bltSubmit w c =
      ((s.statusBit pBLITTER 5).event pBLITTER Ev.QUEUE_FULL (BitVec.ofNat 32 (clsCode c)), false) := by
  simp [State.bltSubmit, Wr.require, hv, ha, hp, hq]

theorem State.bltSubmit_of_room (hq : (s.bltCls c).queue.length < 16) :
    s.bltSubmit w c = done ((s.setBltCls c { s.bltCls c with queue := (s.bltCls c).queue ++ [s.listAt c a] }).bltStart c) := by
  simp [State.bltSubmit, Wr.require, State.listAt, hv, ha, hp, hq]

/-- With nothing running and nothing queued the list runs at once. -/
theorem State.bltSubmit_of_idle (hact : s.active pBLITTER = true) (hrun : s.r pBLITTER (clsHalt c) = 0)
    (hcur : (s.bltCls c).cur = none) (hq : (s.bltCls c).queue = []) :
    s.bltSubmit w c = done (s.setBltCls c { s.bltCls c with cur := some (s.listAt c a) }) := by
  rw [State.bltSubmit_of_room hv ha hp (by simp [hq]), State.bltStart_of_queued (l := s.listAt c a) (q := [])
    ((s.active_setBltCls ..).trans hact) ((State.r_congr (s.regs_setBltCls ..) ..).trans hrun) (by simpa using hcur)
    (by simp [hq])]
  simp [hq.symm]

theorem State.bltSubmit_of_busy (hq : (s.bltCls c).queue.length < 16)
    (h : (s.bltCls c).cur ≠ none ∨ s.r pBLITTER (clsHalt c) = 1) :
    s.bltSubmit w c = done (s.setBltCls c { s.bltCls c with queue := (s.bltCls c).queue ++ [s.listAt c a] }) := by
  rw [State.bltSubmit_of_room hv ha hp hq, State.bltStart_of_busy]
  rw [State.bltCls_setBltCls, State.r_congr (s.regs_setBltCls ..)]
  exact h

end

end

/-! ### From the bus -/

section
variable {s} {w : Wr}

theorem State.blitterWrite_raceSubmit (h : w.off = 0x108) : s.blitterWrite w = s.bltSubmit w .race := if_pos h

theorem State.blitterWrite_batchSubmit (h : w.off = 0x110) : s.blitterWrite w = s.bltSubmit w .batch := by
  unfold State.blitterWrite
  rw [if_neg (by omega), if_pos h]

theorem State.blitterWrite_qctrl (h : w.off = 0x11C) : s.blitterWrite w = done (s.qctrl w.v) := by
  unfold State.blitterWrite
  rw [if_neg (by omega), if_neg (by omega), if_pos h]

end

section
variable {s} {wr : Code}

/-- A submission is a write of 8 bytes to its register (R225). -/
theorem State.writeAt_submit {off : Nat} {v : BitVec 64} (ha : Admits s 0 pBLITTER off 8 wr)
    (ho : off = 0x108 ∨ off = 0x110) :
    s.writeAt 0 pBLITTER off 8 v.toNat wr =
      ((Released s 0 pBLITTER off wr).blitterWrite (wr64 0 pBLITTER off v wr)).1 := by
  have hw : wideBase .kBLITTER off = some off := by rcases ho with rfl | rfl <;> decide
  have hd : deasserts (wr64 0 pBLITTER off v wr) .kBLITTER = false := by rcases ho with rfl | rfl <;> rfl
  exact State.writeAt64_kind (k := .kBLITTER) (n := 0) rfl ha rfl hw hd (by omega) (by decide) (by decide) (by decide)
    (by decide)

theorem exec_raceSubmit_of_admits {v : BitVec 64} (ha : Admits s 0 pBLITTER 0x108 8 wr) :
    exec (.raceSubmit v wr) s =
      .next ((Released s 0 pBLITTER 0x108 wr).bltSubmit (wr64 0 pBLITTER 0x108 v wr) .race).1 :=
  congrArg Host.Outcome.next ((State.writeAt_submit ha (.inl rfl)).trans
    (congrArg Prod.fst (State.blitterWrite_raceSubmit rfl)))

theorem exec_batchSubmit_of_admits {v : BitVec 64} (ha : Admits s 0 pBLITTER 0x110 8 wr) :
    exec (.batchSubmit v wr) s =
      .next ((Released s 0 pBLITTER 0x110 wr).bltSubmit (wr64 0 pBLITTER 0x110 v wr) .batch).1 :=
  congrArg Host.Outcome.next ((State.writeAt_submit ha (.inr rfl)).trans
    (congrArg Prod.fst (State.blitterWrite_batchSubmit rfl)))

theorem State.writeAt_qctrl (ha : Admits s 0 pBLITTER 0x11C 4 wr) (v : BitVec 32) :
    s.writeAt 0 pBLITTER 0x11C 4 v.toNat wr = s.qctrl v.toNat := by
  rw [State.writeAt32_kind (k := .kBLITTER) (n := 0) rfl ha rfl (by decide) rfl (by decide)
    (by decide) (by decide) (by decide) (by decide), State.blockWrite, State.blitterWrite_qctrl rfl, wr32_v, done]

end

/-! ### QCTRL (R241) -/

/-- A class flushed and its halt cleared. -/
def State.flush (s : State) (c : BltClass) : State :=
  (s.setBltCls c (s.bltCls c).flushed).w pBLITTER (clsHalt c) 0

theorem State.qctrl_raceResume : s.qctrl 1 = (s.w pBLITTER BLITTER.STATUS_RACE_HALT 0).bltStart .race := by
  simp +decide [State.qctrl, clsHalt]

theorem State.qctrl_batchResume : s.qctrl 2 = (s.w pBLITTER BLITTER.STATUS_BATCH_HALT 0).bltStart .batch := by
  simp +decide [State.qctrl, clsHalt]

theorem State.qctrl_raceFlush : s.qctrl 4 = s.flush .race := by
  simp +decide [State.qctrl, State.flush]

theorem State.qctrl_batchFlush : s.qctrl 8 = s.flush .batch := by
  simp +decide [State.qctrl, State.flush]

/-- Away from a row boundary a flushed class has no list left. -/
theorem BltCls.flushed_of_boundary {x : BltCls} (h : x.cur = none ∨ ∃ l, x.cur = some l ∧ l.rowAt = 0) :
    x.flushed = { x with queue := [], cur := none } := by
  rcases h with h | ⟨l, h, hrow⟩
  · simp [BltCls.flushed, h]
  · simp [BltCls.flushed, h, hrow]

/-- A rectangle between two rows stops at its next boundary. -/
theorem BltCls.flushed_of_row {x : BltCls} {l : BltList} (h : x.cur = some l) (hrow : l.rowAt ≠ 0) :
    x.flushed = { x with queue := [], cur := some { l with stop := true } } := by
  simp [BltCls.flushed, h, hrow]

/-! ### The watermark (R238) -/

section
variable {s} {l : BltList} (hcur : s.blt.race.cur = some l)
include hcur

/-- The watermark has passed: the list is marked, STATUS, INT_PEND and the count tell it. -/
def State.lateShown (s : State) (l : BltList) : State :=
  (((s.setBltCls .race { s.blt.race with cur := some { l with late := true } }).statusBit pBLITTER 4).pendInt pBLITTER 2).inc
    pBLITTER BLITTER.RACE_LATE_COUNT

theorem State.raceLateEv_of_passed (hbegun : l.begun = true) (hen : l.wmEn = true) (hlate : l.late = false)
    (hpres : s.present 0 (pgHEAD l.wmHead) = true) (hhead : s.enabled (pgHEAD l.wmHead) = true)
    (hbeam : s.beam l.wmHead = l.wmLine) (hline : l.onLine ≠ some (s.hd l.wmHead).frame) :
    s.raceLateEv = (s.lateShown l).event pBLITTER Ev.RACE_LATE (mkDetail [(l.wmHead, 0), (l.wmLine, 16)]) := by
  have hmark : s.bltCur .race (fun l => { l with late := true }) =
      s.setBltCls .race { s.blt.race with cur := some { l with late := true } } := by
    simp [State.bltCur, State.bltCls, hcur]
  simp [State.raceLateEv, State.lateShown, hcur, hbegun, hen, hlate, hpres, hhead, hbeam, hline, hmark]

theorem State.raceLateEv_of_told (h : l.late = true ∨ l.onLine = some (s.hd l.wmHead).frame) : s.raceLateEv = s := by
  rcases h with h | h <;> simp [State.raceLateEv, hcur, h]

end

/-- What an event writes into a history depends on the fence, the time and the part alone. -/
theorem State.hist_event_congr {s t : State} {page : Nat} (code : Nat) (detail : W32)
    (hfen : t.fenced 0 page = s.fenced 0 page) (hstamp : t.stamp = s.stamp) (hup : t.mainUp = s.mainUp)
    (hvar : t.variant = s.variant) (hfc : t.fc = s.fc) (hhist : t.hist = s.hist) :
    (t.event page code detail).hist = (s.event page code detail).hist := by
  have hp : t.present 0 page = s.present 0 page := by unfold State.present; rw [hvar]
  have hof : t.histOf 0 page = s.histOf 0 page := by unfold State.histOf; rw [hhist]
  unfold State.event
  rw [hfen]
  split
  · exact hhist
  · unfold State.accEvent
    rw [hup, hp, hof, hfc, hstamp]
    split
    · simp only [State.setHist, hhist]
    · exact hhist

/-- The bits and the count a passed watermark leaves; no other register or memory of the block changes (R238). -/
theorem State.lateShown_shows (l : BltList) :
    (s.lateShown l).r pBLITTER BLITTER.STATUS_RACE_LATE = 1 ∧ (s.lateShown l).r pBLITTER (INT_PEND_BIT 2) = 1 ∧
    (s.lateShown l).r pBLITTER BLITTER.RACE_LATE_COUNT = (s.r pBLITTER BLITTER.RACE_LATE_COUNT + 1) % 2 ^ 32 := by
  unfold State.lateShown
  generalize hu : s.setBltCls .race _ = u
  have hregs : u.regs = s.regs := by rw [← hu, State.regs_setBltCls]
  obtain ⟨hstatus, hint⟩ := u.raised (bit := 4) (int := 2) (by decide) (by decide) pBLITTER
  refine ⟨?_, ?_, ?_⟩
  · exact (State.r_w_off _ _ _ (by decide)).trans hstatus
  · exact (State.r_w_off _ _ _ (by decide)).trans hint
  · rw [State.inc, State.r_w_same _ _ _ _ (by decide), State.pendInt, State.r_w_off _ _ _ (by decide), State.statusBit,
      State.r_w_off _ _ _ (by decide), State.r_congr hregs]

theorem State.lateShown_writesOnly (l : BltList) :
    WritesOnly (· = pBLITTER) (s.setBltCls .race { s.blt.race with cur := some { l with late := true } }) (s.lateShown l) :=
  ((State.w_writesOnly (f := STATUS_BIT 4) (by decide) (by decide) _ 1).trans
    (State.w_writesOnly (f := INT_PEND_BIT 2) (by decide) (by decide) _ 1)).trans
    (State.w_writesOnly (f := BLITTER.RACE_LATE_COUNT) (by decide) (by decide) _ _)

theorem State.fenced_lateShown (l : BltList) : (s.lateShown l).fenced 0 pBLITTER = s.fenced 0 pBLITTER := by
  rw [State.lateShown, State.inc, State.fenced_w _ (by decide) (by decide) (by decide), State.pendInt,
    State.fenced_w _ (by decide) (by decide) (by decide), State.statusBit, State.fenced_w _ (by decide) (by decide) (by decide)]
  rfl

theorem State.hist_lateShown_event (l : BltList) (code : Nat) (detail : W32) :
    ((s.lateShown l).event pBLITTER code detail).hist = (s.event pBLITTER code detail).hist := by
  have hfen := s.fenced_lateShown l
  have honly := s.lateShown_writesOnly l
  generalize s.lateShown l = t at *
  have hpower : t.pdState 48 = s.pdState 48 :=
    (honly.r_eq (by decide) (by decide) (by decide)).trans (State.r_congr (s.regs_setBltCls ..) ..)
  have hrest := honly.rest
  have hstamp : t.stamp = s.stamp := by
    unfold State.stamp State.pdOn
    rw [hpower, hrest]
    rfl
  exact State.hist_event_congr code detail hfen hstamp (by rw [hrest]; rfl) (by rw [hrest]; rfl) (by rw [hrest]; rfl)
    (by rw [hrest]; rfl)

end Sys2Proof.Machine

open Sys2Proof Sys2Proof.Machine

/-- Settles O46: a submission by the address and the room it finds, QCTRL by the class its bit names, the watermark by
what it shows. -/
theorem blitterListsAreSubmittedResumedAndFlushed : Obligations.BlitterListsAreSubmittedResumedAndFlushed := by
  refine ⟨fun s v wr ha => ?race, fun s v wr ha h64 hp => ?batch, fun s v wr ha hbad => ?bad, fun s wr ha => ?qctrl,
    fun s c l q => State.bltStart_of_queued, fun s l hon hcur hbegun hen hlate hpres hhead hbeam hline => ?late,
    fun s l hon hcur htold => ?told, fun s c f hon hpause => ?pause⟩
  case race =>
    rw [exec_raceSubmit_of_admits ha]
    have hv : (wr64 0 pBLITTER 0x108 v wr).value.toNat = v.toNat := wr64_v ..
    refine ⟨fun h64 hp hact hrun hcur hq => ?_, fun h64 hp hroom hbusy => ?_, fun h64 hp hfull => ?_, fun hbad => ?_⟩
    · rw [State.bltSubmit_of_idle (s := Released s 0 pBLITTER 0x108 wr) (c := .race) hv h64 hp hact hrun hcur hq]
      rfl
    · rw [State.bltSubmit_of_busy (s := Released s 0 pBLITTER 0x108 wr) (c := .race) hv h64 hp hroom hbusy]
      rfl
    · rw [State.bltSubmit_of_full (s := Released s 0 pBLITTER 0x108 wr) (c := .race) hv h64 hp hfull]
      rfl
    · rw [State.bltSubmit_of_bad (s := Released s 0 pBLITTER 0x108 wr) hv hbad]
      rfl
  case batch =>
    rw [exec_batchSubmit_of_admits ha]
    have hv : (wr64 0 pBLITTER 0x110 v wr).value.toNat = v.toNat := wr64_v ..
    refine ⟨fun hact hrun hcur hq => ?_, fun hroom hbusy => ?_, fun hfull => ?_⟩
    · rw [State.bltSubmit_of_idle (s := Released s 0 pBLITTER 0x110 wr) (c := .batch) hv h64 hp hact hrun hcur hq]
      rfl
    · rw [State.bltSubmit_of_busy (s := Released s 0 pBLITTER 0x110 wr) (c := .batch) hv h64 hp hroom hbusy]
      rfl
    · rw [State.bltSubmit_of_full (s := Released s 0 pBLITTER 0x110 wr) (c := .batch) hv h64 hp hfull]
      rfl
  case bad =>
    rw [exec_batchSubmit_of_admits ha, State.bltSubmit_of_bad (s := Released s 0 pBLITTER 0x110 wr) (wr64_v ..) hbad]
    rfl
  case qctrl =>
    refine ⟨congrArg Host.Outcome.next ((State.writeAt_qctrl ha 1).trans s.qctrl_raceResume),
      congrArg Host.Outcome.next ((State.writeAt_qctrl ha 2).trans s.qctrl_batchResume), fun h => ?_, fun h => ?_,
      fun l hl hrow => ?_⟩
    · refine congrArg Host.Outcome.next (((State.writeAt_qctrl ha 4).trans s.qctrl_raceFlush).trans ?_)
      rw [State.flush, BltCls.flushed_of_boundary (x := s.bltCls .race) h]
      rfl
    · refine congrArg Host.Outcome.next (((State.writeAt_qctrl ha 8).trans s.qctrl_batchFlush).trans ?_)
      rw [State.flush, BltCls.flushed_of_boundary (x := s.bltCls .batch) h]
      rfl
    · refine congrArg Host.Outcome.next (((State.writeAt_qctrl ha 8).trans s.qctrl_batchFlush).trans ?_)
      rw [State.flush, BltCls.flushed_of_row (x := s.bltCls .batch) hl hrow]
      rfl
  case late =>
    have hstep : exec .raceLate s = .next s.raceLateEv := congrArg Host.Outcome.next (if_pos hon)
    obtain ⟨hstatus, hint, hcount⟩ := s.lateShown_shows l
    have hhist := s.hist_lateShown_event l Ev.RACE_LATE (mkDetail [(l.wmHead, 0), (l.wmLine, 16)])
    have hshown := (s.lateShown_writesOnly l).rest
    rw [hstep, State.raceLateEv_of_passed hcur hbegun hen hlate hpres hhead hbeam hline]
    generalize s.lateShown l = t at *
    have hr := fun f => State.r_congr (t.regs_event pBLITTER Ev.RACE_LATE (mkDetail [(l.wmHead, 0), (l.wmLine, 16)])) pBLITTER f
    obtain ⟨hist, hev⟩ := t.event_eq pBLITTER Ev.RACE_LATE (mkDetail [(l.wmHead, 0), (l.wmLine, 16)])
    refine ⟨_, rfl, ?_, (hr _).trans hstatus, (hr _).trans hint, (hr _).trans hcount, hhist, ?_⟩
    · rw [hev, hshown]
      rfl
    · rw [hev, hshown]
      exact ⟨rfl, rfl, rfl⟩
  case told =>
    exact congrArg Host.Outcome.next ((if_pos hon).trans (State.raceLateEv_of_told hcur htold))
  case pause =>
    refine congrArg Host.Outcome.next ((if_pos hon).trans ?_)
    simp only [State.paceEnd, State.pacePass, hpause]

end

section
/-! SUPPORT. What the blitter's own work leaves as it was: requests paced and issued, time that passes with them, and the
read of a list's next command (09_blitter R227, R235, R237, R239; 02_address_spaces_memory_data_ports R45, R46). -/

namespace Sys2Proof.Machine

/-! ### The frame -/

/-- From `s` to `t` owners, locks, histories, heads and every register outside page HOST are as they were. -/
structure BltFrame (s t : State) : Prop where
  owners : t.owners = s.owners
  locks : t.locks = s.locks
  hist : t.hist = s.hist
  variant : t.variant = s.variant
  mainUp : t.mainUp = s.mainUp
  heads : t.heads = s.heads
  reg : OtherPages s t pHOST

/-- Class `c` has issued requests: the lists and the palette stay too. -/
structure BltWorks (c : BltClass) (s t : State) : Prop extends BltFrame s t where
  cur : (t.bltCls c).cur = (s.bltCls c).cur
  queue : (t.bltCls c).queue = (s.bltCls c).queue
  pal : t.blt.pal = s.blt.pal

section
variable {c : BltClass} {s t u : State}

theorem BltFrame.refl (s : State) : BltFrame s s := ⟨rfl, rfl, rfl, rfl, rfl, rfl, fun _ _ _ _ _ _ => rfl⟩

theorem BltFrame.trans (h : BltFrame s t) (h' : BltFrame t u) : BltFrame s u where
  owners := h'.owners.trans h.owners
  locks := h'.locks.trans h.locks
  hist := h'.hist.trans h.hist
  variant := h'.variant.trans h.variant
  mainUp := h'.mainUp.trans h.mainUp
  heads := h'.heads.trans h.heads
  reg func page off hp ho hne := (h'.reg func page off hp ho hne).trans (h.reg func page off hp ho hne)

/-- A change of none of the parts the frame speaks of. -/
theorem BltFrame.elsewhere (howners : t.owners = s.owners) (hlocks : t.locks = s.locks) (hhist : t.hist = s.hist)
    (hvariant : t.variant = s.variant) (hmainUp : t.mainUp = s.mainUp) (hheads : t.heads = s.heads)
    (hregs : t.regs = s.regs) : BltFrame s t where
  owners := howners
  locks := hlocks
  hist := hhist
  variant := hvariant
  mainUp := hmainUp
  heads := hheads
  reg _ _ _ _ _ _ := by unfold State.reg; rw [hregs]

theorem BltFrame.works (h : BltFrame s t) (hblt : t.blt = s.blt) : BltWorks c s t where
  toBltFrame := h
  cur := by unfold State.bltCls; rw [hblt]
  queue := by unfold State.bltCls; rw [hblt]
  pal := by rw [hblt]

/-- A change of none of the parts the blitter's frame speaks of, nor of its own state. -/
theorem BltWorks.elsewhere (howners : t.owners = s.owners) (hlocks : t.locks = s.locks) (hhist : t.hist = s.hist)
    (hvariant : t.variant = s.variant) (hmainUp : t.mainUp = s.mainUp) (hheads : t.heads = s.heads)
    (hregs : t.regs = s.regs) (hblt : t.blt = s.blt) : BltWorks c s t :=
  (BltFrame.elsewhere howners hlocks hhist hvariant hmainUp hheads hregs).works hblt

theorem BltWorks.refl (c : BltClass) (s : State) : BltWorks c s s := (BltFrame.refl s).works rfl

theorem BltWorks.trans (h : BltWorks c s t) (h' : BltWorks c t u) : BltWorks c s u where
  toBltFrame := h.toBltFrame.trans h'.toBltFrame
  cur := h'.cur.trans h.cur
  queue := h'.queue.trans h.queue
  pal := h'.pal.trans h.pal

/-! ### What the frame says of the block -/

theorem BltFrame.r_eq (h : BltFrame s t) {page : Nat} {f : Fld} (hp : page < 4096) (ho : f.off < 4096) (hne : page ≠ pHOST) :
    t.r page f = s.r page f := by
  unfold State.r
  rw [h.reg 0 page f.off hp ho (.inr hne)]

theorem BltFrame.present_eq (h : BltFrame s t) (func page : Nat) : t.present func page = s.present func page := by
  unfold State.present
  rw [h.variant]

theorem BltFrame.inPart_eq (h : BltFrame s t) {k : Nat} (hk : k < 5) (a n : Nat) : t.inPart k a n = s.inPart k a n := by
  unfold State.inPart State.partBase State.partBytes
  rw [h.r_eq (by decide) (show 0x100 + 16 * k < 4096 by omega) (by decide),
    h.r_eq (by decide) (show 0x108 + 16 * k < 4096 by omega) (by decide)]

theorem any_range_congr {n : Nat} {p q : Nat → Bool} (h : ∀ k < n, p k = q k) :
    (List.range n).any p = (List.range n).any q := by
  rw [Bool.eq_iff_iff]
  simp only [List.any_eq_true, List.mem_range]
  exact exists_congr fun k => and_congr_right fun hk => by rw [h k hk]

theorem BltFrame.canRead_eq (h : BltFrame s t) (m : Master) (a n : Nat) : t.canRead m a n = s.canRead m a n := by
  unfold State.canRead
  refine any_range_congr fun k hk => ?_
  rw [h.inPart_eq hk]

theorem BltFrame.canWrite_eq (h : BltFrame s t) (m : Master) (a n : Nat) : t.canWrite m a n = s.canWrite m a n := by
  unfold State.canWrite
  refine any_range_congr fun k hk => ?_
  rw [h.inPart_eq hk]

theorem BltFrame.active_eq (h : BltFrame s t) : t.active pBLITTER = s.active pBLITTER := by
  have hon : t.domainOn 0 pBLITTER = s.domainOn 0 pBLITTER := by
    change t.pdOn 41 = s.pdOn 41
    unfold State.pdOn State.pdState
    rw [h.mainUp, h.variant, h.r_eq (by decide) (by decide) (by decide)]
  unfold State.active State.enabled State.b State.fenced
  rw [h.present_eq, hon, h.r_eq (by decide) (by decide) (by decide),
    h.reg 0 pBLITTER 0x008 (by decide) (by decide) (.inr (by decide))]

section
variable (h : BltFrame s t) {n : Nat} (hn : n < 32)
include h hn

theorem BltFrame.r_head_eq {f : Fld} (ho : f.off < 4096) : t.r (pgHEAD n) f = s.r (pgHEAD n) f :=
  h.r_eq (by unfold pgHEAD; omega) ho (by unfold pgHEAD pHOST; omega)

theorem BltFrame.enabled_head_eq : t.enabled (pgHEAD n) = s.enabled (pgHEAD n) := by
  unfold State.enabled State.b
  rw [h.r_head_eq hn (by decide)]

theorem BltFrame.beam_eq : t.beam n = s.beam n := h.r_head_eq hn (by decide)

theorem BltFrame.mode_eq : t.mode n = s.mode n := by
  unfold State.mode
  rw [h.r_head_eq hn (by decide)]

end

end

/-! ### Requests and the time they take -/

section
variable {c : BltClass} (s : State)

@[simp] theorem State.mem_setBltCls (c : BltClass) (x : BltCls) : (s.setBltCls c x).mem = s.mem := by cases c <;> rfl
@[simp] theorem State.pal_setBltCls (c : BltClass) (x : BltCls) : (s.setBltCls c x).blt.pal = s.blt.pal := by cases c <;> rfl

theorem State.setBltCls_frame (c : BltClass) (x : BltCls) : BltFrame s (s.setBltCls c x) := by
  cases c <;> exact .elsewhere rfl rfl rfl rfl rfl rfl rfl

theorem State.setBltCls_works {x : BltCls} (hcur : x.cur = (s.bltCls c).cur) (hqueue : x.queue = (s.bltCls c).queue) :
    BltWorks c s (s.setBltCls c x) where
  toBltFrame := s.setBltCls_frame c x
  cur := by simpa using hcur
  queue := by simpa using hqueue
  pal := by simp

/-- Time that passes moves the counters, the sources' groups and WAKE# alone (R422, R447). -/
theorem State.advanceFc_works (due : Nat) : BltWorks c s (s.advanceFc due) ∧ (s.advanceFc due).mem = s.mem := by
  obtain ⟨groups, host, h⟩ := s.scanSources_eq
  unfold State.advanceFc
  rw [h]
  dsimp only
  split <;> exact ⟨.elsewhere rfl rfl rfl rfl rfl rfl rfl rfl, rfl⟩

theorem State.pacePass_works : BltWorks c s (s.pacePass c) ∧ (s.pacePass c).mem = s.mem := by
  unfold State.pacePass
  split
  · exact ⟨.refl c s, rfl⟩
  · next f _ =>
    obtain ⟨hworks, hmem⟩ := s.advanceFc_works (c := c) f
    exact ⟨hworks.trans (State.setBltCls_works _ hworks.cur.symm hworks.queue.symm), (State.mem_setBltCls ..).trans hmem⟩

theorem State.bltPace_works (n : Nat) : BltWorks c s (s.bltPace c n) ∧ (s.bltPace c n).mem = s.mem := by
  obtain ⟨hpass, hpassmem⟩ := s.pacePass_works (c := c)
  unfold State.bltPace
  extract_lets t x reg pace burst dead b past q r inner last u
  have hu : BltWorks c t u ∧ u.mem = t.mem := by
    show BltWorks c t (if inner = 0 then t else _) ∧ (if inner = 0 then t else _).mem = t.mem
    split
    · exact ⟨.refl c t, rfl⟩
    · exact t.advanceFc_works _
  obtain ⟨hworks, hmem⟩ := hu
  split
  · exact ⟨hpass.trans (State.setBltCls_works _ rfl rfl), (State.mem_setBltCls ..).trans hpassmem⟩
  · exact ⟨(hpass.trans hworks).trans (State.setBltCls_works _ hworks.cur.symm hworks.queue.symm),
      (State.mem_setBltCls ..).trans (hmem.trans hpassmem)⟩

theorem State.snoop_works (a n : Nat) : BltWorks c s (s.snoop a n) ∧ (s.snoop a n).mem = s.mem := by
  unfold State.snoop
  extract_lets hit k
  split
  · exact ⟨.refl c s, rfl⟩
  · refine ⟨BltFrame.works ⟨rfl, rfl, rfl, rfl, rfl, rfl, fun func page off hp ho hne => ?_⟩ rfl, rfl⟩
    refine State.reg_w_ne _ _ fun hk => ?_
    obtain ⟨hf, hpage, _⟩ := regKey_inj hp ho (by decide) (by decide) hk
    exact hne.elim (fun h => h hf) (fun h => h hpage)

/-- A write the blitter may make is in memory, a refused one is not (R45, R46). -/
theorem State.devWrite_works (m : Master) (a : Nat) (bs : List Byte) : BltWorks c s (s.devWrite m a bs) ∧
    (s.devWrite m a bs).mem = if s.canWrite m a bs.length then memWrite s.mem a bs else s.mem := by
  obtain ⟨hworks, _⟩ := s.snoop_works (c := c) a bs.length
  unfold State.devWrite
  split
  · exact ⟨hworks.trans (.elsewhere rfl rfl rfl rfl rfl rfl rfl rfl), rfl⟩
  · exact ⟨.refl c s, rfl⟩

end

end Sys2Proof.Machine
end

section
/-! SUPPORT. A list's next command: its read, the boundary it goes on to, the fault that ends its list (09_blitter R227, R235,
R237, R240). -/

namespace Sys2Proof.Machine

/-! ### Events and the classes -/

section
variable (s : State) (page code : Nat) (detail : W32)

@[simp] theorem State.mem_event : (s.event page code detail).mem = s.mem := by
  obtain ⟨hist, h⟩ := s.event_eq page code detail
  rw [h]

@[simp] theorem State.blt_event : (s.event page code detail).blt = s.blt := by
  obtain ⟨hist, h⟩ := s.event_eq page code detail
  rw [h]

@[simp] theorem State.bltCls_event (c : BltClass) : (s.event page code detail).bltCls c = s.bltCls c := by
  unfold State.bltCls
  rw [State.blt_event]

end

section
variable {s t : State} {c : BltClass} {l : BltList}

/-! ### Command boundaries (R235) -/

/-- A list that was not flushed goes on to the command at `pc`. -/
theorem State.bltTo_of_running (hcur : (s.bltCls c).cur = some l) (hstop : l.stop = false) (pc : Nat) :
    s.bltTo c pc = s.setBltCls c
      { s.bltCls c with cur := some { l with pc := pc, waiting := false, words := [], rowAt := 0 } } := by
  simp [State.bltTo, hcur, hstop]

theorem State.bltNext_of_cur (hcur : (s.bltCls c).cur = some l) : s.bltNext c = s.bltTo c (l.pc + 64) := by
  simp [State.bltNext, hcur]

theorem State.bltCur_of_cur (hcur : (s.bltCls c).cur = some l) (f : BltList → BltList) :
    s.bltCur c f = s.setBltCls c { s.bltCls c with cur := some (f l) } := by
  simp [State.bltCur, hcur]

/-! ### Faults (R240) -/

/-- What a fault of the command at `pc` shows in the block's registers. -/
def State.faultShown (s : State) (c : BltClass) (pc code : Nat) : State :=
  ((s.w pBLITTER (clsHalt c) 1).w pBLITTER BLITTER.FAULT_ADDR pc).w pBLITTER BLITTER.FAULT_INFO_CODE code
    |>.w pBLITTER BLITTER.FAULT_INFO_CLASS (clsCode c)

theorem State.faultShown_shows (s : State) (c : BltClass) (pc : Nat) {code : Nat} (hcode : code < 256) :
    (s.faultShown c pc code).r pBLITTER (clsHalt c) = 1 ∧
    (s.faultShown c pc code).r pBLITTER BLITTER.FAULT_ADDR = pc % 2 ^ 64 ∧
    (s.faultShown c pc code).r pBLITTER BLITTER.FAULT_INFO_CODE = code ∧
    (s.faultShown c pc code).r pBLITTER BLITTER.FAULT_INFO_CLASS = clsCode c := by
  have hhalt : (clsHalt c).off = 0x00C ∧ (clsHalt c).lo + (clsHalt c).w ≤ 64 ∧ (clsHalt c).w = 1 := by cases c <;> decide
  obtain ⟨hoff, hfits, hone⟩ := hhalt
  unfold State.faultShown
  refine ⟨?_, ?_, ?_, ?_⟩
  · rw [State.r_w_off _ _ _ (by rw [hoff]; decide), State.r_w_off _ _ _ (by rw [hoff]; decide),
      State.r_w_off _ _ _ (by rw [hoff]; decide), State.r_w_same _ _ _ _ hfits, hone]
    rfl
  · rw [State.r_w_off _ _ _ (by decide), State.r_w_off _ _ _ (by decide), State.r_w_same _ _ _ _ (by decide)]
  · refine (State.r_w_disjoint _ pBLITTER (f := BLITTER.FAULT_INFO_CLASS) (g := BLITTER.FAULT_INFO_CODE) _
      (by decide) rfl (by decide)).trans ?_
    rw [State.r_w_same _ _ _ _ (by decide)]
    exact Nat.mod_eq_of_lt hcode
  · rw [State.r_w_same _ _ _ _ (by decide)]
    cases c <;> rfl

theorem State.bltFault_of_cur (hcur : (s.bltCls c).cur = some l) (code : Nat) :
    s.bltFault c code =
      ((((s.setBltCls c { s.bltCls c with cur := none }).faultShown c l.pc code).statusBit pBLITTER 3).pendInt pBLITTER 3).event
        pBLITTER Ev.BLT_FAULT (mkDetail [(code, 0), (clsCode c, 8)]) := by
  simp only [State.bltFault, hcur]
  rfl

theorem State.cur_bltFault (code : Nat) : ((s.bltFault c code).bltCls c).cur = none := by
  simp [State.bltFault, State.pendInt, State.statusBit]

/-- A fault tells the command, the code and the class, and halts the class (R240). -/
theorem State.bltFault_faulted {code : Nat} (hcur : (s.bltCls c).cur = some l) (hcode : code < 256) :
    BltFaulted (s.bltFault c code) c l.pc code := by
  have hnone := s.cur_bltFault (c := c) code
  rw [State.bltFault_of_cur hcur] at hnone ⊢
  generalize s.setBltCls c { s.bltCls c with cur := none } = u at *
  obtain ⟨hhalt, haddr, hinfo, hclass⟩ := u.faultShown_shows c l.pc hcode
  generalize u.faultShown c l.pc code = v at *
  obtain ⟨hstatus, hint⟩ := v.raised (bit := 3) (int := 3) (by decide) (by decide) pBLITTER
  have hr := fun f => State.r_congr
    (State.regs_event ((v.statusBit pBLITTER 3).pendInt pBLITTER 3) pBLITTER Ev.BLT_FAULT (mkDetail [(code, 0), (clsCode c, 8)]))
    pBLITTER f
  have hoff : ∀ f : Fld, f.off ≠ 0x00C → f.off ≠ 0x014 →
      ((v.statusBit pBLITTER 3).pendInt pBLITTER 3).r pBLITTER f = v.r pBLITTER f := fun f h h' =>
    (State.r_w_off _ _ 1 h').trans (State.r_w_off _ _ 1 h)
  have hhalt' : ((v.statusBit pBLITTER 3).pendInt pBLITTER 3).r pBLITTER (clsHalt c) = v.r pBLITTER (clsHalt c) := by
    cases c <;> exact (State.r_w_off _ _ 1 (by decide)).trans
      (State.r_w_disjoint v pBLITTER (f := STATUS_BIT 3) 1 (by decide) rfl (by decide))
  exact ⟨hnone, (hr _).trans (hhalt'.trans hhalt), (hr _).trans ((hoff _ (by decide) (by decide)).trans haddr),
    (hr _).trans ((hoff _ (by decide) (by decide)).trans hinfo), (hr _).trans ((hoff _ (by decide) (by decide)).trans hclass),
    (hr _).trans hstatus, (hr _).trans hint⟩

theorem State.mem_bltFault (code : Nat) : (s.bltFault c code).mem = s.mem := by
  simp [State.bltFault, State.pendInt, State.statusBit]

theorem State.pal_bltFault (code : Nat) : (s.bltFault c code).blt.pal = s.blt.pal := by
  simp [State.bltFault, State.pendInt, State.statusBit]

/-- A refused access ends the list with code 6 (R46, R240). -/
theorem State.bltDeny_faulted (hcur : (s.bltCls c).cur = some l) (a : Nat) : BltFaulted (s.bltDeny c a) c l.pc 6 :=
  State.bltFault_faulted (by simpa using hcur) (by decide)

theorem State.mem_bltDeny (a : Nat) : (s.bltDeny c a).mem = s.mem := by
  rw [State.bltDeny, State.mem_bltFault, State.mem_event]

end

/-! ### The read of a command (R227, R237, R238) -/

section
variable {s u : State} {c : BltClass} {l : BltList} {op : Nat}

/-- The block once the next command of list `l` has been read. -/
def State.bltRead (s : State) (c : BltClass) (l : BltList) : State := ((s.snoop l.pc 64).bltCur c s.bltBegin).bltPace c 1

/-- In `u` list `l`, read in `s`, has its command in hand, and nothing of it is done. -/
structure InHand (s : State) (c : BltClass) (l : BltList) (u : State) : Prop extends BltFrame s u where
  mem : u.mem = s.mem
  pal : u.blt.pal = s.blt.pal
  queue : (u.bltCls c).queue = (s.bltCls c).queue
  cur : (u.bltCls c).cur = some (s.bltBegin l)

theorem State.bltBegin_keeps (s : State) (l : BltList) : (s.bltBegin l).pc = l.pc ∧ (s.bltBegin l).rowAt = l.rowAt ∧
    (s.bltBegin l).stop = l.stop ∧ (s.bltBegin l).addr = l.addr ∧ (s.bltBegin l).wmEn = l.wmEn ∧
    (s.bltBegin l).late = l.late := by
  unfold State.bltBegin
  split <;> exact ⟨rfl, rfl, rfl, rfl, rfl, rfl⟩

theorem State.bltRead_inHand (hcur : (s.bltCls c).cur = some l) : InHand s c l (s.bltRead c l) := by
  obtain ⟨hsnoop, hsnoopmem⟩ := s.snoop_works (c := c) l.pc 64
  unfold State.bltRead
  rw [State.bltCur_of_cur (hsnoop.cur.trans hcur)]
  generalize s.snoop l.pc 64 = t at *
  obtain ⟨hpace, hpacemem⟩ := (t.setBltCls c { t.bltCls c with cur := some (s.bltBegin l) }).bltPace_works (c := c) 1
  refine ⟨(hsnoop.toBltFrame.trans (t.setBltCls_frame c _)).trans hpace.toBltFrame, ?_, ?_, ?_, ?_⟩
  · rw [hpacemem, State.mem_setBltCls, hsnoopmem]
  · rw [hpace.pal, State.pal_setBltCls, hsnoop.pal]
  · rw [hpace.queue, State.bltCls_setBltCls, hsnoop.queue]
  · rw [hpace.cur, State.bltCls_setBltCls]

theorem State.onBlitter_of_active (hact : s.active pBLITTER = true) (f : State → State) : s.onPage 0 pBLITTER f = f s := by
  simp only [State.active, Bool.and_eq_true] at hact
  exact if_pos hact.2

/-- The next command, once read: its effect, or the fault of its read or of its first word (R227, R240). -/
theorem State.bltCommand_of_next (h : NextCommand s c l op) {mine : Nat}
    (hmine : op % 256 = mine ∨ mine = 0 ∧ bltKnown (op % 256) = false) (err : Bool) (eff : State → List Nat → State) :
    s.bltCommand c mine err eff =
      if err then (s.bltRead c l).bltFault c 7
      else if 256 ≤ op ∨ bltKnown (op % 256) = false then (s.bltRead c l).bltFault c 1
      else eff (s.bltRead c l) (s.bltWords l.pc) := by
  obtain ⟨hact, hrun, hcur, hpause, hwait, hrow, _, htrain, hrace, hread, hop⟩ := h
  have hidle : s.r pMEMCTL MEMCTL.TRAIN_STAT_RUNNING = 0 := by simpa [State.b] using htrain
  have hbatch : (c == .batch && s.raceRunnable) = false := by
    cases c with
    | race => rfl
    | batch => simpa using hrace rfl
  have hmine' : (op % 256 == mine || (mine == 0 && !bltKnown (op % 256))) = true := by
    simpa using hmine
  simp only [State.bltCommand, hcur, hact, s.b_of_r_eq_zero hrun, hpause, hwait, hbatch, hrow, hread, hop, hmine',
    State.memWait_of_idle hidle, Bool.not_true, Bool.or_self, Option.isSome_none, Bool.false_eq_true, ne_eq,
    not_true_eq_false, if_false, Bool.not_eq_true']
  rfl

/-- The fault of a command in hand. -/
theorem InHand.fault (h : InHand s c l u) {code : Nat} (hcode : code < 256) :
    BltFaulted (u.bltFault c code) c l.pc code ∧ (u.bltFault c code).mem = s.mem := by
  have hfault := State.bltFault_faulted h.cur hcode
  rw [(s.bltBegin_keeps l).1] at hfault
  exact ⟨hfault, (State.mem_bltFault code).trans h.mem⟩

/-- A list that has its begun form in a state the frame leads to goes on (R235). -/
theorem BltFrame.goesOn (h : BltFrame s u) (hcur : (u.bltCls c).cur = some (s.bltBegin l)) (hstop : l.stop = false)
    (pc : Nat) : BltGoesOn s (u.bltTo c pc) c l pc ∧ (u.bltTo c pc).mem = u.mem := by
  obtain ⟨_, _, hkeep, _⟩ := s.bltBegin_keeps l
  rw [State.bltTo_of_running hcur (hkeep.trans hstop)]
  have hframe := h.trans (u.setBltCls_frame c
    { u.bltCls c with cur := some { s.bltBegin l with pc := pc, waiting := false, words := [], rowAt := 0 } })
  exact ⟨⟨by simp, hframe.owners, hframe.locks, fun _ => ⟨hframe.reg, hframe.hist⟩⟩, State.mem_setBltCls ..⟩

theorem BltFrame.next_eq (hcur : (u.bltCls c).cur = some (s.bltBegin l)) : u.bltNext c = u.bltTo c (l.pc + 64) := by
  rw [State.bltNext_of_cur hcur, (s.bltBegin_keeps l).1]

theorem InHand.next (h : InHand s c l u) (hstop : l.stop = false) :
    BltGoesOn s (u.bltNext c) c l (l.pc + 64) ∧ (u.bltNext c).mem = s.mem := by
  obtain ⟨hgoes, hmem⟩ := h.goesOn h.cur hstop (l.pc + 64)
  rw [BltFrame.next_eq h.cur]
  exact ⟨hgoes, hmem.trans h.mem⟩

end

end Sys2Proof.Machine
end

section
/-! SUPPORT. The geometry of a rectangle command: the units and bytes of its rows, and why rows done in scan order never
read what an earlier one wrote (09_blitter R228, R229, R236). -/

namespace Sys2Proof.Machine

/-! ### Formats and units (R228, R229) -/

/-- Bits per pixel of a destination format. -/
theorem bltBits_of_dest {fmt : Nat} (h : fmt ≤ 5) : bltBits fmt = 2 ∧ fmt = 0 ∨ bltBits fmt = 4 ∧ fmt = 1 ∨
    bltBits fmt = 8 ∨ bltBits fmt = 16 ∨ bltBits fmt = 32 := by
  revert fmt
  decide

/-- A rectangle that passes the checks of R229 and R236. -/
structure Rect.Sound (r : Rect) : Prop where
  dfmt : r.dfmt ≤ 5
  copy : r.op = 1 → r.sfmt = r.dfmt
  aligned : pixAligned r.dfmt r.dx r.w = true
  dpitch : ceilDiv ((r.dx + r.w) * bltBits r.dfmt) 8 ≤ r.dpitch
  spitch : r.src = true → ceilDiv ((r.sx + r.w) * bltBits r.sfmt) 8 ≤ r.spitch
  overlap : r.badOverlap = false
  w_pos : r.w ≠ 0
  h_pos : r.h ≠ 0

theorem Rect.fault_eq_none {r : Rect} (h : r.fault = none) :
    r.dfmt ≤ 5 ∧ (r.op = 1 → r.sfmt = r.dfmt) ∧ pixAligned r.dfmt r.dx r.w = true ∧
    ceilDiv ((r.dx + r.w) * bltBits r.dfmt) 8 ≤ r.dpitch ∧
    (r.src = true → ceilDiv ((r.sx + r.w) * bltBits r.sfmt) 8 ≤ r.spitch) := by
  unfold Rect.fault at h
  extract_lets fmtOk alOk pitchOk at h
  split_ifs at h with hfmt hal hpitch
  rw [Bool.not_eq_true', Bool.not_eq_false] at hfmt hal hpitch
  simp only [alOk, Bool.and_eq_true] at hal
  simp only [pitchOk, Bool.and_eq_true, Bool.or_eq_true, Bool.not_eq_true', decide_eq_true_eq] at hpitch
  obtain ⟨⟨_, haligned⟩, _⟩ := hal
  obtain ⟨hd, hs⟩ := hpitch
  refine ⟨?_, fun hop => ?_, haligned, hd, fun hsrc => hs.resolve_left (by simp [hsrc])⟩
  · simp only [fmtOk] at hfmt
    split_ifs at hfmt <;> simp at hfmt <;> omega
  · simp only [fmtOk, hop, if_true, Bool.and_eq_true, beq_iff_eq] at hfmt
    exact hfmt.1

theorem rectFault_eq_none {ws : List Nat} (h : rectFault ws = none) (hw : (rectOf ws).w ≠ 0) (hh : (rectOf ws).h ≠ 0) :
    (rectOf ws).Sound := by
  unfold rectFault at h
  simp only [hw, hh, or_self, if_false] at h
  split at h
  · cases h
  · split at h
    · cases h
    · next hfault =>
      split at h
      · cases h
      · next hover =>
        obtain ⟨hdfmt, hcopy, hal, hd, hs⟩ := Rect.fault_eq_none hfault
        exact ⟨hdfmt, hcopy, hal, hd, hs, Bool.eq_false_iff.2 hover, hw, hh⟩

/-- The codes of the checks are 1 to 5 (table "Blitter fault codes"). -/
theorem rectFault_lt {ws : List Nat} {code : Nat} (h : rectFault ws = some code) : code < 256 := by
  have hfault : ∀ r : Rect, ∀ code, r.fault = some code → code < 256 := by
    intro r code h
    unfold Rect.fault at h
    extract_lets fmtOk alOk pitchOk at h
    split_ifs at h <;> cases h <;> decide
  unfold rectFault at h
  dsimp only at h
  split at h
  · cases h; decide
  · split at h
    · cases h
    · split at h
      · next code' hcode => cases h; exact hfault _ _ hcode
      · split at h <;> cases h
        decide

section
variable {r : Rect} (hr : r.Sound)
include hr

/-- The units of a row make up its bytes, and there is one at least. -/
theorem Rect.Sound.units : r.units * r.unitBytes = ceilDiv (r.w * bltBits r.dfmt) 8 ∧ r.units ≠ 0 := by
  have hal := hr.aligned
  have hw := hr.w_pos
  unfold Rect.units Rect.unitBytes Rect.unit ceilDiv
  rcases bltBits_of_dest hr.dfmt with ⟨h, hf⟩ | ⟨h, hf⟩ | h | h | h <;> rw [h]
  · simp only [pixAligned, hf, if_true, Bool.and_eq_true, beq_iff_eq] at hal
    simp
    omega
  · simp only [pixAligned, hf, one_ne_zero, if_true, if_false, Bool.and_eq_true, beq_iff_eq] at hal
    simp
    omega
  all_goals
    simp
    omega

/-- A row of whole-byte pixels holds its pixels' bytes. -/
theorem Rect.Sound.rowBytes (h8 : ¬ bltBits r.dfmt < 8) : ceilDiv (r.w * bltBits r.dfmt) 8 = r.w * (bltBits r.dfmt / 8) := by
  unfold ceilDiv
  rcases bltBits_of_dest hr.dfmt with ⟨h, hf⟩ | ⟨h, hf⟩ | h | h | h <;> rw [h] at h8 ⊢ <;> omega

end

/-! ### Where the rows lie (R228, R236) -/

section
variable (r : Rect)

theorem Rect.drow_start (j : Nat) : (r.drow j).1 = r.dspan.1 + j * r.dpitch := by
  simp only [Rect.drow, Rect.dspan, rectSpan, Nat.add_mul]
  omega

theorem Rect.srow_start (j : Nat) : (r.srow j).1 = r.sspan.1 + j * r.spitch := by
  simp only [Rect.srow, Rect.sspan, rectSpan, Nat.add_mul]
  omega

/-- A row of a rectangle ends within the rectangle's span. -/
theorem row_end_le_span {base pitch x y w h bpp j : Nat} (hj : j < h) :
    base + (y + j) * pitch + x * bpp / 8 + ceilDiv (w * bpp) 8 ≤ (rectSpan base pitch x y w h bpp).2 + 1 := by
  have hrow : (y + j) * pitch ≤ (y + h - 1) * pitch := Nat.mul_le_mul_right _ (by omega)
  simp only [rectSpan]
  unfold ceilDiv at *
  rw [Nat.add_mul x w]
  omega

theorem row_bytes_le_pitch {x w bpp pitch : Nat} (h : ceilDiv ((x + w) * bpp) 8 ≤ pitch) : ceilDiv (w * bpp) 8 ≤ pitch := by
  unfold ceilDiv at *
  rw [Nat.add_mul] at h
  omega

/-- What row `i` writes is no byte of row `j`, of the destination or of the source. -/
def Rect.apart (r : Rect) (i j : Nat) : Prop :=
  ((r.drow i).1 + (r.drow i).2 ≤ (r.drow j).1 ∨ (r.drow j).1 + (r.drow j).2 ≤ (r.drow i).1) ∧
  (r.src = true → (r.drow i).1 + (r.drow i).2 ≤ (r.srow j).1 ∨ (r.srow j).1 + (r.srow j).2 ≤ (r.drow i).1)

/-- `i` rows up lie `i` pitches up. -/
theorem mul_pitch_lt {i j pitch n : Nat} (h : i < j) (hn : n ≤ pitch) : i * pitch + n ≤ j * pitch := by
  have := Nat.mul_le_mul_right pitch h
  rw [Nat.succ_mul] at this
  omega

/-- Without an overlap no row of the destination touches a row of the source. -/
theorem Rect.srow_apart_of_disjoint {i j : Nat} (hi : i < r.h) (hj : j < r.h) (hsrc : r.src = true)
    (hover : r.overlaps = false) :
    (r.drow i).1 + (r.drow i).2 ≤ (r.srow j).1 ∨ (r.srow j).1 + (r.srow j).2 ≤ (r.drow i).1 := by
  have hd : (r.drow i).1 + (r.drow i).2 ≤ r.dspan.2 + 1 := row_end_le_span hi
  have hs : (r.srow j).1 + (r.srow j).2 ≤ r.sspan.2 + 1 := row_end_le_span hj
  have hd0 := r.drow_start i
  have hs0 := r.srow_start j
  simp only [Rect.overlaps, hsrc, Bool.true_and, Bool.and_eq_false_iff, decide_eq_false_iff_not, not_le] at hover
  omega

end

section
variable {r : Rect} (hr : r.Sound)
include hr

/-- Two rows of a destination share no byte. -/
theorem Rect.Sound.drows_apart {i j : Nat} (hij : i ≠ j) :
    (r.drow i).1 + (r.drow i).2 ≤ (r.drow j).1 ∨ (r.drow j).1 + (r.drow j).2 ≤ (r.drow i).1 := by
  have hbytes : ∀ k, (r.drow k).2 ≤ r.dpitch := fun _ => row_bytes_le_pitch hr.dpitch
  rw [r.drow_start, r.drow_start]
  rcases Nat.lt_or_gt_of_ne hij with h | h
  · exact .inl (by have := mul_pitch_lt h (hbytes i); omega)
  · exact .inr (by have := mul_pitch_lt h (hbytes j); omega)

/-- With an overlap the rows lie one pitch apart in both rectangles, and have as many bytes (R236). -/
theorem Rect.Sound.alike_of_overlap (hover : r.overlaps = true) :
    r.dpitch = r.spitch ∧ r.dfmt = r.sfmt := by
  have h := hr.overlap
  simp only [Rect.badOverlap, hover, Bool.true_and, Bool.not_eq_false', Bool.and_eq_true, beq_iff_eq] at h
  obtain ⟨⟨_, hpitch⟩, hfmt⟩ := h
  exact ⟨hpitch, hfmt⟩

/-- Forward: with the destination not above the source, a row writes below every later source row. -/
theorem Rect.Sound.srow_apart_of_forward {i j : Nat} (hij : i < j) (hover : r.overlaps = true)
    (hdir : r.dspan.1 ≤ r.sspan.1) : (r.drow i).1 + (r.drow i).2 ≤ (r.srow j).1 := by
  obtain ⟨hpitch, _⟩ := hr.alike_of_overlap hover
  have hbytes : (r.drow i).2 ≤ r.dpitch := row_bytes_le_pitch hr.dpitch
  have hrows := mul_pitch_lt hij hbytes
  rw [r.drow_start, r.srow_start, ← hpitch]
  omega

/-- Backward: with the destination above the source, a row writes above every source row before it. -/
theorem Rect.Sound.srow_apart_of_backward {i j : Nat} (hij : j < i) (hsrc : r.src = true) (hover : r.overlaps = true)
    (hdir : r.sspan.1 < r.dspan.1) : (r.srow j).1 + (r.srow j).2 ≤ (r.drow i).1 := by
  obtain ⟨hpitch, _⟩ := hr.alike_of_overlap hover
  have hbytes : (r.srow j).2 ≤ r.spitch := row_bytes_le_pitch (hr.spitch hsrc)
  have hrows := mul_pitch_lt hij hbytes
  rw [r.drow_start, r.srow_start, hpitch]
  omega

/-- In scan order no row touches what a later one reads (R236). -/
theorem Rect.Sound.rows_apart : r.rows.Pairwise r.apart := by
  by_cases hback : r.backward = true
  · have hdir := hback
    simp only [Rect.backward, Bool.and_eq_true, decide_eq_true_eq] at hdir
    obtain ⟨hover, hdir⟩ := hdir
    rw [Rect.rows, if_pos hback, List.pairwise_reverse]
    refine List.pairwise_lt_range.imp fun {j i} hij => ⟨hr.drows_apart (Nat.ne_of_gt hij), fun hsrc => .inr ?_⟩
    exact hr.srow_apart_of_backward hij hsrc hover hdir
  · rw [Rect.rows, if_neg hback]
    refine List.pairwise_lt_range.imp_of_mem fun {i j} hi hj hij => ⟨hr.drows_apart (Nat.ne_of_lt hij), fun hsrc => ?_⟩
    by_cases hover : r.overlaps = true
    · simp only [Rect.backward, hover, Bool.true_and, decide_eq_true_eq, not_lt] at hback
      exact .inl (hr.srow_apart_of_forward hij hover hback)
    · exact r.srow_apart_of_disjoint (List.mem_range.1 hi) (List.mem_range.1 hj) hsrc (Bool.eq_false_iff.2 hover)

end

end Sys2Proof.Machine
end

section
/-! SUPPORT. What a rectangle command leaves in memory: one row, part of a row, and all rows of a step in scan order
(09_blitter R230 to R232, R236, R237, R240). -/

namespace Sys2Proof.Machine

/-! ### Bytes read and rows packed -/

@[simp] theorem length_memRead (m : List Host.Cell) (a n : Nat) : (memRead m a n).length = n := by
  induction n generalizing a with
  | zero => rfl
  | succ n ih => simp [memRead, ih]

/-- A write leaves what is read outside it alone. -/
theorem memRead_memWrite_outside (m : List Host.Cell) {a x n : Nat} (bs : List Byte)
    (h : a + bs.length ≤ x ∨ x + n ≤ a) : memRead (memWrite m a bs) x n = memRead m x n := by
  induction n generalizing x with
  | zero => rfl
  | succ n ih => rw [memRead, memRead, memByte_memWrite_outside bs m (by omega), ih (by omega)]

@[simp] theorem length_leBytes (n v : Nat) : (leBytes n v).length = n := by
  induction n generalizing v with
  | zero => rfl
  | succ n ih => simp [leBytes, ih]

theorem length_flatMap_const {α β : Type} (l : List α) (f : α → List β) (n : Nat) (h : ∀ a ∈ l, (f a).length = n) :
    (l.flatMap f).length = l.length * n := by
  rw [List.length_flatMap, List.map_congr_left h, List.map_const', List.sum_replicate, smul_eq_mul]

section
variable {r : Rect} (hr : r.Sound)
include hr

/-- A packed row has the bytes of its pixels. -/
theorem Rect.Sound.length_packRow {old : List Byte} (hold : old.length = ceilDiv (r.w * bltBits r.dfmt) 8)
    (px : Nat → Option Nat) : (packRow (bltBits r.dfmt) r.w old px).length = ceilDiv (r.w * bltBits r.dfmt) 8 := by
  unfold packRow
  split
  · simp
  · next h8 =>
    have hbytes := hr.rowBytes h8
    rw [length_flatMap_const _ _ (bltBits r.dfmt / 8), List.length_range, hbytes]
    intro i hi
    split
    · simp
    · have hfit : (i + 1) * (bltBits r.dfmt / 8) ≤ r.w * (bltBits r.dfmt / 8) :=
        Nat.mul_le_mul_right _ (by have := List.mem_range.1 hi; omega)
      rw [Nat.succ_mul] at hfit
      simp [hold, hbytes]
      omega

theorem Rect.Sound.length_bltRow (s : State) (j : Nat) : (s.bltRow r j).2.length = (r.drow j).2 := by
  unfold State.bltRow
  dsimp only
  split
  · next hop => simp [Rect.src, hop, Rect.srow, Rect.drow, hr.copy hop]
  · exact hr.length_packRow (by simp [Rect.drow]) _

end

theorem State.bltRow_fst (s : State) (r : Rect) (j : Nat) : (s.bltRow r j).1 = (r.drow j).1 := by
  unfold State.bltRow
  dsimp only
  split <;> rfl

/-! ### A row looks at its source, at its old bytes and at the palette -/

section
variable {s u : State} {r : Rect} {j : Nat}

theorem State.bltPixel_congr (hpal : u.blt.pal = s.blt.pal) : u.bltPixel r = s.bltPixel r := by
  have hcolour : u.bltColour r = s.bltColour r := by
    unfold State.bltColour State.bltPalette
    rw [hpal]
  unfold State.bltPixel
  rw [hcolour]

theorem State.bltRow_congr (hpal : u.blt.pal = s.blt.pal)
    (hold : memRead u.mem (r.drow j).1 (r.drow j).2 = memRead s.mem (r.drow j).1 (r.drow j).2)
    (hsrc : r.src = true → memRead u.mem (r.srow j).1 (r.srow j).2 = memRead s.mem (r.srow j).1 (r.srow j).2) :
    u.bltRow r j = s.bltRow r j := by
  have hread : (if r.src then memRead u.mem (r.srow j).1 (r.srow j).2 else []) =
      if r.src then memRead s.mem (r.srow j).1 (r.srow j).2 else [] := by
    split
    · next h => exact hsrc h
    · rfl
  simp only [State.bltRow, hread, hold, State.bltPixel_congr hpal]

/-- A row written leaves the next rows as they would have been. -/
theorem State.bltRow_after {i : Nat} (hr : r.Sound) (hap : r.apart i j) (hpal : u.blt.pal = s.blt.pal)
    (hmem : u.mem = memWrite s.mem (s.bltRow r i).1 (s.bltRow r i).2) : u.bltRow r j = s.bltRow r j := by
  obtain ⟨hdest, hsrc⟩ := hap
  have hlen := hr.length_bltRow s i
  have hstart := s.bltRow_fst r i
  refine State.bltRow_congr hpal ?_ fun h => ?_
  · rw [hmem, memRead_memWrite_outside _ _ (by rw [hlen, hstart]; exact hdest)]
  · rw [hmem, memRead_memWrite_outside _ _ (by rw [hlen, hstart]; exact hsrc h)]

end

/-! ### Refusals -/

section
variable {s u : State} {r : Rect} {j : Nat}

theorem BltFrame.bltRowDenied_eq (h : BltFrame s u) (r : Rect) (j : Nat) : u.bltRowDenied r j = s.bltRowDenied r j := by
  have hunit : u.bltUnitDenied r j = s.bltUnitDenied r j := by
    funext k
    unfold State.bltUnitDenied
    simp only [h.canRead_eq, h.canWrite_eq]
  unfold State.bltRowDenied
  rw [hunit]

/-- The blitter writes PASTURE alone (R45). -/
theorem State.canWrite_blitter (s : State) (a n : Nat) : s.canWrite .blitter a n = s.inPart 1 a n := by
  simp [State.canWrite, mayWrite, List.any_eq]

theorem Rect.place_surj {r : Rect} {i : Nat} (hi : i < r.units) : ∃ k < r.units, r.place k = i := by
  unfold Rect.place
  split
  · exact ⟨r.units - 1 - i, by omega, by omega⟩
  · exact ⟨i, hi, rfl⟩

/-- Where no unit of a row is refused, the whole row may be written. -/
theorem State.canWrite_row (hr : r.Sound) (h : s.bltRowDenied r j = none) :
    s.canWrite .blitter (r.drow j).1 (r.drow j).2 = true := by
  obtain ⟨hbytes, hne⟩ := hr.units
  have hunit : ∀ i < r.units, s.inPart 1 ((r.drow j).1 + i * r.unitBytes) r.unitBytes = true := by
    intro i hi
    obtain ⟨k, hk, rfl⟩ := r.place_surj hi
    have hden := List.findSome?_eq_none_iff.1 h k (List.mem_range.2 hk)
    simp only [Option.map_eq_none_iff, State.bltUnitDenied] at hden
    split_ifs at hden with _ hwrite
    rw [← State.canWrite_blitter]
    simpa using hwrite
  have hrow : (r.drow j).2 = r.units * r.unitBytes := hbytes.symm
  have hlast : (r.units - 1) * r.unitBytes + r.unitBytes = r.units * r.unitBytes := by
    rw [← Nat.succ_mul, Nat.succ_eq_add_one, Nat.sub_add_cancel (by omega)]
  have hlo := hunit 0 (by omega)
  have hhi := hunit (r.units - 1) (by omega)
  rw [State.canWrite_blitter, hrow]
  simp only [State.inPart, decide_eq_true_eq, Nat.zero_mul] at hlo hhi ⊢
  omega

end

/-! ### Part of a row, and the whole of it -/

section
variable {c : BltClass} {s u : State} {r : Rect} {j n : Nat}

/-- The bytes the first `n` units of a row in scan order write, and where (R236). -/
def State.bltRowBytes (s : State) (r : Rect) (j n : Nat) : Nat × List Byte :=
  let q := s.bltRow r j
  let k := n * r.unitBytes
  if r.backward then (q.1 + (q.2.length - k), q.2.drop (q.2.length - k)) else (q.1, q.2.take k)

theorem State.bltRowPart_works (s : State) (r : Rect) (j n : Nat) : BltWorks c s (s.bltRowPart r j n) ∧
    (s.bltRowPart r j n).mem =
      if n = 0 then s.mem
      else if s.canWrite .blitter (s.bltRowBytes r j n).1 (s.bltRowBytes r j n).2.length
        then memWrite s.mem (s.bltRowBytes r j n).1 (s.bltRowBytes r j n).2 else s.mem := by
  unfold State.bltRowPart
  by_cases hn : n = 0
  · rw [if_pos hn, if_pos hn]
    exact ⟨.refl c s, rfl⟩
  rw [if_neg hn, if_neg hn]
  extract_lets q k lo hi t
  have ht : BltWorks c s t ∧ t.mem = s.mem := by
    show BltWorks c s (if r.src then _ else s) ∧ (if r.src then _ else s : State).mem = s.mem
    split
    · exact s.snoop_works ..
    · exact ⟨.refl c s, rfl⟩
  obtain ⟨hread, hreadmem⟩ := ht
  have hwrite : (if r.backward then t.devWrite .blitter (q.1 + (q.2.length - k)) (q.2.drop (q.2.length - k))
      else t.devWrite .blitter q.1 (q.2.take k)) = t.devWrite .blitter (s.bltRowBytes r j n).1 (s.bltRowBytes r j n).2 := by
    unfold State.bltRowBytes
    dsimp only
    split <;> rfl
  obtain ⟨hworks, hmem⟩ := t.devWrite_works (c := c) .blitter (s.bltRowBytes r j n).1 (s.bltRowBytes r j n).2
  rw [hwrite, hmem, hreadmem, hread.canWrite_eq]
  exact ⟨hread.trans hworks, rfl⟩

/-- What part of a row leaves in memory hangs on memory, palette and rights alone. -/
theorem BltFrame.mem_bltRowPart (h : BltFrame s u) (hpal : u.blt.pal = s.blt.pal) (hmem : u.mem = s.mem) (r : Rect)
    (j n : Nat) : (u.bltRowPart r j n).mem = (s.bltRowPart r j n).mem := by
  have hrow : u.bltRowBytes r j n = s.bltRowBytes r j n := by
    unfold State.bltRowBytes
    rw [State.bltRow_congr hpal (by rw [hmem]) fun _ => by rw [hmem]]
  rw [(u.bltRowPart_works (c := .race) r j n).2, (s.bltRowPart_works (c := .race) r j n).2, hrow, hmem, h.canWrite_eq]

/-- A row none of whose accesses is refused is written whole. -/
theorem State.mem_bltRowPart_whole (hr : r.Sound) (h : s.bltRowDenied r j = none) :
    (s.bltRowPart r j r.units).mem = memWrite s.mem (s.bltRow r j).1 (s.bltRow r j).2 := by
  obtain ⟨hbytes, hne⟩ := hr.units
  have hlen : (s.bltRow r j).2.length = r.units * r.unitBytes := (hr.length_bltRow s j).trans hbytes.symm
  have hwhole : s.bltRowBytes r j r.units = s.bltRow r j := by
    unfold State.bltRowBytes
    dsimp only
    rw [← hlen, Nat.sub_self, List.take_length]
    split <;> rfl
  rw [(s.bltRowPart_works (c := .race) r j r.units).2, if_neg hne, hwhole, hr.length_bltRow, s.bltRow_fst,
    if_pos (State.canWrite_row hr h)]

/-! ### The rows of a step -/

/-- Rows in scan order, no access refused: memory takes them as they stood before the first (R230, R236). -/
theorem State.bltRows_done (hr : r.Sound) : ∀ {js : List Nat} (s : State), js.Pairwise r.apart →
    (∀ j ∈ js, s.bltRowDenied r j = none) →
    (s.bltRows c r none js).2 = true ∧ BltWorks c s (s.bltRows c r none js).1 ∧
    (s.bltRows c r none js).1.mem = (js.map (s.bltRow r)).foldl (fun m q => memWrite m q.1 q.2) s.mem
  | [], s, _, _ => ⟨rfl, .refl c s, rfl⟩
  | j :: js, s, hap, hfree => by
    obtain ⟨hj, hjs⟩ := List.pairwise_cons.1 hap
    obtain ⟨hpace, hpacemem⟩ := s.bltPace_works (c := c) (r.requests j)
    simp only [State.bltRows, hpace.bltRowDenied_eq, hfree j (by simp)]
    generalize s.bltPace c (r.requests j) = t at *
    have hrow : t.bltRow r j = s.bltRow r j := State.bltRow_congr hpace.pal (by rw [hpacemem]) fun _ => by rw [hpacemem]
    have hpart := hpace.trans (t.bltRowPart_works (c := c) r j r.units).1
    have hpartmem := State.mem_bltRowPart_whole hr ((hpace.bltRowDenied_eq r j).trans (hfree j (by simp)))
    rw [hrow, hpacemem] at hpartmem
    generalize t.bltRowPart r j r.units = u at *
    obtain ⟨hall, hworks, hmem⟩ := State.bltRows_done hr u hjs fun i hi =>
      (hpart.bltRowDenied_eq r i).trans (hfree i (by simp [hi]))
    refine ⟨hall, hpart.trans hworks, hmem.trans ?_⟩
    rw [List.map_cons, List.foldl_cons, ← hpartmem,
      List.map_congr_left fun i hi => State.bltRow_after hr (hj i hi) hpart.pal hpartmem]

/-- A refused access of the first row ends the list with the units before it written (R46, R240). -/
theorem State.bltRows_denied {js : List Nat} {k a : Nat} (h : s.bltRowDenied r j = some (k, a)) :
    s.bltRows c r none (j :: js) =
      (((s.bltPace c (r.requests j)).bltRowPart r j k).bltDeny c a, false) := by
  simp only [State.bltRows, (s.bltPace_works (c := c) (r.requests j)).1.bltRowDenied_eq, h]

/-- A failed read within the first row ends the list with the units before it written (R240). -/
theorem State.bltRows_failed {js : List Nat} (h : s.bltRowDenied r j = none) (hn : n < r.units) :
    s.bltRows c r (some n) (j :: js) =
      (((s.bltPace c (r.requests j)).bltRowPart r j n).bltFault c 7, false) := by
  simp only [State.bltRows, (s.bltPace_works (c := c) (r.requests j)).1.bltRowDenied_eq, h, hn, if_true]

end

end Sys2Proof.Machine
end

section
/-! SUPPORT. The commands of a list: the rectangle commands, PALETTE, WAITLINE, SIGNAL, LINK and END, next in their list and
read (09_blitter R227 to R240). -/

namespace Sys2Proof.Machine

/-! ### A command next in its list (R227) -/

section
variable {s : State} {c : BltClass} {l : BltList} {op : Nat} (h : NextCommand s c l op)
include h

theorem active_of_next : s.active pBLITTER = true := h.1

theorem exec_of_next (f : State → State) :
    (Host.Outcome.next (s.onPage 0 pBLITTER f) : Host.Outcome State Fault Refusal) = .next (f s) :=
  congrArg Host.Outcome.next (State.onBlitter_of_active (active_of_next h) f)

theorem running_of_next : l.rowAt = 0 ∧ l.stop = false := by
  obtain ⟨_, _, _, _, _, hrow, hstop, _⟩ := h
  exact ⟨hrow, hstop⟩

theorem inHand_of_next : InHand s c l (s.bltRead c l) := by
  obtain ⟨_, _, hcur, _⟩ := h
  exact State.bltRead_inHand hcur

section
variable (hop : op < 256) (hknown : bltKnown op = true) (eff : State → List Nat → State)
include hop

theorem State.bltCommand_failed :
    BltFaulted (s.bltCommand c op true eff) c l.pc 7 ∧ (s.bltCommand c op true eff).mem = s.mem := by
  rw [State.bltCommand_of_next h (.inl (Nat.mod_eq_of_lt hop)), if_pos rfl]
  exact (inHand_of_next h).fault (by decide)

include hknown

theorem State.bltCommand_read : s.bltCommand c op false eff = eff (s.bltRead c l) (s.bltWords l.pc) := by
  rw [State.bltCommand_of_next h (.inl (Nat.mod_eq_of_lt hop)), if_neg Bool.false_ne_true, Nat.mod_eq_of_lt hop,
    if_neg (by simp [hknown, hop])]

end

/-- A first word that names no operation (R227, R240). -/
theorem State.bltNop_unknown (hbad : bltKnown (op % 256) = false ∨ op % 256 = 0 ∧ op ≠ 0) :
    BltFaulted (s.bltNop c false) c l.pc 1 ∧ (s.bltNop c false).mem = s.mem := by
  have hmine : op % 256 = 0 ∨ 0 = 0 ∧ bltKnown (op % 256) = false := hbad.symm.imp And.left fun h => ⟨rfl, h⟩
  rw [State.bltNop, State.bltCommand_of_next h hmine, if_neg Bool.false_ne_true,
    if_pos (hbad.symm.imp (fun ⟨_, _⟩ => by omega) id)]
  exact (inHand_of_next h).fault (by decide)

end

/-! ### Rectangle commands (R228 to R232, R236, R237) -/

section
variable {s u : State} {c : BltClass} {l : BltList} {ws : List Nat} {rows : Option Nat}

/-- The rectangle command with operation `op`; FILL reads no pixel, so none of its reads fails (R230). -/
def State.rectCmd (s : State) (c : BltClass) (op : Nat) (err : BltErr) (rows : Option Nat) : State :=
  s.bltCommand c op (err == .list) fun s ws => s.bltRect c (if op = 2 then .none else err) rows ws

section
variable (hact : s.active pBLITTER = true) (c : BltClass) (err : BltErr) (rows : Option Nat)
include hact

theorem exec_bltCopy_of_active : exec (.bltCopy c err rows) s = .next (s.rectCmd c 1 err rows) :=
  congrArg Host.Outcome.next (State.onBlitter_of_active hact _)

theorem exec_bltFill_of_active : exec (.bltFill c err rows) s = .next (s.rectCmd c 2 err rows) :=
  congrArg Host.Outcome.next (State.onBlitter_of_active hact _)

theorem exec_bltExpand_of_active : exec (.bltExpand c err rows) s = .next (s.rectCmd c 3 err rows) :=
  congrArg Host.Outcome.next (State.onBlitter_of_active hact _)

theorem exec_bltBlend_of_active : exec (.bltBlend c err rows) s = .next (s.rectCmd c 4 err rows) :=
  congrArg Host.Outcome.next (State.onBlitter_of_active hact _)

theorem exec_bltConvert_of_active : exec (.bltConvert c err rows) s = .next (s.rectCmd c 5 err rows) :=
  congrArg Host.Outcome.next (State.onBlitter_of_active hact _)

end

/-- The read that fails within a step, counted in units. -/
def dataUnits : BltErr → Option Nat
  | .data n => some n
  | _ => none

/-- A rectangle that passes the checks works through the rows of the step, and goes on or stands at a row boundary. -/
theorem State.bltRect_of_sound (hok : rectFault ws = none) (hw : (rectOf ws).w ≠ 0) (hh : (rectOf ws).h ≠ 0)
    (hcur : (u.bltCls c).cur = some l) (err : BltErr) :
    u.bltRect c err rows ws =
      let t := u.bltRows c (rectOf ws) (dataUnits err) (RowsNow c rows ws l.rowAt)
      if !t.2 then t.1
      else if (RowsNow c rows ws l.rowAt).length = ((rectOf ws).rows.drop l.rowAt).length then t.1.bltNext c
      else t.1.bltCur c fun m => { m with rowAt := m.rowAt + (RowsNow c rows ws l.rowAt).length, words := ws } := by
  unfold State.bltRect
  rw [hok]
  dsimp only
  rw [if_neg (not_or.2 ⟨hw, hh⟩), hcur]
  rfl

/-- Rows that ended in a fault end the command. -/
theorem State.bltRect_of_stopped {t : State} (hok : rectFault ws = none) (hw : (rectOf ws).w ≠ 0) (hh : (rectOf ws).h ≠ 0)
    (hcur : (u.bltCls c).cur = some l) (err : BltErr)
    (hrows : u.bltRows c (rectOf ws) (dataUnits err) (RowsNow c rows ws l.rowAt) = (t, false)) :
    u.bltRect c err rows ws = t := by
  rw [State.bltRect_of_sound hok hw hh hcur, hrows]
  exact if_pos rfl

theorem State.bltRect_of_empty (hok : rectFault ws = none) (h : (rectOf ws).w = 0 ∨ (rectOf ws).h = 0) (err : BltErr) :
    u.bltRect c err rows ws = u.bltNext c := by
  unfold State.bltRect
  rw [hok]
  exact if_pos h

theorem State.bltRect_of_fault {code : Nat} (h : rectFault ws = some code) (err : BltErr) :
    u.bltRect c err rows ws = u.bltFault c code := by
  unfold State.bltRect
  rw [h]

/-- The rows of a step stand in the scan order of the rectangle. -/
theorem rowsNow_sublist (c : BltClass) (rows : Option Nat) (ws : List Nat) (done : Nat) :
    (RowsNow c rows ws done).Sublist (rectOf ws).rows := by
  unfold RowsNow
  split
  · exact (List.take_sublist ..).trans (List.drop_sublist ..)
  · exact List.drop_sublist ..

/-- A step from the start of a rectangle that takes any rows begins with the first (R237). -/
theorem rowsNow_cons (c : BltClass) (hrows : rows ≠ some 0) {j : Nat} (hj : (rectOf ws).rows.head? = some j) :
    ∃ js, RowsNow c rows ws 0 = j :: js := by
  obtain ⟨js, hjs⟩ := List.head?_eq_some_iff.1 hj
  unfold RowsNow
  rw [hjs, List.drop_zero]
  split
  · next n =>
    obtain ⟨m, rfl⟩ := Nat.exists_eq_succ_of_ne_zero (n := n) (by rintro rfl; exact hrows rfl)
    exact ⟨js.take m, rfl⟩
  · exact ⟨js, rfl⟩

theorem InHand.rectDone (h : InHand s c l u) (hstop : l.stop = false) (hok : rectFault ws = none) (hw : (rectOf ws).w ≠ 0)
    (hh : (rectOf ws).h ≠ 0) (hfree : ∀ j ∈ RowsNow c rows ws l.rowAt, s.bltRowDenied (rectOf ws) j = none) :
    RectDone s (u.bltRect c .none rows ws) c l ws rows := by
  have hr := rectFault_eq_none hok hw hh
  obtain ⟨hpc, hrow, _⟩ := s.bltBegin_keeps l
  rw [State.bltRect_of_sound hok hw hh h.cur, hrow, show dataUnits .none = none from rfl]
  obtain ⟨hall, hworks, hmem⟩ := State.bltRows_done (c := c) hr u
    (hr.rows_apart.sublist (rowsNow_sublist c rows ws l.rowAt)) fun j hj => (h.bltRowDenied_eq _ j).trans (hfree j hj)
  have hrows : u.bltRow (rectOf ws) = s.bltRow (rectOf ws) :=
    funext fun j => State.bltRow_congr h.pal (by rw [h.mem]) fun _ => by rw [h.mem]
  rw [hrows, h.mem] at hmem
  dsimp only
  rw [hall]
  generalize (u.bltRows c (rectOf ws) none (RowsNow c rows ws l.rowAt)).1 = t at *
  have hframe : BltFrame s t := h.toBltFrame.trans hworks.toBltFrame
  have hcur := hworks.cur.trans h.cur
  simp only [Bool.not_true, Bool.false_eq_true, if_false]
  split
  · next hlast =>
    obtain ⟨⟨hgoes, hkeeps⟩, hmem'⟩ := hframe.goesOn hcur hstop (l.pc + 64)
    rw [BltFrame.next_eq hcur]
    exact ⟨hmem'.trans hmem, hkeeps, by rw [hgoes, if_pos hlast]⟩
  · next hmore =>
    have hframe' := hframe.trans (t.setBltCls_frame c { t.bltCls c with
      cur := some { s.bltBegin l with rowAt := l.rowAt + (RowsNow c rows ws l.rowAt).length, words := ws } })
    rw [State.bltCur_of_cur hcur, hrow]
    exact ⟨(State.mem_setBltCls ..).trans hmem, ⟨hframe'.owners, hframe'.locks, fun _ => ⟨hframe'.reg, hframe'.hist⟩⟩,
      by rw [State.bltCls_setBltCls, if_neg hmore]⟩

section
variable {op : Nat} (hn : NextCommand s c l op) (hop : 1 ≤ op ∧ op ≤ 5)
include hn hop

theorem State.rectCmd_read (err : BltErr) (hlist : err ≠ .list) (rows : Option Nat) :
    s.rectCmd c op err rows =
      (s.bltRead c l).bltRect c (if op = 2 then .none else err) rows (s.bltWords l.pc) := by
  have hknown : bltKnown op = true := by simp [bltKnown]; omega
  rw [State.rectCmd, beq_false_of_ne hlist, State.bltCommand_read hn (by omega) hknown]

theorem State.rectCmd_done (hok : rectFault (s.bltWords l.pc) = none) (hw : (rectOf (s.bltWords l.pc)).w ≠ 0)
    (hh : (rectOf (s.bltWords l.pc)).h ≠ 0)
    (hfree : ∀ j ∈ RowsNow c rows (s.bltWords l.pc) 0, s.bltRowDenied (rectOf (s.bltWords l.pc)) j = none) :
    RectDone s (s.rectCmd c op .none rows) c l (s.bltWords l.pc) rows := by
  obtain ⟨hrow, hstop⟩ := running_of_next hn
  rw [State.rectCmd_read hn hop _ (by simp), ite_self]
  exact (inHand_of_next hn).rectDone hstop hok hw hh (by rwa [hrow])

/-- What ends a rectangle command before its rows, or lets it pass without any (R228, R229, R240). -/
theorem rectCmd_checks_of_step {err : BltErr} {i : Instr} (hi : exec i s = .next (s.rectCmd c op err rows)) :
    (err = .list → ∃ t, exec i s = .next t ∧ BltFaulted t c l.pc 7 ∧ t.mem = s.mem) ∧
    (err ≠ .list → (rectOf (s.bltWords l.pc)).w = 0 ∨ (rectOf (s.bltWords l.pc)).h = 0 → rectFault (s.bltWords l.pc) = none →
      ∃ t, exec i s = .next t ∧ BltGoesOn s t c l (l.pc + 64) ∧ t.mem = s.mem) ∧
    (∀ code : Nat, err ≠ .list → rectFault (s.bltWords l.pc) = some code →
      ∃ t, exec i s = .next t ∧ BltFaulted t c l.pc code ∧ t.mem = s.mem) := by
  obtain ⟨_, hstop⟩ := running_of_next hn
  have hhand := inHand_of_next hn
  refine ⟨fun hlist => ⟨_, hi, ?_⟩, fun hlist hempty hok => ⟨_, hi, ?_⟩, fun code hlist hcode => ⟨_, hi, ?_⟩⟩
  · rw [State.rectCmd, hlist]
    exact State.bltCommand_failed hn (by omega) _
  · rw [State.rectCmd_read hn hop err hlist, State.bltRect_of_empty hok hempty]
    exact hhand.next hstop
  · rw [State.rectCmd_read hn hop err hlist, State.bltRect_of_fault hcode]
    exact hhand.fault (rectFault_lt hcode)

/-- A refused access, or a read that fails, in the first row (R46, R240). -/
theorem State.rectCmd_row_fault (hok : rectFault (s.bltWords l.pc) = none) (hw : (rectOf (s.bltWords l.pc)).w ≠ 0)
    (hh : (rectOf (s.bltWords l.pc)).h ≠ 0) (hrows : rows ≠ some 0) {j : Nat}
    (hj : (rectOf (s.bltWords l.pc)).rows.head? = some j) :
    (∀ k a, s.bltRowDenied (rectOf (s.bltWords l.pc)) j = some (k, a) →
      BltFaulted (s.rectCmd c op .none rows) c l.pc 6 ∧
      (s.rectCmd c op .none rows).mem = (s.bltRowPart (rectOf (s.bltWords l.pc)) j k).mem) ∧
    (∀ n, op ≠ 2 → s.bltRowDenied (rectOf (s.bltWords l.pc)) j = none → n < (rectOf (s.bltWords l.pc)).units →
      BltFaulted (s.rectCmd c op (.data n) rows) c l.pc 7 ∧
      (s.rectCmd c op (.data n) rows).mem = (s.bltRowPart (rectOf (s.bltWords l.pc)) j n).mem) := by
  obtain ⟨js, hnow⟩ := rowsNow_cons c hrows hj
  have h := inHand_of_next hn
  obtain ⟨hpc, hrow, _⟩ := s.bltBegin_keeps l
  have hread := fun err (hlist : err ≠ BltErr.list) => State.rectCmd_read hn hop err hlist rows
  generalize s.bltWords l.pc = ws at *
  generalize s.bltRead c l = u at *
  have hstart : RowsNow c rows ws (s.bltBegin l).rowAt = j :: js := by rw [hrow, (running_of_next hn).1, hnow]
  obtain ⟨hpace, hpacemem⟩ := u.bltPace_works (c := c) ((rectOf ws).requests j)
  have hpart : ∀ n, BltWorks c u ((u.bltPace c ((rectOf ws).requests j)).bltRowPart (rectOf ws) j n) ∧
      ((u.bltPace c ((rectOf ws).requests j)).bltRowPart (rectOf ws) j n).mem = (s.bltRowPart (rectOf ws) j n).mem := by
    intro n
    refine ⟨hpace.trans (State.bltRowPart_works _ _ j n).1, ?_⟩
    exact (h.toBltFrame.trans hpace.toBltFrame).mem_bltRowPart (hpace.pal.trans h.pal) (hpacemem.trans h.mem) _ j n
  refine ⟨fun k a hden => ?_, fun n hop2 hfree hn => ?_⟩
  · obtain ⟨hworks, hmem⟩ := hpart k
    have hfault := State.bltDeny_faulted (hworks.cur.trans h.cur) a
    rw [hpc] at hfault
    rw [hread _ (by simp), ite_self, State.bltRect_of_stopped hok hw hh h.cur _
      (by rw [hstart]; exact State.bltRows_denied ((h.bltRowDenied_eq _ j).trans hden))]
    exact ⟨hfault, (State.mem_bltDeny a).trans hmem⟩
  · obtain ⟨hworks, hmem⟩ := hpart n
    have hfault := State.bltFault_faulted (code := 7) (hworks.cur.trans h.cur) (by decide)
    rw [hpc] at hfault
    rw [hread _ (by simp), if_neg hop2, State.bltRect_of_stopped hok hw hh h.cur _
      (by rw [hstart]; exact State.bltRows_failed ((h.bltRowDenied_eq _ j).trans hfree) hn)]
    exact ⟨hfault, (State.mem_bltFault 7).trans hmem⟩

end

end

end Sys2Proof.Machine
end

section
/-! SUPPORT. A rectangle that goes on from a row, and the commands beside the rectangles: PALETTE, WAITLINE, SIGNAL, LINK and
END (09_blitter R231, R233 to R235, R237, R240). -/

namespace Sys2Proof.Machine

/-! ### A rectangle between two rows (R237) -/

section
variable {s : State} {l : BltList} (hact : s.active pBLITTER = true) (hrun : s.r pBLITTER BLITTER.STATUS_BATCH_HALT = 0)
  (hcur : s.blt.batch.cur = some l) (hpause : s.blt.batch.pause = none) (hwait : l.waiting = false)
  (hrow : l.rowAt ≠ 0) (hrace : s.raceRunnable = false) (htrain : s.b pMEMCTL MEMCTL.TRAIN_STAT_RUNNING = false)
include hact hrun hcur hpause hwait hrow hrace htrain

theorem State.bltCommand_of_row (eff : State → List Nat → State) :
    s.bltCommand .batch (l.words.getD 0 0) false eff = eff s l.words := by
  have hidle : s.r pMEMCTL MEMCTL.TRAIN_STAT_RUNNING = 0 := by simpa [State.b] using htrain
  have hhalt : s.b pBLITTER (clsHalt .batch) = false := s.b_of_r_eq_zero hrun
  have hcls : s.bltCls .batch = s.blt.batch := rfl
  simp [State.bltCommand, hcls, hcur, hact, hhalt, hpause, hwait, hrow, hrace, State.memWait_of_idle hidle]

theorem State.rectCmd_resumed (hbegun : l.begun = true) (hstop : l.stop = false) {rows : Option Nat}
    (hok : rectFault l.words = none) (hw : (rectOf l.words).w ≠ 0) (hh : (rectOf l.words).h ≠ 0)
    (hfree : ∀ j ∈ RowsNow .batch rows l.words l.rowAt, s.bltRowDenied (rectOf l.words) j = none) :
    RectDone s (s.rectCmd .batch (l.words.getD 0 0) .none rows) .batch l l.words rows := by
  have hself : InHand s .batch l s :=
    ⟨.refl s, rfl, rfl, rfl, by rw [State.bltBegin, if_pos hbegun]; exact hcur⟩
  have hread := State.bltCommand_of_row hact hrun hcur hpause hwait hrow hrace htrain fun s ws =>
    s.bltRect .batch (if l.words.getD 0 0 = 2 then .none else .none) rows ws
  rw [State.rectCmd, beq_false_of_ne (by simp), hread, ite_self]
  exact hself.rectDone hstop hok hw hh hfree

end

/-! ### PALETTE (R231, R233) -/

section
variable {s u t : State} {c : BltClass} {l : BltList}

theorem InHand.works (h : InHand s c l u) (hworks : BltWorks c u t) (hmem : t.mem = u.mem) : InHand s c l t where
  toBltFrame := h.toBltFrame.trans hworks.toBltFrame
  mem := hmem.trans h.mem
  pal := hworks.pal.trans h.pal
  queue := hworks.queue.trans h.queue
  cur := hworks.cur.trans h.cur

/-- The palette in memory at `a` (R231, R233). -/
def palAt (m : List Host.Cell) (a : Nat) : Sparse W64 :=
  (List.range 256).foldl (fun p i => sset 0 p i (BitVec.ofNat 64 (leNat (memRead m (a + 8 * i) 8)))) []

/-- The palette replaced. -/
def State.setPal (s : State) (p : Sparse W64) : State := { s with blt := { s.blt with pal := p } }

theorem State.pal_setPal (s : State) (p : Sparse W64) : (s.setPal p).blt.pal = p := rfl
theorem State.mem_setPal (s : State) (p : Sparse W64) : (s.setPal p).mem = s.mem := rfl

theorem State.setPal_frame (s : State) (p : Sparse W64) : BltFrame s (s.setPal p) :=
  .elsewhere rfl rfl rfl rfl rfl rfl rfl

theorem State.bltCls_setPal (s : State) (p : Sparse W64) (c : BltClass) : (s.setPal p).bltCls c = s.bltCls c := by
  cases c <;> rfl

theorem sget_foldl_sset (f : Nat → W64) (n : Nat) {i : Nat} (hi : i < n) :
    sget 0 ((List.range n).foldl (fun p i => sset 0 p i (f i)) []) i = f i := by
  induction n with
  | zero => omega
  | succ n ih =>
    rw [List.range_succ, List.foldl_append, List.foldl_cons, List.foldl_nil]
    by_cases h : i = n
    · rw [h, sget_sset_same]
    · rw [sget_sset_ne _ _ _ _ h, ih (by omega)]

theorem State.palDenied_of_readable {a : Nat} (h : ∀ k : Nat, k < 32 → s.canRead .blitter (a + 64 * k) 64 = true) :
    s.palDenied a = none := by
  refine List.find?_eq_none.2 fun x hx => ?_
  obtain ⟨k, hk, rfl⟩ := List.mem_map.1 hx
  simp [h k (List.mem_range.1 hk)]

section
variable (h : NextCommand s c l 7) {a : Nat} (haddr : (s.bltWords l.pc).getD 2 0 + (s.bltWords l.pc).getD 3 0 * 2 ^ 32 = a)
  (ha : a % 64 = 0) (hread : ∀ k : Nat, k < 32 → s.canRead .blitter (a + 64 * k) 64 = true)
include h haddr ha hread

/-- The palette's requests issued: the read fails, or the palette is what memory holds. -/
theorem State.bltPaletteCmd_read {err : BltErr} (hlist : err ≠ .list) : ∃ t, InHand s c l t ∧
    s.bltPaletteCmd c err = if err ≠ .none then t.bltFault c 7
      else (t.setPal (palAt t.mem a)).bltNext c := by
  have hhand := inHand_of_next h
  have hden : (s.bltRead c l).palDenied a = none :=
    State.palDenied_of_readable fun k hk => (hhand.canRead_eq ..).trans (hread k hk)
  obtain ⟨hsnoop, hsnoopmem⟩ := (s.bltRead c l).snoop_works (c := c) a 2048
  obtain ⟨hpace, hpacemem⟩ := ((s.bltRead c l).snoop a 2048).bltPace_works (c := c) 32
  refine ⟨_, hhand.works (hsnoop.trans hpace) (hpacemem.trans hsnoopmem), ?_⟩
  rw [State.bltPaletteCmd, beq_false_of_ne hlist, State.bltCommand_read h (by decide) (by decide)]
  dsimp only
  rw [haddr, if_neg (not_not.2 ha), hden]
  rfl

theorem State.bltPaletteCmd_loads :
    (∀ i : Nat, i < 256 → (s.bltPaletteCmd c .none).bltPalette i = BitVec.ofNat 64 (leNat (memRead s.mem (a + 8 * i) 8))) ∧
    BltGoesOn s (s.bltPaletteCmd c .none) c l (l.pc + 64) ∧ (s.bltPaletteCmd c .none).mem = s.mem := by
  obtain ⟨t, hhand, heq⟩ := State.bltPaletteCmd_read h haddr ha hread (err := .none) (by simp)
  obtain ⟨_, hstop⟩ := running_of_next h
  rw [heq, if_neg (by simp)]
  have hframe := hhand.toBltFrame.trans (t.setPal_frame (palAt t.mem a))
  have hcur : ((t.setPal (palAt t.mem a)).bltCls c).cur = some (s.bltBegin l) := by rw [State.bltCls_setPal, hhand.cur]
  have hpal : (t.setPal (palAt t.mem a)).blt.pal = palAt t.mem a := State.pal_setPal ..
  have hsame : (t.setPal (palAt t.mem a)).mem = t.mem := State.mem_setPal ..
  generalize t.setPal (palAt t.mem a) = v at *
  obtain ⟨hgoes, hmem⟩ := hframe.goesOn hcur hstop (l.pc + 64)
  rw [BltFrame.next_eq hcur]
  refine ⟨fun i hi => ?_, hgoes, hmem.trans (hsame.trans hhand.mem)⟩
  obtain ⟨_, _, hkeep, _⟩ := s.bltBegin_keeps l
  rw [State.bltTo_of_running hcur (hkeep.trans hstop), State.bltPalette, State.pal_setBltCls, hpal,
    Nat.mod_eq_of_lt hi, hhand.mem]
  exact sget_foldl_sset (fun i => BitVec.ofNat 64 (leNat (memRead s.mem (a + 8 * i) 8))) 256 hi

end

/-- PALETTE whose own read, or a read of whose entries, fails leaves the palette (R233, R240). -/
theorem State.bltPaletteCmd_failed (h : NextCommand s c l 7) {err : BltErr}
    (herr : err = .list ∨ err ≠ .none ∧ ((s.bltWords l.pc).getD 2 0 + (s.bltWords l.pc).getD 3 0 * 2 ^ 32) % 64 = 0 ∧
      ∀ k : Nat, k < 32 →
        s.canRead .blitter ((s.bltWords l.pc).getD 2 0 + (s.bltWords l.pc).getD 3 0 * 2 ^ 32 + 64 * k) 64 = true) :
    BltFaulted (s.bltPaletteCmd c err) c l.pc 7 ∧ (s.bltPaletteCmd c err).blt.pal = s.blt.pal ∧
    (s.bltPaletteCmd c err).mem = s.mem := by
  have hfail : ∃ t, InHand s c l t ∧ s.bltPaletteCmd c err = t.bltFault c 7 := by
    by_cases hlist : err = .list
    · refine ⟨_, inHand_of_next h, ?_⟩
      rw [State.bltPaletteCmd, hlist, beq_self_eq_true, State.bltCommand_of_next h (.inl rfl), if_pos rfl]
    · obtain ⟨hnone, ha, hread⟩ := herr.resolve_left hlist
      obtain ⟨t, hhand, heq⟩ := State.bltPaletteCmd_read h rfl ha hread hlist
      exact ⟨t, hhand, heq.trans (if_pos hnone)⟩
  obtain ⟨t, hhand, heq⟩ := hfail
  obtain ⟨hfault, hmem⟩ := hhand.fault (code := 7) (by decide)
  rw [heq]
  exact ⟨hfault, (State.pal_bltFault 7).trans hhand.pal, hmem⟩

end

end Sys2Proof.Machine
end

section
/-! SUPPORT. WAITLINE, SIGNAL, LINK and END of a list (09_blitter R227, R234, R235, R238, R240). -/

namespace Sys2Proof.Machine

variable {s u : State} {c : BltClass} {l : BltList}

/-! ### WAITLINE (R234) -/

theorem waitOf_head_lt (ws : List Nat) : (waitOf ws).1 < 32 := Nat.mod_lt _ (by decide)

/-- What WAITLINE does once read, seen from the state it was read in. -/
theorem State.bltWait_read (h : NextCommand s c l 6) :
    s.bltWait c false =
      let q := waitOf (s.bltWords l.pc)
      if s.present 0 (pgHEAD q.1) = false ∨ s.enabled (pgHEAD q.1) = false ∨ (s.mode q.1).vTot ≤ q.2.1 ∨
        (s.mode q.1).vTot ≤ q.2.2
      then (s.bltRead c l).bltFault c 8
      else if inWindow q.2.1 q.2.2 (s.beam q.1) then (s.bltRead c l).bltNext c
      else (s.bltRead c l).bltCur c fun m => { m with waiting := true, words := s.bltWords l.pc } := by
  have hhand := inHand_of_next h
  have hn := waitOf_head_lt (s.bltWords l.pc)
  rw [State.bltWait, State.bltCommand_read h (by decide) (by decide)]
  dsimp only
  rw [hhand.present_eq, hhand.enabled_head_eq hn, hhand.mode_eq hn, hhand.beam_eq hn]
  simp only [Bool.or_eq_true, Bool.not_eq_true', decide_eq_true_eq, or_assoc]

theorem State.bltWait_open (h : NextCommand s c l 6) {q : Nat × Nat × Nat} (hq : waitOf (s.bltWords l.pc) = q)
    (hpres : s.present 0 (pgHEAD q.1) = true) (hhead : s.enabled (pgHEAD q.1) = true) (h0 : q.2.1 < (s.mode q.1).vTot)
    (h1 : q.2.2 < (s.mode q.1).vTot) :
    (s.bltWait c false).mem = s.mem ∧
    (inWindow q.2.1 q.2.2 (s.beam q.1) = true → BltGoesOn s (s.bltWait c false) c l (l.pc + 64)) ∧
    (inWindow q.2.1 q.2.2 (s.beam q.1) = false →
      ((s.bltWait c false).bltCls c).cur = some { s.bltBegin l with waiting := true, words := s.bltWords l.pc } ∧
      BltKeeps s (s.bltWait c false) c) := by
  have hhand := inHand_of_next h
  obtain ⟨_, hstop⟩ := running_of_next h
  rw [State.bltWait_read h, hq]
  dsimp only
  rw [if_neg (by simp [hpres, hhead]; omega)]
  cases hin : inWindow q.2.1 q.2.2 (s.beam q.1) with
  | true =>
    obtain ⟨hgoes, hmem⟩ := hhand.next hstop
    exact ⟨hmem, fun _ => hgoes, fun h => absurd h (by simp)⟩
  | false =>
    rw [if_neg Bool.false_ne_true, State.bltCur_of_cur hhand.cur]
    have hframe := hhand.toBltFrame.trans ((s.bltRead c l).setBltCls_frame c { (s.bltRead c l).bltCls c with
      cur := some { s.bltBegin l with waiting := true, words := s.bltWords l.pc } })
    exact ⟨(State.mem_setBltCls ..).trans hhand.mem, fun h => absurd h (by simp), fun _ => ⟨by rw [State.bltCls_setBltCls],
      hframe.owners, hframe.locks, fun _ => ⟨hframe.reg, hframe.hist⟩⟩⟩

/-- The beam enters the window a list waits for. -/
theorem State.bltWaitDone_of_entered (hact : s.active pBLITTER = true) (hcur : (s.bltCls c).cur = some l)
    (hwait : l.waiting = true) (hstop : l.stop = false)
    (hin : inWindow (waitOf l.words).2.1 (waitOf l.words).2.2 (s.beam (waitOf l.words).1) = true) :
    s.bltWaitDone c = s.setBltCls c
      { s.bltCls c with cur := some { l with pc := l.pc + 64, waiting := false, words := [], rowAt := 0 } } := by
  simp only [State.bltWaitDone, hcur, hwait, hact, hin, Bool.and_self, if_true]
  rw [State.bltNext_of_cur hcur, State.bltTo_of_running hcur hstop]

/-! ### SIGNAL and LINK (R227) -/

theorem State.bltSignal_signals (h : NextCommand s c l 8) :
    (s.bltSignal c false).r pBLITTER BLITTER.SIG_TAG = (s.bltWords l.pc).getD 1 0 % 2 ^ 32 ∧
    (s.bltSignal c false).r pBLITTER (INT_PEND_BIT 4) = 1 ∧
    ((s.bltSignal c false).bltCls c).cur =
      some { s.bltBegin l with pc := l.pc + 64, waiting := false, words := [], rowAt := 0 } ∧
    (s.bltSignal c false).mem = s.mem ∧ (s.bltSignal c false).owners = s.owners ∧ (s.bltSignal c false).locks = s.locks ∧
    (s.bltSignal c false).hist = s.hist := by
  have hhand := inHand_of_next h
  obtain ⟨_, hstop⟩ := running_of_next h
  obtain ⟨hpc, _, hkeep, _⟩ := s.bltBegin_keeps l
  rw [State.bltSignal, State.bltCommand_read h (by decide) (by decide)]
  dsimp only
  generalize (s.bltWords l.pc).getD 1 0 = tag at *
  generalize s.bltRead c l = u at *
  have hcur : (((u.pendInt pBLITTER 4).w pBLITTER BLITTER.SIG_TAG tag).bltCls c).cur = some (s.bltBegin l) := by
    rw [State.pendInt, State.bltCls_w, State.bltCls_w, hhand.cur]
  rw [State.bltNext_of_cur hcur, State.bltTo_of_running hcur (hkeep.trans hstop), hpc]
  have hr := fun f => State.r_congr (State.regs_setBltCls ((u.pendInt pBLITTER 4).w pBLITTER BLITTER.SIG_TAG tag) c
    { ((u.pendInt pBLITTER 4).w pBLITTER BLITTER.SIG_TAG tag).bltCls c with
      cur := some { s.bltBegin l with pc := l.pc + 64, waiting := false, words := [], rowAt := 0 } }) pBLITTER f
  have hframe := State.setBltCls_frame ((u.pendInt pBLITTER 4).w pBLITTER BLITTER.SIG_TAG tag) c
    { ((u.pendInt pBLITTER 4).w pBLITTER BLITTER.SIG_TAG tag).bltCls c with
      cur := some { s.bltBegin l with pc := l.pc + 64, waiting := false, words := [], rowAt := 0 } }
  refine ⟨(hr _).trans (State.r_w_same _ _ _ _ (by decide)), (hr _).trans ?_, by rw [State.bltCls_setBltCls],
    (State.mem_setBltCls ..).trans hhand.mem, hframe.owners.trans hhand.owners, hframe.locks.trans hhand.locks,
    hframe.hist.trans hhand.hist⟩
  rw [State.r_w_off _ _ _ (by decide), State.pendInt, State.r_w_same _ _ _ _ (by decide)]
  rfl

theorem State.bltLink_read (h : NextCommand s c l 0x0E) {a : Nat}
    (ha : (s.bltWords l.pc).getD 2 0 + (s.bltWords l.pc).getD 3 0 * 2 ^ 32 = a) :
    s.bltLink c false =
      if a % 64 ≠ 0 ∨ s.inPart 1 a 64 = false then (s.bltRead c l).bltFault c 9 else (s.bltRead c l).bltTo c a := by
  rw [State.bltLink, State.bltCommand_read h (by decide) (by decide)]
  dsimp only
  rw [ha, (inHand_of_next h).inPart_eq (by decide)]
  simp only [Bool.not_eq_true']

/-! ### END (R235, R238) -/

theorem State.active_w_blitter {f : Fld} (ho : f.off < 4096) (hne : f.off ≠ 0x008) (x : Nat) :
    (s.w pBLITTER f x).active pBLITTER = s.active pBLITTER := by
  have hon : (s.w pBLITTER f x).domainOn 0 pBLITTER = s.domainOn 0 pBLITTER := by
    change (s.w pBLITTER f x).pdOn 41 = s.pdOn 41
    unfold State.pdOn State.pdState
    rw [(State.w_writesOnly (by decide) ho s x).r_eq (by decide) (by decide) (by decide)]
    rfl
  unfold State.active State.enabled State.b
  rw [State.fenced_w _ (by decide) ho hne, hon, State.r_w_off _ _ _ (Ne.symm hne)]
  rfl

/-- What the end of RACE list `l` shows (R235, R238). -/
def State.raceEnded (s : State) (l : BltList) : State :=
  (((s.w pBLITTER BLITTER.RACE_LAST l.addr).inc pBLITTER BLITTER.LISTS_DONE_RACE).w pBLITTER BLITTER.RACE_STAT
    (b2n (l.wmEn && !l.late))).pendInt pBLITTER 0

/-- What the end of BATCH list `l` shows (R235). -/
def State.batchEnded (s : State) (l : BltList) : State :=
  ((s.w pBLITTER BLITTER.BATCH_LAST l.addr).inc pBLITTER BLITTER.LISTS_DONE_BATCH).pendInt pBLITTER 1

theorem State.bltEnd_race (h : NextCommand s .race l 0x0F) : ∃ u, InHand s .race l u ∧ s.bltEnd .race false =
    ((u.setBltCls .race { u.bltCls .race with cur := none }).raceEnded (s.bltBegin l)).bltStart .race := by
  have hhand := inHand_of_next h
  refine ⟨_, hhand, ?_⟩
  rw [State.bltEnd, State.bltCommand_read h (by decide) (by decide)]
  dsimp only
  rw [hhand.cur]
  rfl

theorem State.bltEnd_batch (h : NextCommand s .batch l 0x0F) : ∃ u, InHand s .batch l u ∧ s.bltEnd .batch false =
    ((u.setBltCls .batch { u.bltCls .batch with cur := none }).batchEnded (s.bltBegin l)).bltStart .batch := by
  have hhand := inHand_of_next h
  refine ⟨_, hhand, ?_⟩
  rw [State.bltEnd, State.bltCommand_read h (by decide) (by decide)]
  dsimp only
  rw [hhand.cur]
  rfl

theorem State.raceEnded_keeps (s : State) (l : BltList) : (s.raceEnded l).bltCls .race = s.bltCls .race ∧
    (s.raceEnded l).mem = s.mem ∧ (s.raceEnded l).hist = s.hist := by
  simp [State.raceEnded, State.inc, State.pendInt]

theorem State.batchEnded_keeps (s : State) (l : BltList) : (s.batchEnded l).bltCls .batch = s.bltCls .batch ∧
    (s.batchEnded l).mem = s.mem ∧ (s.batchEnded l).hist = s.hist := by
  simp [State.batchEnded, State.inc, State.pendInt]

theorem State.raceEnded_shows (s : State) (l : BltList) :
    (s.raceEnded l).r pBLITTER BLITTER.RACE_LAST = l.addr % 2 ^ 64 ∧
    (s.raceEnded l).r pBLITTER BLITTER.LISTS_DONE_RACE = (s.r pBLITTER BLITTER.LISTS_DONE_RACE + 1) % 2 ^ 16 ∧
    (s.raceEnded l).r pBLITTER BLITTER.RACE_STAT = b2n (l.wmEn && !l.late) ∧
    (s.raceEnded l).r pBLITTER (INT_PEND_BIT 0) = 1 := by
  unfold State.raceEnded State.inc State.pendInt
  refine ⟨?_, ?_, ?_, ?_⟩
  · rw [State.r_w_off _ _ _ (by decide), State.r_w_off _ _ _ (by decide), State.r_w_off _ _ _ (by decide),
      State.r_w_same _ _ _ _ (by decide)]
  · rw [State.r_w_off _ _ _ (by decide), State.r_w_off _ _ _ (by decide), State.r_w_same _ _ _ _ (by decide),
      State.r_w_off _ _ _ (by decide)]
  · rw [State.r_w_off _ _ _ (by decide), State.r_w_same _ _ _ _ (by decide)]
    cases l.wmEn && !l.late <;> rfl
  · rw [State.r_w_same _ _ _ _ (by decide)]
    rfl

theorem State.batchEnded_shows (s : State) (l : BltList) :
    (s.batchEnded l).r pBLITTER BLITTER.BATCH_LAST = l.addr % 2 ^ 64 ∧ (s.batchEnded l).r pBLITTER (INT_PEND_BIT 1) = 1 ∧
    (s.batchEnded l).r pBLITTER BLITTER.STATUS_BATCH_HALT = s.r pBLITTER BLITTER.STATUS_BATCH_HALT ∧
    (s.batchEnded l).active pBLITTER = s.active pBLITTER := by
  unfold State.batchEnded State.inc State.pendInt
  refine ⟨?_, ?_, ?_, ?_⟩
  · rw [State.r_w_off _ _ _ (by decide), State.r_w_off _ _ _ (by decide), State.r_w_same _ _ _ _ (by decide)]
  · rw [State.r_w_same _ _ _ _ (by decide)]
    rfl
  · rw [State.r_w_off _ _ _ (by decide), State.r_w_off _ _ _ (by decide), State.r_w_off _ _ _ (by decide)]
  · rw [State.active_w_blitter (by decide) (by decide), State.active_w_blitter (by decide) (by decide),
      State.active_w_blitter (by decide) (by decide)]

/-- The last RACE list of the class completes. -/
theorem State.bltEnd_race_last (h : NextCommand s .race l 0x0F) (hq : s.blt.race.queue = []) :
    (s.bltEnd .race false).blt.race.cur = none ∧ (s.bltEnd .race false).r pBLITTER BLITTER.RACE_LAST = l.addr % 2 ^ 64 ∧
    (s.bltEnd .race false).r pBLITTER BLITTER.LISTS_DONE_RACE = (s.r pBLITTER BLITTER.LISTS_DONE_RACE + 1) % 2 ^ 16 ∧
    (s.bltEnd .race false).r pBLITTER BLITTER.RACE_STAT = b2n (l.wmEn && !l.late) ∧
    (s.bltEnd .race false).r pBLITTER (INT_PEND_BIT 0) = 1 ∧ (s.bltEnd .race false).mem = s.mem ∧
    (s.bltEnd .race false).hist = s.hist := by
  obtain ⟨u, hhand, heq⟩ := State.bltEnd_race h
  obtain ⟨_, _, _, haddr, hen, hlate⟩ := s.bltBegin_keeps l
  have hempty : (u.bltCls .race).queue = [] := hhand.queue.trans hq
  have hframe := hhand.toBltFrame.trans (u.setBltCls_frame .race { u.bltCls .race with cur := none })
  have hmem := (u.mem_setBltCls .race { u.bltCls .race with cur := none }).trans hhand.mem
  have hcls := u.bltCls_setBltCls .race { u.bltCls .race with cur := none }
  generalize u.setBltCls .race { u.bltCls .race with cur := none } = v at *
  obtain ⟨hlast, hdone, hstat, hint⟩ := v.raceEnded_shows (s.bltBegin l)
  obtain ⟨hkeepcls, hkeepmem, hkeephist⟩ := v.raceEnded_keeps (s.bltBegin l)
  rw [heq, State.bltStart_of_empty (by rw [hkeepcls, hcls]; exact hempty)]
  rw [haddr] at hlast
  rw [hframe.r_eq (by decide) (by decide) (by decide)] at hdone
  rw [hen, hlate] at hstat
  have hnone : ((v.raceEnded (s.bltBegin l)).bltCls .race).cur = none := by rw [hkeepcls, hcls]
  exact ⟨hnone, hlast, hdone, hstat, hint, hkeepmem.trans hmem, hkeephist.trans hframe.hist⟩

/-- A BATCH list completes and the next one runs. -/
theorem State.bltEnd_batch_more {m : BltList} {q : List BltList} (h : NextCommand s .batch l 0x0F)
    (hq : s.blt.batch.queue = m :: q) :
    (s.bltEnd .batch false).blt.batch.cur = some m ∧ (s.bltEnd .batch false).blt.batch.queue = q ∧
    (s.bltEnd .batch false).r pBLITTER BLITTER.BATCH_LAST = l.addr % 2 ^ 64 ∧
    (s.bltEnd .batch false).r pBLITTER (INT_PEND_BIT 1) = 1 ∧ (s.bltEnd .batch false).mem = s.mem ∧
    (s.bltEnd .batch false).hist = s.hist := by
  obtain ⟨u, hhand, heq⟩ := State.bltEnd_batch h
  obtain ⟨_, _, _, haddr, _⟩ := s.bltBegin_keeps l
  obtain ⟨hact, hrun, _⟩ := h
  have hmore : (u.bltCls .batch).queue = m :: q := hhand.queue.trans hq
  have hframe := hhand.toBltFrame.trans (u.setBltCls_frame .batch { u.bltCls .batch with cur := none })
  have hmem := (u.mem_setBltCls .batch { u.bltCls .batch with cur := none }).trans hhand.mem
  have hcls := u.bltCls_setBltCls .batch { u.bltCls .batch with cur := none }
  generalize u.setBltCls .batch { u.bltCls .batch with cur := none } = v at *
  obtain ⟨hlast, hint, hhalt, hactive⟩ := v.batchEnded_shows (s.bltBegin l)
  obtain ⟨hkeepcls, hkeepmem, hkeephist⟩ := v.batchEnded_keeps (s.bltBegin l)
  generalize v.batchEnded (s.bltBegin l) = w at *
  rw [hframe.r_eq (by decide) (by decide) (by decide)] at hhalt
  rw [heq, State.bltStart_of_queued (c := .batch) (hactive.trans (hframe.active_eq.trans hact)) (hhalt.trans hrun)
    (by rw [hkeepcls, hcls]) (by rw [hkeepcls, hcls]; exact hmore)]
  have hstart := w.setBltCls_frame .batch { w.bltCls .batch with queue := q, cur := some m }
  have hr := fun f => State.r_congr (w.regs_setBltCls .batch { w.bltCls .batch with queue := q, cur := some m }) pBLITTER f
  rw [haddr] at hlast
  exact ⟨rfl, rfl, (hr _).trans hlast, (hr _).trans hint, (w.mem_setBltCls ..).trans (hkeepmem.trans hmem),
    hstart.hist.trans (hkeephist.trans hframe.hist)⟩

end Sys2Proof.Machine

open Sys2Proof Sys2Proof.Machine

/-- Settles O47: every command by what it does once read (`State.bltCommand_read`), the rectangles by `InHand.rectDone`,
whose rows are apart in scan order (`Rect.Sound.rows_apart`), the faults by `InHand.fault`. -/
theorem blitterCommandsDoWhatTheirWordsSay : Obligations.BlitterCommandsDoWhatTheirWordsSay := by
  refine ⟨fun s c l hn => ⟨_, exec_of_next hn _, ?nop⟩, fun s c l op hn hbad => ⟨_, exec_of_next hn _, State.bltNop_unknown hn hbad⟩,
    fun s c l rows hn hok hw hh hfree => ⟨_, exec_bltCopy_of_active (active_of_next hn) .., ?_⟩,
    fun s c l rows hn hok hw hh hfree => ⟨_, exec_bltFill_of_active (active_of_next hn) .., ?_⟩,
    fun s c l rows hn hok hw hh hfree => ⟨_, exec_bltExpand_of_active (active_of_next hn) .., ?_⟩,
    fun s c l rows hn hok hw hh hfree => ⟨_, exec_bltBlend_of_active (active_of_next hn) .., ?_⟩,
    fun s c l rows hn hok hw hh hfree => ⟨_, exec_bltConvert_of_active (active_of_next hn) .., ?_⟩,
    fun s c l err rows hn => rectCmd_checks_of_step hn (by decide) (exec_bltCopy_of_active (active_of_next hn) ..),
    fun s c l err rows hn => rectCmd_checks_of_step hn (by decide) (exec_bltFill_of_active (active_of_next hn) ..),
    fun s c l err rows hn => rectCmd_checks_of_step hn (by decide) (exec_bltExpand_of_active (active_of_next hn) ..),
    fun s c l err rows hn => rectCmd_checks_of_step hn (by decide) (exec_bltBlend_of_active (active_of_next hn) ..),
    fun s c l err rows hn => rectCmd_checks_of_step hn (by decide) (exec_bltConvert_of_active (active_of_next hn) ..),
    ?resumed, ?rowFault,
    fun s c l hn ha hread => ⟨_, exec_of_next hn _, State.bltPaletteCmd_loads hn rfl ha hread⟩,
    fun s c l err hn herr => ⟨_, exec_of_next hn _, State.bltPaletteCmd_failed hn herr⟩,
    fun s c l hn hpres hhead h0 h1 => ⟨_, exec_of_next hn _, State.bltWait_open hn rfl hpres hhead h0 h1⟩,
    fun s c l hn hbad => ⟨_, exec_of_next hn _, ?badWait⟩, fun s c l hact hcur hwait hstop hin => ?waitDone,
    fun s c l hn => ⟨_, exec_of_next hn _, ?signal⟩,
    fun s c l hn => ⟨fun h64 hpart => ⟨_, exec_of_next hn _, ?link⟩, fun hbad => ⟨_, exec_of_next hn _, ?badLink⟩⟩,
    fun s l hn hq => ⟨_, exec_of_next hn _, ?endRace⟩, fun s l m q hn hq => ⟨_, exec_of_next hn _, ?endBatch⟩,
    fun s c l hn => ⟨_, exec_of_next hn _, State.bltCommand_failed hn (by decide) _⟩,
    fun s c l hn => ⟨_, exec_of_next hn _, State.bltCommand_failed hn (by decide) _⟩,
    fun s c l hn => ⟨_, exec_of_next hn _, State.bltCommand_failed hn (by decide) _⟩,
    fun s c l hn => ⟨_, exec_of_next hn _, State.bltCommand_failed hn (by decide) _⟩,
    fun s c l hn => ⟨_, exec_of_next hn _, State.bltCommand_failed hn (by decide) _⟩⟩
  any_goals exact State.rectCmd_done hn (by decide) hok hw hh hfree
  case nop =>
    rw [State.bltNop, State.bltCommand_read hn (by decide) (by decide)]
    exact (inHand_of_next hn).next (running_of_next hn).2
  case resumed =>
    intro s l rows hact hrun hcur hpause hwait hbegun hrow hstop hrace htrain hok hw hh hfree p hp hop
    have hdone := State.rectCmd_resumed hact hrun hcur hpause hwait hrow hrace htrain hbegun hstop hok hw hh hfree
    rw [hop] at hdone
    refine ⟨_, ?_, hdone⟩
    simp only [List.mem_cons, List.not_mem_nil, or_false] at hp
    rcases hp with rfl | rfl | rfl | rfl | rfl
    exacts [exec_bltCopy_of_active hact .., exec_bltFill_of_active hact .., exec_bltExpand_of_active hact ..,
      exec_bltBlend_of_active hact .., exec_bltConvert_of_active hact ..]
  case rowFault =>
    intro s c l op rows hn ws r hok hw hh hrows j k a n hj p hp hop
    have hstep : ∀ err, exec (p.1 err) s = .next (s.rectCmd c p.2 err rows) ∧ 1 ≤ p.2 ∧ p.2 ≤ 5 := by
      have hact := active_of_next hn
      intro err
      simp only [List.mem_cons, List.not_mem_nil, or_false] at hp
      rcases hp with rfl | rfl | rfl | rfl | rfl
      exacts [⟨exec_bltCopy_of_active hact .., by simp⟩, ⟨exec_bltFill_of_active hact .., by simp⟩,
        ⟨exec_bltExpand_of_active hact .., by simp⟩, ⟨exec_bltBlend_of_active hact .., by simp⟩,
        ⟨exec_bltConvert_of_active hact .., by simp⟩]
    rw [hop] at hstep
    obtain ⟨hdenied, hfailed⟩ := State.rectCmd_row_fault hn (hstep .none).2 hok hw hh hrows hj
    exact ⟨fun hden => ⟨_, (hstep _).1, hdenied k a hden⟩, fun h2 hfree hn => ⟨_, (hstep _).1, hfailed n h2 hfree hn⟩⟩
  case badWait =>
    rw [State.bltWait_read hn]
    dsimp only
    rw [if_pos hbad]
    exact (inHand_of_next hn).fault (by decide)
  case waitDone =>
    exact congrArg Host.Outcome.next ((State.onBlitter_of_active hact _).trans
      (State.bltWaitDone_of_entered hact hcur hwait hstop hin))
  case signal =>
    obtain ⟨htag, hint, hcur, hmem, howners, hlocks, hhist⟩ := State.bltSignal_signals hn
    exact ⟨htag, hint, hcur, hmem, howners, hlocks, fun _ => hhist⟩
  case link =>
    obtain ⟨hgoes, hmem⟩ := (inHand_of_next hn).goesOn (inHand_of_next hn).cur (running_of_next hn).2
      ((s.bltWords l.pc).getD 2 0 + (s.bltWords l.pc).getD 3 0 * 2 ^ 32)
    rw [State.bltLink_read hn rfl, if_neg (not_or.2 ⟨not_not.2 h64, ne_false_of_eq_true hpart⟩)]
    exact ⟨hgoes, hmem.trans (inHand_of_next hn).mem⟩
  case badLink =>
    rw [State.bltLink_read hn rfl, if_pos hbad]
    exact (inHand_of_next hn).fault (by decide)
  case endRace =>
    obtain ⟨hcur, hlast, hdone, hstat, hint, hmem, hhist⟩ := State.bltEnd_race_last hn hq
    exact ⟨hcur, hlast, hdone, hstat, hint, hmem, fun _ => hhist⟩
  case endBatch =>
    obtain ⟨hcur, hqueue, hlast, hint, hmem, hhist⟩ := State.bltEnd_batch_more hn hq
    exact ⟨hcur, hqueue, hlast, hint, hmem, fun _ => hhist⟩

end

section
/-! SUPPORT. The work of one unit: registers of its own page and nothing else a bus can see, its fields read after its writes,
and writes on its page from the bus (02_address_spaces_memory_data_ports R23, R33; 10_field_ports_check_values R246, R263). -/

namespace Sys2Proof.Machine

/-! ### The frame -/

/-- From `s` to `t` no register outside Function 0 page `pg` has changed, nor owners, locks, histories or device memory. -/
structure PageActs (pg : Nat) (s t : State) : Prop where
  regs : OtherPages s t pg
  mem : t.mem = s.mem
  owners : t.owners = s.owners
  locks : t.locks = s.locks
  hist : t.hist = s.hist

section
variable {pg : Nat} {s t u : State}

theorem PageActs.refl (pg : Nat) (s : State) : PageActs pg s s := ⟨fun _ _ _ _ _ _ => rfl, rfl, rfl, rfl, rfl⟩

theorem PageActs.trans (h : PageActs pg s t) (h' : PageActs pg t u) : PageActs pg s u where
  regs func page off hp ho hne := (h'.regs func page off hp ho hne).trans (h.regs func page off hp ho hne)
  mem := h'.mem.trans h.mem
  owners := h'.owners.trans h.owners
  locks := h'.locks.trans h.locks
  hist := h'.hist.trans h.hist

/-- A change of none of the parts the frame speaks of. -/
theorem PageActs.elsewhere (hregs : t.regs = s.regs) (hmem : t.mem = s.mem) (howners : t.owners = s.owners)
    (hlocks : t.locks = s.locks) (hhist : t.hist = s.hist) : PageActs pg s t where
  regs _ _ _ _ _ _ := by unfold State.reg; rw [hregs]
  mem := hmem
  owners := howners
  locks := hlocks
  hist := hhist

theorem PageActs.ite {c : Prop} [Decidable c] (ht : PageActs pg s t) (hu : PageActs pg s u) :
    PageActs pg s (if c then t else u) := by
  split
  · exact ht
  · exact hu

theorem PageActs.foldl {α : Type} {f : State → α → State} (l : List α) (s : State) (h : ∀ t a, PageActs pg t (f t a)) :
    PageActs pg s (l.foldl f s) := by
  induction l generalizing s with
  | nil => exact .refl pg s
  | cons a l ih => exact (h s a).trans (ih (f s a))

/-- A fold that carries a result along. -/
theorem PageActs.foldl_fst {α β : Type} {f : State × β → α → State × β} (l : List α) (x : State × β)
    (h : ∀ y a, PageActs pg y.1 (f y a).1) : PageActs pg x.1 (l.foldl f x).1 := by
  induction l generalizing x with
  | nil => exact .refl pg x.1
  | cons a l ih => exact (h x a).trans (ih (f x a))

end

section
variable (s : State)

theorem State.w_pageActs {pg : Nat} {f : Fld} (hp : pg < 4096) (ho : f.off < 4096) (x : Nat) : PageActs pg s (s.w pg f x) where
  regs func page off hp' ho' hne := State.reg_w_ne s x fun hk => by
    obtain ⟨hf, hpage, _⟩ := regKey_inj hp' ho' hp ho hk
    exact hne.elim (fun h => h hf) (fun h => h hpage)
  mem := rfl
  owners := rfl
  locks := rfl
  hist := rfl

theorem State.setFp_pageActs (pg n : Nat) (x : FieldPort) : PageActs pg s (s.setFp n x) := .elsewhere rfl rfl rfl rfl rfl

theorem State.setCv_pageActs (pg n : Nat) (x : CvSt) : PageActs pg s (s.setCv n x) := .elsewhere rfl rfl rfl rfl rfl

theorem State.ctxMid_pageActs (pg u c : Nat) (on : Bool) : PageActs pg s (s.ctxMid u c on) := s.setCv_pageActs ..

/-! ### Fields read after writes -/

theorem State.r_lt (page : Nat) (f : Fld) : s.r page f < 2 ^ f.w := wfld_lt ..

/-- A counter field one up, wrapped to its width. -/
theorem State.r_inc_same (page : Nat) (f : Fld) (k : Nat) (h : f.lo + f.w ≤ 64) :
    (s.inc page f k).r page f = (s.r page f + k) % 2 ^ f.w := State.r_w_same s page f _ h

@[simp] theorem State.r_setFp (page : Nat) (f : Fld) (n : Nat) (x : FieldPort) : (s.setFp n x).r page f = s.r page f := rfl
@[simp] theorem State.r_ctxMid (page : Nat) (f : Fld) (u c : Nat) (on : Bool) : (s.ctxMid u c on).r page f = s.r page f := rfl

end

/-! ### From the bus -/

/-- A write dropped on a page that is no view page is recorded in that page's own history (R33, R187). -/
theorem Wr.drop_own (s : State) {w : Wr} (hp : w.page < 0x5A0) {ev : Nat} (hev : ev ≠ Ev.OWNER_DENY ∧ ev ≠ Ev.PROT_DENY) :
    w.drop s ev = (s.accEventOpen w.func w.page ev, false) := by
  have hpage : histPage w.func w.page = (w.func, w.page) := if_neg (by omega)
  simp [Wr.drop, State.logDrop, hpage, hev]

theorem Wr.require_of_true (s : State) (w : Wr) {cond : Bool} (h : cond = true) (ev : Nat) (eff : State → Eff) :
    w.require s cond ev eff = eff s := if_pos h

theorem Wr.require_of_false (s : State) {w : Wr} (hp : w.page < 0x5A0) {cond : Bool} (h : cond = false) {ev : Nat}
    (hev : ev ≠ Ev.OWNER_DENY ∧ ev ≠ Ev.PROT_DENY) (eff : State → Eff) :
    w.require s cond ev eff = (s.accEventOpen w.func w.page ev, false) := by
  rw [Wr.require, h, if_neg Bool.false_ne_true, Wr.drop_own s hp hev]

/-- A step of a unit that is up. -/
theorem next_onUnit_of_up {s u : State} {func page : Nat} {k : Kind} {n : Nat} (hup : UnitUp s func page k n) (f : State → State)
    (h : f s = u) : (Host.Outcome.next (s.onUnit func page k n f) : Host.Outcome State Fault Refusal) = .next u :=
  congrArg Host.Outcome.next ((State.onUnit_of_up hup f).trans h)

theorem pgFP_lt {n : Nat} (hn : n < 16) : pgFP n < 0x470 := by unfold pgFP; omega
theorem pgCV_lt {u : Nat} (hu : u < 16) : pgCV u < 0x480 := by unfold pgCV; omega

section
variable {s : State} {off : Nat} {wr : Code}

theorem deasserts_unit {w : Wr} {k : Kind} (hk : k = .kFP ∨ k = .kCV) (ho : w.off = 0x008 ∨ 0x100 ≤ w.off) :
    deasserts w k = false := by
  rcases hk with rfl | rfl <;> simp [deasserts] <;> omega

/-- An accepted write of a field port's own register (R256). -/
theorem State.unitWrite_fp {n : Nat} (hn : n < 16) (v : BitVec 32) (ha : Admits s 0 (pgFP n) off 4 wr) (ho : 0x100 ≤ off)
    (hw : wideBase .kFP off = none) :
    s.unitWrite 16 n 0 (pgFP n) off 4 v.toNat wr = (s.fpWrite (wr32 0 (pgFP n) off v wr) n).1 :=
  (if_pos hn).trans (State.writeAt32_kind (pageKind_pgFP hn) ha rfl hw (deasserts_unit (.inl rfl) (.inr ho)) ho (by decide)
    (by decide) (by decide) (by decide))

/-- An accepted write of a field port's CTRL (R26). -/
theorem State.unitWrite_fpCtrl {n : Nat} (hn : n < 16) (v : BitVec 32) (ha : Admits s 0 (pgFP n) 0x008 4 wr) :
    s.unitWrite 16 n 0 (pgFP n) 0x008 4 v.toNat wr = (s.ctrlWrite (wr32 0 (pgFP n) 0x008 v wr) .kFP n).1 :=
  (if_pos hn).trans (State.writeAt32_common (pageKind_pgFP hn) ha rfl (by decide) (deasserts_unit (.inl rfl) (.inl rfl))
    (by decide))

/-- An accepted write of a 32-bit register of a check-value unit (R266). -/
theorem State.unitWrite_cv {u : Nat} (hu : u < 16) (v : BitVec 32) (ha : Admits s 0 (pgCV u) off 4 wr) (ho : 0x100 ≤ off)
    (hw : wideBase .kCV off = none) :
    s.unitWrite 16 u 0 (pgCV u) off 4 v.toNat wr = (s.cvWrite (wr32 0 (pgCV u) off v wr) u).1 :=
  (if_pos hu).trans (State.writeAt32_kind (pageKind_pgCV hu) ha rfl hw (deasserts_unit (.inr rfl) (.inr ho)) ho (by decide)
    (by decide) (by decide) (by decide))

/-- The same of a 64-bit one. -/
theorem State.unitWrite_cv64 {u : Nat} (hu : u < 16) (v : BitVec 64) (ha : Admits s 0 (pgCV u) off 8 wr) (ho : 0x100 ≤ off)
    (hw : wideBase .kCV off = some off) :
    s.unitWrite 16 u 0 (pgCV u) off 8 v.toNat wr =
      ((Released s 0 (pgCV u) off wr).cvWrite (wr64 0 (pgCV u) off v wr) u).1 :=
  (if_pos hu).trans (State.writeAt64_kind (pageKind_pgCV hu) ha rfl hw (deasserts_unit (.inr rfl) (.inr ho)) ho (by decide)
    (by decide) (by decide) (by decide))

end

end Sys2Proof.Machine
end

section
/-! SUPPORT. A check-value unit: bytes into a context, the compare, a frame to be sent, the registers that feed and finish, the
context commands and the self-check (10_field_ports_check_values R257, R263, R264, R266 to R269). -/

namespace Sys2Proof.Machine

/-! ### Values fit their registers (R263, R264) -/

section
variable {p : CvSet} {st : Nat}

theorem cvBits_lt {w poly b : Nat} (hw : w ≤ 64) (hpoly : poly < 2 ^ 64) (i : Nat) :
    ∀ {st : Nat}, st < 2 ^ 64 → cvBits w poly b i st < 2 ^ 64 := by
  induction i with
  | zero => exact id
  | succ i ih =>
    intro st _
    have hmod : st * 2 % 2 ^ w < 2 ^ 64 :=
      (Nat.mod_lt _ (by positivity)).trans_le (Nat.pow_le_pow_right (by decide) hw)
    rw [cvBits]
    apply ih
    split
    · exact Nat.xor_lt_two_pow hmod hpoly
    · exact hmod

theorem CvSet.byte_lt (hw : p.width ≤ 64) (hpoly : p.poly < 2 ^ 64) (hst : st < 2 ^ 64) (b : Byte) : p.byte st b < 2 ^ 64 := by
  unfold CvSet.byte
  split
  · exact cvBits_lt hw hpoly 8 hst
  · split
    · omega
    · split
      · omega
      · exact Nat.xor_lt_two_pow hst (b.isLt.trans (by decide))

theorem bitRev_lt (w v : Nat) : bitRev w v < 2 ^ w := by
  induction w generalizing v with
  | zero => exact Nat.one_pos
  | succ w ih =>
    have hrest := ih (v / 2)
    have htop : v % 2 * 2 ^ w ≤ 1 * 2 ^ w := Nat.mul_le_mul_right _ (by omega)
    rw [bitRev, pow_succ]
    omega

theorem CvSet.final_lt (hw : p.width ≤ 64) (hst : st < 2 ^ 64) : p.final st < 2 ^ 64 := by
  have hbits : p.bits ≤ 64 := by
    unfold CvSet.bits
    split_ifs <;> omega
  have hones : 2 ^ p.bits - 1 < 2 ^ 64 :=
    (Nat.sub_lt (by positivity) Nat.one_pos).trans_le (Nat.pow_le_pow_right (by decide) hbits)
  unfold CvSet.final
  extract_lets v
  have hv : v < 2 ^ 64 := by
    unfold v
    split
    · exact (bitRev_lt ..).trans_le (Nat.pow_le_pow_right (by decide) hw)
    · exact hst
  split
  · exact Nat.xor_lt_two_pow hv hones
  · exact hv

end

/-! ### One context (R263, R265) -/

section
variable (s : State) (u c : Nat)

theorem ctxFld_off_lt {c : Nat} (hc : c < 4) {f : Fld} (hf : f.off < 0x240) : (ctxFld f c).off < 4096 := by
  show f.off + 0x40 * c < 4096
  omega

theorem ctxFld_off_ne {f g : Fld} (h : f.off ≠ g.off) (c : Nat) : (ctxFld f c).off ≠ (ctxFld g c).off := by
  show f.off + 0x40 * c ≠ g.off + 0x40 * c
  omega

/-- A field of another register of the same context keeps its value. -/
theorem State.r_w_ctx {f g : Fld} (h : g.off ≠ f.off) (x : Nat) :
    (s.w (pgCV u) (ctxFld f c) x).r (pgCV u) (ctxFld g c) = s.r (pgCV u) (ctxFld g c) :=
  s.r_w_off _ _ (ctxFld_off_ne h c)

theorem State.r_inc_ctx {f g : Fld} (h : g.off ≠ f.off) (k : Nat) :
    (s.inc (pgCV u) (ctxFld f c) k).r (pgCV u) (ctxFld g c) = s.r (pgCV u) (ctxFld g c) :=
  s.r_w_ctx u c h _

/-- A context's parameter set is read from three of its registers. -/
theorem State.cvSet_congr {t : State} (h : ∀ f ∈ [CV.CFG, CV.POLY, CV.INIT], t.r (pgCV u) (ctxFld f c) = s.r (pgCV u) (ctxFld f c)) :
    t.cvSet u c = s.cvSet u c := by
  simp only [State.cvSet, h CV.CFG (by simp), h CV.POLY (by simp), h CV.INIT (by simp)]

theorem State.cvSet_width : (s.cvSet u c).width = s.r (pgCV u) (ctxFld CV.CFG_WIDTH c) := by
  show nfld (nfld _ 0 32) 0 7 = nfld _ 0 7
  unfold nfld
  exact Nat.mod_mod_of_dvd _ (by decide)

theorem State.cvSet_poly_lt : (s.cvSet u c).poly < 2 ^ 64 := s.r_lt (pgCV u) (ctxFld CV.POLY c)

theorem State.cvSet_cvByte (b : Byte) : (s.cvByte u c b).cvSet u c = s.cvSet u c := by
  apply State.cvSet_congr
  simp (disch := decide) [State.cvByte, State.r_inc_ctx, State.r_w_ctx]

/-- Bytes into a context: STATE follows the parameter set, COUNT counts them (R263, R266). -/
theorem State.foldl_cvByte (hw : s.r (pgCV u) (ctxFld CV.CFG_WIDTH c) ≤ 64) (bs : List Byte) :
    (bs.foldl (fun t b => t.cvByte u c b) s).r (pgCV u) (ctxFld CV.STATE c) =
      bs.foldl (s.cvSet u c).byte (s.r (pgCV u) (ctxFld CV.STATE c)) ∧
    (bs.foldl (fun t b => t.cvByte u c b) s).r (pgCV u) (ctxFld CV.COUNT c) =
      (s.r (pgCV u) (ctxFld CV.COUNT c) + bs.length) % 2 ^ 32 := by
  induction bs generalizing s with
  | nil => exact ⟨rfl, (Nat.mod_eq_of_lt (s.r_lt ..)).symm⟩
  | cons b bs ih =>
    have hwidth : (s.cvByte u c b).r (pgCV u) (ctxFld CV.CFG_WIDTH c) = s.r (pgCV u) (ctxFld CV.CFG_WIDTH c) := by
      rw [← State.cvSet_width, State.cvSet_cvByte, State.cvSet_width]
    have hstate : (s.cvByte u c b).r (pgCV u) (ctxFld CV.STATE c) =
        (s.cvSet u c).byte (s.r (pgCV u) (ctxFld CV.STATE c)) b := by
      rw [State.cvByte, State.r_inc_ctx _ _ _ (by decide), State.r_w_same _ _ _ _ (by decide : 0 + 64 ≤ 64)]
      exact Nat.mod_eq_of_lt (CvSet.byte_lt ((s.cvSet_width u c).trans_le hw) (s.cvSet_poly_lt u c) (s.r_lt ..) b)
    have hcount : (s.cvByte u c b).r (pgCV u) (ctxFld CV.COUNT c) = (s.r (pgCV u) (ctxFld CV.COUNT c) + 1) % 2 ^ 32 := by
      rw [State.cvByte, State.r_inc_same _ _ _ _ (by decide : 0 + 32 ≤ 64), State.r_w_ctx _ _ _ (by decide)]
      rfl
    obtain ⟨hst, hct⟩ := ih (s.cvByte u c b) (hwidth.trans_le hw)
    rw [List.foldl_cons, List.foldl_cons, hst, hct, hstate, hcount, State.cvSet_cvByte, List.length_cons]
    exact ⟨rfl, by omega⟩

end

/-! ### What a context's work changes -/

section
variable (s : State) {u c : Nat} (hu : u < 16) (hc : c < 4)
include hu hc

theorem State.w_ctx_pageActs {f : Fld} (hf : f.off < 0x240) (x : Nat) : PageActs (pgCV u) s (s.w (pgCV u) (ctxFld f c) x) :=
  s.w_pageActs ((pgCV_lt hu).trans (by decide)) (ctxFld_off_lt hc hf) x

theorem State.cvInit_pageActs : PageActs (pgCV u) s (s.cvInit u c) :=
  (s.w_ctx_pageActs hu hc (by decide) _).trans (State.w_ctx_pageActs _ hu hc (by decide) _)

theorem State.cvByte_pageActs (b : Byte) : PageActs (pgCV u) s (s.cvByte u c b) :=
  (s.w_ctx_pageActs hu hc (by decide) _).trans (State.w_ctx_pageActs _ hu hc (by decide) _)

end

/-! ### Contexts that are mid-frame (R268) -/

theorem mem_insertBy {α : Type} {le : α → α → Bool} {a b : α} {l : List α} : b ∈ insertBy le a l ↔ b = a ∨ b ∈ l := by
  induction l with
  | nil => simp [insertBy]
  | cons x l ih =>
    unfold insertBy
    split
    · simp
    · simp only [List.mem_cons, ih]
      tauto

theorem mem_midFrame_ctxMid (s : State) (u c : Nat) : c ∈ ((s.ctxMid u c true).cv u).midFrame := by
  simp [State.ctxMid, sortBy, mem_insertBy]

theorem not_mem_midFrame_ctxMid (s : State) (u c : Nat) : c ∉ ((s.ctxMid u c false).cv u).midFrame := by
  simp [State.ctxMid]

/-! ### The registers (R266, R268, R269) -/

section
variable {s : State} {w : Wr} {u : Nat}

theorem State.cvWrite_feed {n : Nat} (h : w.off = 0x180 ∧ n = 1 ∨ w.off = 0x184 ∧ n = 4 ∨ w.off = 0x188 ∧ n = 8) :
    s.cvWrite w u = s.feed w u n := by
  rcases h with ⟨h, rfl⟩ | ⟨h, rfl⟩ | ⟨h, rfl⟩ <;> simp [State.cvWrite, h]

theorem State.cvWrite_finish (h : w.off = 0x190) : s.cvWrite w u = s.finishWrite w u := by simp [State.cvWrite, h]

theorem State.cvWrite_ctxMem (h : w.off = 0x1A0) : s.cvWrite w u = s.ctxMemWrite w u := by simp [State.cvWrite, h]

theorem State.cvWrite_selfcheck (h : w.off = 0x1B0) : s.cvWrite w u = s.selfcheckWrite w u := by simp [State.cvWrite, h]

/-- SRC takes its value while nothing is in progress (R266). -/
theorem State.cvWrite_src (h : w.off = 0x100) :
    s.cvWrite w u = w.require s ((s.cv u).midFrame.isEmpty && (s.cv u).ctxCmd.isNone && !(s.cv u).self) Ev.BAD_STATE
      (·.plain w) := by
  simp [State.cvWrite, h]

/-- A unit that no software feeds refuses FEED and FINISH (R266). -/
theorem State.feed_of_unfed (hp : w.page < 0x5A0) (h : s.r (pgCV u) CV.SRC_KIND ≠ 3) (n : Nat) :
    s.feed w u n = (s.accEventOpen w.func w.page Ev.BAD_STATE, false) :=
  Wr.require_of_false s hp (beq_false_of_ne h) (by decide) _

variable (hu : u < 16) (h : s.r (pgCV u) CV.SRC_KIND = 3)
include hu h

/-- A FEED write passes its bytes through the context CTX_SEL names, which is mid-frame from then on (R266, R268). -/
theorem State.feed_feeds (n : Nat) (hw : s.r (pgCV u) (ctxFld CV.CFG_WIDTH (s.r (pgCV u) CV.CTX_SEL)) ≤ 64) :
    let c := s.r (pgCV u) CV.CTX_SEL
    let t := (s.feed w u n).1
    t.r (pgCV u) (ctxFld CV.STATE c) = (leBytes n w.v).foldl (s.cvSet u c).byte (s.r (pgCV u) (ctxFld CV.STATE c)) ∧
    t.r (pgCV u) (ctxFld CV.COUNT c) = (s.r (pgCV u) (ctxFld CV.COUNT c) + n) % 2 ^ 32 ∧ c ∈ (t.cv u).midFrame ∧
    OtherPages s t (pgCV u) ∧ t.mem = s.mem ∧ t.owners = s.owners ∧ t.locks = s.locks ∧ t.hist = s.hist := by
  intro c t
  have hc : c < 4 := s.r_lt ..
  have ht : t = ((leBytes n w.v).foldl (fun t b => t.cvByte u c b) s).ctxMid u c true :=
    congrArg Prod.fst (Wr.require_of_true s w (beq_iff_eq.2 h) ..)
  obtain ⟨hstate, hcount⟩ := s.foldl_cvByte u c hw (leBytes n w.v)
  have hacts : PageActs (pgCV u) s t := by
    rw [ht]
    exact (PageActs.foldl _ s fun v b => v.cvByte_pageActs hu hc b).trans (State.ctxMid_pageActs ..)
  rw [length_leBytes] at hcount
  exact ⟨ht ▸ hstate, ht ▸ hcount, ht ▸ mem_midFrame_ctxMid .., hacts.regs, hacts.mem, hacts.owners, hacts.locks, hacts.hist⟩

/-- FINISH: RESULT takes the final value, CHECKS counts, the context begins anew (R264, R266). -/
theorem State.finishWrite_finishes (hbit : nbit w.v 0 = true)
    (hw : s.r (pgCV u) (ctxFld CV.CFG_WIDTH (s.r (pgCV u) CV.CTX_SEL)) ≤ 64) :
    let c := s.r (pgCV u) CV.CTX_SEL
    let t := (s.finishWrite w u).1
    t.r (pgCV u) (ctxFld CV.RESULT c) = (s.cvSet u c).final (s.r (pgCV u) (ctxFld CV.STATE c)) ∧
    t.r (pgCV u) (ctxFld CV.STATE c) = s.r (pgCV u) (ctxFld CV.INIT c) ∧ t.r (pgCV u) (ctxFld CV.COUNT c) = 0 ∧
    t.r (pgCV u) (ctxFld CV.CHECKS c) = (s.r (pgCV u) (ctxFld CV.CHECKS c) + 1) % 2 ^ 32 ∧ c ∉ (t.cv u).midFrame ∧
    OtherPages s t (pgCV u) ∧ t.mem = s.mem ∧ t.owners = s.owners ∧ t.locks = s.locks ∧ t.hist = s.hist := by
  intro c t
  have hc : c < 4 := s.r_lt ..
  let v := (s.w (pgCV u) (ctxFld CV.RESULT c) (s.cvFinal u c)).inc (pgCV u) (ctxFld CV.CHECKS c)
  have ht : t = (v.cvInit u c).ctxMid u c false := by
    show (s.finishWrite w u).1 = _
    rw [State.finishWrite, Wr.require_of_true s w (beq_iff_eq.2 h), hbit]
    rfl
  have hfinal : s.cvFinal u c < 2 ^ 64 := CvSet.final_lt ((s.cvSet_width u c).trans_le hw) (s.r_lt ..)
  have hinit : (v.cvSet u c).init = s.r (pgCV u) (ctxFld CV.INIT c) := by
    show v.r (pgCV u) (ctxFld CV.INIT c) = _
    simp (disch := decide) [v, State.r_inc_ctx, State.r_w_ctx]
  have hacts : PageActs (pgCV u) s t := by
    rw [ht]
    exact (((s.w_ctx_pageActs hu hc (by decide) _).trans (State.w_ctx_pageActs _ hu hc (by decide) _)).trans
      (v.cvInit_pageActs hu hc)).trans (State.ctxMid_pageActs ..)
  refine ⟨?result, ?state, ?count, ?checks, ht ▸ not_mem_midFrame_ctxMid _ u c, hacts.regs, hacts.mem, hacts.owners, hacts.locks,
    hacts.hist⟩
  case result =>
    rw [ht, State.r_ctxMid, State.cvInit, State.r_w_ctx _ _ _ (by decide), State.r_w_ctx _ _ _ (by decide),
      State.r_inc_ctx _ _ _ (by decide), State.r_w_same _ _ _ _ (by decide : 0 + 64 ≤ 64)]
    exact Nat.mod_eq_of_lt hfinal
  case state =>
    rw [ht, State.r_ctxMid, State.cvInit, State.r_w_ctx _ _ _ (by decide), State.r_w_same _ _ _ _ (by decide : 0 + 64 ≤ 64),
      hinit]
    exact Nat.mod_eq_of_lt (s.r_lt ..)
  case count => rw [ht, State.r_ctxMid, State.cvInit, State.r_w_same _ _ _ _ (by decide : 0 + 32 ≤ 64), Nat.zero_mod]
  case checks =>
    rw [ht, State.r_ctxMid, State.cvInit, State.r_w_ctx _ _ _ (by decide), State.r_w_ctx _ _ _ (by decide),
      State.r_inc_same _ _ _ _ (by decide : 0 + 32 ≤ 64), State.r_w_ctx _ _ _ (by decide)]
    rfl

end

section
variable (s : State) {w : Wr} {u : Nat}

/-- SAVE or LOAD begins on a context that is not mid-frame, with no command of its kind running (R268). -/
theorem State.ctxMemWrite_begins {save : Bool} (hcmd : (s.cv u).ctxCmd = none) (hmid : w.f CV.CTX_MEM_CTX ∉ (s.cv u).midFrame)
    (hsave : nbit w.v 4 = save) (hload : nbit w.v 5 = !save) :
    s.ctxMemWrite w u = ((s.w (pgCV u) CV.CTX_MEM_CTX (w.f CV.CTX_MEM_CTX)).setCv u
      { s.cv u with ctxCmd := some (w.f CV.CTX_MEM_CTX, save) }, true) := by
  cases save <;> simp [State.ctxMemWrite, hsave, hload, Wr.require, hcmd, hmid, done]

theorem State.ctxMemWrite_busy (hp : w.page < 0x5A0) (hbusy : (s.cv u).ctxCmd ≠ none ∨ w.f CV.CTX_MEM_CTX ∈ (s.cv u).midFrame)
    (hsave : nbit w.v 4 = true) : s.ctxMemWrite w u = (s.accEventOpen w.func w.page Ev.BAD_STATE, false) := by
  have hcond : ((s.cv u).ctxCmd.isNone && !(true && nbit w.v 5) && !(s.cv u).midFrame.contains (w.f CV.CTX_MEM_CTX)) = false := by
    rcases hbusy with h | h
    · obtain ⟨x, hx⟩ := Option.ne_none_iff_exists'.1 h
      simp [hx]
    · simp [h]
  simp only [State.ctxMemWrite, hsave, Bool.not_true, Bool.false_and, Bool.false_eq_true, if_false]
  exact Wr.require_of_false s hp hcond (by decide) _

/-- The record of the context goes into the paddock, or the context takes the record that stands there (R268). -/
theorem State.ctxDone_of_running {c : Nat} {save : Bool} (hcmd : (s.cv u).ctxCmd = some (c, save))
    (hup : s.padUp (s.r (pgCV u) CV.CTX_ADDR_CLUSTER) = true) :
    s.ctxDone u = (if save then (s.setCv u { s.cv u with ctxCmd := none }).padWrite (s.r (pgCV u) CV.CTX_ADDR_CLUSTER)
        (s.r (pgCV u) CV.CTX_ADDR_OFFSET) (s.ctxRecord u c)
      else (s.setCv u { s.cv u with ctxCmd := none }).ctxTake u c (s.padRead (s.r (pgCV u) CV.CTX_ADDR_CLUSTER)
        (s.r (pgCV u) CV.CTX_ADDR_OFFSET) 64)).w (pgCV u) (INT_PEND_BIT 0) 1 := by
  have hup' : (s.setCv u { s.cv u with ctxCmd := none }).padUp (s.r (pgCV u) CV.CTX_ADDR_CLUSTER) = true := hup
  have hread : ∀ (cl n off : Nat), (s.setCv u { s.cv u with ctxCmd := none }).padRead cl off n = s.padRead cl off n := by
    intro cl n
    induction n with
    | zero => exact fun _ => rfl
    | succ n ih => exact fun off => congrArg₂ List.cons rfl (ih (off + 1))
  unfold State.ctxDone
  simp only [hcmd, hup', Bool.not_true, Bool.false_eq_true, if_false, hread]
  rfl

/-- The six parameter sets give their check values: without a defect the self-check finds nothing, else the defective row (R269). -/
theorem selfcheck_finds {k : Nat} (hk : k ≤ 6) :
    ((List.range 6).find? fun i => i + 1 == k || (match selfSets[i]? with | some (p, v) => p.run selfBytes != v | none => false)) =
      if k = 0 then none else some (k - 1) := by
  revert k
  decide +kernel

theorem State.selfcheckDone_of_running (hself : (s.cv u).self = true) {k : Nat} (hk : k ≤ 6) :
    s.selfcheckDone u k = (((s.setCv u { s.cv u with self := false }).w (pgCV u) CV.SELFCHECK_STAT_RESULT
      (if k = 0 then 1 else 2)).w (pgCV u) CV.SELFCHECK_STAT_FAILED k).w (pgCV u) (INT_PEND_BIT 1) 1 := by
  have hfind := selfcheck_finds hk
  simp only [State.selfcheckDone, hself, Bool.not_true, Bool.false_eq_true, if_false]
  split
  · next hnone =>
    have hgood := hnone.symm.trans hfind
    split_ifs at hgood with h0
    rw [h0]
    rfl
  · next j hsome =>
    have hbad := hsome.symm.trans hfind
    split_ifs at hbad with h0
    obtain rfl : j = k - 1 := Option.some.inj hbad
    rw [if_neg h0, Nat.sub_add_cancel (by omega)]
    rfl

end

end Sys2Proof.Machine

open Sys2Proof Sys2Proof.Machine

/-- Settles O50: each register by what its write comes to past the checks, a feed by `State.foldl_cvByte`, the self-check by the
check values of the six parameter sets. -/
theorem checkValueUnitsFeedFinishSaveAndCheck : Obligations.CheckValueUnitsFeedFinishSaveAndCheck := by
  have hpage : ∀ {u : Nat}, u < 16 → pgCV u < 0x5A0 := fun hu => (pgCV_lt hu).trans (by decide)
  refine ⟨fun s u v wr hu ha => ?src, fun s u v wr hu ha hkind hw => ⟨_, rfl, ?feed8⟩,
    fun s u v wr hu ha hkind hw => ⟨_, rfl, ?feed32⟩, fun s u v wr hu ha hkind hw => ⟨_, rfl, ?feed64⟩,
    fun s u v wr hu ha hkind => congrArg Host.Outcome.next ?bad8, fun s u v wr hu ha hkind => congrArg Host.Outcome.next ?bad32,
    fun s u v wr hu ha hkind => congrArg Host.Outcome.next ?bad64, fun s u v wr hu ha hkind hbit hw => ⟨_, rfl, ?finish⟩,
    fun s u v wr hu ha => ?ctxMem,
    fun s u c save hup hcmd hpad => next_onUnit_of_up hup _ (s.ctxDone_of_running hcmd hpad),
    fun s u v wr hu ha hbit => ?selfcheck,
    fun s u k hup hself hk =>
      next_onUnit_of_up hup _ (s.selfcheckDone_of_running hself hk)⟩
  case src =>
    have hstep := State.unitWrite_cv hu v ha (by decide) (by decide)
    rw [State.cvWrite_src rfl] at hstep
    refine ⟨fun hmid hcmd hself => congrArg Host.Outcome.next (hstep.trans ?_),
      fun hbusy => congrArg Host.Outcome.next (hstep.trans ?_)⟩
    · rw [Wr.require_of_true _ _ (by simp [hmid, hcmd, hself])]
    · have hcond : ((s.cv u).midFrame.isEmpty && (s.cv u).ctxCmd.isNone && !(s.cv u).self) = false := by
        rcases hbusy with h | h | h
        · simp [h]
        · obtain ⟨x, hx⟩ := Option.ne_none_iff_exists'.1 h
          simp [hx]
        · simp [h]
      rw [Wr.require_of_false s (hpage hu) hcond (by decide)]
      rfl
  case feed8 =>
    rw [State.unitWrite_cv hu v ha (by decide) (by decide), State.cvWrite_feed (.inl ⟨rfl, rfl⟩), ← wr32_v 0 (pgCV u) 0x180 v wr]
    exact State.feed_feeds hu hkind 1 hw
  case feed32 =>
    rw [State.unitWrite_cv hu v ha (by decide) (by decide), State.cvWrite_feed (.inr (.inl ⟨rfl, rfl⟩)),
      ← wr32_v 0 (pgCV u) 0x184 v wr]
    exact State.feed_feeds hu hkind 4 hw
  case feed64 =>
    rw [State.unitWrite_cv64 hu v ha (by decide) (by decide), State.cvWrite_feed (.inr (.inr ⟨rfl, rfl⟩)),
      ← wr64_v 0 (pgCV u) 0x188 v wr]
    exact State.feed_feeds (s := Released s 0 (pgCV u) 0x188 wr) hu hkind 8 hw
  case bad8 =>
    refine (State.unitWrite_cv hu v ha (by decide) (by decide)).trans ?_
    rw [State.cvWrite_feed (.inl ⟨rfl, rfl⟩), State.feed_of_unfed (hpage hu) hkind]
    rfl
  case bad32 =>
    refine (State.unitWrite_cv hu v ha (by decide) (by decide)).trans ?_
    rw [State.cvWrite_feed (.inr (.inl ⟨rfl, rfl⟩)), State.feed_of_unfed (hpage hu) hkind]
    rfl
  case bad64 =>
    refine (State.unitWrite_cv64 hu v ha (by decide) (by decide)).trans ?_
    rw [State.cvWrite_feed (.inr (.inr ⟨rfl, rfl⟩)), State.feed_of_unfed (s := Released s 0 (pgCV u) 0x188 wr) (hpage hu) hkind]
    rfl
  case finish =>
    rw [State.unitWrite_cv hu v ha (by decide) (by decide), State.cvWrite_finish rfl]
    exact State.finishWrite_finishes hu hkind (by rw [wr32_v]; exact hbit) hw
  case ctxMem =>
    intro c
    have hstep := State.unitWrite_cv hu v ha (by decide) (by decide)
    rw [State.cvWrite_ctxMem rfl] at hstep
    have hctx : (wr32 0 (pgCV u) 0x1A0 v wr).f CV.CTX_MEM_CTX = c := by
      show nfld (wr32 0 (pgCV u) 0x1A0 v wr).v 0 2 = v.toNat % 4
      rw [wr32_v]
      rfl
    have hnbit : ∀ i, nbit (wr32 0 (pgCV u) 0x1A0 v wr).v i = v.getLsbD i := fun i => by rw [wr32_v]; rfl
    refine ⟨fun hcmd hmid hsave hload => congrArg Host.Outcome.next (hstep.trans ?_),
      fun hcmd hmid hsave hload => congrArg Host.Outcome.next (hstep.trans ?_),
      fun hbusy hsave => congrArg Host.Outcome.next (hstep.trans ?_)⟩
    · rw [s.ctxMemWrite_begins (save := true) hcmd (hctx ▸ hmid) ((hnbit 4).trans hsave) ((hnbit 5).trans hload), hctx]
    · rw [s.ctxMemWrite_begins (save := false) hcmd (hctx ▸ hmid) ((hnbit 4).trans hsave) ((hnbit 5).trans hload), hctx]
    · rw [s.ctxMemWrite_busy (hpage hu) (hctx ▸ hbusy) ((hnbit 4).trans hsave)]
      rfl
  case selfcheck =>
    have hstep := State.unitWrite_cv hu v ha (by decide) (by decide)
    have hnbit : nbit v.toNat 0 = true := hbit
    rw [State.cvWrite_selfcheck rfl] at hstep
    refine ⟨fun hidle hfence _ => congrArg Host.Outcome.next (hstep.trans ?_),
      fun hbusy => congrArg Host.Outcome.next (hstep.trans ?_)⟩
    · simp [State.selfcheckWrite, hnbit, hidle, hfence, done]
    · simp [State.selfcheckWrite, hnbit, hbusy, done]

end

section
/-! SUPPORT. What the command dispatcher leaves of a field port: journal entries, results and the ends of transactions write pages
of their own, and of a port they change the frames that wait alone (10_field_ports_check_values R246; 11_points_brands_commands
R304 to R306, R310). -/

namespace Sys2Proof.Machine

/-! ### The frame -/

/-- A field of a port's page that the dispatcher never writes: none of STATUS's error bits, and at no offset where the result
index of a ring without a register of its own would lie. -/
abbrev dispatchFree (f : Fld) : Prop := f.off < 4096 ∧ f.off % 0x40 ≠ 0x20 ∧ (f.off = 0x00C → 8 ≤ f.lo)

/-- Port `n` is listed once at most: what stands under its index is its state. -/
def PortListed (n : Nat) (s : State) : Prop := ∀ e ∈ s.fps, e.1 = n → e.2 = s.fp n

/-- From `s` to `t` the ports are as they were, and the registers of port `n` that the dispatcher never writes. -/
structure PortHeld (n : Nat) (s t : State) : Prop where
  r : ∀ f, dispatchFree f → t.r (pgFP n) f = s.r (pgFP n) f
  fps : t.fps = s.fps

/-- The same with frames of port `n` put to those that wait, or taken from them (R306). -/
structure PortServed (n : Nat) (s t : State) : Prop where
  r : ∀ f, dispatchFree f → t.r (pgFP n) f = s.r (pgFP n) f
  listed : PortListed n s → PortListed n t
  line : PortListed n s → ∃ q, t.fp n = { s.fp n with dispQ := q }

section
variable {n : Nat} {s t u : State}

theorem PortHeld.refl (n : Nat) (s : State) : PortHeld n s s := ⟨fun _ _ => rfl, rfl⟩

theorem PortHeld.trans (h : PortHeld n s t) (h' : PortHeld n t u) : PortHeld n s u :=
  ⟨fun f hf => (h'.r f hf).trans (h.r f hf), h'.fps.trans h.fps⟩

/-- A change of neither registers nor ports. -/
theorem PortHeld.elsewhere (hregs : t.regs = s.regs) (hfps : t.fps = s.fps) : PortHeld n s t :=
  ⟨fun f _ => State.r_congr hregs _ f, hfps⟩

theorem PortHeld.ite {c : Prop} [Decidable c] (ht : PortHeld n s t) (hu : PortHeld n s u) :
    PortHeld n s (if c then t else u) := by
  split
  · exact ht
  · exact hu

theorem PortHeld.fp_eq (h : PortHeld n s t) (m : Nat) : t.fp m = s.fp m := by
  unfold State.fp
  rw [h.fps]

theorem PortHeld.served (h : PortHeld n s t) : PortServed n s t where
  r := h.r
  listed hl e he hn := by
    rw [h.fps] at he
    rw [h.fp_eq]
    exact hl e he hn
  line _ := ⟨(s.fp n).dispQ, h.fp_eq n⟩

theorem PortServed.trans (h : PortServed n s t) (h' : PortServed n t u) : PortServed n s u where
  r f hf := (h'.r f hf).trans (h.r f hf)
  listed hl := h'.listed (h.listed hl)
  line hl := by
    obtain ⟨q, hq⟩ := h.line hl
    obtain ⟨q', hq'⟩ := h'.line (h.listed hl)
    exact ⟨q', by rw [hq', hq]⟩

theorem PortServed.ite {c : Prop} [Decidable c] (ht : PortServed n s t) (hu : PortServed n s u) :
    PortServed n s (if c then t else u) := by
  split
  · exact ht
  · exact hu

end

/-! ### Registers and paddocks -/

section
variable {n : Nat} (s : State)

theorem State.event_portHeld (page code : Nat) (detail : W32) : PortHeld n s (s.event page code detail) := by
  obtain ⟨hist, h⟩ := s.event_eq page code detail
  rw [h]
  exact .elsewhere rfl rfl

theorem State.setTxn_portHeld (t : Nat) (x : Txn) : PortHeld n s (s.setTxn t x) := .elsewhere rfl rfl

theorem State.padSetByte_portHeld (c off : Nat) (b : Byte) : PortHeld n s (s.padSetByte c off b) := by
  unfold State.padSetByte
  extract_lets v
  have hv : PortHeld n s v := .ite (.elsewhere rfl rfl) (.refl n s)
  exact hv.trans (.elsewhere rfl rfl)

theorem State.padWrite_portHeld (c off : Nat) (bs : List Byte) : PortHeld n s (s.padWrite c off bs) := by
  induction bs generalizing s off with
  | nil => exact .refl n s
  | cons b bs ih => exact (s.padSetByte_portHeld c off b).trans (ih _ _)

theorem State.padRingWrite_portHeld (c base size pos : Nat) (bs : List Byte) :
    PortHeld n s (s.padRingWrite c base size pos bs) := by
  induction bs generalizing s pos with
  | nil => exact .refl n s
  | cons b bs ih => exact (s.padSetByte_portHeld c _ b).trans (ih _ _)

theorem State.ringWrite_portHeld {k base i : Nat} {bs : List Byte} {t : State} (h : s.ringWrite k base i bs = some t) :
    PortHeld n s t := by
  unfold State.ringWrite at h
  extract_lets loc a at h
  split_ifs at h <;> obtain rfl := Option.some.inj h
  · exact s.padWrite_portHeld loc a bs
  · exact .elsewhere rfl rfl

/-- A ring's result index lies at an offset that is 0x20 modulo 0x40, whatever the ring: no register of a port the frame speaks
of has such an offset. -/
theorem State.w_resHead_portHeld (k x : Nat) : PortHeld n s (s.w pPOINTS (crFld POINTS.CR_RES_HEAD k) x) where
  r f hf := by
    refine s.r_w_ne x ?_
    have hoff := hf.2.1
    simp only [regKey, crFld, Fld.at, pgFP, pPOINTS]
    omega
  fps := rfl

/-- A port's CV_FAULT is none of the fields the frame speaks of, whichever the port. -/
theorem State.statusBit7_portHeld (k : Nat) : PortHeld n s (s.statusBit (pgFP k) 7) where
  r f hf := by
    by_cases hk : f.off = 0x00C ∧ k = n
    · obtain ⟨hoff, rfl⟩ := hk
      exact s.r_w_disjoint _ 1 (by decide) hoff (.inr (hf.2.2 hoff))
    · refine s.r_w_ne 1 fun h => hk ?_
      have hoff := hf.1
      simp only [regKey, STATUS_BIT, pgFP] at h
      omega
  fps := rfl

variable (hn : n < 16)
include hn

theorem State.w_portHeld {page : Nat} {f : Fld} (hp : page < 4096) (ho : f.off < 4096) (hne : page ≠ pgFP n) (x : Nat) :
    PortHeld n s (s.w page f x) where
  r g hg := by
    have hpage := pgFP_lt hn
    exact s.r_w_ne x fun hk => hne (regKey_inj (by omega) hg.1 hp ho hk).2.1.symm
  fps := rfl

/-- A page below the ports' is none of theirs. -/
theorem State.w_low_portHeld {page : Nat} {f : Fld} (hp : page < 0x460) (ho : f.off < 4096) (x : Nat) :
    PortHeld n s (s.w page f x) :=
  s.w_portHeld hn (by omega) ho (by unfold pgFP; omega) x

/-! ### Journal entries (R286, R316) -/

theorem State.jPush_portHeld (kind flags : Nat) (payload : List Byte) : PortHeld n s (s.jPush kind flags payload) := by
  unfold State.jPush
  extract_lets q e buf _ t v
  have ht : PortHeld n s t := .elsewhere rfl rfl
  have hv : PortHeld n t v := .ite (t.w_low_portHeld hn (by decide) (by decide) _) (.refl n t)
  have hseq : PortHeld n v (v.w pJOURNAL JOURNAL.NEXT_SEQ (q + 1)) := v.w_low_portHeld hn (by decide) (by decide) _
  exact ((ht.trans hv).trans hseq).trans (.ite (.elsewhere rfl rfl) (.refl n _))

theorem State.jDrain_portHeld (l : List (Nat × List Byte)) : PortHeld n s (s.jDrain l) := by
  induction l generalizing s with
  | nil => exact .elsewhere rfl rfl
  | cons e l ih => exact .ite ((s.jPush_portHeld hn e.1 0 e.2).trans (ih _)) (.elsewhere rfl rfl)

theorem State.cmdStep_portHeld (t result : Nat) : PortHeld n s (s.cmdStep t result) :=
  .ite (.refl n s) (s.jDrain_portHeld hn _)

theorem State.txnGo_portHeld (t state : Nat) : PortHeld n s (s.txnGo t state) :=
  (s.setTxn_portHeld t { s.txn t with state := state, rearmed := none }).trans (State.cmdStep_portHeld _ hn t 0xFF)

/-! ### Results (R310) -/

theorem State.resultStatus_portHeld (result : Nat) : PortHeld n s (s.resultStatus result) := by
  have hw (t : State) {f : Fld} (ho : f.off < 4096) : PortHeld n t (t.w pCOMMANDS f 1) := t.w_low_portHeld hn (by decide) ho 1
  have hstatus (i : Nat) : PortHeld n s (s.statusBit pCOMMANDS i) := hw s (show 0x00C < 4096 by decide)
  exact .ite ((hstatus 3).trans (hw _ (show 0x014 < 4096 by decide))) (.ite (hstatus 4) (.ite (hstatus 5) (.refl n s)))

theorem State.resultEntry_portHeld (k txn result last : Nat) (tag : W32) (tally object jseq : Nat) :
    PortHeld n s (s.resultEntry k txn result last tag tally object jseq) := by
  have hw (t : State) (page : Nat) (f : Fld) (hp : page < 0x460) (ho : f.off < 4096) : PortHeld n t (t.w page f 1) :=
    t.w_low_portHeld hn hp ho 1
  unfold State.resultEntry
  extract_lets head bytes v base
  have hv : PortHeld n s v := s.resultStatus_portHeld hn result
  split
  · next t ht =>
    exact ((hv.trans (v.ringWrite_portHeld ht)).trans (t.w_resHead_portHeld k _)).trans
      (hw _ pCOMMANDS (INT_PEND_BIT 0) (by decide) (by decide))
  · refine (hv.trans (hw v pPOINTS (STATUS_BIT 4) (by decide) (by decide))).trans ?_
    exact .ite (State.event_portHeld ..) (.refl n _)

theorem State.cmdDeny_portHeld (a : Option Nat) : PortHeld n s (s.cmdDeny a) := by
  cases a with
  | none => exact .refl n s
  | some a =>
    exact PortHeld.trans (s.w_low_portHeld hn (by decide) (show 0x00C < 4096 by decide) 1) (State.event_portHeld ..)

end

/-! ### Frames that wait (R306) -/

section
variable {n : Nat} (s : State)

/-- A port's state set is listed under its index alone. -/
theorem State.setFp_listed (x : FieldPort) : PortListed n (s.setFp n x) := by
  intro e he hen
  rw [State.fp_setFp_same]
  simp only [State.setFp, sset] at he
  split at he
  · exact absurd hen (absent_serase s.fps n e he)
  · rcases sinsert_mem.1 he with rfl | he
    · rfl
    · exact absurd hen (absent_serase s.fps n e he)

theorem State.setFp_served_of_ne {k : Nat} (h : k ≠ n) (x : FieldPort) : PortServed n s (s.setFp k x) where
  r _ _ := rfl
  listed hl e he hen := by
    rw [State.fp_setFp_ne s x h.symm]
    refine hl e ?_ hen
    simp only [State.setFp, sset] at he
    split at he
    · exact serase_sub he
    · rcases sinsert_mem.1 he with rfl | he
      · exact absurd hen h
      · exact serase_sub he
  line _ := ⟨(s.fp n).dispQ, State.fp_setFp_ne s x h.symm⟩

theorem State.setFp_dispQ_served (k : Nat) (q : List (Nat × List Byte)) :
    PortServed n s (s.setFp k { s.fp k with dispQ := q }) := by
  by_cases h : k = n
  · subst h
    exact ⟨fun _ _ => rfl, fun _ => s.setFp_listed _, fun _ => ⟨q, State.fp_setFp_same ..⟩⟩
  · exact s.setFp_served_of_ne h _

/-- The entry listed under a key is what the table gives, the default where none is. -/
theorem sget_of_listed {α : Type} {d x : α} {m : List (Nat × α)} {k : Nat} (h : ∀ e ∈ m, e.1 = k → e.2 = x)
    (hd : (∀ e ∈ m, e.1 ≠ k) → x = d) : sget d m k = x := by
  induction m with
  | nil => exact (hd (by simp)).symm
  | cons e m ih =>
    obtain ⟨k', v⟩ := e
    by_cases hk : k = k'
    · simpa [sget, hk] using h (k', v) (by simp) hk.symm
    · rw [sget, if_neg hk]
      exact ih (fun e he => h e (by simp [he])) fun hno => hd (by simpa [Ne.symm hk] using fun a b hab => hno (a, b) hab)

/-- What a withdrawal leaves of a port (R306). -/
def FieldPort.without (x : FieldPort) (t : Nat) : FieldPort := { x with dispQ := x.dispQ.filter fun d => d.1 != t }

theorem State.mem_withdraw_fps {t : Nat} {e : Nat × FieldPort} :
    e ∈ (s.withdraw t).fps ↔ (∃ x, (e.1, x) ∈ s.fps ∧ e.2 = x.without t) ∧ e.2 ≠ {} := by
  obtain ⟨k, y⟩ := e
  show (k, y) ∈ (s.fps.map fun e => (e.1, e.2.without t)).filter (fun e => decide (e.2 ≠ {})) ↔ _
  simp only [List.mem_filter, List.mem_map, Prod.mk.injEq, decide_eq_true_eq, Prod.exists]
  constructor
  · rintro ⟨⟨a, x, hx, rfl, rfl⟩, hy⟩
    exact ⟨⟨x, hx, rfl⟩, hy⟩
  · rintro ⟨⟨x, hx, rfl⟩, hy⟩
    exact ⟨⟨k, x, hx, rfl, rfl⟩, hy⟩

theorem State.fp_withdraw (hl : PortListed n s) (t : Nat) : (s.withdraw t).fp n = (s.fp n).without t := by
  refine sget_of_listed (fun e he hen => ?_) fun hno => ?_
  · obtain ⟨⟨x, hx, hex⟩, _⟩ := s.mem_withdraw_fps.1 he
    rw [hex, show x = s.fp n from hl (e.1, x) hx hen]
  · by_contra hne
    by_cases hex : ∃ x, (n, x) ∈ s.fps
    · obtain ⟨x, hx⟩ := hex
      refine hno (n, (s.fp n).without t) (s.mem_withdraw_fps.2 ⟨⟨x, hx, ?_⟩, hne⟩) rfl
      rw [show x = s.fp n from hl (n, x) hx rfl]
    · have hdefault : s.fp n = {} := sget_of_listed (fun e he hen => absurd ⟨e.2, hen ▸ he⟩ hex) fun _ => rfl
      exact hne (by rw [hdefault]; rfl)

theorem State.withdraw_served (t : Nat) : PortServed n s (s.withdraw t) where
  r _ _ := rfl
  listed hl e he hen := by
    obtain ⟨⟨x, hx, hex⟩, _⟩ := s.mem_withdraw_fps.1 he
    rw [s.fp_withdraw hl, hex, show x = s.fp n from hl (e.1, x) hx hen]
  line hl := ⟨_, s.fp_withdraw hl t⟩

end

/-! ### Transactions (R304 to R306) -/

section
variable {n : Nat} (hn : n < 16) (s : State)
include hn

/-- A transaction's end: a step of the journal, its frames withdrawn, its result. -/
theorem State.endTxn_served (t result : Nat) : PortServed n s (s.endTxn t result) ∧
    (PortListed n s → (s.fp n).dispQ = [] → ((s.endTxn t result).fp n).dispQ = []) := by
  unfold State.endTxn
  extract_lets x jseq v v1 v2 v3
  split
  · exact ⟨(PortHeld.refl n s).served, fun _ h => h⟩
  · have hv1 : PortHeld n s v1 := (s.cmdStep_portHeld hn t result).trans (.elsewhere rfl rfl)
    have hcount (f : Fld) (ho : f.off < 4096) : PortHeld n v2 (v2.inc pCOMMANDS f) := v2.w_low_portHeld hn (by decide) ho _
    have hv3 : PortHeld n v2 v3 := .ite (hcount COMMANDS.COMPLETED (by decide)) (hcount COMMANDS.FAILED (by decide))
    have hrest : PortHeld n v2 (v3.resultEntry x.ring t result x.state x.tag x.tally.toNat x.object jseq) :=
      hv3.trans (v3.resultEntry_portHeld hn ..)
    refine ⟨(hv1.served.trans (v1.withdraw_served t)).trans hrest.served, fun hl hq => ?_⟩
    rw [hrest.fp_eq, v1.fp_withdraw (hv1.served.listed hl), hv1.fp_eq, FieldPort.without, hq]
    rfl

theorem State.passFrame_served (t addr len : Nat) : PortServed n s (s.passFrame t addr len) := by
  unfold State.passFrame
  extract_lets k a v bytes x o q
  split
  · have hv : PortHeld n s v := .ite (s.statusBit7_portHeld k) (.refl n s)
    exact hv.served.trans (v.endTxn_served hn t 19).1
  · split
    · exact s.setFp_dispQ_served k _
    · exact PortHeld.served (.elsewhere rfl rfl)

theorem State.operateCheck_served (t : Nat) : PortServed n s (s.operateCheck t) := by
  unfold State.operateCheck
  extract_lets x c v y
  refine .ite (PortHeld.refl n s).served (.ite ?_ (.ite (s.endTxn_served hn t 11).1 ?_))
  · exact (s.cmdDeny_portHeld hn _).served.trans (State.endTxn_served hn _ t 12).1
  · exact (s.txnGo_portHeld hn t 5).served.trans (v.passFrame_served hn t _ _)

theorem State.operateConfirmed_served (t : Nat) : PortServed n s (s.operateConfirmed t) := by
  unfold State.operateConfirmed
  extract_lets c _ v v1
  have hv1 : PortHeld n s v1 := (s.setTxn_portHeld t _).trans (v.txnGo_portHeld hn t 7)
  exact .ite (s.endTxn_served hn t 1).1 (.ite (hv1.served.trans (v1.endTxn_served hn t 0).1) hv1.served)

/-- A received frame offered as a confirmation (R305). -/
theorem State.confirm_served (k : Nat) (got : List Byte) (time : W64) : PortServed n s (s.confirm k got time) := by
  unfold State.confirm
  split
  · exact (PortHeld.refl n s).served
  · next t _ =>
    extract_lets x c v v1
    have hv1 : PortHeld n s v1 := (s.setTxn_portHeld t _).trans (v.txnGo_portHeld hn t 4)
    refine .ite (.ite (.ite hv1.served (hv1.served.trans (v1.operateCheck_served hn t))) (s.endTxn_served hn t 10).1) ?_
    exact .ite (s.operateConfirmed_served hn t) (s.endTxn_served hn t 14).1

end

end Sys2Proof.Machine
end

section
/-! SUPPORT. A field port that sends: the next frame taken, the waits before it, its bytes and its line, its end and the tail, and
TX_MAX (10_field_ports_check_values R248, R249, R255 to R259, R266 to R268). -/

namespace Sys2Proof.Machine

/-! ### Ports and time -/

theorem ite_ne_of_ne {α : Type} {c : Prop} [Decidable c] {x y z : α} (hx : x ≠ z) (hy : y ≠ z) : (if c then x else y) ≠ z := by
  split
  · exact hx
  · exact hy

/-- Behind FP15's page there is no port's (R40). -/
theorem pageKind_ne_fp {page : Nat} (hp : 0x470 ≤ page) (n : Nat) : pageKind 0 page ≠ some (.kFP, n) := by
  unfold pageKind pageKind0
  rw [if_pos rfl]
  iterate 4 rw [if_neg (by omega)]
  iterate 13 refine ite_ne_of_ne (by simp) ?_
  simp

theorem fp_lt_of_unitUp {s : State} {n : Nat} (hup : UnitUp s 0 (pgFP n) .kFP n) : n < 16 := by
  obtain ⟨hhas, _⟩ := hup
  by_contra hn
  simp only [State.has, Bool.and_eq_true, beq_iff_eq] at hhas
  exact pageKind_ne_fp (by unfold pgFP; omega) n hhas.1

section
variable (s : State)

/-- Time that passes moves the counters, the sources' groups and WAKE# alone (R422, R447). -/
theorem State.advanceFc_eq (due : Nat) : ∃ groups host cores fc tb tbFrac wdog, s.advanceFc due =
    { s with groups := groups, host := host, cores := cores, fc := fc, tb := tb, tbFrac := tbFrac, wdog := wdog } := by
  obtain ⟨groups, host, h⟩ := s.scanSources_eq
  unfold State.advanceFc
  rw [h]
  dsimp only
  split <;> exact ⟨_, _, _, _, _, _, _, rfl⟩

theorem State.advanceTb_eq (due : Nat) : ∃ groups host cores fc tb tbFrac wdog, s.advanceTb due =
    { s with groups := groups, host := host, cores := cores, fc := fc, tb := tb, tbFrac := tbFrac, wdog := wdog } := by
  obtain ⟨groups, host, h⟩ := s.scanSources_eq
  unfold State.advanceTb
  rw [h]
  split
  · exact ⟨_, _, _, _, _, _, _, rfl⟩
  · exact ⟨_, _, _, _, _, _, _, rfl⟩

@[simp] theorem State.r_advanceTb (due page : Nat) (f : Fld) : (s.advanceTb due).r page f = s.r page f := by
  obtain ⟨_, _, _, _, _, _, _, h⟩ := s.advanceTb_eq due
  rw [h]
  rfl

end

/-! ### The index registers (R255, R256) -/

section
variable {s : State} {w : Wr} {n : Nat}

theorem State.fpWrite_txHead (h : w.off = 0x138) :
    s.fpWrite w n = w.require s (decide ((w.v % 65536 + 65536 - s.r (pgFP n) FP.TX_TAIL) % 65536 ≤
      2 ^ s.r (pgFP n) FP.TX_DESC_COUNT)) Ev.BAD_VALUE (·.plain w) := by
  simp [State.fpWrite, h]

theorem State.fpWrite_rxTail (h : w.off = 0x134) :
    s.fpWrite w n = w.require s (decide ((s.r (pgFP n) FP.RX_HEAD + 65536 - w.v % 65536) % 65536 ≤ s.rxLevel (fpRing n)))
      Ev.BAD_VALUE (·.plain w) := by
  simp [State.fpWrite, h]

end

/-! ### The next frame (R248, R255, R306) -/

section
variable {s : State} {n : Nat}

/-- With LBT a frame past NOT_BEFORE waits for the quiet carrier (R248). -/
theorem State.txProceed_of_lbt (h : s.r (pgFP n) FP.LINE_CFG_LBT = 1) : s.txProceed n = s := by
  have hlbt : s.b (pgFP n) FP.LINE_CFG_LBT = true := s.b_of_r_eq_one h
  simp [State.txProceed, hlbt]

theorem State.txBegin_waits {bytes : List Byte} {flags nb : Nat} {txn : Option Nat} (h0 : nb ≠ 0) (h : s.stamp.toNat < nb) :
    s.txBegin n bytes flags nb txn = s.setFp n { s.fp n with
      txIn := bytes, txFlags := flags, txTime := nb, txTxn := txn, phase := .notBefore } :=
  if_pos ⟨h0, h⟩

theorem State.txBegin_at_once (bytes : List Byte) (flags : Nat) (txn : Option Nat) :
    s.txBegin n bytes flags 0 txn = (s.setFp n { s.fp n with
      txIn := bytes, txFlags := flags, txTime := 0, txTxn := txn, phase := .quiet }).txProceed n := by
  unfold State.txBegin
  rw [if_neg (by simp)]

/-- A descriptor that the port can send, without INSERT_CV (R255). -/
theorem State.txQueue_of_sound {k : Nat} {d : List Byte} (hd : d = s.padRead (s.r (pgFP n) FP.RING)
      (s.r (pgFP n) FP.TX_DESC_BASE + 16 * (s.r (pgFP n) FP.TX_TAIL % 2 ^ s.r (pgFP n) FP.TX_DESC_COUNT)) 16)
    (hup : s.padUp (s.r (pgFP n) FP.RING) = true) (h1 : 1 ≤ fieldLE d 4 2) (h2 : fieldLE d 4 2 ≤ 4096)
    (hflags : fieldLE d 6 2 < 16) (hplain : fieldLE d 6 2 % 2 = 0) :
    s.txQueue n (k + 1) = s.txBegin n (s.padRingRead (s.r (pgFP n) FP.RING) (s.r (pgFP n) FP.TX_DATA_BASE)
      (2 ^ s.r (pgFP n) FP.TX_DATA_SIZE) (fieldLE d 0 4) (fieldLE d 4 2)) (fieldLE d 6 2) (fieldLE d 8 8) none := by
  have hbit : nbit (fieldLE d 6 2) 0 = false := by simp [nbit, Nat.testBit_zero, hplain]
  have hok : ¬ (fieldLE d 4 2 = 0 ∨ 4096 < fieldLE d 4 2 ∨ 16 ≤ fieldLE d 6 2) := by omega
  unfold State.txQueue
  simp only [hup, ← hd, if_neg hok, hbit, Bool.not_true, Bool.false_and, Bool.false_eq_true, if_false]

variable (hn : n < 16) (hopen : s.txOpen n = true) (hphase : (s.fp n).phase = .idle ∨ (s.fp n).phase = .held)
include hn hopen hphase

theorem State.txTake_of_descriptor (hq : (s.fp n).dispQ = []) :
    s.txTake n = s.txQueue n ((s.r (pgFP n) FP.TX_HEAD + 65536 - s.r (pgFP n) FP.TX_TAIL) % 65536) := by
  have hn' : ¬ 16 ≤ n := by omega
  simp [State.txTake, hn', hopen, hphase, hq]

theorem State.txTake_of_passed {t : Nat} {bytes : List Byte} {l : List (Nat × List Byte)}
    (hq : (s.fp n).dispQ = (t, bytes) :: l) (hfree : s.dispBarred n (t, bytes) = false) :
    s.txTake n = (s.setFp n { s.fp n with dispQ := l }).txBegin n bytes 3 0 (some t) := by
  have hn' : ¬ 16 ≤ n := by omega
  simp [State.txTake, hn', hopen, hphase, hq, hfree]

/-- Frames the dispatcher passed that are barred all go, and the descriptors come next. -/
theorem State.txTake_of_barred {d : Nat × List Byte} (hq : (s.fp n).dispQ = [d]) (hbar : s.dispBarred n d = true)
    (hleft : ((s.dispDrop n [d]).fp n).dispQ = []) :
    s.txTake n = (s.dispDrop n [d]).txQueue n
      (((s.dispDrop n [d]).r (pgFP n) FP.TX_HEAD + 65536 - (s.dispDrop n [d]).r (pgFP n) FP.TX_TAIL) % 65536) := by
  have hn' : ¬ 16 ≤ n := by omega
  simp [State.txTake, hn', hopen, hphase, hq, hbar, hleft]

omit hopen hphase in
/-- A frame dropped leaves the port without it and without another (R306). -/
theorem State.dispDrop_one {d : Nat × List Byte} (hq : (s.fp n).dispQ = [d]) :
    ((s.dispDrop n [d]).fp n).dispQ = [] ∧ ∀ f, 0x100 ≤ f.off → dispatchFree f →
      (s.dispDrop n [d]).r (pgFP n) f = s.r (pgFP n) f := by
  unfold State.dispDrop
  extract_lets v _ v1
  obtain ⟨hserved, hnone⟩ := v1.endTxn_served hn d.1 19
  have hv : v.fp n = s.fp n ∧ ∀ f, 0x100 ≤ f.off → v.r (pgFP n) f = s.r (pgFP n) f := by
    unfold v
    split
    · exact ⟨rfl, fun _ _ => rfl⟩
    · exact ⟨rfl, fun f hf => s.r_w_off _ _ (by show f.off ≠ 0x00C; omega)⟩
  refine ⟨hnone (v.setFp_listed _) ?_, fun f hf hfree => (hserved.r f hfree).trans (hv.2 f hf)⟩
  show ((v.setFp n _).fp n).dispQ = []
  rw [State.fp_setFp_same, hv.1, hq]
  rfl

end

/-! ### The waits (R248, R255) -/

section
variable {s : State} {n : Nat} (hn : n < 16) (hopen : s.txOpen n = true)
include hn hopen

theorem State.txNotBefore_of_lbt (hphase : (s.fp n).phase = .notBefore) (hlbt : s.r (pgFP n) FP.LINE_CFG_LBT = 1) :
    s.txNotBefore n = (s.advanceTb (s.fp n).txTime).setFp n { (s.advanceTb (s.fp n).txTime).fp n with phase := .quiet } := by
  have hn' : ¬ 16 ≤ n := by omega
  simp only [State.txNotBefore, hn', hphase, hopen, ne_eq, not_true_eq_false, Bool.not_true, Bool.false_eq_true, or_self, if_false]
  exact State.txProceed_of_lbt (by rw [State.r_setFp, State.r_advanceTb, hlbt])

theorem State.lbtQuiet_of_quiet (hphase : (s.fp n).phase = .quiet) (hcd : s.r (pgFP n) FP.STATUS_CD = 0)
    (hframe : (s.fp n).inFrame = false) : s.lbtQuiet n = s.txKey n := by
  have hn' : ¬ 16 ≤ n := by omega
  simp [State.lbtQuiet, hn', hphase, hopen, s.b_of_r_eq_zero hcd, hframe]

theorem State.keyupEnd_of_keyup (hphase : (s.fp n).phase = .keyup) : s.keyupEnd n = s.txSend n := by
  have hn' : ¬ 16 ≤ n := by omega
  simp [State.keyupEnd, hn', hphase, hopen]

end

/-! ### What the building of a frame leaves as it was (R257, R266, R267) -/

/-- From `s` to `t` a frame has been worked at: registers of check-value units and time alone have changed. -/
structure BuildActs (n : Nat) (s t : State) : Prop extends PortHeld n s t where
  mem : t.mem = s.mem
  owners : t.owners = s.owners
  locks : t.locks = s.locks
  hist : t.hist = s.hist

section
variable {n : Nat} {s t u : State}

theorem BuildActs.refl (n : Nat) (s : State) : BuildActs n s s := ⟨.refl n s, rfl, rfl, rfl, rfl⟩

theorem BuildActs.trans (h : BuildActs n s t) (h' : BuildActs n t u) : BuildActs n s u where
  toPortHeld := h.toPortHeld.trans h'.toPortHeld
  mem := h'.mem.trans h.mem
  owners := h'.owners.trans h.owners
  locks := h'.locks.trans h.locks
  hist := h'.hist.trans h.hist

theorem BuildActs.ite {c : Prop} [Decidable c] (ht : BuildActs n s t) (hu : BuildActs n s u) :
    BuildActs n s (if c then t else u) := by
  split
  · exact ht
  · exact hu

theorem BuildActs.foldl {α : Type} {f : State → α → State} (l : List α) (s : State) (h : ∀ t a, BuildActs n t (f t a)) :
    BuildActs n s (l.foldl f s) := by
  induction l generalizing s with
  | nil => exact .refl n s
  | cons a l ih => exact (h s a).trans (ih (f s a))

/-- A fold that carries a result along. -/
theorem BuildActs.foldl_fst {α β : Type} {f : State × β → α → State × β} (l : List α) (x : State × β)
    (h : ∀ y a, BuildActs n y.1 (f y a).1) : BuildActs n x.1 (l.foldl f x).1 := by
  induction l generalizing x with
  | nil => exact .refl n x.1
  | cons a l ih => exact (h x a).trans (ih (f x a))

theorem BuildActs.ite_fst {β : Type} {c : Prop} [Decidable c] {x y : State × β} (hx : BuildActs n s x.1)
    (hy : BuildActs n s y.1) : BuildActs n s (if c then x else y).1 := by
  split
  · exact hx
  · exact hy

end

section
variable {n : Nat} (s : State)

theorem State.advanceFc_buildActs (due : Nat) : BuildActs n s (s.advanceFc due) := by
  obtain ⟨_, _, _, _, _, _, _, h⟩ := s.advanceFc_eq due
  rw [h]
  exact ⟨.elsewhere rfl rfl, rfl, rfl, rfl, rfl⟩

theorem State.lineSilence_buildActs : BuildActs n s (s.lineSilence n) := by
  unfold State.lineSilence
  split
  · exact .ite (s.advanceFc_buildActs _) (.refl n s)
  · exact .refl n s

theorem State.frameBuilt_buildActs (t : Nat) (tally : Option Nat) (sent : List Byte) :
    BuildActs n s (s.frameBuilt t tally sent) :=
  .ite (.refl n s) ⟨s.setTxn_portHeld t _, rfl, rfl, rfl, rfl⟩

end

section
variable {n u c : Nat} (hn : n < 16) (hu : u < 16) (hc : c < 4) (s : State)
include hn hu hc

theorem State.w_ctx_buildActs {f : Fld} (hf : f.off < 0x240) (x : Nat) : BuildActs n s (s.w (pgCV u) (ctxFld f c) x) := by
  have hpage := pgCV_lt hu
  exact ⟨s.w_portHeld hn (by omega) (ctxFld_off_lt hc hf) (by unfold pgCV pgFP; omega) x, rfl, rfl, rfl, rfl⟩

theorem State.cvInit_buildActs : BuildActs n s (s.cvInit u c) :=
  (s.w_ctx_buildActs hn hu hc (by decide) _).trans (State.w_ctx_buildActs hn hu hc _ (by decide) _)

theorem State.cvByte_buildActs (b : Byte) : BuildActs n s (s.cvByte u c b) :=
  (s.w_ctx_buildActs hn hu hc (by decide) _).trans (State.w_ctx_buildActs hn hu hc _ (by decide) _)

theorem State.cvCompare_buildActs (got : List Byte) : BuildActs n s (s.cvCompare u c got).1 := by
  unfold State.cvCompare
  extract_lets v bad t
  have ht : BuildActs n s t := (s.w_ctx_buildActs hn hu hc (by decide) v).trans (State.w_ctx_buildActs hn hu hc _ (by decide) _)
  exact .ite (ht.trans (t.w_ctx_buildActs hn hu hc (by decide) _)) ht

theorem State.tallyInsert_buildActs (raw : List Byte) : BuildActs n s (s.tallyInsert u c raw).1 := by
  unfold State.tallyInsert
  refine .ite_fst (.refl n s) ?_
  split
  · exact .refl n s
  · exact s.w_ctx_buildActs hn hu hc (by decide) _

omit hu in
/-- A byte of a frame through the unit its assist runs on (R257). -/
theorem State.cvPass_buildActs {a : Assist} (hu : a.unit < 16) (raw : List Byte) : BuildActs n s (s.cvPass a c raw).1 := by
  unfold State.cvPass
  extract_lets i nb r v v1 w
  have hv : BuildActs n s v := .ite (s.cvInit_buildActs hn hu hc) (.refl n s)
  have hv1 : BuildActs n v v1 := .ite (v.cvByte_buildActs hn hu hc _) (.refl n v)
  have hw : BuildActs n s w := .ite (s.cvInit_buildActs hn hu hc) (.refl n s)
  refine .ite_fst (.refl n s) (.ite_fst (.ite_fst ?_ (hv.trans hv1)) ?_)
  · exact (hv.trans hv1).trans (v1.cvCompare_buildActs hn hu hc _)
  · exact hw.trans (.ite (w.cvByte_buildActs hn hu hc _) (.refl n w))

omit hu in
theorem State.cvFeed_buildActs {a : Assist} (hu : a.unit < 16) (raw : List Byte) : BuildActs n s (s.cvFeed a c raw).1 :=
  BuildActs.foldl_fst _ (s, false) fun y _ => y.1.cvPass_buildActs hn hc hu _

omit hu in
theorem State.cvEndCompare_buildActs {a : Assist} (hu : a.unit < 16) (raw : List Byte) :
    BuildActs n s (s.cvEndCompare a c raw).1 :=
  .ite_fst (.refl n s) (s.cvCompare_buildActs hn hu hc _)

end

section
variable {n : Nat} {a : Assist} (hn : n < 16) (hu : a.unit < 16) (hc : a.tx < 4) (s : State)
include hn hu hc

theorem State.txSegment_buildActs (raw : List Byte) (g : Nat × Nat × Nat) : BuildActs n s (s.txSegment a raw g).1 :=
  ((s.cvInit_buildActs hn hu hc).trans (BuildActs.foldl _ _ fun t b => t.cvByte_buildActs hn hu hc b)).trans
    (State.w_ctx_buildActs hn hu hc _ (by decide) _)

/-- A frame as it goes on the line: with or without check values inserted (R255, R257, R266, R267). -/
theorem State.txBuild_buildActs (insert : Bool) (bs : List Byte) : BuildActs n s (s.txBuild a insert bs).1 := by
  unfold State.txBuild
  refine .ite_fst (.refl n s) (.ite_fst (.ite_fst (.refl n s) ?_) (.ite_fst ?_ ?_))
  · exact ((s.tallyInsert_buildActs hn hu hc bs).trans (State.cvFeed_buildActs hn hc _ hu _)).trans
      (State.cvEndCompare_buildActs hn hc _ hu _)
  · exact ⟨.elsewhere rfl rfl, rfl, rfl, rfl, rfl⟩
  · exact (s.tallyInsert_buildActs hn hu hc _).trans
      (BuildActs.foldl_fst _ (_, _) fun y g => State.txSegment_buildActs hn hu hc _ _ _)

end

end Sys2Proof.Machine
end

section
/-! SUPPORT. A frame put on the line, its last bit, and the cut at TX_MAX; with them O49 (10_field_ports_check_values R248, R249,
R255 to R259). -/

namespace Sys2Proof.Machine

/-! ### A frame put on the line (R247, R248) -/

section
variable {n : Nat} {s t : State}

/-- The levels of a frame rest on the port's own settings and on TXD. -/
theorem PortHeld.lineBits_eq (h : PortHeld n s t) (raw : List Byte) : t.lineBits n raw = s.lineBits n raw := by
  unfold State.lineBits
  simp only [h.r FP.LINE_CFG_MODE (by decide), h.r FP.LINE_CFG_DATA (by decide), h.r FP.LINE_CFG_PARITY (by decide),
    h.r FP.LINE_CFG_STOP (by decide), h.r FP.ASSIST_PREAMBLE (by decide), h.fp_eq n]

theorem State.fpAssist_unit_lt (s : State) (n : Nat) : (s.fpAssist n).unit < 16 := s.r_lt (pgFP n) FP.ASSIST_CV_UNIT
theorem State.fpAssist_tx_lt (s : State) (n : Nat) : (s.fpAssist n).tx < 4 := s.r_lt (pgFP n) FP.ASSIST_CTX_TX

/-- The frame's form and its levels at the port, before its context is mid-frame. -/
def State.onLine (s : State) (n : Nat) (raw : List Byte) : State :=
  s.setFp n { s.fp n with phase := .sending, txBytes := raw, txLine := s.lineBits n raw }

theorem State.txSend_of_unbarred (hn : n < 16) (h : s.txBarred n = false) :
    ∃ v raw, BuildActs n s v ∧ s.txSend n = ((v.onLine n raw).txMid n true).w (pgFP n) FP.STATUS_TX_ACTIVE 1 := by
  unfold State.txSend
  rw [if_neg (by simp [h])]
  extract_lets v1 x a v2
  split
  next v3 raw tally sent hbuild =>
  extract_lets v4
  have hv1 : BuildActs n s v1 := s.lineSilence_buildActs
  have hv2 : BuildActs n v1 v2 := .ite ⟨v1.statusBit7_portHeld n, rfl, rfl, rfl, rfl⟩ (.refl n v1)
  have hv3 : BuildActs n v2 v3 := by
    have := v2.txBuild_buildActs hn (v1.fpAssist_unit_lt n) (v1.fpAssist_tx_lt n) (nbit x.txFlags 0) x.txIn
    rwa [hbuild] at this
  have hv4 : BuildActs n v3 v4 := by
    unfold v4
    split
    · exact v3.frameBuilt_buildActs _ _ _
    · exact .refl n v3
  exact ⟨v4, raw, ((hv1.trans hv2).trans hv3).trans hv4, rfl⟩

theorem State.txMid_elsewhere (s : State) (n : Nat) (on : Bool) : ∃ cvs, s.txMid n on = { s with cvs := cvs } := by
  unfold State.txMid
  extract_lets a
  split
  · exact ⟨_, rfl⟩
  · exact ⟨s.cvs, rfl⟩

theorem State.txMid_of_plain (h : s.r (pgFP n) FP.ASSIST_CV_EN = 0) (on : Bool) : s.txMid n on = s := by
  simp [State.txMid, State.fpAssist, s.b_of_r_eq_zero h]

/-- Without check values a frame goes as it stands. -/
theorem State.txSend_of_plain (hcv : s.r (pgFP n) FP.ASSIST_CV_EN = 0) (htxn : (s.fp n).txTxn = none)
    (hheld : PortHeld n s (s.lineSilence n)) :
    s.txSend n = ((s.lineSilence n).onLine n (s.fp n).txIn).w (pgFP n) FP.STATUS_TX_ACTIVE 1 := by
  have hcv' : (s.fpAssist n).cvEn = false := s.b_of_r_eq_zero hcv
  have hcv1 : ((s.lineSilence n).fpAssist n).cvEn = false :=
    State.b_of_r_eq_zero _ ((hheld.r FP.ASSIST_CV_EN (by decide)).trans hcv)
  have hbar : s.txBarred n = false := by simp [State.txBarred, hcv']
  have hfp := hheld.fp_eq n
  have hmid (x : FieldPort) : ((s.lineSilence n).setFp n x).txMid n true = (s.lineSilence n).setFp n x :=
    State.txMid_of_plain (s := (s.lineSilence n).setFp n x) ((hheld.r FP.ASSIST_CV_EN (by decide)).trans hcv) true
  simp [State.txSend, hbar, hcv1, State.txBuild, hfp, htxn, State.onLine, hmid]

theorem State.lineSilence_of_free (h : s.r (pgFP n) FP.ASSIST_KIND ≠ 2 ∨ (s.fp n).lineFc = none) : s.lineSilence n = s := by
  unfold State.lineSilence
  split
  · next f hf =>
    refine if_neg fun hkind => ?_
    rcases h with h | h
    · exact h hkind
    · simp [hf] at h
  · rfl

theorem State.lineSilence_of_modbus {f : Nat} (hkind : s.r (pgFP n) FP.ASSIST_KIND = 2) (hf : (s.fp n).lineFc = some f) :
    s.lineSilence n = s.advanceFc (f + 12 * s.t35 n) := by
  have hk : (s.fpAssist n).kind = 2 := hkind
  simp [State.lineSilence, hf, hk]

end

/-! ### The last bit and the tail (R248, R254, R255) -/

section
variable (s : State) (n : Nat)

theorem State.txMid_pageActs (on : Bool) : PageActs (pgFP n) s (s.txMid n on) :=
  .ite (s.ctxMid_pageActs ..) (.refl _ s)

variable {n} (hn : n < 16)
include hn

theorem State.w_fp_pageActs {f : Fld} (ho : f.off < 4096) (x : Nat) : PageActs (pgFP n) s (s.w (pgFP n) f x) :=
  s.w_pageActs (Nat.lt_trans (pgFP_lt hn) (by decide)) ho x

theorem State.txPass_pageActs (flags : Nat) : PageActs (pgFP n) s (s.txPass n flags) :=
  (s.w_fp_pageActs hn (by decide) _).trans (.ite (State.w_fp_pageActs _ hn (show 0x014 < 4096 by decide) _) (.refl _ _))

end

/-- What passing a frame reads back. -/
theorem State.r_txPass (s : State) (n flags : Nat) {f : Fld} (h1 : f.off ≠ 0x13C) (h2 : f.off ≠ 0x014) :
    (s.txPass n flags).r (pgFP n) f = s.r (pgFP n) f := by
  have htail : (s.inc (pgFP n) FP.TX_TAIL).r (pgFP n) f = s.r (pgFP n) f := s.r_w_off _ _ h1
  unfold State.txPass
  extract_lets v
  split
  · exact (v.r_w_off _ _ h2).trans htail
  · exact htail

theorem State.r_txPass_tail (s : State) (n flags : Nat) :
    (s.txPass n flags).r (pgFP n) FP.TX_TAIL = (s.r (pgFP n) FP.TX_TAIL + 1) % 2 ^ 16 := by
  have htail := s.r_inc_same (pgFP n) FP.TX_TAIL 1 (by decide)
  unfold State.txPass
  extract_lets v
  split
  · exact (v.r_w_off _ _ (show 0x13C ≠ 0x014 by decide)).trans htail
  · exact htail

theorem State.r_txPass_int (s : State) (n : Nat) {flags : Nat} (h : nbit flags 3 = true) :
    (s.txPass n flags).r (pgFP n) (INT_PEND_BIT 1) = 1 := by
  unfold State.txPass
  rw [if_pos h]
  exact State.r_w_same _ _ _ _ (by decide)

/-- No pending bit is lost by it. -/
theorem State.r_txPass_int_of_set (s : State) (n flags : Nat) {i : Nat} (hi : 1 < i) :
    (s.txPass n flags).r (pgFP n) (INT_PEND_BIT i) = s.r (pgFP n) (INT_PEND_BIT i) := by
  have htail : (s.inc (pgFP n) FP.TX_TAIL).r (pgFP n) (INT_PEND_BIT i) = s.r (pgFP n) (INT_PEND_BIT i) :=
    s.r_w_off _ _ (show 0x014 ≠ 0x13C by decide)
  unfold State.txPass
  extract_lets v
  split
  · exact (v.r_w_disjoint (f := INT_PEND_BIT 1) (g := INT_PEND_BIT i) _ _ (by decide) rfl (.inr hi)).trans htail
  · exact htail

theorem State.fp_txPass (s : State) (n flags m : Nat) : (s.txPass n flags).fp m = s.fp m := by
  unfold State.txPass
  split <;> rfl

theorem State.r_txMid (s : State) (n : Nat) (on : Bool) (page : Nat) (f : Fld) : (s.txMid n on).r page f = s.r page f := by
  obtain ⟨cvs, h⟩ := s.txMid_elsewhere n on
  rw [h]
  rfl

theorem State.fp_txMid (s : State) (n : Nat) (on : Bool) (m : Nat) : (s.txMid n on).fp m = s.fp m := by
  obtain ⟨cvs, h⟩ := s.txMid_elsewhere n on
  rw [h]
  rfl

/-- The port as the last bit leaves it (R248, R254). -/
def State.lineDone (s : State) (n : Nat) : FieldPort :=
  { (s.fp n).clearTx (if nbit (s.fp n).txFlags 2 then .held else .tail) with
    sentLast := (s.fp n).txBytes
    lineLast := (s.fp n).txLine
    txd := s.r (pgFP n) FP.LINE_CFG_MODE != 2 || (s.fp n).txLine.getLastD true
    lineFc := some s.fc }

theorem State.txLastBit_of_descriptor {s : State} {n : Nat} (hn : n < 16) (hact : s.active (pgFP n) = true)
    (hphase : (s.fp n).phase = .sending) (htxn : (s.fp n).txTxn = none) :
    s.txLastBit n = ((((s.txMid n false).setFp n (s.lineDone n)).w (pgFP n) FP.STATUS_TX_ACTIVE 0).inc (pgFP n)
      FP.TX_FRAMES).txPass n (s.fp n).txFlags := by
  obtain ⟨cvs, hmid⟩ := s.txMid_elsewhere n false
  have hguard : ¬ (16 ≤ n ∨ (s.fp n).phase ≠ .sending ∨ (!s.active (pgFP n)) = true) := by
    rintro (h | h | h)
    · omega
    · exact h hphase
    · simp [hact] at h
  unfold State.txLastBit
  rw [if_neg hguard]
  simp only [htxn, hmid, State.lineDone, Option.isNone_none, Bool.and_true]
  rfl

/-! ### TX_MAX (R249) -/

section
variable {s : State} {n : Nat}

/-- A frame cut on its way: time, the ports, check-value contexts and the free counter alone change. -/
theorem State.txCut_elsewhere (s : State) (n : Nat) :
    ∃ cvs fps freeCtr, s.txCut n = { s with cvs := cvs, fps := fps, freeCtr := freeCtr } := by
  obtain ⟨cvs, hmid⟩ := s.txMid_elsewhere n false
  unfold State.txCut
  split
  · rw [hmid]
    exact ⟨_, _, _, rfl⟩
  · exact ⟨s.cvs, s.fps, s.freeCtr, rfl⟩

theorem State.txCut_pageActs (s : State) (n : Nat) : PageActs (pgFP n) s (s.txCut n) := by
  obtain ⟨cvs, fps, freeCtr, h⟩ := s.txCut_elsewhere n
  rw [h]
  exact .elsewhere rfl rfl rfl rfl rfl

/-- The registers of a port blocked by TX_MAX, before the frame in hand is passed. -/
def State.txBlocked (s : State) (n : Nat) : State :=
  ((((s.txCut n).w (pgFP n) FP.STATUS_PTT 0).w (pgFP n) FP.STATUS_TX_ACTIVE 0).statusBit (pgFP n) 5).pendInt (pgFP n) 3

theorem State.txTimeout_of_descriptor (hn : n < 16) (hact : s.active (pgFP n) = true) (hptt : s.r (pgFP n) FP.STATUS_PTT = 1)
    (hmax : s.r (pgFP n) FP.TX_LIMITS_TX_MAX ≠ 0) (hphase : (s.fp n).phase = .sending) (htxn : (s.fp n).txTxn = none)
    (hq : (s.fp n).dispQ = []) :
    ∃ x, x.phase = .idle ∧ s.txTimeout n =
      ((((s.txBlocked n).eventOpen (pgFP n) Ev.TX_TIMEOUT).txPass n (s.fp n).txFlags).setFp n x) := by
  unfold State.txTimeout
  extract_lets p x inProgress waiting v v1 ts v2 y cleared v3
  have hguard : ¬ (16 ≤ n ∨ (!s.active p) = true ∨ (!s.b p FP.STATUS_PTT) = true ∨ s.r p FP.TX_LIMITS_TX_MAX = 0) := by
    rintro (h | h | h | h)
    · omega
    · simp [p, hact] at h
    · simp [p, s.b_of_r_eq_one hptt] at h
    · exact hmax h
  have hin : inProgress = true := by simp [inProgress, x, hphase]
  have hwait : waiting = false := by simp [waiting, x, hphase]
  have hts : ts = [] := by simp [ts, x, htxn, hq]
  have hv2 : v2 = v1.txPass n x.txFlags := if_pos (by simp [hin, x, htxn])
  have hv3 : v3 = v2.setFp n { cleared with dispQ := [] } := congrArg (v2.setFp n) (if_neg (by simp [hwait]))
  rw [if_neg hguard, hts, hv3, hv2]
  exact ⟨_, rfl, rfl⟩

theorem State.r_txCut (s : State) (n page : Nat) (f : Fld) : (s.txCut n).r page f = s.r page f := by
  obtain ⟨cvs, fps, freeCtr, h⟩ := s.txCut_elsewhere n
  rw [h]
  rfl

theorem State.txBlocked_pageActs (hn : n < 16) (s : State) : PageActs (pgFP n) s (s.txBlocked n) :=
  ((((s.txCut_pageActs n).trans (State.w_fp_pageActs _ hn (by decide) _)).trans (State.w_fp_pageActs _ hn (by decide) _)).trans
    (State.w_fp_pageActs _ hn (show 0x00C < 4096 by decide) _)).trans (State.w_fp_pageActs _ hn (show 0x014 < 4096 by decide) _)

/-- What a blocked port shows (R249). -/
theorem State.txBlocked_shows (s : State) (n : Nat) :
    (s.txBlocked n).r (pgFP n) FP.STATUS_PTT = 0 ∧ (s.txBlocked n).r (pgFP n) FP.STATUS_TX_ACTIVE = 0 ∧
      (s.txBlocked n).r (pgFP n) FP.STATUS_TX_TIMEOUT = 1 ∧ (s.txBlocked n).r (pgFP n) (INT_PEND_BIT 3) = 1 ∧
      (s.txBlocked n).r (pgFP n) FP.TX_TAIL = s.r (pgFP n) FP.TX_TAIL := by
  simp (disch := decide) [State.txBlocked, State.pendInt, State.statusBit, STATUS_BIT, INT_PEND_BIT, State.r_w_same,
    State.r_w_disjoint, State.r_w_off, State.r_txCut]

end

/-! ### What each step shows -/

/-- An event of the block's own changes its history and the free counter alone. -/
theorem State.eventOpen_keeps (s : State) (page code : Nat) :
    (s.eventOpen page code).regs = s.regs ∧ (s.eventOpen page code).mem = s.mem ∧
      (s.eventOpen page code).owners = s.owners ∧ (s.eventOpen page code).locks = s.locks := by
  obtain ⟨_, _, h⟩ := s.eventOpen_eq page code
  rw [h]
  exact ⟨rfl, rfl, rfl, rfl⟩

section
variable {s : State} {n : Nat}

theorem State.txKey_of_barred (h : s.txBarred n = true) : s.txKey n = s.txUnsent n := by simp [State.txKey, h]

theorem State.txKey_of_unkeyed (h : s.txBarred n = false) (hptt : s.r (pgFP n) FP.STATUS_PTT = 0) :
    s.txKey n = (s.w (pgFP n) FP.STATUS_PTT 1).setFp n { s.fp n with phase := .keyup } := by
  simp [State.txKey, h, s.b_of_r_eq_zero hptt]

theorem State.txSend_of_barred (h : s.txBarred n = true) : s.txSend n = s.txUnsent n := by simp [State.txSend, h]

variable (hn : n < 16)
include hn

theorem State.tailEnd_of_tail (h : (s.fp n).phase = .tail) :
    s.tailEnd n = (s.setFp n { s.fp n with phase := .idle }).w (pgFP n) FP.STATUS_PTT 0 := by
  have hn' : ¬ 16 ≤ n := by omega
  simp [State.tailEnd, h, hn']

/-- A frame that begins to leave (R247, R248). -/
theorem State.txSend_shows (h : s.txBarred n = false) :
    ((s.txSend n).fp n).phase = .sending ∧ (s.txSend n).r (pgFP n) FP.STATUS_TX_ACTIVE = 1 ∧
      ((s.txSend n).fp n).txIn = (s.fp n).txIn ∧
      ((s.txSend n).fp n).txLine.length = (s.lineBits n ((s.txSend n).fp n).txBytes).length ∧
      (s.txSend n).mem = s.mem ∧ (s.txSend n).owners = s.owners ∧ (s.txSend n).locks = s.locks ∧ (s.txSend n).hist = s.hist := by
  obtain ⟨v, raw, hv, hsend⟩ := State.txSend_of_unbarred hn h
  have hfp : (s.txSend n).fp n = { v.fp n with phase := .sending, txBytes := raw, txLine := v.lineBits n raw } := by
    rw [hsend, State.fp_w, State.fp_txMid, State.onLine, State.fp_setFp_same]
  have hacts : PageActs (pgFP n) v (s.txSend n) := by
    rw [hsend]
    exact ((State.setFp_pageActs ..).trans (State.txMid_pageActs ..)).trans (State.w_fp_pageActs _ hn (by decide) _)
  obtain ⟨-, hmem, howners, hlocks, hhist⟩ := hacts
  refine ⟨by rw [hfp], ?_, ?_, ?_, hmem.trans hv.mem,
    howners.trans hv.owners, hlocks.trans hv.locks, hhist.trans hv.hist⟩
  · rw [hsend]
    exact State.r_w_same _ _ _ _ (by decide)
  · rw [hfp, hv.fp_eq n]
  · rw [hfp]
    exact congrArg List.length (hv.lineBits_eq raw)

/-- The last bit of a descriptor's frame (R248, R254, R255). -/
theorem State.txLastBit_shows (hact : s.active (pgFP n) = true) (hphase : (s.fp n).phase = .sending)
    (htxn : (s.fp n).txTxn = none) :
    ((s.txLastBit n).fp n).phase = (if nbit (s.fp n).txFlags 2 then .held else .tail) ∧
      ((s.txLastBit n).fp n).sentLast = (s.fp n).txBytes ∧ ((s.txLastBit n).fp n).lineLast = (s.fp n).txLine ∧
      ((s.txLastBit n).fp n).lineFc = some s.fc ∧ (s.txLastBit n).r (pgFP n) FP.STATUS_TX_ACTIVE = 0 ∧
      (s.txLastBit n).r (pgFP n) FP.TX_FRAMES = (s.r (pgFP n) FP.TX_FRAMES + 1) % 2 ^ 32 ∧
      (s.txLastBit n).r (pgFP n) FP.TX_TAIL = (s.r (pgFP n) FP.TX_TAIL + 1) % 2 ^ 16 ∧
      (nbit (s.fp n).txFlags 3 = true → (s.txLastBit n).r (pgFP n) (INT_PEND_BIT 1) = 1) ∧
      (s.txLastBit n).r (pgFP n) FP.STATUS_PTT = s.r (pgFP n) FP.STATUS_PTT ∧ OtherPages s (s.txLastBit n) (pgFP n) ∧
      (s.txLastBit n).mem = s.mem ∧ (s.txLastBit n).owners = s.owners ∧ (s.txLastBit n).locks = s.locks ∧
      (s.txLastBit n).hist = s.hist := by
  have hdone := State.txLastBit_of_descriptor hn hact hphase htxn
  have hfp : (s.txLastBit n).fp n = s.lineDone n := by
    rw [hdone, State.fp_txPass, State.inc, State.fp_w, State.fp_w, State.fp_setFp_same]
  have hacts : PageActs (pgFP n) s (s.txLastBit n) := by
    rw [hdone]
    exact ((((s.txMid_pageActs n false).trans (State.setFp_pageActs ..)).trans (State.w_fp_pageActs _ hn (by decide) _)).trans
      (State.w_fp_pageActs _ hn (by decide) _)).trans (State.txPass_pageActs _ hn _)
  obtain ⟨hregs, hmem, howners, hlocks, hhist⟩ := hacts
  rw [hfp]
  refine ⟨rfl, rfl, rfl, rfl, ?_, ?_, ?_, fun h => ?_, ?_, hregs, hmem, howners, hlocks, hhist⟩
  · rw [hdone, State.r_txPass _ _ _ (by decide) (by decide)]
    simp (disch := decide) [State.inc, State.r_w_same, State.r_w_off]
  · rw [hdone, State.r_txPass _ _ _ (by decide) (by decide), State.r_inc_same _ _ _ _ (by decide)]
    simp (disch := decide) [State.r_w_off, State.r_txMid]
  · rw [hdone, State.r_txPass_tail]
    simp (disch := decide) [State.inc, State.r_w_off, State.r_txMid]
  · rw [hdone]
    exact State.r_txPass_int _ _ h
  · rw [hdone, State.r_txPass _ _ _ (by decide) (by decide)]
    simp (disch := decide) [State.inc, State.r_w_disjoint, State.r_w_off, State.r_txMid]

/-- A port that TX_MAX blocks (R249). -/
theorem State.txTimeout_shows (hact : s.active (pgFP n) = true) (hptt : s.r (pgFP n) FP.STATUS_PTT = 1)
    (hmax : s.r (pgFP n) FP.TX_LIMITS_TX_MAX ≠ 0) (hphase : (s.fp n).phase = .sending) (htxn : (s.fp n).txTxn = none)
    (hq : (s.fp n).dispQ = []) :
    (s.txTimeout n).r (pgFP n) FP.STATUS_PTT = 0 ∧ (s.txTimeout n).r (pgFP n) FP.STATUS_TX_ACTIVE = 0 ∧
      (s.txTimeout n).r (pgFP n) FP.STATUS_TX_TIMEOUT = 1 ∧ (s.txTimeout n).r (pgFP n) (INT_PEND_BIT 3) = 1 ∧
      (s.txTimeout n).r (pgFP n) FP.TX_TAIL = (s.r (pgFP n) FP.TX_TAIL + 1) % 2 ^ 16 ∧ ((s.txTimeout n).fp n).phase = .idle ∧
      OtherPages s (s.txTimeout n) (pgFP n) ∧ (s.txTimeout n).mem = s.mem ∧ (s.txTimeout n).owners = s.owners ∧
      (s.txTimeout n).locks = s.locks := by
  obtain ⟨x, hx, hstep⟩ := State.txTimeout_of_descriptor hn hact hptt hmax hphase htxn hq
  obtain ⟨hevRegs, hevMem, hevOwners, hevLocks⟩ := (s.txBlocked n).eventOpen_keeps (pgFP n) Ev.TX_TIMEOUT
  have hr (f : Fld) : ((s.txBlocked n).eventOpen (pgFP n) Ev.TX_TIMEOUT).r (pgFP n) f = (s.txBlocked n).r (pgFP n) f :=
    State.r_congr hevRegs _ f
  obtain ⟨hregs, hmem, howners, hlocks, -⟩ := s.txBlocked_pageActs hn
  obtain ⟨hregs', hmem', howners', hlocks', -⟩ :=
    ((s.txBlocked n).eventOpen (pgFP n) Ev.TX_TIMEOUT).txPass_pageActs hn (s.fp n).txFlags
  obtain ⟨hshowPtt, hshowActive, hshowTimeout, hshowInt, hshowTail⟩ := s.txBlocked_shows n
  rw [hstep]
  simp only [State.r_setFp, State.fp_setFp_same]
  refine ⟨?_, ?_, ?_, ?_, ?_, hx, fun func page off hp ho hne => ?_, ?_, ?_, ?_⟩
  · rw [State.r_txPass _ _ _ (by decide) (by decide), hr, hshowPtt]
  · rw [State.r_txPass _ _ _ (by decide) (by decide), hr, hshowActive]
  · rw [State.r_txPass _ _ _ (by decide) (by decide), hr, hshowTimeout]
  · rw [State.r_txPass_int_of_set _ _ _ (by decide), hr, hshowInt]
  · rw [State.r_txPass_tail, hr, hshowTail]
  · refine (hregs' func page off hp ho hne).trans (Eq.trans ?_ (hregs func page off hp ho hne))
    unfold State.reg
    rw [hevRegs]
  · exact hmem'.trans (hevMem.trans hmem)
  · exact howners'.trans (hevOwners.trans howners)
  · exact hlocks'.trans (hevLocks.trans hlocks)

end

end Sys2Proof.Machine

open Sys2Proof Sys2Proof.Machine

/-- Settles O49: the index writes by their guard; the next frame by the queue's or the descriptor's own lemma; every wait by the
state it ends in; what is sent by the frame of its building, which touches check-value units alone; and TX_MAX by the registers of
a blocked port. -/
theorem fieldPortsKeyAndSend : Obligations.FieldPortsKeyAndSend := by
  unfold Obligations.FieldPortsKeyAndSend
  have hpage {n : Nat} (hn : n < 16) : pgFP n < 0x5A0 := Nat.lt_trans (pgFP_lt hn) (by decide)
  refine ⟨fun s n v wr hn ha => ?txHead, fun s n v wr hn ha => ?rxTail, fun s n hup hopen hphase => ?take,
    fun s n hup hopen => ?waits, fun s n hup hact hptt hmax hphase htxn hq => ?txMax⟩
  case txHead =>
    intro d
    have hstep := State.unitWrite_fp hn v ha (by decide) (by decide)
    rw [State.fpWrite_txHead rfl, wr32_v] at hstep
    refine ⟨fun hd => congrArg Host.Outcome.next (hstep.trans ?_), fun hd => congrArg Host.Outcome.next (hstep.trans ?_)⟩
    · rw [Wr.require_of_true s _ (decide_eq_true hd)]
    · rw [Wr.require_of_false s (hpage hn) (decide_eq_false (by omega)) (by decide)]
      rfl
  case rxTail =>
    intro d
    have hstep := State.unitWrite_fp hn v ha (by decide) (by decide)
    rw [State.fpWrite_rxTail rfl, wr32_v] at hstep
    refine ⟨fun hd => congrArg Host.Outcome.next (hstep.trans ?_), fun hd => congrArg Host.Outcome.next (hstep.trans ?_)⟩
    · rw [Wr.require_of_true s _ (decide_eq_true hd)]
    · rw [Wr.require_of_false s (hpage hn) (decide_eq_false (by omega)) (by decide)]
      rfl
  case take =>
    intro p cl d
    have hn := fp_lt_of_unitUp hup
    have hexec : exec (.txDescriptorTake n) s = .next (s.txTake n) :=
      next_onUnit_of_up hup (·.txTake n) rfl
    rw [hexec]
    refine ⟨fun hq hne hpad h1 h2 hflags hplain h0 hwait => congrArg Host.Outcome.next ?_,
      fun t bytes l hq hfree hlbt => ⟨_, rfl, ?_⟩, fun t bytes hq hbar heq => congrArg Host.Outcome.next ?_⟩
    · have hcount : ∃ k, (s.r p FP.TX_HEAD + 65536 - s.r p FP.TX_TAIL) % 65536 = k + 1 := by
        have hhead : s.r p FP.TX_HEAD < 2 ^ 16 := s.r_lt p FP.TX_HEAD
        have htail : s.r p FP.TX_TAIL < 2 ^ 16 := s.r_lt p FP.TX_TAIL
        exact Nat.exists_eq_add_one.2 (by omega)
      obtain ⟨k, hk⟩ := hcount
      rw [State.txTake_of_descriptor hn hopen hphase hq, hk, State.txQueue_of_sound rfl hpad h1 h2 hflags hplain,
        State.txBegin_waits h0 hwait]
    · rw [State.txTake_of_passed hn hopen hphase hq hfree, State.txBegin_at_once, State.txProceed_of_lbt (by simpa using hlbt)]
      exact ⟨by rw [State.fp_setFp_same, State.fp_setFp_same], rfl, rfl, rfl⟩
    · obtain ⟨hleft, hkeeps⟩ := State.dispDrop_one hn hq
      rw [State.txTake_of_barred hn hopen hphase hq hbar hleft, hkeeps FP.TX_HEAD (by decide) (by decide),
        hkeeps FP.TX_TAIL (by decide) (by decide), show s.r (pgFP n) FP.TX_HEAD = s.r (pgFP n) FP.TX_TAIL from heq,
        Nat.add_sub_cancel_left]
      rfl
  case waits =>
    have hn := fp_lt_of_unitUp hup
    have hkeyup (h : (s.fp n).phase = .keyup) : exec (.keyupEnd n) s = .next (s.txSend n) :=
      next_onUnit_of_up hup (·.keyupEnd n) (State.keyupEnd_of_keyup hn hopen h)
    have hquiet (hphase : (s.fp n).phase = .quiet) (hcd : s.r (pgFP n) FP.STATUS_CD = 0) (hframe : (s.fp n).inFrame = false) :
        exec (.lbtQuiet n) s = .next (s.txKey n) :=
      next_onUnit_of_up hup (·.lbtQuiet n) (State.lbtQuiet_of_quiet hn hopen hphase hcd hframe)
    refine ⟨fun hphase hlbt => ?notBefore, fun hphase hcd hframe hptt hbar => ?key, fun hphase hcd hframe hbar => ?unkeyed,
      fun hphase hbar => ?unsent, fun hphase hbar => ?send, fun hphase hcv htxn hfree => ?plain,
      fun f hphase hcv htxn hkind hf => ?modbus, fun hphase htxn => ?lastBit, fun hphase => ?tailEnd⟩
    case notBefore =>
      exact next_onUnit_of_up hup (·.txNotBefore n) (State.txNotBefore_of_lbt hn hopen hphase hlbt)
    case key =>
      rw [hquiet hphase hcd hframe, State.txKey_of_unkeyed hbar hptt]
    case unkeyed =>
      rw [hquiet hphase hcd hframe, State.txKey_of_barred hbar]
    case unsent =>
      rw [hkeyup hphase, State.txSend_of_barred hbar]
    case send =>
      rw [hkeyup hphase]
      exact ⟨_, rfl, State.txSend_shows hn hbar⟩
    case plain =>
      have hnone := State.lineSilence_of_free hfree
      rw [hkeyup hphase, State.txSend_of_plain hcv htxn (by rw [hnone]; exact .refl n s), hnone]
      rfl
    case modbus =>
      intro u
      have hheld : PortHeld n s u := (s.advanceFc_buildActs _).toPortHeld
      have hsilence : s.lineSilence n = u := State.lineSilence_of_modbus hkind hf
      rw [hkeyup hphase, State.txSend_of_plain hcv htxn (by rw [hsilence]; exact hheld), hsilence, State.onLine, hheld.lineBits_eq]
    case lastBit =>
      have hact : s.active (pgFP n) = true := by
        simp only [State.txOpen, Bool.and_eq_true] at hopen
        exact hopen.1.1
      exact ⟨_, next_onUnit_of_up hup (·.txLastBit n) rfl, State.txLastBit_shows hn hact hphase htxn⟩
    case tailEnd =>
      exact next_onUnit_of_up hup (·.tailEnd n) (State.tailEnd_of_tail hn hphase)
  case txMax =>
    exact ⟨_, next_onUnit_of_up hup (·.txTimeout n) rfl,
      State.txTimeout_shows (fp_lt_of_unitUp hup) hact hptt hmax hphase htxn hq⟩

end

section
/-! SUPPORT. A field port enabled and disabled, what its receiver takes, and what ends a frame (10_field_ports_check_values R246,
R247, R250, R251, R259, R261, R272). -/

namespace Sys2Proof.Machine

/-! ### CTRL of a port (R26, R251, R272) -/

/-- A bit of a value's three lowest. -/
theorem nbit_of_mod_eight {v m i : Nat} (h : v % 8 = m) (hi : i < 3) : nbit v i = nbit m i := by
  subst h
  simpa [nbit, hi] using (Nat.testBit_mod_two_pow v 3 i).symm

section
variable {s : State} {n : Nat} {v : BitVec 32} (wr : Code) (hn : n < 16)
include hn

omit hn in
/-- A write to CTRL that neither fences nor unfences sets ENABLE with its effect, or is refused (R26, R272). -/
theorem State.ctrlWrite_fp_enable_only (hv : v.toNat % 8 < 2) :
    s.ctrlWrite (wr32 0 (pgFP n) 0x008 v wr) .kFP n =
      if nbit v.toNat 0 && !s.b (pgFP n) CTRL_ENABLE && !s.fpEnableOk n then (wr32 0 (pgFP n) 0x008 v wr).drop s Ev.BAD_VALUE
      else done (s.setEnable 0 (pgFP n) .kFP n (nbit v.toNat 0)) := by
  have hbit {i : Nat} (hi : 1 ≤ i ∧ i < 3) : nbit (wr32 0 (pgFP n) 0x008 v wr).v i = false := by
    rw [wr32_v, nbit_of_mod_eight rfl hi.2]
    exact Nat.testBit_lt_two_pow (Nat.lt_of_lt_of_le hv (Nat.pow_le_pow_right (n := 2) (by decide) hi.1))
  unfold State.ctrlWrite
  extract_lets fence unfence old on audio v1 v2
  have hfence : fence = false := hbit (i := 1) (by decide)
  have hunfence : unfence = false := by
    unfold unfence
    rw [hbit (i := 2) (by decide), Bool.false_and, Bool.false_and]
  have haudio : audio = false := rfl
  have hon : on = nbit v.toNat 0 := congrArg (nbit · 0) (wr32_v ..)
  simp only [v2, hfence, hunfence, haudio, Bool.false_and, Bool.false_eq_true, if_false]
  rw [← hon]
  rfl

theorem State.ctrlWrite_fpEnable (hv : v.toNat % 8 = 1) (hoff : s.r (pgFP n) CTRL_ENABLE = 0) :
    (s.ctrlWrite (wr32 0 (pgFP n) 0x008 v wr) .kFP n).1 =
      if s.fpEnableOk n then (s.w (pgFP n) CTRL_ENABLE 1).fpStart n else s.accEventOpen 0 (pgFP n) Ev.BAD_VALUE := by
  have hpage : pgFP n < 0x5A0 := Nat.lt_trans (pgFP_lt hn) (by decide)
  have hon : nbit v.toNat 0 = true := (nbit_of_mod_eight hv (by decide)).trans rfl
  have hold : s.b (pgFP n) CTRL_ENABLE = false := s.b_of_r_eq_zero hoff
  have hset : s.setEnable 0 (pgFP n) .kFP n true = (s.w (pgFP n) CTRL_ENABLE 1).fpStart n :=
    if_pos (by rw [show (wfld (s.reg 0 (pgFP n) 0x008) 0 1 != 0) = false from hold]; rfl)
  rw [State.ctrlWrite_fp_enable_only wr (by omega), hon, hold, hset, Wr.drop_own s hpage (by decide)]
  cases s.fpEnableOk n <;> rfl

omit hn in
theorem State.ctrlWrite_fpDisable (hv : v.toNat % 8 = 0) (hon : s.r (pgFP n) CTRL_ENABLE = 1) :
    (s.ctrlWrite (wr32 0 (pgFP n) 0x008 v wr) .kFP n).1 = (s.w (pgFP n) CTRL_ENABLE 0).fpStop n := by
  have hoff : nbit v.toNat 0 = false := (nbit_of_mod_eight hv (by decide)).trans rfl
  have hold : s.b (pgFP n) CTRL_ENABLE = true := s.b_of_r_eq_one hon
  have hset : s.setEnable 0 (pgFP n) .kFP n false = (s.w (pgFP n) CTRL_ENABLE 0).fpStop n := by
    have hwas : (wfld (s.reg 0 (pgFP n) 0x008) 0 1 != 0) = true := hold
    simp only [State.setEnable, hwas]
    rfl
  rw [State.ctrlWrite_fp_enable_only wr (by omega), hoff, hset]
  rfl

end

/-! ### The indices at 0, and a port that stops (R251, R272) -/

section
variable {n : Nat} (hn : n < 16) (s : State)
include hn

theorem State.fpStart_pageActs : PageActs (pgFP n) s (s.fpStart n) :=
  ((((s.w_fp_pageActs hn (by decide) 0).trans (State.w_fp_pageActs _ hn (by decide) 0)).trans
    (State.w_fp_pageActs _ hn (by decide) 0)).trans (State.w_fp_pageActs _ hn (by decide) 0)).trans (State.setFp_pageActs ..)

theorem State.rxForget_pageActs : PageActs (pgFP n) s (s.rxForget n) := by
  unfold State.rxForget
  extract_lets a v
  have hv : PageActs (pgFP n) s v := .ite (s.ctxMid_pageActs ..) (.refl _ s)
  exact (hv.trans (v.setFp_pageActs ..)).trans (State.w_fp_pageActs _ hn (by decide) 0)

end

section
variable (s : State) (n : Nat)

theorem State.fpStart_shows :
    (s.fpStart n).r (pgFP n) FP.RX_HEAD = 0 ∧ (s.fpStart n).r (pgFP n) FP.RX_TAIL = 0 ∧
      (s.fpStart n).r (pgFP n) FP.TX_HEAD = 0 ∧ (s.fpStart n).r (pgFP n) FP.TX_TAIL = 0 ∧
      (s.fpStart n).r (pgFP n) CTRL_ENABLE = s.r (pgFP n) CTRL_ENABLE := by
  simp (disch := decide) [State.fpStart, State.r_w_same, State.r_w_off]

theorem State.fp_rxForget : (s.rxForget n).fp n = (s.fp n).clearRx := by
  unfold State.rxForget
  extract_lets a v
  have hv : v.fp n = s.fp n := by
    unfold v
    split <;> rfl
  rw [State.fp_w, State.fp_setFp_same, hv]

theorem State.r_rxForget_off {f : Fld} (hf : f.off ≠ 0x00C) : (s.rxForget n).r (pgFP n) f = s.r (pgFP n) f := by
  unfold State.rxForget
  extract_lets a v
  have hv : v.r (pgFP n) f = s.r (pgFP n) f := by
    unfold v
    split <;> rfl
  exact (State.r_w_off _ _ _ hf).trans hv

theorem State.r_rxForget_active : (s.rxForget n).r (pgFP n) FP.STATUS_RX_ACTIVE = 0 := State.r_w_same _ _ _ _ (by decide)

/-- A port that stops with no frame of the dispatcher at it. -/
theorem State.fpStop_of_own (htxn : (s.fp n).txTxn = none) (hq : (s.fp n).dispQ = []) :
    ∃ x, x.phase = .idle ∧ x.rx = [] ∧ s.fpStop n =
      ((((s.txCut n).rxForget n).setFp n x).w (pgFP n) FP.STATUS_PTT 0).w (pgFP n) FP.STATUS_TX_ACTIVE 0 := by
  unfold State.fpStop
  extract_lets p x ts v _ v1 v2
  have hts : ts = [] := by simp [ts, x, htxn, hq]
  rw [hts]
  refine ⟨_, rfl, ?_, rfl⟩
  show (v.fp n).rx = []
  rw [State.fp_rxForget]
  rfl

variable {n} (hn : n < 16) (htxn : (s.fp n).txTxn = none) (hq : (s.fp n).dispQ = [])
include htxn hq

theorem State.fpStop_shows :
    (s.fpStop n).r (pgFP n) CTRL_ENABLE = s.r (pgFP n) CTRL_ENABLE ∧ (s.fpStop n).r (pgFP n) FP.STATUS_PTT = 0 ∧
      (s.fpStop n).r (pgFP n) FP.STATUS_TX_ACTIVE = 0 ∧ (s.fpStop n).r (pgFP n) FP.STATUS_RX_ACTIVE = 0 ∧
      ((s.fpStop n).fp n).phase = .idle ∧ ((s.fpStop n).fp n).rx = [] ∧
      (s.fpStop n).r (pgFP n) FP.TX_TAIL = s.r (pgFP n) FP.TX_TAIL := by
  obtain ⟨x, hphase, hrx, h⟩ := s.fpStop_of_own n htxn hq
  have hfp : (s.fpStop n).fp n = x := by rw [h, State.fp_w, State.fp_w, State.fp_setFp_same]
  rw [hfp, h]
  refine ⟨?_, ?_, ?_, ?_, hphase, hrx, ?_⟩ <;>
    simp (disch := decide) [State.r_w_same, State.r_w_disjoint, State.r_w_off, State.r_rxForget_off, State.r_rxForget_active,
      State.r_txCut]

include hn in
theorem State.fpStop_pageActs : PageActs (pgFP n) s (s.fpStop n) := by
  obtain ⟨x, -, -, h⟩ := s.fpStop_of_own n htxn hq
  rw [h]
  exact ((((s.txCut_pageActs n).trans (State.rxForget_pageActs hn _)).trans (State.setFp_pageActs ..)).trans
    (State.w_fp_pageActs _ hn (by decide) 0)).trans (State.w_fp_pageActs _ hn (by decide) 0)

end

/-! ### A byte that goes on with its frame (R246, R247, R248) -/

/-- The receiver's record with one byte more. -/
def FieldPort.taking (x : FieldPort) (c : RxIn) : FieldPort :=
  { x with rx := x.rx ++ [c.byte], rxT := x.rxT ++ [c.time], rxE := x.rxE ++ [c.mark], inFrame := true }

/-- The port with that record, a frame in progress. -/
def State.rxTaken (s : State) (n : Nat) (c : RxIn) : State :=
  ((s.setFp n ((s.fp n).taking c)).w (pgFP n) FP.STATUS_RX_ACTIVE 1).setFp n ((s.fp n).taking c)

section
variable {s : State} {n : Nat}

theorem State.fp_rxTaken (s : State) (n : Nat) (c : RxIn) : (s.rxTaken n c).fp n = (s.fp n).taking c := by
  rw [State.rxTaken, State.fp_setFp_same]

theorem State.rxTaken_pageActs (hn : n < 16) (s : State) (c : RxIn) : PageActs (pgFP n) s (s.rxTaken n c) :=
  ((s.setFp_pageActs ..).trans (State.w_fp_pageActs _ hn (by decide) 1)).trans (State.setFp_pageActs ..)

theorem State.r_rxTaken_active (s : State) (n : Nat) (c : RxIn) : (s.rxTaken n c).r (pgFP n) FP.STATUS_RX_ACTIVE = 1 :=
  (State.r_setFp ..).trans (State.r_w_same _ _ _ _ (by decide))

theorem State.r_rxTaken_off (s : State) (n : Nat) (c : RxIn) {f : Fld} (hf : f.off ≠ 0x00C) :
    (s.rxTaken n c).r (pgFP n) f = s.r (pgFP n) f := (State.r_setFp ..).trans ((State.r_w_off _ _ _ hf).trans (State.r_setFp ..))

/-- A frame to be sent that waits for the end of the one received, or for the quiet, still waits. -/
theorem State.txProceed_of_waiting
    (h : (s.fp n).phase = .quiet → (s.r (pgFP n) FP.LINE_CFG_DUPLEX = 0 ∧ (s.fp n).inFrame = true) ∨
      s.r (pgFP n) FP.LINE_CFG_LBT = 1) : s.txProceed n = s := by
  refine if_neg fun hgo => ?_
  simp only [Bool.and_eq_true, Bool.or_eq_true, Bool.not_eq_true', decide_eq_true_eq] at hgo
  obtain ⟨⟨⟨hphase, _⟩, hline⟩, hlbt⟩ := hgo
  rcases h hphase with ⟨hduplex, hframe⟩ | hon
  · rw [s.b_of_r_eq_zero hduplex, hframe] at hline
    simp at hline
  · rw [s.b_of_r_eq_one hon] at hlbt
    simp at hlbt

variable (hcv : s.r (pgFP n) FP.ASSIST_CV_EN = 0)
include hcv

theorem State.cvRuns_of_plain {t : State} : t.cvRuns (s.fpAssist n) = false := by
  simp [State.cvRuns, State.fpAssist, s.b_of_r_eq_zero hcv]

/-- A byte under the raw or an HDLC-style assist, without check values. -/
theorem State.rxByte_of_plain (hkind : s.r (pgFP n) FP.ASSIST_KIND = 0 ∨ s.r (pgFP n) FP.ASSIST_KIND = 4) (c : RxIn) :
    s.rxByte n c = (s.rxTaken n c, []) := by
  have hcut (raw : List Byte) : rxCut (s.fpAssist n) raw ((s.fp n).cvBad || false) = .more := by
    have h1 : (s.fpAssist n).kind ≠ 1 := by
      show s.r (pgFP n) FP.ASSIST_KIND ≠ 1
      omega
    have h3 : (s.fpAssist n).kind ≠ 3 := by
      show s.r (pgFP n) FP.ASSIST_KIND ≠ 3
      omega
    simp [rxCut, h1, h3]
  have hpass (t : State) (raw : List Byte) (k : Nat) : t.cvPass (s.fpAssist n) k raw = (t, false) := by
    simp [State.cvPass, State.cvRuns_of_plain hcv]
  have hruns (t : State) : t.cvRuns (s.fpAssist n) = false := State.cvRuns_of_plain hcv
  unfold State.rxByte
  extract_lets a x y v v1 z
  have hv1 : v1 = v := if_neg (by rw [hruns]; exact Bool.false_ne_true)
  have hz : z = (s.fp n).taking c := by
    unfold z
    rw [hv1]
    exact (State.fp_w ..).trans (State.fp_setFp_same ..)
  have hv : v.fp n = (s.fp n).taking c := (State.fp_w ..).trans (State.fp_setFp_same ..)
  have hbad : z.cvBad = (s.fp n).cvBad := by
    rw [hz]
    rfl
  rw [hv1, hpass]
  dsimp only
  rw [hv, hbad, hcut, Bool.or_false]
  rfl

theorem State.rxTake_of_plain {fuel : Nat} (hkind : s.r (pgFP n) FP.ASSIST_KIND = 0 ∨ s.r (pgFP n) FP.ASSIST_KIND = 4)
    (hwait : (s.fp n).phase = .quiet → s.r (pgFP n) FP.LINE_CFG_DUPLEX = 0 ∨ s.r (pgFP n) FP.LINE_CFG_LBT = 1) (c : RxIn) :
    s.rxTake n (fuel + 1) c = s.rxTaken n c := by
  have hbytes : s.rxBytes n (fuel + 1) [c] = s.rxTaken n c := by
    rw [State.rxBytes, State.rxByte_of_plain hcv hkind]
    cases fuel <;> rfl
  unfold State.rxTake
  rw [hbytes]
  refine State.txProceed_of_waiting fun hphase => ?_
  rw [State.fp_rxTaken] at hphase ⊢
  rw [State.r_rxTaken_off _ _ _ (by decide), State.r_rxTaken_off _ _ _ (by decide)]
  exact (hwait hphase).imp_left fun h => ⟨h, rfl⟩

end

/-! ### What the line brings (R246, R247) -/

section
variable {s : State} {n : Nat} (hn : n < 16) (hopen : s.rxOpen n = true) (hcv : s.r (pgFP n) FP.ASSIST_CV_EN = 0) (idle : Nat)
include hn hopen hcv

theorem State.rxCharacter_of_char (hmode : s.r (pgFP n) FP.LINE_CFG_MODE = 0) (b : Byte) (framing parity : Bool) :
    s.rxCharacter n (.char b framing parity) idle = s.rxChar n b framing parity idle := by
  have hn' : ¬ 16 ≤ n := by omega
  simp [State.rxCharacter, hn', hopen, hmode, State.fpAssist, s.b_of_r_eq_zero hcv]

theorem State.rxCharacter_of_byte (hmode : s.r (pgFP n) FP.LINE_CFG_MODE ≠ 0) (b : Byte) :
    s.rxCharacter n (.byte b) idle = if (s.fp n).opened then
      s.rxTake n 1 ⟨b, s.ago (halfBits (s.r (pgFP n) FP.BAUD_INC) (if stuffed b then 18 else 16)), {}⟩ else s := by
  have hn' : ¬ 16 ≤ n := by omega
  cases hopened : (s.fp n).opened <;>
    simp [State.rxCharacter, hn', hopen, hmode, State.fpAssist, s.b_of_r_eq_zero hcv, hopened]

theorem State.rxCharacter_of_flag (hmode : s.r (pgFP n) FP.LINE_CFG_MODE ≠ 0) (extra : Nat) :
    s.rxCharacter n (.flag extra) idle = s.rxFlag n extra := by
  have hn' : ¬ 16 ≤ n := by omega
  simp [State.rxCharacter, hn', hopen, hmode, State.fpAssist, s.b_of_r_eq_zero hcv]

omit hn hopen hcv in
theorem State.rxFlag_of_closed (h : (s.fp n).opened = false) :
    s.rxFlag n 0 = s.setFp n { s.fp n with opened := true, flagT := s.stamp } := by
  simp [State.rxFlag, h]

omit hn hopen hcv in
theorem State.rxChar_of_raw (hkind : s.r (pgFP n) FP.ASSIST_KIND = 0) (hidle : (s.fp n).needIdle = false) (b : Byte)
    (framing parity : Bool) :
    ∃ time, s.rxChar n b framing parity idle =
      (s.setFp n { s.fp n with needIdle := false, lineFc := some s.fc }).rxTake n 64 ⟨b, time, ⟨framing, parity, false⟩⟩ := by
  have hgap : (s.setFp n { s.fp n with needIdle := false, lineFc := some s.fc }).gapBefore n idle = false := by
    simp [State.gapBefore, State.fpAssist, hkind]
  unfold State.rxChar
  rw [if_neg (by simp [hidle])]
  dsimp only
  rw [hgap]
  exact ⟨_, rfl⟩

end

/-! ### What ends a frame (R246, R247, R250, R259) -/

section
variable {s : State} {n : Nat} (hn : n < 16)
include hn

section
variable (hopen : s.rxOpen n = true) (hframe : (s.fp n).inFrame = true)
include hopen hframe

theorem State.rxBreak_of_frame (hmode : s.r (pgFP n) FP.LINE_CFG_MODE = 0) :
    s.rxBreak n = (s.setFp n { s.fp n with brk := true }).rxFinish n := by
  have hn' : ¬ 16 ≤ n := by omega
  simp [State.rxBreak, hn', hopen, hframe, hmode]

theorem State.rxGapTimeout_of_raw (hkind : s.r (pgFP n) FP.ASSIST_KIND = 0) : s.rxGapTimeout n = s.rxFinish n := by
  have hn' : ¬ 16 ≤ n := by omega
  simp [State.rxGapTimeout, hn', hopen, hframe, State.fpAssist, hkind]

theorem State.t35Silence_of_modbus (hkind : s.r (pgFP n) FP.ASSIST_KIND = 2) : s.t35Silence n = s.rxFinish n := by
  have hn' : ¬ 16 ≤ n := by omega
  simp [State.t35Silence, hn', hopen, hframe, State.fpAssist, hkind]

theorem State.hdlcAbort_of_frame (hmode : s.r (pgFP n) FP.LINE_CFG_MODE ≠ 0) :
    s.hdlcAbort n = ((s.setFp n { s.fp n with aborted := true }).rxFinish n).setFp n
      { ((s.setFp n { s.fp n with aborted := true }).rxFinish n).fp n with opened := false } := by
  have hn' : ¬ 16 ≤ n := by omega
  simp [State.hdlcAbort, hn', hopen, hframe, hmode]

end

theorem State.cdChange_of_changed {level : Bool} (hact : s.active (pgFP n) = true)
    (hcd : s.r (pgFP n) FP.STATUS_CD = b2n (!level)) (hpin : level = true → s.cdPin n = true) :
    s.cdChange n level = if s.b (pgFP n) FP.LINE_CFG_CD_GATE && !level && (s.fp n).inFrame then
      (((s.w (pgFP n) FP.STATUS_CD (b2n level)).pendInt (pgFP n) 4).setFp n { s.fp n with format := true }).rxFinish n
    else (s.w (pgFP n) FP.STATUS_CD (b2n level)).pendInt (pgFP n) 4 := by
  have hlevel : (level && s.cdPin n) = level := by
    cases level with
    | true => exact hpin rfl
    | false => rfl
  have hguard : ¬ (16 ≤ n ∨ (!s.active (pgFP n)) = true ∨ s.b (pgFP n) FP.STATUS_CD = level) := by
    have hb : s.b (pgFP n) FP.STATUS_CD = !level := by
      unfold State.b
      rw [hcd]
      cases level <;> rfl
    rintro (h | h | h)
    · omega
    · simp [hact] at h
    · simp [hb] at h
  unfold State.cdChange
  rw [hlevel, if_neg hguard]
  rfl

omit hn in
theorem State.cdChange_of_away (hpin : s.cdPin n = false) (hcd : s.r (pgFP n) FP.STATUS_CD = 0) (level : Bool) :
    s.cdChange n level = s := by
  refine if_pos (.inr (.inr ?_))
  rw [s.b_of_r_eq_zero hcd, hpin, Bool.and_false]

end

end Sys2Proof.Machine
end

section
/-! SUPPORT. A frame that ends: judged, taken off the receiver, put into the ring or counted as bad; with it O48
(10_field_ports_check_values R253, R254, R257, R305). -/

namespace Sys2Proof.Machine

/-! ### The judgement without check values (R254, R257) -/

section
variable {s : State} {n : Nat}

theorem State.strippedOf_length_le (s : State) (a : Assist) (c : Nat) (raw : List Byte) (total : Nat) :
    (s.strippedOf a c raw total).length ≤ raw.length :=
  (List.length_filterMap_le _ _).trans_eq (List.length_range)

/-- A raw frame is GOOD by its line marks and its length alone, and no register is touched. -/
theorem State.judge_of_raw (hcv : s.r (pgFP n) FP.ASSIST_CV_EN = 0) (hkind : s.r (pgFP n) FP.ASSIST_KIND = 0) (raw : List Byte)
    (cvBad : Bool) (e : LineErr) (channel : Nat) (time : W64) :
    ∃ f stripped, f.bytes.length ≤ raw.length ∧ s.judge (s.fpAssist n) raw cvBad e channel time =
      (s, f, !(cvBad || e.framing || e.parity || e.gap || e.format || e.aborted ||
        decide (s.r (pgFP n) FP.RX_MAX < raw.length) || e.brk), stripped) := by
  have hruns : s.cvRuns (s.fpAssist n) = false := State.cvRuns_of_plain hcv
  have hen : (s.fpAssist n).cvEn = false := s.b_of_r_eq_zero hcv
  have hk : (s.fpAssist n).kind = 0 := hkind
  have h2 : ((s.fpAssist n).kind == 2) = false := by rw [hk]; rfl
  have h4 : ((s.fpAssist n).kind == 4) = false := by rw [hk]; rfl
  have hcompare (c : Nat) : s.cvEndCompare (s.fpAssist n) c raw = (s, false) := if_pos (by simp [hruns])
  have hbytes (total : Nat) : (if (s.fpAssist n).strip then
      s.strippedOf (s.fpAssist n) (s.fpAssist n).rx (raw.take (s.fpAssist n).rxMax) total
      else raw.take (s.fpAssist n).rxMax).length ≤ raw.length := by
    have hcut : (raw.take (s.fpAssist n).rxMax).length ≤ raw.length := List.length_take_le' ..
    split
    · exact (State.strippedOf_length_le ..).trans hcut
    · exact hcut
  refine ⟨(s.judge (s.fpAssist n) raw cvBad e channel time).2.1, (s.judge (s.fpAssist n) raw cvBad e channel time).2.2.2, ?_, ?_⟩
  · simp only [State.judge, hcompare, hruns]
    exact hbytes _
  · simp only [State.judge, hcompare, hruns, hen, h2, h4, Bool.or_false, Bool.false_and, Bool.and_false, Bool.false_eq_true, if_false]
    rfl

end

/-! ### The receiver emptied, and the frame handed on (R253, R254) -/

/-- The frame off the receiver, counted as bad where it is not GOOD. -/
def State.rxClosed (s : State) (n : Nat) (good : Bool) : State :=
  let v := if good then s else ((s.inc (pgFP n) FP.RX_BAD).statusBit (pgFP n) 3).pendInt (pgFP n) 2
  (v.setFp n { (v.fp n).clearRx with needIdle := false }).w (pgFP n) FP.STATUS_RX_ACTIVE 0

/-- A frame put into the ring, counted and reported. -/
def State.rxStored (s : State) (n : Nat) (ring : RxRing) : State :=
  ((s.setFp n { s.fp n with ring := ring }).inc (pgFP n) FP.RX_FRAMES).pendInt (pgFP n) 0

/-- A frame that the ring does not take. -/
def State.rxDropped (s : State) (n : Nat) : State :=
  ((s.inc (pgFP n) FP.RX_DROPPED).statusBit (pgFP n) 4).eventOpen (pgFP n) Ev.RX_OVERRUN

/-- A frame that is kept, at the ring; a GOOD one is offered as a confirmation too (R305). -/
def State.rxDeliver (s : State) (n : Nat) (good : Bool) (f : RxFrame) (stripped : List Byte) (time : W64) : State :=
  (s.rxPut (fpRing n) (s.fp n).ring f).elim (s.rxDropped n) fun y =>
    if good then (y.1.rxStored n y.2).confirm n stripped time else y.1.rxStored n y.2

/-- The time base at the start of the frame in progress (R253). -/
def State.rxStart (s : State) (n : Nat) : W64 :=
  if s.r (pgFP n) FP.LINE_CFG_MODE = 0 then (s.fp n).rxT.headD s.stamp else (s.fp n).flagT

/-- The line's part of the status of the frame in progress. -/
def FieldPort.lineErr (x : FieldPort) : LineErr :=
  ⟨x.rxE.any (·.framing), x.rxE.any (·.parity), (x.rxE.drop 1).any (·.gap), x.format, x.aborted, false, x.brk⟩

/-- A raw frame in progress is GOOD: no check value failed, the line marked nothing, and it is no longer than RX_MAX. -/
def State.rxSound (s : State) (n : Nat) : Bool :=
  !((s.fp n).cvBad || (s.fp n).rxE.any (·.framing) || (s.fp n).rxE.any (·.parity) || ((s.fp n).rxE.drop 1).any (·.gap) ||
    (s.fp n).format || (s.fp n).aborted || decide (s.r (pgFP n) FP.RX_MAX < (s.fp n).rx.length) || (s.fp n).brk)

section
variable {s : State} {n : Nat}

/-- How a raw frame without check values ends. -/
theorem State.rxEnd_of_raw (hcv : s.r (pgFP n) FP.ASSIST_CV_EN = 0) (hkind : s.r (pgFP n) FP.ASSIST_KIND = 0) :
    ∃ f stripped, f.bytes.length ≤ (s.fp n).rx.length ∧ s.rxEnd n =
      if s.rxSound n || s.b (pgFP n) FP.ASSIST_KEEP_BAD then
        (s.rxClosed n (s.rxSound n)).rxDeliver n (s.rxSound n) f stripped (s.rxStart n)
      else s.rxClosed n (s.rxSound n) := by
  obtain ⟨f, stripped, hlen, hjudge⟩ := State.judge_of_raw hcv hkind (s.fp n).rx (s.fp n).cvBad (s.fp n).lineErr n
    (s.rxStart n)
  have hen : (s.fpAssist n).cvEn = false := s.b_of_r_eq_zero hcv
  have hk3 : ((s.fpAssist n).kind == 3) = false := by
    rw [show (s.fpAssist n).kind = 0 from hkind]
    rfl
  refine ⟨f, stripped, hlen, ?_⟩
  unfold State.rxDeliver
  generalize hput : (s.rxClosed n (s.rxSound n)).rxPut (fpRing n) ((s.rxClosed n (s.rxSound n)).fp n).ring f = put
  unfold State.rxEnd
  extract_lets p x a e time
  rw [show s.judge a x.rx x.cvBad e n time = (s, f, s.rxSound n, stripped) from hjudge]
  dsimp -zeta only
  extract_lets v1 v2 v3 v4 v5 v6
  have hv1 : v1 = s := if_neg (by simp [a, hen])
  have hv2 : v2 = v1 := if_neg (by simp [a, hen])
  have hv6 : v6 = s.rxClosed n (s.rxSound n) := by
    unfold v6 v5 v4 v3
    rw [hv2, hv1, show (a.kind == 3) = false from hk3]
    rfl
  rw [hv6, hput]
  cases put with
  | none =>
    rw [Option.elim_none, State.rxDropped]
    rfl
  | some y => rfl

end

/-! ### What the end of a frame shows (R253, R254) -/

theorem PortListed.of_fps {n : Nat} {s t : State} (hl : PortListed n s) (h : t.fps = s.fps) : PortListed n t := by
  unfold PortListed State.fp
  rw [h]
  exact hl

section
variable (s : State) (n : Nat)

theorem State.fp_rxClosed (good : Bool) : (s.rxClosed n good).fp n = { (s.fp n).clearRx with needIdle := false } := by
  have hv : (if good then s else ((s.inc (pgFP n) FP.RX_BAD).statusBit (pgFP n) 3).pendInt (pgFP n) 2).fp n = s.fp n := by
    cases good with
    | true => rfl
    | false => exact (State.fp_w ..).trans ((State.fp_w ..).trans (State.fp_w ..))
  rw [State.rxClosed, State.fp_w, State.fp_setFp_same, hv]

theorem State.rxClosed_active (good : Bool) : (s.rxClosed n good).r (pgFP n) FP.STATUS_RX_ACTIVE = 0 :=
  State.r_w_same _ _ _ _ (by decide)

/-- A port's STATUS has no part in whether a paddock takes accesses: no domain's state and no CTRL lies at its offset. -/
theorem State.padUp_w_status {f : Fld} (hf : f.off = 0x00C) (x c : Nat) : (s.w (pgFP n) f x).padUp c = s.padUp c := by
  have hdomain (d : Nat) : (s.w (pgFP n) f x).pdState d = s.pdState d := by
    refine s.r_w_ne x ?_
    simp only [regKey, Fld.at, pPOWER, pgFP, hf]
    omega
  have hfenced : (s.w (pgFP n) f x).fenced 0 (pgPK c) = s.fenced 0 (pgPK c) := by
    unfold State.fenced
    rw [s.reg_w_ne x]
    simp only [regKey, pgFP, hf]
    omega
  unfold State.padUp State.domainOn State.pdOn
  simp only [hdomain, hfenced]
  rfl

/-- A GOOD frame off the receiver leaves every register but STATUS. -/
theorem State.r_rxClosed_good {f : Fld} (hf : f.off ≠ 0x00C) : (s.rxClosed n true).r (pgFP n) f = s.r (pgFP n) f :=
  (State.r_w_off _ _ _ hf).trans (State.r_setFp ..)

/-- A bad frame is counted and reported. -/
theorem State.rxClosed_bad :
    (s.rxClosed n false).r (pgFP n) FP.RX_BAD = (s.r (pgFP n) FP.RX_BAD + 1) % 2 ^ 32 ∧
      (s.rxClosed n false).r (pgFP n) FP.STATUS_RX_ERROR = 1 ∧ (s.rxClosed n false).r (pgFP n) (INT_PEND_BIT 2) = 1 ∧
      (s.rxClosed n false).r (pgFP n) FP.RX_HEAD = s.r (pgFP n) FP.RX_HEAD ∧
      (s.rxClosed n false).r (pgFP n) FP.RX_FRAMES = s.r (pgFP n) FP.RX_FRAMES := by
  simp (disch := decide) [State.rxClosed, State.inc, State.pendInt, State.statusBit, STATUS_BIT, INT_PEND_BIT,
    State.r_w_same, State.r_w_disjoint, State.r_w_off]

/-- A frame put into the ring writes paddock bytes and RX_HEAD. -/
theorem State.rxPut_held {x : RxRing} {f : RxFrame} {y : State × RxRing} (h : s.rxPut (fpRing n) x f = some y) :
    ∃ v, PortHeld n s v ∧ y.1 = v.w (pgFP n) FP.RX_HEAD (s.r (pgFP n) FP.RX_HEAD + 1) := by
  unfold State.rxPut at h
  extract_lets cl size count level used head desc v v1 at h
  split_ifs at h
  obtain rfl := Option.some.inj h
  exact ⟨v1, (s.padRingWrite_portHeld ..).trans (v.padWrite_portHeld ..), rfl⟩

/-- A ring with room takes the frame. -/
theorem State.rxPut_of_room {x : RxRing} {f : RxFrame} (hcount : s.rxLevel (fpRing n) < 2 ^ s.r (pgFP n) FP.RX_DESC_COUNT)
    (hsize : (x.lens.take (s.rxLevel (fpRing n))).foldl (· + ·) 0 + f.bytes.length ≤ 2 ^ s.r (pgFP n) FP.RX_DATA_SIZE)
    (hpad : s.padUp (s.r (pgFP n) FP.RING) = true) : ∃ y, s.rxPut (fpRing n) x f = some y := by
  refine ⟨_, if_neg ?_⟩
  rintro (h | h | h)
  · exact absurd hcount (Nat.not_lt.2 h)
  · exact absurd hsize (Nat.not_le.2 h)
  · rw [show s.r (fpRing n).page (fpRing n).cluster = s.r (pgFP n) FP.RING from rfl, hpad] at h
    exact Bool.false_ne_true h

/-- What stands at a port whose ring has taken a frame. -/
theorem State.rxStored_shows {x : RxRing} {f : RxFrame} {y : State × RxRing} (h : s.rxPut (fpRing n) x f = some y) :
    (y.1.rxStored n y.2).fp n = { s.fp n with ring := y.2 } ∧
      (y.1.rxStored n y.2).r (pgFP n) FP.RX_FRAMES = (s.r (pgFP n) FP.RX_FRAMES + 1) % 2 ^ 32 ∧
      (y.1.rxStored n y.2).r (pgFP n) FP.RX_HEAD = (s.r (pgFP n) FP.RX_HEAD + 1) % 2 ^ 16 ∧
      (y.1.rxStored n y.2).r (pgFP n) (INT_PEND_BIT 0) = 1 ∧
      (y.1.rxStored n y.2).r (pgFP n) FP.RX_BAD = s.r (pgFP n) FP.RX_BAD ∧
      (y.1.rxStored n y.2).r (pgFP n) FP.STATUS_RX_ACTIVE = s.r (pgFP n) FP.STATUS_RX_ACTIVE := by
  obtain ⟨v, hv, hy⟩ := s.rxPut_held n h
  have hr (g : Fld) (hg : dispatchFree g) : v.r (pgFP n) g = s.r (pgFP n) g := hv.r g hg
  have hfp : y.1.fp n = s.fp n := by rw [hy, State.fp_w, hv.fp_eq]
  refine ⟨?_, ?_⟩
  · rw [State.rxStored, State.pendInt, State.inc, State.fp_w, State.fp_w, State.fp_setFp_same, hfp]
  · rw [← hr FP.RX_FRAMES (by decide), ← hr FP.RX_HEAD (by decide), ← hr FP.RX_BAD (by decide),
      ← hr FP.STATUS_RX_ACTIVE (by decide)]
    simp (disch := decide) [State.rxStored, State.inc, State.pendInt, INT_PEND_BIT, State.r_w_same, State.r_w_off, hy,
      hr FP.RX_HEAD (by decide)]

theorem State.rxStored_listed (ring : RxRing) : PortListed n (s.rxStored n ring) :=
  (s.setFp_listed { s.fp n with ring := ring }).of_fps rfl

theorem State.rxDropped_shows :
    (s.rxDropped n).fp n = s.fp n ∧ (s.rxDropped n).r (pgFP n) FP.STATUS_RX_ACTIVE = s.r (pgFP n) FP.STATUS_RX_ACTIVE := by
  obtain ⟨_, _, hev⟩ := ((s.inc (pgFP n) FP.RX_DROPPED).statusBit (pgFP n) 4).eventOpen_eq (pgFP n) Ev.RX_OVERRUN
  refine ⟨?_, ?_⟩
  · rw [State.rxDropped, hev]
    rfl
  · refine (State.r_congr (State.regs_eventOpen ..) _ _).trans ?_
    simp (disch := decide) [State.inc, State.statusBit, STATUS_BIT, State.r_w_disjoint, State.r_w_off]

end

/-- A frame at the ring leaves the receiver as it was, whether it is taken or not. -/
theorem State.rxDeliver_keeps {n : Nat} (hn : n < 16) (s : State) (good : Bool) (f : RxFrame) (stripped : List Byte) (time : W64) :
    ((s.rxDeliver n good f stripped time).fp n).rx = (s.fp n).rx ∧
      ((s.rxDeliver n good f stripped time).fp n).inFrame = (s.fp n).inFrame ∧
      (s.rxDeliver n good f stripped time).r (pgFP n) FP.STATUS_RX_ACTIVE = s.r (pgFP n) FP.STATUS_RX_ACTIVE := by
  unfold State.rxDeliver
  cases hput : s.rxPut (fpRing n) (s.fp n).ring f with
  | none =>
    obtain ⟨hfp, hactive⟩ := s.rxDropped_shows n
    rw [Option.elim_none, hfp]
    exact ⟨rfl, rfl, hactive⟩
  | some y =>
    obtain ⟨hfp, -, -, -, -, hactive⟩ := s.rxStored_shows n hput
    have hstored := y.1.rxStored_listed n y.2
    rw [Option.elim_some]
    cases good with
    | false =>
      rw [if_neg Bool.false_ne_true, hfp]
      exact ⟨rfl, rfl, hactive⟩
    | true =>
      have hconfirm := State.confirm_served hn (y.1.rxStored n y.2) n stripped time
      obtain ⟨q, hq⟩ := hconfirm.line hstored
      rw [if_pos rfl, hq, hfp]
      exact ⟨rfl, rfl, (hconfirm.r _ (by decide)).trans hactive⟩

/-- A GOOD frame that the ring takes is counted and reported. -/
theorem State.rxDeliver_good {n : Nat} (hn : n < 16) (s : State) {f : RxFrame} {y : State × RxRing}
    (hput : s.rxPut (fpRing n) (s.fp n).ring f = some y) (stripped : List Byte) (time : W64) :
    (s.rxDeliver n true f stripped time).r (pgFP n) FP.RX_FRAMES = (s.r (pgFP n) FP.RX_FRAMES + 1) % 2 ^ 32 ∧
      (s.rxDeliver n true f stripped time).r (pgFP n) FP.RX_HEAD = (s.r (pgFP n) FP.RX_HEAD + 1) % 2 ^ 16 ∧
      (s.rxDeliver n true f stripped time).r (pgFP n) (INT_PEND_BIT 0) = 1 ∧
      (s.rxDeliver n true f stripped time).r (pgFP n) FP.RX_BAD = s.r (pgFP n) FP.RX_BAD := by
  obtain ⟨-, hframes, hhead, hint, hbad, -⟩ := s.rxStored_shows n hput
  have hconfirm := State.confirm_served hn (y.1.rxStored n y.2) n stripped time
  unfold State.rxDeliver
  rw [hput, Option.elim_some, if_pos rfl, hconfirm.r _ (by decide), hconfirm.r _ (by decide), hconfirm.r _ (by decide),
    hconfirm.r _ (by decide)]
  exact ⟨hframes, hhead, hint, hbad⟩

/-! ### How a raw frame ends -/

section
variable {s : State} {n : Nat}

theorem State.rxSound_of_clean (hmarks : ∀ m ∈ (s.fp n).rxE, m.framing = false ∧ m.parity = false ∧ m.gap = false)
    (hformat : (s.fp n).format = false) (haborted : (s.fp n).aborted = false) (hbrk : (s.fp n).brk = false)
    (hcv : (s.fp n).cvBad = false) (hlen : (s.fp n).rx.length ≤ s.r (pgFP n) FP.RX_MAX) : s.rxSound n = true := by
  have hframing : (s.fp n).rxE.any (·.framing) = false := List.any_eq_false.2 fun m hm => by simp [(hmarks m hm).1]
  have hparity : (s.fp n).rxE.any (·.parity) = false := List.any_eq_false.2 fun m hm => by simp [(hmarks m hm).2.1]
  have hgap : ((s.fp n).rxE.drop 1).any (·.gap) = false :=
    List.any_eq_false.2 fun m hm => by simp [(hmarks m (List.mem_of_mem_drop hm)).2.2]
  have hshort : decide (s.r (pgFP n) FP.RX_MAX < (s.fp n).rx.length) = false := decide_eq_false (Nat.not_lt.2 hlen)
  unfold State.rxSound
  rw [hcv, hframing, hparity, hgap, hformat, haborted, hshort, hbrk]
  rfl

theorem State.rxSound_of_framing (h : (s.fp n).rxE.any (·.framing) = true) : s.rxSound n = false := by
  simp only [State.rxSound, h, Bool.or_true, Bool.true_or, Bool.not_true]

variable (hcv : s.r (pgFP n) FP.ASSIST_CV_EN = 0) (hkind : s.r (pgFP n) FP.ASSIST_KIND = 0)
include hcv hkind

/-- Whatever becomes of it, the receiver is empty (R253). -/
theorem State.rxEnd_empties (hn : n < 16) :
    ((s.rxEnd n).fp n).rx = [] ∧ ((s.rxEnd n).fp n).inFrame = false ∧ (s.rxEnd n).r (pgFP n) FP.STATUS_RX_ACTIVE = 0 := by
  obtain ⟨f, stripped, -, hend⟩ := State.rxEnd_of_raw hcv hkind
  have hfp := s.fp_rxClosed n (s.rxSound n)
  have hactive := s.rxClosed_active n (s.rxSound n)
  rw [hend]
  split
  · obtain ⟨hrx, hframe, hkeeps⟩ := (s.rxClosed n (s.rxSound n)).rxDeliver_keeps hn (s.rxSound n) f stripped (s.rxStart n)
    rw [hrx, hframe, hkeeps, hfp, hactive]
    exact ⟨rfl, rfl, rfl⟩
  · rw [hfp, hactive]
    exact ⟨rfl, rfl, rfl⟩

/-- A GOOD frame with room (R253, R254). -/
theorem State.rxEnd_of_sound (hn : n < 16) (hsound : s.rxSound n = true)
    (hcount : s.rxLevel (fpRing n) < 2 ^ s.r (pgFP n) FP.RX_DESC_COUNT)
    (hsize : ((s.fp n).ring.lens.take (s.rxLevel (fpRing n))).foldl (· + ·) 0 + (s.fp n).rx.length ≤
      2 ^ s.r (pgFP n) FP.RX_DATA_SIZE) (hpad : s.padUp (s.r (pgFP n) FP.RING) = true) :
    (s.rxEnd n).r (pgFP n) FP.RX_FRAMES = (s.r (pgFP n) FP.RX_FRAMES + 1) % 2 ^ 32 ∧
      (s.rxEnd n).r (pgFP n) FP.RX_HEAD = (s.r (pgFP n) FP.RX_HEAD + 1) % 2 ^ 16 ∧
      (s.rxEnd n).r (pgFP n) (INT_PEND_BIT 0) = 1 ∧ (s.rxEnd n).r (pgFP n) FP.RX_BAD = s.r (pgFP n) FP.RX_BAD := by
  obtain ⟨f, stripped, hlen, hend⟩ := State.rxEnd_of_raw hcv hkind
  have hr {g : Fld} (hg : g.off ≠ 0x00C) : (s.rxClosed n true).r (pgFP n) g = s.r (pgFP n) g := s.r_rxClosed_good n hg
  have hlevel : (s.rxClosed n true).rxLevel (fpRing n) = s.rxLevel (fpRing n) := by
    unfold State.rxLevel
    exact congrArg₂ (fun x y => (x + 65536 - y) % 65536) (hr (g := FP.RX_HEAD) (by decide)) (hr (g := FP.RX_TAIL) (by decide))
  have hring : ((s.rxClosed n true).fp n).ring = (s.fp n).ring := by
    rw [s.fp_rxClosed n true]
    rfl
  have hpad' : (s.rxClosed n true).padUp ((s.rxClosed n true).r (pgFP n) FP.RING) = true := by
    rw [hr (by decide)]
    exact (State.padUp_w_status _ n rfl _ _).trans hpad
  obtain ⟨y, hput⟩ := (s.rxClosed n true).rxPut_of_room n (x := (s.fp n).ring) (f := f)
    (by rw [hlevel, hr (by decide)]; exact hcount)
    (by rw [hlevel, hr (by decide)]; exact Nat.le_trans (Nat.add_le_add_left hlen _) hsize) hpad'
  rw [← hring] at hput
  rw [hend, hsound, if_pos (Bool.true_or _)]
  obtain ⟨hframes, hhead, hint, hbad⟩ := State.rxDeliver_good hn _ hput stripped (s.rxStart n)
  rw [hr (by decide)] at hframes hhead hbad
  exact ⟨hframes, hhead, hint, hbad⟩

/-- A frame with a framing error that is not kept (R254). -/
theorem State.rxEnd_of_framing (h : (s.fp n).rxE.any (·.framing) = true) (hkeep : s.r (pgFP n) FP.ASSIST_KEEP_BAD = 0) :
    s.rxEnd n = s.rxClosed n false := by
  obtain ⟨f, stripped, -, hend⟩ := State.rxEnd_of_raw hcv hkind
  rw [hend, State.rxSound_of_framing h, s.b_of_r_eq_zero hkeep]
  rfl

end

end Sys2Proof.Machine

open Sys2Proof Sys2Proof.Machine

/-- Settles O48: CTRL by what it sets and stops; a byte by the receiver's record with one more; what ends a frame by the guard of its
step; and the frame that ends by its judgement, the emptied receiver and the ring. -/
theorem fieldPortsReceiveAndDeliver : Obligations.FieldPortsReceiveAndDeliver := by
  unfold Obligations.FieldPortsReceiveAndDeliver
  refine ⟨fun s n v wr hn ha hv hoff => ?enable, fun s n v wr hn ha hv hon htxn hq => ?disable,
    fun s n idle b framing parity hup hopen hcv hwait => ?characters, fun s n hup hopen hframe => ?ends,
    fun s n level hup hact hcd hpin => ?carrier, fun s n hup hpin hcd => ?noPin, fun s n hn hcv hkind => ?frameEnd⟩
  case enable =>
    have hstep := (State.unitWrite_fpCtrl hn v ha).trans (State.ctrlWrite_fpEnable wr hn hv hoff)
    refine ⟨fun hok => ⟨_, rfl, ?_⟩, fun hok => congrArg Host.Outcome.next ?_⟩
    · rw [hok, if_pos rfl] at hstep
      rw [hstep]
      obtain ⟨hrxHead, hrxTail, htxHead, htxTail, henable⟩ := (s.w (pgFP n) CTRL_ENABLE 1).fpStart_shows n
      have hacts := (s.w_fp_pageActs hn (by decide) 1).trans ((s.w (pgFP n) CTRL_ENABLE 1).fpStart_pageActs hn)
      exact ⟨henable.trans (State.r_w_same _ _ _ _ (by decide)), hrxHead, hrxTail, htxHead, htxTail, hacts.regs, hacts.mem,
        hacts.owners, hacts.locks, hacts.hist⟩
    · rw [hok] at hstep
      exact hstep
  case disable =>
    have hstep := (State.unitWrite_fpCtrl hn v ha).trans (State.ctrlWrite_fpDisable wr hv hon)
    refine ⟨_, rfl, ?_⟩
    rw [hstep]
    obtain ⟨henable, hptt, htx, hrx, hphase, hempty, htail⟩ := (s.w (pgFP n) CTRL_ENABLE 0).fpStop_shows htxn hq
    have hacts := (s.w_fp_pageActs hn (by decide) 0).trans ((s.w (pgFP n) CTRL_ENABLE 0).fpStop_pageActs hn htxn hq)
    exact ⟨henable.trans (State.r_w_same _ _ _ _ (by decide)), hptt, htx, hrx, hphase, hempty,
      htail.trans (s.r_w_off _ _ (by decide)), hacts.mem, hacts.owners, hacts.locks, hacts.hist⟩
  case characters =>
    have hn := fp_lt_of_unitUp hup
    have hexec (ch : RxChar) : exec (.rxCharacter n ch idle) s = .next (s.rxCharacter n ch idle) :=
      next_onUnit_of_up hup (·.rxCharacter n ch idle) rfl
    refine ⟨fun hmode hkind hidle => ?char, fun hmode hkind hopened => ?byte, fun hmode hopened => ?closed⟩
    case char =>
      obtain ⟨time, hchar⟩ := State.rxChar_of_raw idle hkind hidle b framing parity
      refine ⟨_, hexec _, ?_⟩
      rw [State.rxCharacter_of_char hn hopen hcv idle hmode, hchar, State.rxTake_of_plain (s := s.setFp n _) (n := n) hcv
        (.inl hkind) (by rw [State.fp_setFp_same]; exact hwait), State.fp_rxTaken, State.fp_setFp_same]
      have hacts := (s.setFp_pageActs (pgFP n) n { s.fp n with needIdle := false, lineFc := some s.fc }).trans
        (State.rxTaken_pageActs hn _ ⟨b, time, ⟨framing, parity, false⟩⟩)
      exact ⟨rfl, rfl, rfl, State.r_rxTaken_active .., hacts.mem, hacts.owners, hacts.locks, hacts.hist⟩
    case byte =>
      refine ⟨_, hexec _, ?_⟩
      rw [State.rxCharacter_of_byte hn hopen hcv idle hmode, if_pos hopened, State.rxTake_of_plain hcv (.inr hkind) hwait,
        State.fp_rxTaken]
      have hacts := State.rxTaken_pageActs hn s
        ⟨b, s.ago (halfBits (s.r (pgFP n) FP.BAUD_INC) (if stuffed b then 18 else 16)), {}⟩
      exact ⟨rfl, rfl, State.r_rxTaken_active .., hacts.mem, hacts.hist⟩
    case closed =>
      rw [hexec, hexec, State.rxCharacter_of_flag hn hopen hcv idle hmode, State.rxFlag_of_closed hopened,
        State.rxCharacter_of_byte hn hopen hcv idle hmode, if_neg (by simp [hopened])]
      exact ⟨rfl, rfl⟩
  case ends =>
    have hn := fp_lt_of_unitUp hup
    exact ⟨fun hmode => next_onUnit_of_up hup (·.rxBreak n) (State.rxBreak_of_frame hn hopen hframe hmode),
      fun hkind => next_onUnit_of_up hup (·.rxGapTimeout n) (State.rxGapTimeout_of_raw hn hopen hframe hkind),
      fun hkind => next_onUnit_of_up hup (·.t35Silence n) (State.t35Silence_of_modbus hn hopen hframe hkind),
      fun hmode => next_onUnit_of_up hup (·.hdlcAbort n) (State.hdlcAbort_of_frame hn hopen hframe hmode)⟩
  case carrier =>
    intro u
    have hstep : exec (.cdChange n level) s = .next _ :=
      next_onUnit_of_up hup (·.cdChange n level) (State.cdChange_of_changed (fp_lt_of_unitUp hup) hact hcd hpin)
    refine ⟨fun hstays => ?_, fun hgate hlevel hframe => ?_⟩
    · rw [hstep, if_neg]
      · rfl
      · rcases hstays with hgate | hlevel | hframe
        · simp [s.b_of_r_eq_zero hgate]
        · simp [hlevel]
        · simp [hframe]
    · rw [hstep, if_pos (by simp [s.b_of_r_eq_one hgate, hlevel, hframe])]
      rfl
  case noPin =>
    exact next_onUnit_of_up hup (·.cdChange n true) (State.cdChange_of_away hpin hcd true)
  case frameEnd =>
    intro t x level
    obtain ⟨hrx, hframe, hactive⟩ := State.rxEnd_empties hcv hkind hn
    refine ⟨fun hphase => State.txProceed_of_waiting fun h => absurd h hphase, hrx, hframe, hactive,
      fun hmarks hformat haborted hbrk hbad hlen hcount hsize hpad => ?good, fun hframing hkeep => ?bad⟩
    case good =>
      exact State.rxEnd_of_sound hcv hkind hn (State.rxSound_of_clean hmarks hformat haborted hbrk hbad hlen) hcount hsize hpad
    case bad =>
      rw [show t = s.rxClosed n false from State.rxEnd_of_framing hcv hkind hframing hkeep]
      exact s.rxClosed_bad n

end

section
/-! SUPPORT. A commit entry taken in a fabric cycle other than 0 (11_points_brands_commands R283, R286, R305). -/

namespace Sys2Proof.Machine

/-- An ACTIVE part in fabric cycle 1 with one point record and, on request ring 0, one entry that commits to it. The
record holds zeros: an ANALOG point without limits, alarms, history or brands. -/
def waitingCommit : State :=
  ((((((({ State.reset with mainUp := true, fc := 1 } : State).w pMIRROR MIRROR.ROLE 0).w pPOINTS CTRL_ENABLE 1).w
    pPOINTS POINTS.REC_BASE (State.reset.partBase 2)).w pPOINTS POINTS.REC_COUNT 1).w
    pPOINTS (crFld POINTS.CR_CFG_EN 0) 1).w pPOINTS (crFld POINTS.CR_HEAD 0) 1)

/-- The entry on the ring: value and quality 0 for point 0 (R284). -/
abbrev zeroEntry : List Byte := List.replicate 32 0

theorem waitingCommit_active : waitingCommit.active pPOINTS = true := by decide +kernel

theorem waitingCommit_leads : waitingCommit.following = false := by decide +kernel

theorem waitingCommit_nextRing :
    waitingCommit.nextRing 0 waitingCommit.points.nextRing (fun _ => true) = some 0 := by decide +kernel

theorem waitingCommit_ringRead :
    waitingCommit.ringRead 0 (waitingCommit.r pPOINTS (crFld POINTS.CR_REQ_BASE 0))
      (waitingCommit.r pPOINTS (crFld POINTS.CR_TAIL 0)) = some zeroEntry := by decide +kernel

theorem waitingCommit_known : fieldLE zeroEntry 0 4 % 2 ^ 20 < waitingCommit.r pPOINTS POINTS.REC_COUNT := by decide +kernel

theorem waitingCommit_inPart : waitingCommit.inPart 2 (waitingCommit.pointAddr (fieldLE zeroEntry 0 4 % 2 ^ 20)) 64 = true := by
  decide +kernel

theorem waitingCommit_valid : (waitingCommit.pointRec (fieldLE zeroEntry 0 4 % 2 ^ 20)).valid = true := by decide +kernel

/-- The engine keeps the fabric cycle in which it took the entry, which decides whether a feedback commit is in time (R305). -/
theorem waitingCommit_commitTake_fc : (waitingCommit.commitTake false).points.taken.map (·.fc) = some 1 := by decide +kernel

theorem exec_commitTake_waitingCommit : exec (.commitTake false) waitingCommit = .next (waitingCommit.commitTake false) :=
  congrArg Host.Outcome.next (if_pos (by decide +kernel))

end Sys2Proof.Machine

open Sys2Proof Sys2Proof.Machine

/-- Refutes O51: its clause on the taking of a good entry leaves out the cycle in which the commit was taken, which then
stands as its default 0, but the engine keeps that cycle with the commit (R305): the entry of `waitingCommit` is taken in
cycle 1. -/
theorem not_requestRingsFeedTheCommitEngine : ¬ Obligations.RequestRingsFeedTheCommitEngine := by
  unfold Obligations.RequestRingsFeedTheCommitEngine
  rintro ⟨_, _, _, _, _, htake, _⟩
  obtain ⟨t, hstep, _, _, hgood, _⟩ := htake waitingCommit 0 zeroEntry waitingCommit_active rfl waitingCommit_leads
    waitingCommit_nextRing waitingCommit_ringRead waitingCommit_known waitingCommit_inPart
  obtain ⟨htaken, _⟩ := hgood (by decide) (by decide) (by decide) (by decide) waitingCommit_valid
  obtain rfl : waitingCommit.commitTake false = t := Host.Outcome.next.inj (exec_commitTake_waitingCommit.symm.trans hstep)
  have hcycle := waitingCommit_commitTake_fc
  rw [htaken] at hcycle
  exact absurd hcycle (by decide)

end

section
/-! SUPPORT. A received checkpoint that waits behind a checkpoint write of software's (12_journal_and_mirror_pair R324,
R341). -/

namespace Sys2Proof.Machine

section
variable {s : State} {src len seq : Nat}

/-- A checkpoint write that fails is over, and CP_FAULT is all it leaves (R324). -/
theorem State.cpDone_failed (hbusy : s.journal.cpBusy.isSome = true) :
    s.cpDone false =
      (({ s with journal := { s.journal with cpBusy := none } } : State).statusBit pJOURNAL 6).eventOpen pJOURNAL Ev.CP_FAULT := by
  obtain ⟨c, hc⟩ := Option.isSome_iff_exists.1 hbusy
  simp [State.cpDone, hc]

/-- An event of the block's own leaves the journal engine as it was. -/
theorem State.eventOpen_journal (s : State) (page code : Nat) : (s.eventOpen page code).journal = s.journal := by
  obtain ⟨_, _, h⟩ := s.eventOpen_eq page code
  rw [h]

/-- After a failed checkpoint write of software's the received checkpoint that waits for it is being written (R341). -/
theorem State.cpFinish_failed_begins_next (hbusy : s.journal.cpBusy.isSome = true) (hown : s.journal.cpOwn = false)
    (hnext : s.journal.cpNext = some (src, len, seq)) :
    ∃ k, (s.cpFinish false).journal.cpBusy = some (k, src, len, seq) := by
  have hjournal : (s.cpDone false).journal = { s.journal with cpBusy := none } := by
    rw [State.cpDone_failed hbusy, State.eventOpen_journal]
    rfl
  refine ⟨State.cpSlot { s.cpDone false with journal := { (s.cpDone false).journal with cpNext := none } }, ?_⟩
  simp [State.cpFinish, hown, hjournal, hnext, State.cpBegin]

end

/-- A device in RESYNC that is writing software's checkpoint 7 to slot 0 when software loads the partner's checkpoint 9:
LOADED has left that one to be written next. -/
def loadedDuringGo : State :=
  { ({ State.reset with mainUp := true } : State).w pMIRROR MIRROR.ROLE 3 with
    journal := { State.reset.journal with cpBusy := some (0, 0x40, 64, 7), cpNext := some (0x1000, 128, 9) } }

theorem exec_cpDone_loadedDuringGo (ok : Bool) : exec (.cpDone ok) loadedDuringGo = .next (loadedDuringGo.cpFinish ok) := rfl

end Sys2Proof.Machine

open Sys2Proof Sys2Proof.Machine

/-- Refutes O59: its clause on the end of a checkpoint write has no checkpoint being written afterwards, but a received one
that software loaded meanwhile is written next (R341): on `loadedDuringGo` checkpoint 9 begins as the write of 7 fails. -/
theorem not_theJournalAppendsFlushesCheckpointsAndReplays :
    ¬ Obligations.TheJournalAppendsFlushesCheckpointsAndReplays := by
  unfold Obligations.TheJournalAppendsFlushesCheckpointsAndReplays
  rintro ⟨_, _, _, _, _, _, _, _, hdone, _⟩
  obtain ⟨hfailed, _⟩ := hdone loadedDuringGo 0 0x40 64 7 rfl rfl rfl (by decide) (by decide)
  have hstate := Host.Outcome.next.inj ((exec_cpDone_loadedDuringGo false).symm.trans hfailed)
  have hidle : (loadedDuringGo.cpFinish false).journal.cpBusy = none := by
    rw [hstate, State.eventOpen_journal]
    rfl
  obtain ⟨k, hwriting⟩ := State.cpFinish_failed_begins_next (s := loadedDuringGo) rfl rfl rfl
  rw [hidle] at hwriting
  cases hwriting

end

section
/-! SUPPORT. HEARTBEAT_OUT when the device hands over (12_journal_and_mirror_pair R330 to R332). -/

namespace Sys2Proof.Machine

/-- HANDOVER on an ACTIVE device with its STANDBY partner on the link and no role change scheduled (R330). -/
theorem exec_handover_of_admits {s : State} {wr : Code} (ha : Admits s 0 pMIRROR 0x108 4 wr)
    (hsched : s.b pMIRROR MIRROR.ROLE_SCHEDULED = false) (hmay : s.mayHandOver = true) (hup : s.pairUp = true) :
    exec (.handover 0x41555402 wr) s = .next s.handOver := by
  have hwrite : s.writeAt 0 pMIRROR 0x108 4 (0x41555402 : BitVec 32).toNat wr =
      (s.authorityWrite (wr32 0 pMIRROR 0x108 0x41555402 wr)).1 :=
    State.writeAt32_kind (k := .kMIRROR) (n := 0) rfl ha rfl (by decide) rfl (by decide) (by decide) (by decide) (by decide)
      (by decide)
  have hop : s.handoverOp = some (·.handOver) := by simp [State.handoverOp, hmay, hup]
  refine congrArg Host.Outcome.next (hwrite.trans ?_)
  simp [State.authorityWrite, hsched, hop, done]

/-- An ACTIVE device with authority and head 0 enabled, its STANDBY partner on the link, HEARTBEAT_OUT in toggle mode and high
after the last heartbeat sent. -/
def heartbeatHigh : State :=
  { ((((((({ State.reset with mainUp := true } : State).w pMIRROR CTRL_ENABLE 1).w pMIRROR MIRROR.CFG_PAIRED 1).w pMIRROR
      MIRROR.ROLE 0).w pMIRROR MIRROR.STATUS_AUTHORITY 1).w pMIRROR MIRROR.STATUS_LINK_UP 1).w pMIRROR
      MIRROR.PARTNER_ROLE 1).w (pgHEAD 0) CTRL_ENABLE 1 with
    mirror := { State.reset.mirror with trained := true, helloIn := true, hbOut := true } }

theorem heartbeatHigh_admits : Admits heartbeatHigh 0 pMIRROR 0x108 4 0x01 := by unfold Admits; decide +kernel

theorem heartbeatHigh_unscheduled : heartbeatHigh.r pMIRROR MIRROR.ROLE_SCHEDULED = 0 := by decide +kernel

theorem heartbeatHigh_mayHandOver : heartbeatHigh.mayHandOver = true := by decide +kernel

theorem heartbeatHigh_pairUp : heartbeatHigh.pairUp = true := by decide +kernel

theorem heartbeatHigh_bellwether : heartbeatHigh.bellwether.isSome = true := by decide +kernel

/-- Without authority HEARTBEAT_OUT is held low in toggle mode (R332). -/
theorem heartbeatHigh_handOver_hbOut : heartbeatHigh.handOver.mirror.hbOut = false := by decide +kernel

theorem exec_handover_heartbeatHigh : exec (.handover 0x41555402 0x01) heartbeatHigh = .next heartbeatHigh.handOver :=
  exec_handover_of_admits heartbeatHigh_admits (by simp [State.b, heartbeatHigh_unscheduled]) heartbeatHigh_mayHandOver
    heartbeatHigh_pairUp

end Sys2Proof.Machine

open Sys2Proof Sys2Proof.Machine

/-- Refutes O60: its clause on HANDOVER has HEARTBEAT_OUT stay as it stood, but in toggle mode it is held low without
authority (R332): on `heartbeatHigh` it falls as authority is given up. -/
theorem not_theMirrorPairClaimsHandsOverAndResyncs : ¬ Obligations.TheMirrorPairClaimsHandsOverAndResyncs := by
  unfold Obligations.TheMirrorPairClaimsHandsOverAndResyncs
  rintro ⟨_, hauthority, _⟩
  obtain ⟨_, _, hops⟩ := hauthority heartbeatHigh 0x41555402 0x01 heartbeatHigh_admits
  obtain ⟨_, _, _, hhandover⟩ := hops heartbeatHigh_unscheduled
  obtain ⟨t, hstep, _, _, hmirror, _⟩ :=
    hhandover rfl heartbeatHigh_mayHandOver heartbeatHigh_pairUp heartbeatHigh_bellwether rfl
  obtain rfl : heartbeatHigh.handOver = t := Host.Outcome.next.inj (exec_handover_heartbeatHigh.symm.trans hstep)
  have hkept : heartbeatHigh.handOver.mirror.hbOut = true := congrArg Mirror.hbOut hmirror
  rw [heartbeatHigh_handOver_hbOut] at hkept
  exact absurd hkept (by decide)

end
